-- ==== Sys2Proof/Word.lean ====
section
/-! DEFINITION.
The word types of the block and their plainest arithmetic: 32-bit register words, 16-bit
addresses, 64-bit audio RAM words (R18, R104). -/

namespace Sys2Proof

/-- A 32-bit register or mailbox word. -/
abbrev Word := BitVec 32
/-- One byte. -/
abbrev Byte := BitVec 8
/-- A 16-bit quantity: an SPI address, an event code, a snapshot mask. -/
abbrev U16 := BitVec 16
/-- A 64-bit quantity: an audio RAM word, a stream identifier. -/
abbrev U64 := BitVec 64

/-- A natural number as a 32-bit word, reduced modulo 2^32. -/
abbrev w32 (n : Nat) : Word := BitVec.ofNat 32 n

/-- A whole number as a 32-bit two's complement word. -/
abbrev i32 (n : Int) : Word := BitVec.ofInt 32 n

end Sys2Proof
end

