-- ==== Sys2Proof/Syntax.lean ====
section
/-! DEFINITION.
The commands of the block: one constructor of `Instr` per row of the opcode table, with the
row's operands, and the types of those operands. Where a row is an event at a pin, on a bus or
at a timer, its operands are what the endpoint observes there. An Ouvoso command row is the
service of one request of that opcode from one source (R133, R138). -/

namespace Sys2Proof

/-! ### Operands shared by the rows -/

/-- Where a command comes from (Table 5.5): the two mailboxes of the host, the diagnostic
tester, the remote controller. -/
inductive Source where | mb0 | mb1 | tester | remote
  deriving DecidableEq, Repr

/-- An Ouvoso request without its opcode (Table 5.2): the header fields and the payload words. -/
structure Request where
  tag : Byte
  persist : Bool
  length : Nat
  payload : List Word
  deriving DecidableEq, Repr

/-- A request with its opcode, waiting for a service pass (R133). -/
structure Queued where
  opcode : Nat
  request : Request
  deriving DecidableEq, Repr

/-- The debug beat a host access requests (R113): a read, or a write of a 64-bit word. -/
inductive DbgBeat where
  | read (word : U16)
  | write (word : U16) (data : U64)
  deriving DecidableEq, Repr

/-! ### Operands of power, reset and Proof (chapter 3) -/

/-- The rails with a power-on reset threshold (Table 3.1). -/
inductive Rail where | vdd33 | vddc | vdda
  deriving DecidableEq, Repr

/-- What the ten Proof steps measure (Table 3.4). Rails in mV, the core PLL error against the
ring oscillator in hundredths of a percent, temperatures in 0.5 °C units, the duration in
0.5 ms units. (DESIGN CHOICE, log 29) -/
structure ProofReadings where
  vdd33 : Nat
  vddc : Nat
  vdda : Nat
  vddioE : Nat
  pllError : Int
  romCrcOk : Bool
  /-- The failing word of the march test of Hearth RAM, `none` if it passes. -/
  hearthRamFail : Option Nat
  audioRamFail : Option Nat
  regFileOk : Bool
  flashOk : Bool
  dcoOk : Bool
  adcRefOk : Bool
  dieA : Int
  dieB : Int
  /-- Bit k: the pad of AMP_MUTE_Nk reads high. -/
  mutePads : BitVec 4
  time : Nat
  deriving DecidableEq, Repr

/-- One supervisor sample (R80): VBAT in 10 mV at the battery, rails in mV, die temperatures
in 0.25 °C units, AMON in mV at the pin. (DESIGN CHOICE, log 29) -/
structure SupplySample where
  vbat : Nat
  vdd33 : Nat
  vddc : Nat
  vddioE : Nat
  vdda : Nat
  dieA : Int
  dieB : Int
  amon : Nat
  deriving DecidableEq, Repr

/-- What an erase of the flash acts on (R83). -/
inductive EraseTarget where | bankA | bankB | slotA | slotB
  deriving DecidableEq, Repr

/-- A wake event (Table 3.3). -/
inductive WakeEvent where | quietExit | crx | pin
  deriving DecidableEq, Repr

/-! ### Operands of the host interface and the arbiter (chapters 1 and 4) -/

/-- A SECDED event met while the granted burst runs (R36). -/
inductive EccEvent where
  | single (word : U16)
  | double (word : U16)
  deriving DecidableEq, Repr

/-- A burst requested since the last decision: its requester, its beats, and how many cc before the
decision the request was made (Case 1.1). -/
structure ArbRequest where
  requester : Fin 8
  beats : Nat
  ago : Nat
  deriving DecidableEq, Repr

/-- What the arbiter sees in the decision cc (R21–R25): bursts newly requested, the fill of the emptier
TDM FIFO in samples; and of the beats of the granted burst the words they write, in order, and the
SECDED events they meet, one list for each cc (R36, Table 4.11). -/
structure ArbInput where
  requests : List ArbRequest
  tdmFill : Nat
  writes : List (U16 × U64)
  ecc : List (List EccEvent)
  deriving DecidableEq, Repr

/-! ### Operands of Keystone (chapter 6) -/

/-- What Keystone observes at a tick: bit n of `present` where entry n's signal is seen, and the
offset in ps each entry shows against local media time, CLK_OFFSET included (R172). -/
structure KsTickInput where
  present : BitVec 7
  offsets : List Int
  deriving DecidableEq, Repr

/-! ### Operands of the Ethernet ports (chapter 7) -/

/-- A frame as the receiver of a port sees it at its end (Table 7.2). `etherType` is read past
any 0x8100 tag and `vid` is the tag's; `macOpcode` and `quanta` are those of a MAC control frame; `head`
is its first bytes, at most 128; `cells` are the receive cells the packet buffer gave it; `departed`: the
port departed from UP while it was being received (R195). -/
structure RxFrame where
  dest : BitVec 48
  source : BitVec 48
  etherType : U16
  vid : Option (BitVec 12)
  length : Nat
  complete : Bool
  departed : Bool
  fcsOk : Bool
  rxEr : Bool
  lengthAgrees : Bool
  macOpcode : Nat
  quanta : Nat
  fifoOverflow : Bool
  cells : List Nat
  head : List Byte
  deriving DecidableEq, Repr

/-- The four transmit queues, highest first (R186). -/
inductive TxQueue where | control | classA | classB | bestEffort
  deriving DecidableEq, Repr

/-- The peer-delay messages an instance sends (Table 8.1), with their sequenceId and, in units of 2^-16 ns,
the receipt time of the request or the origin time of the response. -/
inductive GptpSent where
  | pdelayReq (seq : U16)
  | pdelayResp (seq : U16) (receipt : Int)
  | pdelayRespFollowUp (seq : U16) (origin : Int)
  deriving DecidableEq, Repr

/-- An AAF frame as a talker sends it (Table 8.2): its header fields and its samples as they travel. -/
structure AafSent where
  streamId : U64
  vid : Nat
  pcp : Nat
  mr : Bool
  tu : Bool
  seq : Byte
  format : Nat
  nsr : Nat
  channels : Nat
  bitDepth : Nat
  timestamp : Word
  data : List Byte
  deriving DecidableEq, Repr

/-- What a transmitted frame carries past its EtherType: a remote answer with its FLAGS, SEQ, response
header and payload (Table 7.4), a Lintel beacon, an AAF frame, an 802.1AS message, or anything else. -/
inductive TxBody where
  | other
  | remote (flags : Byte) (seq : U16) (response : List Byte)
  | beacon (payload : List Byte)
  | aaf (frame : AafSent)
  | gptp (message : GptpSent)
  deriving DecidableEq, Repr

/-- A frame for a transmit queue: its bytes on the wire from destination to FCS, the talker
stream it belongs to, if any, its destination address, its EtherType and what it carries. -/
structure TxFrame where
  queue : TxQueue
  length : Nat
  talker : Option (Fin 8)
  dest : BitVec 48
  etherType : U16
  body : TxBody
  deriving DecidableEq, Repr

/-- What a poll of a PHY reads (R192): its status and control registers, and its auto-negotiation
registers. -/
structure PhyReading where
  reg1 : U16
  reg0 : U16
  reg4 : U16
  reg5 : U16
  reg9 : U16
  reg10 : U16
  deriving DecidableEq, Repr

/-- The PHY scripts (R193). -/
inductive PhyScript where | start | to100 | to1000
  deriving DecidableEq, Repr

/-- A remote-controller frame past its EtherType (Table 7.4). -/
structure RemoteFrame where
  source : BitVec 48
  version : Byte
  flags : Byte
  seq : U16
  opcode : Nat
  request : Request
  deriving DecidableEq, Repr

/-! ### Operands of streams and gPTP (chapter 8) -/

/-- What a Sync or a Follow_Up tells of the grandmaster: the origin time with its correction, in units of
2^-16 ns, and cumulativeScaledRateOffset, the rate ratio less 1 in units of 2^-41. -/
structure SyncInfo where
  origin : Int
  scaledRate : Int
  deriving DecidableEq, Repr

/-- An 802.1AS message as the port's instance receives it (R207–R209), with what it tells. Times are in
units of 2^-16 ns. -/
inductive GptpMessage where
  /-- An Announce: its grandmasterIdentity and stepsRemoved. -/
  | announce (grandmaster : U64) (steps : Nat)
  /-- A Sync and its logSyncInterval; a one-step Sync carries what a Follow_Up would. -/
  | sync (logInterval : Int) (oneStep : Option SyncInfo)
  | followUp (info : SyncInfo)
  | pdelayReq (seq : U16)
  /-- The answer to a Pdelay_Req: its sequenceId and the time the peer received the request. -/
  | pdelayResp (seq : U16) (receipt : Int)
  /-- Its follow-up: the time the peer sent that answer. -/
  | pdelayRespFollowUp (seq : U16) (origin : Int)
  /-- A message interval request TLV: linkDelayInterval and timeSyncInterval. -/
  | signaling (linkDelay timeSync : Int)
  deriving DecidableEq, Repr

/-- A received AAF frame (Table 8.2), `data` its samples as they travel, sample instant by sample instant. -/
structure AafFrame where
  port : Fin 3
  streamId : U64
  version : Nat
  mr : Bool
  tv : Bool
  tu : Bool
  seq : Byte
  format : Nat
  nsr : Nat
  channels : Nat
  bitDepth : Nat
  dataLength : Nat
  sp : Bool
  timestamp : Word
  data : List Byte
  deriving DecidableEq, Repr

/-- A received CRF frame (R211). `baseHz` is its base frequency, `tu` timestamp-uncertain. -/
structure CrfFrame where
  port : Fin 3
  streamId : U64
  type : Nat
  pull : Nat
  baseHz : Nat
  interval : Nat
  stamps : List Nat
  tu : Bool
  deriving DecidableEq, Repr

/-! ### Operands of TDM and measurement (chapters 10 and 11) -/

/-- Why a DC-resistance test is aborted (R298). -/
inductive DcAbort where | notQuiet | muted | fault | supply
  deriving DecidableEq, Repr

/-- How an I2C transfer ended (R302, R304): acknowledged with the bytes read, not acknowledged,
or on a bus whose SDA stayed low. -/
inductive I2cResult where
  | ack (bytes : List Byte)
  | nack
  | stuck
  deriving DecidableEq, Repr

/-- Whose foldback target is held: an amplifier's or the die's (R299). -/
inductive FoldOwner where
  | amp (index : Fin 4)
  | die
  deriving DecidableEq, Repr

/-! ### Operands of CAN and the tester (chapter 12) -/

/-- A frame on the CAN bus. A base identifier is in the low 11 bits. -/
structure CanFrame where
  id : BitVec 29
  ide : Bool
  fd : Bool
  brs : Bool
  esi : Bool
  remote : Bool
  data : List Byte
  deriving DecidableEq, Repr

/-- The errors of CAN_ERR.LAST_ERROR. -/
inductive CanError where | stuff | form | ack | bit1 | bit0 | crc
  deriving DecidableEq, Repr

/-- How a transmission attempt ended (R321, R326): `exempt` where ISO 11898-1 leaves TEC as it is,
an ACK error in ERROR_PASSIVE with no dominant bit during the passive flag among them. -/
inductive TxOutcome where
  | success (delay : Option Nat)
  | lost
  | failed (error : CanError) (exempt : Bool)
  deriving DecidableEq, Repr

/-! ### Operands of the self-tests (chapter 15) -/

/-- What the field self-tests measure (Table 15.5): the tests of the boot ROM, the images and the
ADC reference, and die temperatures in 0.25 °C units. (DESIGN CHOICE, log 29) -/
structure SelfTestReadings where
  romOk : Bool
  runningOk : Bool
  otherOk : Bool
  adcRefOk : Bool
  dieA : Int
  dieB : Int
  deriving DecidableEq, Repr

/-- The commands of the block, one per row of the opcode table, in its order. (DESIGN CHOICE, log 134) -/
inductive Instr where
  /-- POWER_ON_RESET (R67). A rail (VDD33, VDDC or VDDA) falls below its falling threshold, asserting the power-
      on reset at once. -/
  | powerOnReset (rail : Rail)
  /-- POWER_ON_RESET_RELEASE (R67). The power-on reset is released 1 ms after power-good, if all rails stayed above
      their falling thresholds. -/
  | powerOnResetRelease (railsHeld : Bool)
  /-- RST_N_ASSERT (R68). RST_N is held low for at least 1 µs and the device enters reset (OFF). -/
  | rstNAssert (lowNs : Nat)
  /-- RST_N_RELEASE (R69). RST_N rises and PROOF begins 100 µs later. -/
  | rstNRelease
  /-- CORE_PLL_LOCK_LOSS (R37). The core PLL loses lock; the endpoint is held in reset until lock returns, then
      restarts at PROOF. -/
  | corePllLockLoss
  /-- HEARTH_WATCHDOG_EXPIRY (R68). Hearth firmware fails to service its watchdog within 200 ms, causing a reset. -/
  | hearthWatchdogExpiry
  /-- SOFTWARE_RESET (R90). A requested software reset takes effect after its delay and leads to PROOF. -/
  | softwareReset
  /-- PROOF_START (R71). Proof begins and runs its self-test steps in order. -/
  | proofStart
  /-- PROOF_COMPLETE (R71). Proof ends: if every step passed, the device enters BOOT; otherwise it enters
      PROOF_HOLD. -/
  | proofComplete (readings : ProofReadings)
  /-- BOOT_START (R75). The boot ROM selects an image slot and starts it, marking a trial slot as attempted. -/
  | bootStart
  /-- BOOT_COMPLETE (R76). Ouvoso reports itself running: the device enters ACTIVE, BOOTED is set and START
      scripts are requested. -/
  | bootComplete
  /-- SUPERVISOR_SAMPLE (R80). The supervisor samples VBAT, the rails and the die sensors and evaluates its two-
      sample conditions. -/
  | supervisorSample (sample : SupplySample)
  /-- SUPPLY_MUTE_RAMP_END (R84). The supply soft-mute ramp ends and every amplifier mute line in use is driven low. -/
  | supplyMuteRampEnd
  /-- SUPPLY_MUTE_EXIT (R84). VDD33 has stayed at or above 3.05 V for 10 ms: supply mute is left and outputs are
      restored per AUTO_UNMUTE. -/
  | supplyMuteExit
  /-- VDDIO_E_FAULT_ENTER (R80). VDDIO_E has stayed outside its window for 1 ms: every Ethernet port is forced DOWN. -/
  | vddioEFaultEnter
  /-- VDDIO_E_FAULT_EXIT (R80). VDDIO_E has been back inside its window for 10 ms and the fault is left. -/
  | vddioEFaultExit
  /-- VBAT_OPEN_ENTER (R80). VBAT has read below 1.00 V for 1 s and the VBAT open condition holds NV-write
      inhibit. -/
  | vbatOpenEnter
  /-- VBAT_OPEN_EXIT (R80). VBAT has read at or above 1.30 V for 1 s and the VBAT open condition is left. -/
  | vbatOpenExit
  /-- JOURNAL_RECORD_PROGRAM (R81). A journal record program starts once R81 permits, writing pending records in order. -/
  | journalRecordProgram
  /-- JOURNAL_RECORD_DONE (R86). A journal record program completes with its commit word, and pending records are
      counted down. -/
  | journalRecordDone
  /-- JOURNAL_COMPACTION_DONE (R87). Compaction completes when the new bank header is programmed and that bank becomes
      live. -/
  | journalCompactionDone
  /-- FLASH_ERASE_DONE (R83). An erase of a journal bank or image slot completes. -/
  | flashEraseDone (target : EraseTarget)
  /-- QUIET_ENTRY_COMPLETE (R77). The QUIET entry steps finish: pins take sleep states, clocks stop and the response
      is posted. -/
  | quietEntryComplete
  /-- QUIET_DOORBELL_PASS (R78). A valid doorbell in QUIET restarts Hearth's clock for one service pass. -/
  | quietDoorbellPass
  /-- QUIET_WAKE (R79). A wake event returns the endpoint from QUIET to ACTIVE within 2 ms. -/
  | quietWake (event : WakeEvent)
  /-- PWR_RESET_REQ_WRITE (R90). A write to PWR_RESET_REQ with the key 0x0000_A5C3 schedules a software reset 10 µs
      later. -/
  | pwrResetReqWrite (value : Word)
  /-- MIN_RESTART (R95). A write of 1 to PWR_CTRL.MIN_RESTART restarts VBAT_MIN from the current reading. -/
  | minRestart
  /-- REGISTER_WRITE (R117). A host word write to a register with no behaviour of its own is applied under its
      access codes. -/
  | registerWrite (addr : U16) (value : Word) (hearth : Option Word)
  /-- SPI_TRANSACTION_START (R100). HCS_N falls: the SPI mode is taken and the status byte is captured and shifted out. -/
  | spiTransactionStart (hsckHigh : Bool)
  /-- SPI_NOP (R99). The NOP opcode returns only the status byte. -/
  | spiNop
  /-- SPI_WRITE_WORD (R101). A WRITE data word is applied to its address 4 cc after its 32nd bit, and the address
      then increments. -/
  | spiWriteWord (header : Option U16) (value : Word)
  /-- SPI_READ_WORD (R102). A READ data word is captured, with read side effects only if the word is shifted out
      in full. -/
  | spiReadWord (header : Option U16) (full : Bool)
  /-- SNAPSHOT (R110). The SNAPSHOT opcode copies the selected counter groups and header into the holding
      registers in one cc, optionally clearing Ethernet counters. -/
  | snapshot (mask : U16) (events : List (Fin 3 × Fin 40))
  /-- BAD_OPCODE (R99). An unlisted opcode sets BAD_OPCODE and the rest of the transaction is ignored. -/
  | badOpcode (opcode : Byte)
  /-- SPI_TRANSACTION_END (R101). HCS_N rises: an incomplete word or mask is discarded and PARTIAL is set. -/
  | spiTransactionEnd (header : Option U16) (partialWord : Bool)
  /-- OVERSPEED (R120). An HSCK phase shorter than 4 cc sets OVERSPEED and the rest of the transaction is
      ignored. -/
  | overspeed
  /-- ALIAS_WRITE (R108). A write through the bit-alias region acts on the single aliased bit according to its
      access code. -/
  | aliasWrite (addr : U16) (value : Word)
  /-- DBG_READ_REQUEST (R113). A write of SYS_DBG_ADDR with READ=1 requests a one-beat audio RAM read and sets
      BUSY. -/
  | dbgReadRequest (word : U16) (autoInc : Bool)
  /-- DBG_WRITE_COMMIT (R113). A write of SYS_DBG_DATA_HI commits a one-beat audio RAM write and sets BUSY. -/
  | dbgWriteCommit (dataHi : Word)
  /-- DBG_BEAT_DONE (R113). The debug beat completes: data is latched or written, BUSY clears and WORD auto-
      increments. -/
  | dbgBeatDone
  /-- ECC_LAST_CLEAR (R122). A write of 1 to SYS_ECC_LAST.CLEAR clears SYS_ECC and SYS_ECC_LAST. -/
  | eccLastClear
  /-- STATS_CLEAR (R125). A write of 1 to ARB_CTRL.STATS_CLEAR clears the arbiter wait maxima and counts. -/
  | statsClear
  /-- ARB_GRANT (R21). The arbiter grants the next audio RAM burst by deadline, ageing, priority and round-
      robin. -/
  | arbGrant (input : ArbInput)
  /-- REQUEST_AGED (R25). A requester that has waited 4096 cc without a grant becomes aged. -/
  | requestAged (requester : Fin 8)
  /-- MB_DOORBELL (R127). A write to the doorbell word validates key and tag and moves an IDLE mailbox to
      BUSY. -/
  | mbDoorbell (mailbox : Fin 2) (value : Word)
  /-- MB_RELEASE (R130). A full read of MBn_RELEASE releases a READY mailbox to IDLE. -/
  | mbRelease (mailbox : Fin 2) (full : Bool)
  /-- SERVICE_PASS (R133). Ouvoso starts a service pass that resolves authority, applies releases first, then
      serves commands in source order. -/
  | servicePass
  /-- EVQ_HEAD_READ (R143). A read of EVQ_HEAD latches the entry at the head of the event queue. -/
  | evqHeadRead (full : Bool)
  /-- EVQ_ARG_READ (R143). A full read of EVQ_ARG returns the latched argument and pops the entry. -/
  | evqArgRead (full : Bool)
  /-- EVQ_STATE_READ (R144). A read of EVQ_STATE returns and clears the RC fields OVF and LOST. -/
  | evqStateRead (full : Bool)
  /-- STATUS (R148). The STATUS command returns the device state, lock holder, uptime and queue depths. -/
  | status (src : Source) (req : Request)
  /-- IDENTITY (R149). The IDENTITY command returns CHIP_ID, the firmware line and version, slot, serial
      and MAC addresses. -/
  | identity (src : Source) (req : Request)
  /-- FAILURE_REPORT (R148). The FAILURE_REPORT command returns the last Proof result, pad levels, reset cause
      and supply readings. -/
  | failureReport (src : Source) (req : Request)
  /-- RESET (R148). The RESET command with its key answers OK, then causes a software reset. -/
  | reset (src : Source) (req : Request)
  /-- QUIET_ENTER (R77). The QUIET_ENTER command starts entry to QUIET, and is refused while an update
      session is open. -/
  | quietEnter (src : Source) (req : Request)
  /-- QUIET_EXIT (R79). The QUIET_EXIT command returns the endpoint to ACTIVE. -/
  | quietExit (src : Source) (req : Request)
  /-- EVENT_MASK (R145). The EVENT_MASK command sets which event groups are pushed. -/
  | eventMask (src : Source) (req : Request)
  /-- JOURNAL_STATUS (R86). The JOURNAL_STATUS command returns the live bank, generation, pending count and free
      space. -/
  | journalStatus (src : Source) (req : Request)
  /-- JOURNAL_READ (R86). The JOURNAL_READ command returns the persisted value of a journal key, or the next
      key. -/
  | journalRead (src : Source) (req : Request)
  /-- JOURNAL_COMPACT (R87). The JOURNAL_COMPACT command starts compaction and answers ACCEPTED. -/
  | journalCompact (src : Source) (req : Request)
  /-- JOURNAL_DEFAULTS (R92). The JOURNAL_DEFAULTS command erases both journal banks and discards pending records. -/
  | journalDefaults (src : Source) (req : Request)
  /-- JOURNAL_DEFAULTS_DONE (R135). The erase of both journal banks completes and OP_DONE is pushed. -/
  | journalDefaultsDone
  /-- FWU_BEGIN (R151). The FWU_BEGIN command opens an update session and starts erasing the non-running
      slot. -/
  | fwuBegin (src : Source) (req : Request)
  /-- FWU_ERASE_DONE (R135). The erase of the target slot completes and OP_DONE is pushed. -/
  | fwuEraseDone
  /-- FWU_WRITE (R152). The FWU_WRITE command programs an image block at the next expected offset. -/
  | fwuWrite (src : Source) (req : Request)
  /-- FWU_FINISH (R152). The FWU_FINISH command checks the digest and programs the slot header with TRIAL. -/
  | fwuFinish (src : Source) (req : Request)
  /-- FWU_CONFIRM (R153). The FWU_CONFIRM command sets CONFIRMED on the running trial slot. -/
  | fwuConfirm (src : Source) (req : Request)
  /-- FWU_ABORT (R150). The FWU_ABORT command ends the firmware-update session. -/
  | fwuAbort (src : Source) (req : Request)
  /-- KS_TICK (R163). At each 1 ms Keystone tick, commits are applied, entries are selected and state
      changes take place. -/
  | ksTick (input : KsTickInput)
  /-- REF_QUALIFIED (R160). An enabled reference has held its qualify condition for QUAL_TIME and becomes
      qualified. -/
  | refQualified (entry : Fin 7)
  /-- REF_LOSS (R160). A reference meets a loss condition and becomes unqualified at the next tick. -/
  | refLoss (entry : Fin 7)
  /-- BW_NARROW_STEP (R168). An ACQUIRE narrowing step multiplies the loop bandwidth, and TRACK is entered at the
      eighth step. -/
  | bwNarrowStep
  /-- TRACK_ENTRY (R168). The phase error has stayed below 100 ns for 1 s with no move running, and Keystone
      enters TRACK. -/
  | trackEntry
  /-- REACQUIRE (R178). The phase error has exceeded 1 µs for 1 s in TRACK, so Keystone re-enters ACQUIRE. -/
  | reacquire (offset : Int)
  /-- HOLDOVER_EXPIRED (R165). HOLD_LIMIT seconds in HOLDOVER elapse and Keystone enters HOLDOVER_EXPIRED. -/
  | holdoverExpired
  /-- TIME_VALID_LAPSE (R159). HOLD_LIMIT seconds after holding to a gPTP entry ended, TIME_VALID falls to 0. -/
  | timeValidLapse
  /-- MOVE_DONE (R170). The phase move remainder reaches zero and MOVE_DONE is set. -/
  | moveDone
  /-- CLK_PHASE_STEP_WRITE (R171). A write to CLK_PHASE_STEP adds a signed step to CLK_OFFSET and to the move
      remainder. -/
  | clkPhaseStepWrite (value : Word)
  /-- DCO_SEED_WRITE (R176). A write of a DCO seed half loads the seed once both halves have been written. -/
  | dcoSeedWrite (high : Bool) (value : Word)
  /-- CLK_REF_COMMIT_WRITE (R175). A write of 1 to CLK_REF_COMMIT commits the staged reference table at the next tick. -/
  | clkRefCommitWrite (value : Word)
  /-- KS_STATUS (R181). The KS_STATUS command returns the Keystone state, frequency, holdover, phase error
      and remainder. -/
  | ksStatus (src : Source) (req : Request)
  /-- KS_SET_RATE (R181). The KS_SET_RATE command sets the system sample rate and loads its family's nominal
      word. -/
  | ksSetRate (src : Source) (req : Request)
  /-- KS_SET_TABLE (R181). The KS_SET_TABLE command writes the reference table and control bits, then commits. -/
  | ksSetTable (src : Source) (req : Request)
  /-- KS_SET_LOOP (R181). The KS_SET_LOOP command writes the loop bandwidths, slope and hold limit. -/
  | ksSetLoop (src : Source) (req : Request)
  /-- KS_PHASE_STEP (R171). The KS_PHASE_STEP command adds a phase step and returns the remainder. -/
  | ksPhaseStep (src : Source) (req : Request)
  /-- KS_STEER (R169). The KS_STEER command writes CLK_DCO_ADJ and sets or clears STEER. -/
  | ksSteer (src : Source) (req : Request)
  /-- CAPTURE_LOCK (R183). RXC has been valid for 8 periods and the receive capture locks. -/
  | captureLock (port : Fin 3) (phase : BitVec 6)
  /-- CAPTURE_UNLOCK (R184). RXC is missing or off-frequency: the capture unlocks and a frame in progress becomes
      a fragment. -/
  | captureUnlock (port : Fin 3) (frameInProgress : Bool)
  /-- CAPTURE_UNLOCK_TIMEOUT (R195). A capture unlock that has lasted 1 ms is taken as a link loss. -/
  | captureUnlockTimeout (port : Fin 3)
  /-- ETH_FRAME_RECEIVE (R187). A received frame passes through the receive checks and is delivered to its consumer,
      or discarded and counted. -/
  | ethFrameReceive (port : Fin 3) (frame : RxFrame)
  /-- RX_DESCRIPTOR_RELEASE (R191). A consumer releases a receive descriptor, which is popped from the ring. -/
  | rxDescriptorRelease (port : Fin 3)
  /-- TX_SUBMIT (R31). A frame is submitted to a port's transmit ring, or refused when the ring is full. -/
  | txSubmit (port : Fin 3) (frame : TxFrame)
  /-- TX_FRAME_START (R186). A frame fully held in the transmit FIFO starts on the wire by strict priority and
      shaping. -/
  | txFrameStart (port : Fin 3)
  /-- TX_FRAME_DONE (R186). A frame has left the transmit FIFO and its descriptor is popped. -/
  | txFrameDone (port : Fin 3)
  /-- PAUSE_FRAME (R197). A received PAUSE frame stops transmission for the received quanta, if enabled. -/
  | pauseFrame (port : Fin 3) (quanta : U16)
  /-- PAUSE_EXPIRY (R197). The pause stop time elapses and transmission resumes. -/
  | pauseExpiry (port : Fin 3)
  /-- PHY_POLL (R192). Ouvoso reads PHY register 1 every 1 ms over MDIO and acts on link status. -/
  | phyPoll (port : Fin 3) (reading : PhyReading)
  /-- PHY_INTERRUPT (R192). ETH_PHY_INT_N goes low and the PHY status is read at once. -/
  | phyInterrupt (reading0 reading1 reading2 : PhyReading)
  /-- PHY_SCRIPT_RUN (R193). A START, TO_100 or TO_1000 PHY script runs its MDIO writes. -/
  | phyScriptRun (port : Fin 3) (script : PhyScript)
  /-- UTIL_WINDOW_END (R199). A 10 ms utilisation window ends and an ease down or up is decided or withheld. -/
  | utilWindowEnd
  /-- EASE_FAIL (R202). No link up within RETRAIN_EST_MS + 1 s in EASING: the port returns to TRAINING and
      EASE_EN is cleared. -/
  | easeFail (port : Fin 3)
  /-- LINK_HOLD_EXPIRY (R196). The hold time ends without a return to UP and held best-effort frames are flushed. -/
  | linkHoldExpiry (port : Fin 3)
  /-- PORT_DISABLE (R203). ENABLE is cleared: the port waits for the frame on the wire before flushing its
      queues. -/
  | portDisable (port : Fin 3)
  /-- PORT_IDLE (R203). The frame on the wire completes: queues are flushed, PORT_IDLE is set and the port
      enters DOWN. -/
  | portIdle (port : Fin 3)
  /-- ETH_MAC_HI_WRITE (R200). A write of ETHn_MAC_HI commits the staged port address. -/
  | ethMacHiWrite (port : Fin 3) (value : Word)
  /-- ETH_FILT_WRITE (R200). A write of a filter entry half excludes the entry until both halves are written. -/
  | ethFiltWrite (port : Fin 3) (high : Bool) (value : Word)
  /-- REMOTE_REQUEST (R198). A remote-controller frame is checked and queued for a service pass, or answered from
      the cache. -/
  | remoteRequest (port : Fin 3) (frame : RemoteFrame)
  /-- ETH_PORT_STATUS (R206). The ETH_PORT_STATUS command returns a port's status, PHY registers and counts. -/
  | ethPortStatus (src : Source) (req : Request)
  /-- ETH_PORT_SETUP (R206). The ETH_PORT_SETUP command configures and enables a port and its rings. -/
  | ethPortSetup (src : Source) (req : Request)
  /-- ETH_PORT_DISABLE (R203). The ETH_PORT_DISABLE command disables a port and answers once PORT_IDLE is set. -/
  | ethPortDisable (src : Source) (req : Request)
  /-- ETH_EASE_SET (R206). The ETH_EASE_SET command sets a port's rate-easing thresholds and retrain estimate. -/
  | ethEaseSet (src : Source) (req : Request)
  /-- ETH_MDIO (R206). The ETH_MDIO command reads or writes a PHY register over MDIO. -/
  | ethMdio (src : Source) (req : Request) (readBack : U16)
  /-- ETH_PHY_SCRIPT (R193). The ETH_PHY_SCRIPT command sets a port's START, TO_100 or TO_1000 script. -/
  | ethPhyScript (src : Source) (req : Request)
  /-- ETH_REMOTE_SET (R198). The ETH_REMOTE_SET command sets the remote-controller allow list. -/
  | ethRemoteSet (src : Source) (req : Request)
  /-- ETH_BAD_FRAMES (R190). The ETH_BAD_FRAMES command returns one of the stored flagged bad frames. -/
  | ethBadFrames (src : Source) (req : Request)
  /-- GPTP_MESSAGE (R207). A received 802.1AS message updates the port's instance: role, link delay and sync. -/
  | gptpMessage (port : Fin 3) (domain : Nat) (ago : Nat) (message : GptpMessage)
  /-- SYNC_RECEIPT_TIMEOUT (R208). syncReceiptTimeout expires on a port's instance, causing a reference loss. -/
  | syncReceiptTimeout (port : Fin 3)
  /-- ANNOUNCE_RECEIPT_TIMEOUT (R207). announceReceiptTimeout expires and the port's instance loses its SlavePort role. -/
  | announceReceiptTimeout (port : Fin 3)
  /-- PDELAY_REQ_SEND (R207). The peer-delay interval elapses and a Pdelay_Req is sent. -/
  | pdelayReqSend (port : Fin 3)
  /-- AAF_FRAME (R213). An accepted AAF frame is judged late, early, duplicate, overlap or accepted, and its
      samples are written to Mortar. -/
  | aafFrame (frame : AafFrame)
  /-- CRF_FRAME (R211). A CRF frame is checked and its timestamps feed Keystone slot A or B. -/
  | crfFrame (frame : CrfFrame)
  /-- LISTENER_START_PLAY (R222). Start time is reached with TIME_VALID and the first sample at the readout, so the
      listener enters PLAYING with a ramp up. -/
  | listenerStartPlay (listener : Fin 16)
  /-- LISTENER_STARVED (R215). 64 consecutive unfilled positions put a listener into STARVED. -/
  | listenerStarved (listener : Fin 16)
  /-- LISTENER_RESUME (R222). An accepted sample reaches the readout of a STARVED listener, which returns to
      PLAYING. -/
  | listenerResume (listener : Fin 16)
  /-- TALKER_START_SEND (R222). A talker's start time is reached and it enters SENDING. -/
  | talkerStartSend (talker : Fin 8)
  /-- STOP_TIME_REACHED (R223). A pending stop time is reached and the stream starts its stop ramp. -/
  | stopTimeReached (talker : Bool) (index : Fin 16)
  /-- STOP_RAMP_END (R223). The stop ramp ends: the stream returns to IDLE and its Mortar region and budgets are
      released. -/
  | stopRampEnd (talker : Bool) (index : Fin 16)
  /-- TALKER_FRAME_SEND (R220). A talker has gathered SPF samples and submits a stamped AAF frame. -/
  | talkerFrameSend (talker : Fin 8)
  /-- STREAM_FAULT (R228). 64 consecutive late, early or format-mismatch frames, or a rate out of range, push
      STREAM_FAULT. -/
  | streamFault (listener : Fin 16) (kind : Fin 3)
  /-- RATE_RECOVERED (R228). A listener's rate estimate has stayed in range for 1 s and it leaves WAITING with
      reason RATE. -/
  | rateRecovered (listener : Fin 16)
  /-- STREAM_AUTOSTART (R226). At ACTIVE, journaled streams with AUTOSTART are started as soon as TIME_VALID
      allows. -/
  | streamAutostart
  /-- LISTENER_SETUP (R225). The LISTENER_SETUP command binds a listener index to a port, stream ID and format. -/
  | listenerSetup (src : Source) (req : Request)
  /-- TALKER_SETUP (R225). The TALKER_SETUP command binds a talker index to a port, stream ID, class and
      format. -/
  | talkerSetup (src : Source) (req : Request)
  /-- STREAM_START (R224). The STREAM_START command starts a stream now or at a given time, taking budgets and
      Mortar. -/
  | streamStart (src : Source) (req : Request)
  /-- STREAM_STOP (R224). The STREAM_STOP command stops a stream now or at a given time, or cancels a pending
      start. -/
  | streamStop (src : Source) (req : Request)
  /-- STREAM_DELETE (R225). The STREAM_DELETE command frees an IDLE stream's place. -/
  | streamDelete (src : Source) (req : Request)
  /-- STREAM_STATUS (R229). The STREAM_STATUS command returns a stream's state and counters. -/
  | streamStatus (src : Source) (req : Request)
  /-- PORT_STREAM_STATUS (R229). The PORT_STREAM_STATUS command returns a port's idleSlopes and unknown-stream count. -/
  | portStreamStatus (src : Source) (req : Request)
  /-- GPTP_SET (R208). The GPTP_SET command enables a port's 802.1AS instance and sets its parameters. -/
  | gptpSet (src : Source) (req : Request)
  /-- GPTP_STATUS (R229). The GPTP_STATUS command returns a port's gPTP role, delays and grandmaster. -/
  | gptpStatus (src : Source) (req : Request)
  /-- LINTEL_BEACON (R235). A received Lintel beacon is checked and accepted for its group, role and path, or
      counted as bad. -/
  | lintelBeacon (group : Fin 8) (port : Fin 3) (payload : List Byte)
  /-- LINTEL_TICK (R236). At each tick Lintel judges path usability and decides group transitions. -/
  | lintelTick (offsets : List Int)
  /-- FADE_END (R240). A crossfade's last sample is presented and the group enters PRIMARY or STANDBY. -/
  | fadeEnd (group : Fin 8)
  /-- REVERT_HOLD_EXPIRY (R243). The primary has been usable in STANDBY for REVERT_HOLD, so the group returns under
      revertive operation. -/
  | revertHoldExpiry (group : Fin 8)
  /-- HEALTH_BLOCK_END (R247). A 1024-position health-compare block ends and the health result is updated. -/
  | healthBlockEnd (group : Fin 8) (concealed : Bool) (energies : List (Nat × Nat))
  /-- LINTEL_GROUP_SETUP (R249). The LINTEL_GROUP_SETUP command forms an output group from two IDLE listeners. -/
  | lintelGroupSetup (src : Source) (req : Request)
  /-- LINTEL_GROUP_START (R249). The LINTEL_GROUP_START command starts both listeners of a group and enters
      BOTH_LOST. -/
  | lintelGroupStart (src : Source) (req : Request)
  /-- LINTEL_GROUP_STOP (R249). The LINTEL_GROUP_STOP command ramps the group to zero and stops both listeners. -/
  | lintelGroupStop (src : Source) (req : Request)
  /-- LINTEL_GROUP_DELETE (R249). The LINTEL_GROUP_DELETE command frees a stopped group and its filter entries. -/
  | lintelGroupDelete (src : Source) (req : Request)
  /-- LINTEL_SWITCH (R243). The LINTEL_SWITCH command switches a group to a usable target path and sets or
      clears HOLD. -/
  | lintelSwitch (src : Source) (req : Request)
  /-- LINTEL_GROUP_STATUS (R255). The LINTEL_GROUP_STATUS command returns a group's state, causes and counters. -/
  | lintelGroupStatus (src : Source) (req : Request)
  /-- LINTEL_HEALTH (R247). The LINTEL_HEALTH command returns the latest health-compare results. -/
  | lintelHealth (src : Source) (req : Request)
  /-- LINTEL_TALKER_SET (R248). The LINTEL_TALKER_SET command gives a talker a beacon role on two paths. -/
  | lintelTalkerSet (src : Source) (req : Request)
  /-- TDM_COMMIT_APPLY (R260). Staged TDM configuration takes effect at the port's next frame boundary and
      COMMIT_DONE is set. -/
  | tdmCommitApply (port : Fin 4)
  /-- TDM_PORT_STOPPED (R262). After a disable, the frame in progress completes, the port's pins go low and it
      enters OFF. -/
  | tdmPortStopped (port : Fin 4)
  /-- OUT_UNDERRUN (R280). An empty output FIFO at a slot launch gives a zero slot and counts OUT_UNDERRUN. -/
  | outUnderrun (port : Fin 4)
  /-- IN_OVERRUN (R280). A full input FIFO at a slot sample discards the slot and counts IN_OVERRUN. -/
  | inOverrun (port : Fin 4)
  /-- SENSE_STALE (R265). A tagged FRAME_TAG holds one value for 48 frames: SENSE_STALE is set and SENSE_FAULT
      is pushed. -/
  | senseStale (speaker : Fin 16)
  /-- SENSE_RECOVERED (R265). A tagged FRAME_TAG advances for 48 consecutive frames and SENSE_FAULT recovered is
      pushed. -/
  | senseRecovered (speaker : Fin 16)
  /-- DELAY_CHANGE_RAMP_END (R276). The mute ramp before a delay change ends: the line is replaced and cleared, then the
      ramp up starts. -/
  | delayChangeRampEnd (destination : Fin 64)
  /-- TDM_PORT_SET (R278). The TDM_PORT_SET command stages and commits a TDM port's format and slot enables. -/
  | tdmPortSet (src : Source) (req : Request)
  /-- TDM_PORT_DISABLE (R262). The TDM_PORT_DISABLE command commits ENABLE 0 and answers once STOPPED is set. -/
  | tdmPortDisable (src : Source) (req : Request)
  /-- TDM_PORT_STATUS (R284). The TDM_PORT_STATUS command returns the configuration in effect, status and errors. -/
  | tdmPortStatus (src : Source) (req : Request)
  /-- ROUTE_SOURCE_BIND (R279). The ROUTE_SOURCE_BIND command binds a matrix source to a kind. -/
  | routeSourceBind (src : Source) (req : Request)
  /-- ROUTE_DEST_BIND (R279). The ROUTE_DEST_BIND command binds a destination and sets its delay, ramp and
      limiter. -/
  | routeDestBind (src : Source) (req : Request)
  /-- ROUTE_XP_SET (R269). The ROUTE_XP_SET command writes crosspoint gains into the staged bank. -/
  | routeXpSet (src : Source) (req : Request)
  /-- ROUTE_COMMIT (R269). The ROUTE_COMMIT command swaps the staged bank to active at the next sample
      boundary, ramping changed gains. -/
  | routeCommit (src : Source) (req : Request)
  /-- ROUTE_DEST_GAIN (R273). The ROUTE_DEST_GAIN command sets a destination gain, which is reached over RAMP_LEN
      samples. -/
  | routeDestGain (src : Source) (req : Request)
  /-- ROUTE_MUTE (R274). The ROUTE_MUTE command sets or clears the commanded mute of destinations at the next
      sample boundary. -/
  | routeMute (src : Source) (req : Request)
  /-- ROUTE_TONE_SET (R277). The ROUTE_TONE_SET command sets a tone generator's level and frequency. -/
  | routeToneSet (src : Source) (req : Request)
  /-- ROUTE_PARTITION (R275). The ROUTE_PARTITION command reserves the top P Mortar granules for delay lines. -/
  | routePartition (src : Source) (req : Request)
  /-- ROUTE_SENSE_BIND (R263). The ROUTE_SENSE_BIND command binds a speaker's voltage and current sense slots. -/
  | routeSenseBind (src : Source) (req : Request)
  /-- ROUTE_STATUS (R284). The ROUTE_STATUS command returns a destination's mute, gain, limiter and foldback
      state. -/
  | routeStatus (src : Source) (req : Request)
  /-- MEAS_SLOT_END (R292). A pilot slot ends with an impedance result or a rejection, which is tested against
      the in-play thresholds. -/
  | measSlotEnd (speaker : Fin 16)
  /-- FOLDBACK_EVAL (R299). Every 10 ms, the amplifier and die foldback targets are computed and applied. -/
  | foldbackEval
  /-- FOLDBACK_LIMIT (R299). A target held at −24 dB for 10 s qualifies the foldback-limit DTC, which clears
      after 10 s above the limit. -/
  | foldbackLimit (owner : FoldOwner)
  /-- DC_TEST_SPEAKER_START (R296). A speaker's destination has been quiet for 500 ms at unity mute gain and its DC test
      sequence starts. -/
  | dcTestSpeakerStart (speaker : Fin 16)
  /-- DC_TEST_NOT_QUIET (R296). A speaker has not become quiet within 10 s, so it is recorded NOT_QUIET and the next
      speaker is taken. -/
  | dcTestNotQuiet (speaker : Fin 16)
  /-- DC_TEST_SPEAKER_DONE (R298). A DC test completes, computes R_dc and qualifies or clears the DC tests. -/
  | dcTestSpeakerDone (speaker : Fin 16)
  /-- DC_TEST_ABORT (R298). A DC test is aborted by noise, mute, fault or supply and ramps its level to zero. -/
  | dcTestAbort (speaker : Fin 16) (cause : DcAbort)
  /-- BASELINE_LEARN_DONE (R295). 16 accepted measurements complete a baseline learn and OP_DONE is pushed. -/
  | baselineLearnDone (speaker : Fin 16)
  /-- BASELINE_LEARN_TIMEOUT (R295). A baseline learn has not gathered 16 measurements in 10 s and ends refused. -/
  | baselineLearnTimeout (speaker : Fin 16)
  /-- AMP_FAULT_ASSERT (R300). AMP_FAULT_Nk goes low after debounce: the mute line is driven low, scripts are
      aborted and the fault DTC is qualified. -/
  | ampFaultAssert (amp : Fin 4)
  /-- FAULT_HOLD_EXPIRY (R300). The fault line has been high for FAULT_HOLD and the amplifier's FAULT script runs,
      or the demand ends. -/
  | faultHoldExpiry (amp : Fin 4)
  /-- AMP_SCRIPT_DONE (R304). An amplifier script completes or fails, updating the mute line and the script DTC. -/
  | ampScriptDone (amp : Fin 4)
  /-- I2C_RETRY (R304). 1 ms after a NACK or stretch timeout, a script step is retried. -/
  | i2cRetry (bus : Fin 2)
  /-- I2C_STRETCH_TIMEOUT (R302). Clock stretching exceeds 10 ms and the transfer fails. -/
  | i2cStretchTimeout (bus : Fin 2)
  /-- MUTE_LINE_CHECK (R65). Every 1 ms Hearth compares mute-line readback with the driven level and reports a
      mismatch. -/
  | muteLineCheck
  /-- DIE_SENSOR_DISAGREE (R306). Die sensors have differed by more than 8 °C for 1 s, qualifying the sensor DTC. -/
  | dieSensorDisagree
  /-- AMON_OUT_OF_RANGE (R307). AMON has read outside its limits for 100 ms, qualifying the AMON DTC. -/
  | amonOutOfRange
  /-- AMON_BACK_IN_RANGE (R307). AMON has been back inside its limits for 1 s, clearing the AMON DTC. -/
  | amonBackInRange
  /-- DTC_STORE_WRITE (R310). A DTC status change is programmed into the DTC store once R81 permits. -/
  | dtcStoreWrite
  /-- MEAS_SPEAKER_SET (R313). The MEAS_SPEAKER_SET command enables and configures a speaker's measurement. -/
  | measSpeakerSet (src : Source) (req : Request)
  /-- MEAS_CONFIG (R313). The MEAS_CONFIG command sets the pilot, foldback, fault and monitor parameters. -/
  | measConfig (src : Source) (req : Request)
  /-- MEAS_RESULT (R313). The MEAS_RESULT command returns a speaker's latest results and baselines. -/
  | measResult (src : Source) (req : Request)
  /-- MEAS_BASELINE (R295). The MEAS_BASELINE command learns, writes, takes or invalidates a speaker baseline. -/
  | measBaseline (src : Source) (req : Request)
  /-- MEAS_DC_TEST (R296). The MEAS_DC_TEST command starts DC-resistance tests of the named speakers. -/
  | measDcTest (src : Source) (req : Request)
  /-- MEAS_MONITORS (R313). The MEAS_MONITORS command returns die temperatures, AMON, amplifier states and
      targets. -/
  | measMonitors (src : Source) (req : Request)
  /-- MEAS_DTC_READ (R313). The MEAS_DTC_READ command returns one DTC store record. -/
  | measDtcRead (src : Source) (req : Request)
  /-- MEAS_DTC_CLEAR (R313). The MEAS_DTC_CLEAR command clears one DTC or all DTCs. -/
  | measDtcClear (src : Source) (req : Request)
  /-- AMP_SCRIPT_SET (R304). The AMP_SCRIPT_SET command sets or deletes an amplifier script. -/
  | ampScriptSet (src : Source) (req : Request)
  /-- AMP_SCRIPT_RUN (R304). The AMP_SCRIPT_RUN command runs an amplifier script and answers ACCEPTED. -/
  | ampScriptRun (src : Source) (req : Request)
  /-- AMP_LINE (R301). The AMP_LINE command sets the commanded mute, AUTO_RELEASE or latch clear of
      amplifiers. -/
  | ampLine (src : Source) (req : Request)
  /-- AMP_I2C (R302). The AMP_I2C command performs one I2C transfer on a bus. -/
  | ampI2c (src : Source) (req : Request)
  /-- CAN_FRAME_RECEIVE (R319). A received CAN frame is acknowledged and delivered to the lowest matching receive
      object. -/
  | canFrameReceive (frame : CanFrame)
  /-- CAN_TX_START (R320). The top-priority pending message is offered at the next start of frame. -/
  | canTxStart
  /-- CAN_TX_COMPLETE (R321). A transmission attempt ends in success, arbitration loss or error, updating requests
      and error counters. -/
  | canTxComplete (outcome : TxOutcome)
  /-- CAN_ALONE_DETECT (R327). 64 consecutive ACK errors set ALONE and push CAN_ALONE. -/
  | canAloneDetect
  /-- CAN_RECOVERY_COMPLETE (R325). 128 occurrences of 11 recessive bits end BUS_OFF with TEC and REC at 0. -/
  | canRecoveryComplete
  /-- CAN_INIT_ENTER (R328). INIT written 1 takes effect at the end of the frame in progress and INIT_ACK is set. -/
  | canInitEnter
  /-- CAN_INIT_EXIT (R329). INIT written 0 applies the staged timing and joins the bus after 11 recessive bits. -/
  | canInitExit
  /-- CAN_RECOVER (R325). A write of 1 to CAN_CTRL.RECOVER starts bus-off recovery. -/
  | canRecover
  /-- CAN_TX_REQ (R320). A write to CAN_TX_REQ requests transmission of host objects. -/
  | canTxReq (value : Word)
  /-- CAN_TX_ABORT (R321). A write to CAN_TX_ABORT aborts the requests of host objects. -/
  | canTxAbort (value : Word)
  /-- CRX_WAKE (R329). A dominant level on CRX for at least 5 µs in QUIET is a wake event. -/
  | crxWake
  /-- ISOTP_MESSAGE_COMPLETE (R330). An ISO 15765-2 tester request completes its transport and is handed to a service
      pass. -/
  | isotpMessageComplete
  /-- ISOTP_TIMEOUT (R330). An ISO 15765-2 timeout of 1000 ms expires and the transfer is abandoned. -/
  | isotpTimeout
  /-- RESPONSE_PENDING (R332). A response not sent within P2server, or 4000 ms after the last 0x78, is preceded by
      NRC 0x78. -/
  | responsePending
  /-- S3_TIMEOUT (R332). S3server expires: the session returns to default, security locks and the control
      lock is given back. -/
  | s3Timeout
  /-- SECURITY_DELAY_END (R333). The 10 s delay after three wrong keys ends. -/
  | securityDelayEnd
  /-- DIAGNOSTIC_SESSION_CONTROL (R332). UDS DiagnosticSessionControl changes the diagnostic session. -/
  | diagnosticSessionControl (sub : Byte)
  /-- ECU_RESET (R332). UDS ECUReset answers positively and then causes a software reset. -/
  | ecuReset (sub : Byte)
  /-- CLEAR_DIAGNOSTIC_INFORMATION (R335). UDS ClearDiagnosticInformation clears DTCs as MEAS_DTC_CLEAR. -/
  | clearDiagnosticInformation (group : BitVec 24)
  /-- REPORT_NUMBER_OF_DTC_BY_STATUS_MASK (R335). ReadDTCInformation 0x01 returns the count of DTCs matching a status mask. -/
  | reportNumberOfDtcByStatusMask (mask : Byte)
  /-- REPORT_DTC_BY_STATUS_MASK (R335). ReadDTCInformation 0x02 returns the DTCs matching a status mask. -/
  | reportDtcByStatusMask (mask : Byte)
  /-- REPORT_DTC_EXT_DATA_RECORD (R335). ReadDTCInformation 0x06 returns the occurrence and aging records of a DTC. -/
  | reportDtcExtDataRecord (dtc : BitVec 24) (record : Byte)
  /-- REPORT_SUPPORTED_DTC (R335). ReadDTCInformation 0x0A returns every supported DTC with its status. -/
  | reportSupportedDtc
  /-- READ_DATA_BY_IDENTIFIER (R334). UDS ReadDataByIdentifier returns the listed data identifiers. -/
  | readDataByIdentifier (ids : List U16)
  /-- REQUEST_SEED (R333). SecurityAccess requestSeed returns a fresh seed, or zero with no secret set. -/
  | requestSeed
  /-- SEND_KEY (R333). SecurityAccess sendKey checks the CRC-32 key and unlocks or counts a failure. -/
  | sendKey (key : Word)
  /-- START_ROUTINE (R337). RoutineControl startRoutine starts the routine of a RID, such as an Ouvoso command
      or the control lock. -/
  | startRoutine (rid : U16) (record : List Byte)
  /-- STOP_ROUTINE (R337). RoutineControl stopRoutine stops a routine, such as giving back the lock or aborting
      an update. -/
  | stopRoutine (rid : U16)
  /-- REQUEST_ROUTINE_RESULTS (R337). RoutineControl requestRoutineResults returns a routine's results. -/
  | requestRoutineResults (rid : U16) (record : List Byte)
  /-- REQUEST_DOWNLOAD (R338). UDS RequestDownload opens the image transfer after the update is prepared. -/
  | requestDownload (format : Byte) (alfid : Byte) (address : Word) (size : Word)
  /-- TRANSFER_DATA (R338). UDS TransferData writes one image block as FWU_WRITE. -/
  | transferData (counter : Byte) (data : List Byte)
  /-- REQUEST_TRANSFER_EXIT (R338). UDS RequestTransferExit finishes the image as FWU_FINISH. -/
  | requestTransferExit
  /-- TESTER_PRESENT (R331). UDS TesterPresent keeps the session alive and restarts S3. -/
  | testerPresent (sub : Byte)
  /-- CAN_SETUP (R339). The CAN_SETUP command writes bit timing and control through an INIT cycle. -/
  | canSetup (src : Source) (req : Request)
  /-- CAN_TESTER_SET (R340). The CAN_TESTER_SET command sets the tester identifiers, transport and secret. -/
  | canTesterSet (src : Source) (req : Request)
  /-- CAN_MO_SET (R345). The CAN_MO_SET command configures a host message object. -/
  | canMoSet (src : Source) (req : Request)
  /-- CAN_MO_SEND (R345). The CAN_MO_SEND command loads data and requests transmission of an object. -/
  | canMoSend (src : Source) (req : Request)
  /-- CAN_MO_READ (R319). The CAN_MO_READ command returns and marks read the frame held by a receive object. -/
  | canMoRead (src : Source) (req : Request)
  /-- CAN_STATE (R345). The CAN_STATE command returns error counters, status and bus-off count. -/
  | canState (src : Source) (req : Request)
  /-- DEBOUNCE_CHANGE (R356). A pin's debounce filter output takes a new level after the pad has held it for the
      debounce time. -/
  | debounceChange (pin : Fin 37)
  /-- PIN_HOLD_END (R352). Two cc after a pin's driver-set change, the hold latch ends and the new drivers take
      the pad. -/
  | pinHoldEnd (pin : Fin 37)
  /-- GPIO_LOCK_WRITE (R358). A write to GPIO_LOCK advances the master's lock sequence and locks the pin at the
      third word. -/
  | gpioLockWrite (hearth : Bool) (value : Word)
  /-- GPIO_OUT_MW_WRITE (R353). A write to a masked window writes GPIO_OUT_LO only in the selected byte lanes. -/
  | gpioOutMwWrite (lanes : Fin 16) (value : Word)
  /-- GPIO_PIN_CONFIG (R370). The GPIO_PIN_CONFIG command sets a pin's mux code, direction, latch and
      configuration. -/
  | gpioPinConfig (src : Source) (req : Request)
  /-- GPIO_XBAR_SET (R347). The GPIO_XBAR_SET command places or removes a function on a crossbar pin. -/
  | gpioXbarSet (src : Source) (req : Request)
  /-- GPIO_OUTPUT (R370). The GPIO_OUTPUT command writes masked output latch bits in one cc. -/
  | gpioOutput (src : Source) (req : Request)
  /-- GPIO_READ (R370). The GPIO_READ command returns pad levels, latches and conflicts. -/
  | gpioRead (src : Source) (req : Request)
  /-- GPIO_LOCK_PIN (R370). The GPIO_LOCK_PIN command locks the pins of a mask. -/
  | gpioLockPin (src : Source) (req : Request)
  /-- TIMER_MATCH (R375). A counter advance reaches the compare value: MATCH is set and TMRn_OUT acts per
      OUT_MODE. -/
  | timerMatch (channel : Fin 4)
  /-- TIMER_WRAP (R371). A timer counter wraps from 2^48 − 1 to 0 and WRAP is set. -/
  | timerWrap (channel : Fin 4)
  /-- TIMER_CAPTURE (R376). A selected edge of TMRn_IN pushes the counter value into the capture queue. -/
  | timerCapture (channel : Fin 4) (falling : Bool)
  /-- TIMER_GATE_EVENT (R378). A gate start or stop edge records a start or pushes a measured width. -/
  | timerGateEvent (channel : Fin 4) (start stop : Bool)
  /-- TMR_CLEAR (R371). A write of 1 to TMR_CTRL.CLEAR zeroes the counter, empties the queue, idles the gate
      and sets OUT_INIT. -/
  | tmrClear (hearth : Option (Fin 4))
  /-- TMR_CMP_WRITE (R374). A write of a compare half excludes matching until both halves land, then may set
      CMP_LATE. -/
  | tmrCmpWrite (hearth : Option (Fin 4)) (high : Bool) (value : Word)
  /-- TMR_COUNT_LO_READ (R373). A read of TMR_COUNT_LO returns the low bits and latches the high bits. -/
  | tmrCountLoRead (hearth : Option (Fin 4))
  /-- TMR_CAP_LO_READ (R377). A full read of TMR_CAP_LO latches and pops the head capture entry. -/
  | tmrCapLoRead (hearth : Option (Fin 4)) (full : Bool)
  /-- CLK_TIME_NS_READ (R180). A read of CLK_TIME_NS latches the seconds words of local media time. -/
  | clkTimeNsRead (full : Bool)
  /-- CLK_WORD_LO_READ (R180). A read of the LO word of CLK_MOVE_REMAIN or CLK_OFFSET latches its HI word. -/
  | clkWordLoRead (offset : Bool) (full : Bool)
  /-- SCHED_ENTRY_READY (R380). An ARMED entry's time is reached and it acts, or is held, missed or failed. -/
  | schedEntryReady (entry : Fin 32)
  /-- SCHED_HELD_RELEASE (R381). TIME_VALID returns and HELD entries act with their lateness. -/
  | schedHeldRelease
  /-- SCHED_CANCEL_WRITE (R383). A host write to SCHED_CANCEL cancels the named ARMED or HELD entries. -/
  | schedCancelWrite (value : Word)
  /-- SCHED_SET (R385). The SCHED_SET command arms a scheduler entry with an action, target and time. -/
  | schedSet (src : Source) (req : Request)
  /-- SCHED_CANCEL (R391). The SCHED_CANCEL command cancels the entries of a mask. -/
  | schedCancel (src : Source) (req : Request)
  /-- SCHED_STATUS (R391). The SCHED_STATUS command returns an entry's state, reason and lateness. -/
  | schedStatus (src : Source) (req : Request)
  /-- TEST_LOGIC_RESET (R398). TRST_N low or five TMS-high TCKs reset the TAP and release any taken pins. -/
  | testLogicReset
  /-- EXTEST (R400). The EXTEST instruction takes the pins to the boundary cells and holds Proof. -/
  | extest
  /-- IDCODE (R394). The IDCODE instruction selects the 32-bit identification register. -/
  | idcode
  /-- SAMPLE_PRELOAD (R399). The SAMPLE/PRELOAD instruction samples pins and preloads boundary cells. -/
  | samplePreload
  /-- CLAMP (R400). The CLAMP instruction takes the pins with preloaded values and selects bypass. -/
  | clamp
  /-- HIGHZ (R400). The HIGHZ instruction takes the pins with every driver off. -/
  | highz
  /-- BYPASS (R393). The BYPASS instruction, or any unlisted code, selects the 1-bit bypass register. -/
  | bypass
  /-- SELFTEST_RUN (R402). The SELFTEST_RUN command starts the field self-tests of a mask. -/
  | selftestRun (src : Source) (req : Request)
  /-- SELFTEST_DONE (R402). The self-test run ends and OP_DONE is pushed. -/
  | selftestDone (readings : SelfTestReadings)
  /-- SELFTEST_RESULT (R403). The SELFTEST_RESULT command returns the tests run and failed. -/
  | selftestResult (src : Source) (req : Request)
  /-- FRAME_BOUNDARY (R256). At each grid point where local media time is a whole number of sample periods past
      its second boundary, every running TDM port starts a frame, each destination is
      computed once, the Mortar readout inspects its position and pending mute, gain,
      bank-swap and fade changes take effect. -/
  | frameBoundary (sdi : List (List Bool))
  /-- PHASE_DETECTOR_COMPARE (R168). Every 125 µs, or every fourth word-clock period if that is longer, the Keystone
      phase detector compares local media time with the selected reference and the servo
      updates the DCO frequency word and CLK_PHASE_ERR. -/
  | phaseDetectorCompare (lmtMinusRef : Int)
  /-- CAN_RECEIVE_ERROR (R322). A frame on the bus is received with a stuff, form or CRC error: an error flag is
      sent, REC rises and the fault-confinement state may change. -/
  | canReceiveError (error : CanError) (dominantAfter : Bool)
  /-- TCK_EDGE (R392). A TCK edge advances the TAP controller by TMS, and in Capture-DR, Shift-DR and
      Update-DR the selected data register captures pin levels, shifts, or drives the
      boundary cells onto the pins. -/
  | tckEdge (rising tms tdi : Bool) (levels : BitVec 225)
  /-- SECOND_BOUNDARY (R346). Local media time crosses a second boundary, and KS_PPS_OUT rises for 1 ms while
      TIME_VALID is 1. -/
  | secondBoundary
  /-- PAD_LEVEL_CHANGE (R356). The level at a general-purpose pad changes; 3 cc later it shows in GPIO_IN and
      restarts the pin's debounce count. -/
  | padLevelChange (pin : Fin 37) (level : Bool)
  /-- I2C_TRANSFER_DONE (R304). An I2C transfer of a script step or of AMP_I2C ends with ACK, NACK or a verify
      result, and the script moves to its next step, retries or fails, or the AMP_I2C
      response is written. -/
  | i2cTransferDone (bus : Fin 2) (result : I2cResult)
  deriving DecidableEq, Repr

end Sys2Proof
end

