-- ==== Sys2Proof/Decode.lean ====
section
/-! DEFINITION.
The reading of a word by the bits of the opcode table: the table gives its rows no bits, so that no
word spells a command. -/

namespace Sys2Proof

/-- The command that a word spells by the bits of the opcode table. (DESIGN CHOICE, log 2) -/
def decodeTableWord (_ _ : Nat) : Option Instr := none

end Sys2Proof
end

