-- ==== Sys2Proof/Machine/Bits.lean ====
section
/-! DEFINITION.
Bit-field, sign and byte-order helpers, and the update of one entry of a fixed table. -/

namespace Sys2Proof.Machine

/-- Replace entry `i` of a fixed table by its image under `f`. -/
def upd {α : Type} {n : Nat} (v : Vector α n) (i : Fin n) (f : α → α) : Vector α n :=
  v.set i (f v[i])

/-- The field `hi:lo` of a word as a number. -/
def fld (w : Word) (hi lo : Nat) : Nat := (w.toNat >>> lo) % 2 ^ (hi + 1 - lo)

/-- The field `hi:lo` of a word as a two's complement number. -/
def fldS (w : Word) (hi lo : Nat) : Int :=
  let v := fld w hi lo
  if v ≥ 2 ^ (hi - lo) then (v : Int) - (2 ^ (hi + 1 - lo) : Nat) else v

/-- A number placed at bit `lo` of a word. -/
def at' (lo v : Nat) : Word := w32 (v <<< lo)

/-- A whole number placed, in two's complement, in the field `hi:lo` of a word. -/
def atS (hi lo : Nat) (v : Int) : Word := w32 ((v % (2 ^ (hi + 1 - lo) : Nat)).toNat <<< lo)

/-- The mask of the field `hi:lo`. -/
def maskOf (hi lo : Nat) : Word := w32 ((2 ^ (hi + 1 - lo) - 1) <<< lo)

/-- A flag placed at bit `i` of a word. -/
def bitW (i : Nat) (b : Bool) : Word := if b then w32 (1 <<< i) else 0

/-- Replace the field `hi:lo` of a word. -/
def setFld (w : Word) (hi lo v : Nat) : Word :=
  (w &&& ~~~ maskOf hi lo) ||| (at' lo v &&& maskOf hi lo)

/-- The word whose bit `i` is `f i`. -/
def bitsW (n : Nat) (f : Nat → Bool) : Word :=
  (List.range n).foldl (fun w i => w ||| bitW i (f i)) 0

/-- The disjunction of a list of words. -/
def orW (l : List Word) : Word := l.foldl (· ||| ·) 0

/-- Clamp a number to a range (R11). -/
def clampN (lo hi v : Nat) : Nat := if v < lo then lo else if hi < v then hi else v

/-- Clamp a whole number to a range (R11). -/
def clampI (lo hi v : Int) : Int := if v < lo then lo else if hi < v then hi else v

/-- Increment, holding at a ceiling (a saturating counter). -/
def satInc (top n : Nat) : Nat := if n < top then n + 1 else top

/-- Increment modulo 2^bits (a wrapping counter). -/
def wrapInc (bits n : Nat) : Nat := (n + 1) % 2 ^ bits

/-- The bytes of a list of words, least significant byte first. -/
def wordBytes (l : List Word) : List Byte :=
  l.flatMap fun w => [w.extractLsb' 0 8, w.extractLsb' 8 8, w.extractLsb' 16 8, w.extractLsb' 24 8]

/-- Pack bytes into words, least significant byte first, the last word filled with zeros. -/
def packWords : List Byte → List Word
  | a :: b :: c :: d :: t =>
    (d.setWidth 32 <<< 24 ||| c.setWidth 32 <<< 16 ||| b.setWidth 32 <<< 8 ||| a.setWidth 32) :: packWords t
  | [a, b, c] => [c.setWidth 32 <<< 16 ||| b.setWidth 32 <<< 8 ||| a.setWidth 32]
  | [a, b] => [b.setWidth 32 <<< 8 ||| a.setWidth 32]
  | [a] => [a.setWidth 32]
  | [] => []

/-- A list of bytes, first byte most significant, as a number. -/
def beNat (l : List Byte) : Nat := l.foldl (fun n b => n * 256 + b.toNat) 0

/-- A number as `k` bytes, most significant first. -/
def natBe : Nat → Nat → List Byte
  | 0, _ => []
  | k + 1, n => BitVec.ofNat 8 (n / 256 ^ k) :: natBe k n

/-- The whole number nearest to a / b, b > 0, halves rounded away from zero. -/
def roundDiv (a b : Int) : Int :=
  if a ≥ 0 then (2 * a + b) / (2 * b) else -((2 * (-a) + b) / (2 * b))

/-- The largest number whose square is at most `n`, by bisection of 2^16. -/
def isqrt (n : Nat) : Nat :=
  (List.range 32).foldl (fun r k => let c := r + 2 ^ (31 - k); if c * c ≤ n then c else r) 0

/-- All indices of a fixed table. -/
abbrev allFin (n : Nat) : List (Fin n) := List.finRange n

end Sys2Proof.Machine
end

