-- ==== Sys2Proof/Config.lean ====
section
/-! DEFINITION.
What one part fixes and the manual does not state, and the free values: constants with no body,
so that nothing can evaluate them and every statement holds whatever they are. -/

namespace Sys2Proof.Config

/-- The version of the running firmware below its line: FW_MINOR (IDENTITY, chapter 5). (DESIGN CHOICE, log 13) -/
opaque fwMinor : Byte
/-- FW_PATCH (IDENTITY). (DESIGN CHOICE, log 13) -/
opaque fwPatch : Byte
/-- FW_BUILD (IDENTITY). (DESIGN CHOICE, log 13) -/
opaque fwBuild : Word
/-- BOOT_ROM_VERSION (IDENTITY). (DESIGN CHOICE, log 13) -/
opaque bootRomVersion : Word
/-- The serial number of the factory record, byte by byte (IDENTITY). (DESIGN CHOICE, log 13) -/
opaque serial : Nat → Byte
/-- The MAC address of each port in the factory record, octet by octet (IDENTITY, Table 3.5).
 (DESIGN CHOICE, log 13) -/
opaque factoryMac : Nat → Nat → Byte
/-- The SHA-256 digest of an image, as eight words (R152): the digest is a published
standard's, named and not laid out by the manual. (DESIGN CHOICE, log 14) -/
opaque sha256 : List Word → List Word

/-- The frequency in ppt that the closed servo demands at a comparison of its phase detector
(chapter 6): the manual gives its order, damping and bandwidth and no difference equation. Of the
model's count of free values, the integrator in ppt, the loop bandwidth in mHz and the phase error in ps.
 (DESIGN CHOICE, log 18) -/
opaque servoPpt (index : Nat) (integrator : Int) (bandwidth : Nat) (err : Int) : Int
/-- The integrator of the type-2 loop after a comparison, of the same. (DESIGN CHOICE, log 18) -/
opaque servoIntegral (index : Nat) (integrator : Int) (bandwidth : Nat) (err : Int) : Int

/-- A listener's rate estimate in ppt after a frame (R214), from the estimate before, the rate that the last two
timestamps give and the ps between them: a first-order filter whose sampled form the manual does not give. The
model keeps it between its first two arguments. (DESIGN CHOICE, log 16) -/
opaque rateEstimate (held measured period : Int) : Int
/-- The sample a talker sends in `bytes` bytes where it rounds beyond the format's largest value (R210).
 (DESIGN CHOICE, log 140) -/
opaque roundedOver (bytes : Nat) (rounded : Int) : Int
/-- The fractional-delay interpolator's value between samples (R214, Table 8.3), from the four
samples about the instant and its place after the second of them, in ps, with the sample period in ps.
 (DESIGN CHOICE, log 16) -/
opaque interpolate (samples : List Int) (after period : Int) : Int
/-- The neighborRateRatio less 1, in ppt (R207), from the peer's two times and the instance's own two, of the last
two exchanges in 2^-16 ns: IEEE 802.1AS leaves the filter to the implementation. (DESIGN CHOICE, log 147) -/
opaque neighborRatio (before now : Int × Int) : Int

/-- One 1 ms step of a first-order filter of 1 s time constant, from its value toward its input
(R245), whose sampled form the manual does not give. The model keeps it between the two. (DESIGN CHOICE, log 16) -/
opaque filterStep (value input : Int) : Int
/-- 10 × log10(E_diff / E_use) of the worst channel where one of the two energies is zero and
the ratio has no logarithm (LINTEL_HEALTH). (DESIGN CHOICE, log 17) -/
opaque healthDb (diff use : Nat) : Int

/-- The direction a result that is not a whole number is rounded to, up or down, where the manual
gives the arithmetic and not its rounding (R267–R273): of `num` / `den`. (DESIGN CHOICE, log 15) -/
opaque roundUp (num : Int) (den : Nat) : Bool
/-- The limiter gain after one sample (R271), in 2^-30, from its gain, the sample, LIM_THRESH,
ATTACK, RELEASE and fs: the manual gives two time constants and no difference
equation. The model keeps it between the gain held and the gain it moves to. (DESIGN CHOICE, log 16) -/
opaque limiterGain (gain sample : Int) (thresh attack release fs : Nat) : Int
/-- R_dc in mΩ where the two currents of a test are equal and the quotient has no value (R297).
 (DESIGN CHOICE, log 17) -/
opaque openResistance (vDiff : Int) : Nat
/-- Which of the frames waiting for transmission holds a cell in which a double-bit error was met (R36): cells
are given by hardware, and the manual does not say which. The argument is the model's count of free values.
 (DESIGN CHOICE, log 27) -/
opaque spoiledFrame : Nat → Nat
/-- Which of the samples of an allocation stands in a Mortar word in which a double-bit error was met (R36): the
manual gives no layout within an allocation. The argument is the model's count of free values. (DESIGN CHOICE, log 27) -/
opaque spoiledSample : Nat → Nat
/-- What a PHY answers to an MDIO read that a service pass makes; the argument is the model's
count of free values. (DESIGN CHOICE, log 19) -/
opaque phyRegister : Nat → U16

/-- REC after a frame received while it stood above 127, which ISO 11898-1 sets to a value between
119 and 127: how far above 119. The argument is the model's count of free values. (DESIGN CHOICE, log 20) -/
opaque recStep : Nat → Fin 9
/-- How much of the 128 occurrences a recovery in progress has seen (R325): no row reports one.
 (DESIGN CHOICE, log 20) -/
opaque recoverySeen : Nat → Fin 129
/-- The seed that requestSeed takes afresh, less 1 (R333). (DESIGN CHOICE, log 21) -/
opaque seed : Nat → Fin 4294967295

/-- The tests run (7:0) and failed (15:8) when QUIET entry stops a self-test run (Table 15.3).
 (DESIGN CHOICE, log 22) -/
opaque selfTestAt : Nat → U16

/-- The bytes a journal record of a value takes in its bank: the manual gives a record's parts and
not their widths (R86). (DESIGN CHOICE, log 23) -/
opaque recordBytes : List Word → Nat
/-- The bytes the header of a journal bank takes. (DESIGN CHOICE, log 23) -/
opaque bankHeaderBytes : Nat

/-- The hold-up estimate in µs where PWR_HOLDUP.LOAD_MA is 0 and the quotient of R81 has no value, from its
numerator. (DESIGN CHOICE, log 32) -/
opaque holdupNoLoad : Nat → U16

/-- A flash program that starts in this cc fails its verification (Table 5.3, FLASH_ERROR): the manual does not
say when one does. (DESIGN CHOICE, log 146) -/
opaque flashFails : Nat → Bool

/-- DETAIL of BAD_LENGTH for an opcode that takes more than one length: from the opcode and the
length sent. (DESIGN CHOICE, log 24) -/
opaque expectedWords (opcode length : Nat) : Nat
/-- The pad level FAILURE_REPORT shows for a mute line placed on no pin; the argument is the
model's count of free values. (DESIGN CHOICE, log 25) -/
opaque unplacedPad : Nat → Bool

end Sys2Proof.Config
end

