-- ==== Sys2Proof/Machine/RegTable.lean ====
section
/-! DEFINITION.
The register map 0x0000–0x03FF: for every word a chapter lays out, the bits of each access
code of Table 0.4 and the value of its stored bits after a reset, as the register tables of
chapters 0 to 14 give them (Table 1.7, R104, R124, R125). A word without an entry is reserved (R105).
Bits that are RO and computed from other state count in no mask and are stored as zero. -/

namespace Sys2Proof.Machine

/-- One register word: its byte address, its bits by access code, and its reset value. -/
structure RegInfo where
  addr : Nat
  rw : Word
  w1c : Word
  rws : Word
  wo : Word
  reset : Word
  deriving DecidableEq, Repr

/-- The SYS block (Table 1.7). -/
def sysRegs : List RegInfo :=
  [ ⟨0x000, 0, 0, 0, 0, 0x166400b0⟩,
    ⟨0x004, 0xffffffff, 0, 0, 0, 0⟩,
    ⟨0x008, 0, 0x1c0000, 0, 0, 0⟩,
    ⟨0x00c, 0x1f3fff, 0, 0, 0, 0x100000⟩,
    ⟨0x010, 0, 0x7f, 0, 0, 0⟩,
    ⟨0x014, 0, 0x3, 0, 0, 0⟩,
    ⟨0x018, 0, 0, 0, 0, 0⟩,
    ⟨0x01c, 0, 0, 0, 0x80000000, 0⟩,
    ⟨0x020, 0, 0, 0x1, 0, 0⟩,
    ⟨0x024, 0x2ffff, 0, 0, 0x10000, 0⟩,
    ⟨0x028, 0xffffffff, 0, 0, 0, 0⟩,
    ⟨0x02c, 0xffffffff, 0, 0, 0, 0⟩,
    ⟨0x030, 0, 0x2, 0, 0, 0⟩ ]

/-- The PWR block (Table 1.7). -/
def pwrRegs : List RegInfo :=
  [ ⟨0x040, 0, 0, 0, 0, 0⟩,
    ⟨0x044, 0, 0, 0, 0, 0x1⟩,
    ⟨0x048, 0, 0, 0, 0, 0⟩,
    ⟨0x04c, 0xffff0001, 0, 0, 0x2, 0x6400001⟩,
    ⟨0x050, 0, 0, 0, 0xffffffff, 0⟩,
    ⟨0x054, 0, 0, 0, 0, 0⟩,
    ⟨0x058, 0, 0x3ff, 0, 0, 0⟩,
    ⟨0x05c, 0x3ff, 0, 0, 0, 0⟩,
    ⟨0x060, 0, 0, 0, 0, 0xffff0000⟩,
    ⟨0x064, 0, 0, 0, 0, 0⟩,
    ⟨0x068, 0, 0, 0, 0, 0⟩,
    ⟨0x06c, 0xffffffff, 0, 0, 0, 0x2580320⟩,
    ⟨0x070, 0xffffffff, 0, 0, 0, 0x709900dc⟩,
    ⟨0x074, 0, 0, 0, 0, 0⟩,
    ⟨0x078, 0, 0, 0, 0, 0⟩,
    ⟨0x07c, 0, 0, 0x1f, 0, 0⟩ ]

/-- The CLK block (Table 1.7). -/
def clkRegs : List RegInfo :=
  [ ⟨0x080, 0x7, 0, 0, 0, 0x5⟩,
    ⟨0x084, 0, 0, 0, 0, 0⟩,
    ⟨0x088, 0, 0xfff, 0, 0, 0⟩,
    ⟨0x08c, 0xfff, 0, 0, 0, 0⟩,
    ⟨0x090, 0x1f, 0, 0, 0, 0x14⟩,
    ⟨0x094, 0xff01ff, 0, 0, 0, 0x3200c8⟩,
    ⟨0x098, 0x1ffff, 0, 0, 0, 0x2710⟩,
    ⟨0x09c, 0xfff, 0, 0, 0, 0x14⟩,
    ⟨0x0a0, 0xffffffff, 0, 0, 0, 0⟩,
    ⟨0x0a4, 0, 0, 0, 0xffffffff, 0⟩,
    ⟨0x0a8, 0, 0, 0, 0, 0⟩,
    ⟨0x0ac, 0, 0, 0, 0, 0⟩,
    ⟨0x0b0, 0, 0, 0, 0, 0⟩,
    ⟨0x0b4, 0, 0, 0, 0, 0⟩,
    ⟨0x0b8, 0xffffffff, 0, 0, 0, 0xe6e221c9⟩,
    ⟨0x0bc, 0xffff, 0, 0, 0, 0x3254⟩,
    ⟨0x0c0, 0xff1f, 0, 0, 0, 0xa04⟩,
    ⟨0x0c4, 0xff1f, 0, 0, 0, 0xa05⟩,
    ⟨0x0c8, 0xff1f, 0, 0, 0, 0xa06⟩,
    ⟨0x0cc, 0xff1f, 0, 0, 0, 0xa02⟩,
    ⟨0x0d0, 0xff1f, 0, 0, 0, 0xa03⟩,
    ⟨0x0d4, 0xff1f, 0, 0, 0, 0xa08⟩,
    ⟨0x0d8, 0xff1f, 0, 0, 0, 0xa09⟩,
    ⟨0x0dc, 0xff0f, 0, 0, 0, 0xa0f⟩,
    ⟨0x0e0, 0, 0, 0, 0x1, 0⟩,
    ⟨0x0e4, 0x77, 0, 0, 0, 0⟩,
    ⟨0x0e8, 0, 0, 0, 0, 0⟩,
    ⟨0x0ec, 0, 0, 0, 0, 0⟩,
    ⟨0x0f0, 0, 0, 0, 0, 0⟩,
    ⟨0x0f4, 0, 0, 0, 0, 0⟩,
    ⟨0x0f8, 0, 0, 0, 0, 0⟩,
    ⟨0x0fc, 0, 0, 0, 0, 0⟩ ]

/-- The ETH block (Table 1.7). -/
def ethRegs : List RegInfo :=
  [ ⟨0x100, 0x1f7fff3f, 0, 0, 0, 0x1408204⟩,
    ⟨0x104, 0, 0, 0, 0, 0⟩,
    ⟨0x108, 0, 0x7ff, 0, 0, 0⟩,
    ⟨0x10c, 0xfff, 0, 0, 0, 0⟩,
    ⟨0x110, 0xffffffff, 0, 0, 0, 0⟩,
    ⟨0x114, 0xffff, 0, 0, 0, 0⟩,
    ⟨0x118, 0x7, 0, 0, 0, 0⟩,
    ⟨0x11c, 0xffffffff, 0, 0, 0, 0⟩,
    ⟨0x120, 0x1ffff, 0, 0, 0, 0⟩,
    ⟨0x124, 0, 0xffffffff, 0, 0, 0⟩,
    ⟨0x128, 0, 0xff, 0, 0, 0⟩,
    ⟨0x12c, 0xffffffff, 0, 0, 0, 0⟩,
    ⟨0x130, 0xff, 0, 0, 0, 0⟩,
    ⟨0x134, 0, 0, 0, 0, 0⟩,
    ⟨0x138, 0xffffffff, 0, 0, 0, 0x190a5032⟩,
    ⟨0x13c, 0xff03ff, 0, 0, 0, 0x320064⟩,
    ⟨0x140, 0x1f7fff3f, 0, 0, 0, 0x2408204⟩,
    ⟨0x144, 0, 0, 0, 0, 0⟩,
    ⟨0x148, 0, 0x7ff, 0, 0, 0⟩,
    ⟨0x14c, 0xfff, 0, 0, 0, 0⟩,
    ⟨0x150, 0xffffffff, 0, 0, 0, 0⟩,
    ⟨0x154, 0xffff, 0, 0, 0, 0⟩,
    ⟨0x158, 0x7, 0, 0, 0, 0⟩,
    ⟨0x15c, 0xffffffff, 0, 0, 0, 0⟩,
    ⟨0x160, 0x1ffff, 0, 0, 0, 0⟩,
    ⟨0x164, 0, 0xffffffff, 0, 0, 0⟩,
    ⟨0x168, 0, 0xff, 0, 0, 0⟩,
    ⟨0x16c, 0xffffffff, 0, 0, 0, 0⟩,
    ⟨0x170, 0xff, 0, 0, 0, 0⟩,
    ⟨0x174, 0, 0, 0, 0, 0⟩,
    ⟨0x178, 0xffffffff, 0, 0, 0, 0x190a5032⟩,
    ⟨0x17c, 0x3ff, 0, 0, 0, 0x64⟩,
    ⟨0x180, 0x1f7fff3f, 0, 0, 0, 0x3408204⟩,
    ⟨0x184, 0, 0, 0, 0, 0⟩,
    ⟨0x188, 0, 0x7ff, 0, 0, 0⟩,
    ⟨0x18c, 0xfff, 0, 0, 0, 0⟩,
    ⟨0x190, 0xffffffff, 0, 0, 0, 0⟩,
    ⟨0x194, 0xffff, 0, 0, 0, 0⟩,
    ⟨0x198, 0x7, 0, 0, 0, 0⟩,
    ⟨0x19c, 0xffffffff, 0, 0, 0, 0⟩,
    ⟨0x1a0, 0x1ffff, 0, 0, 0, 0⟩,
    ⟨0x1a4, 0, 0xffffffff, 0, 0, 0⟩,
    ⟨0x1a8, 0, 0xff, 0, 0, 0⟩,
    ⟨0x1ac, 0xffffffff, 0, 0, 0, 0⟩,
    ⟨0x1b0, 0xff, 0, 0, 0, 0⟩,
    ⟨0x1b4, 0, 0, 0, 0, 0⟩,
    ⟨0x1b8, 0xffffffff, 0, 0, 0, 0x190a5032⟩,
    ⟨0x1bc, 0x3ff, 0, 0, 0, 0x64⟩ ]

/-- The ARB block (Table 1.7). -/
def arbRegs : List RegInfo :=
  [ ⟨0x1c0, 0x77777777, 0, 0, 0, 0x63422111⟩,
    ⟨0x1c4, 0, 0, 0, 0, 0⟩,
    ⟨0x1c8, 0, 0, 0, 0, 0⟩,
    ⟨0x1cc, 0, 0, 0, 0, 0⟩,
    ⟨0x1d0, 0, 0, 0, 0, 0⟩,
    ⟨0x1d4, 0, 0, 0, 0, 0⟩,
    ⟨0x1d8, 0, 0, 0, 0, 0⟩,
    ⟨0x1dc, 0, 0, 0, 0, 0⟩,
    ⟨0x1e0, 0, 0, 0, 0x1, 0⟩ ]

/-- The TDM block (Table 1.7). -/
def tdmRegs : List RegInfo :=
  [ ⟨0x200, 0, 0, 0, 0, 0⟩,
    ⟨0x204, 0, 0, 0, 0, 0⟩,
    ⟨0x208, 0, 0, 0, 0, 0⟩,
    ⟨0x20c, 0, 0, 0, 0, 0⟩,
    ⟨0x210, 0, 0, 0, 0, 0⟩,
    ⟨0x214, 0, 0, 0, 0, 0⟩,
    ⟨0x218, 0, 0x3f, 0, 0, 0⟩,
    ⟨0x21c, 0x3f, 0, 0, 0, 0⟩,
    ⟨0x220, 0, 0, 0, 0, 0⟩,
    ⟨0x224, 0, 0, 0, 0, 0⟩,
    ⟨0x228, 0, 0, 0, 0, 0⟩,
    ⟨0x22c, 0, 0, 0, 0, 0⟩,
    ⟨0x230, 0, 0, 0, 0, 0⟩,
    ⟨0x234, 0, 0, 0, 0, 0⟩,
    ⟨0x238, 0, 0x3f, 0, 0, 0⟩,
    ⟨0x23c, 0x3f, 0, 0, 0, 0⟩,
    ⟨0x240, 0, 0, 0, 0, 0⟩,
    ⟨0x244, 0, 0, 0, 0, 0⟩,
    ⟨0x248, 0, 0, 0, 0, 0⟩,
    ⟨0x24c, 0, 0, 0, 0, 0⟩,
    ⟨0x250, 0, 0, 0, 0, 0⟩,
    ⟨0x254, 0, 0, 0, 0, 0⟩,
    ⟨0x258, 0, 0x3f, 0, 0, 0⟩,
    ⟨0x25c, 0x3f, 0, 0, 0, 0⟩,
    ⟨0x260, 0, 0, 0, 0, 0⟩,
    ⟨0x264, 0, 0, 0, 0, 0⟩,
    ⟨0x268, 0, 0, 0, 0, 0⟩,
    ⟨0x26c, 0, 0, 0, 0, 0⟩,
    ⟨0x270, 0, 0, 0, 0, 0⟩,
    ⟨0x274, 0, 0, 0, 0, 0⟩,
    ⟨0x278, 0, 0x3f, 0, 0, 0⟩,
    ⟨0x27c, 0x3f, 0, 0, 0, 0⟩ ]

/-- The CAN block (Table 1.7). -/
def canRegs : List RegInfo :=
  [ ⟨0x280, 0x1ef, 0, 0, 0x10, 0x10f⟩,
    ⟨0x284, 0, 0, 0, 0, 0⟩,
    ⟨0x288, 0x7fffffff, 0, 0, 0, 0x13269c09⟩,
    ⟨0x28c, 0xff83ffff, 0, 0, 0, 0xc8811249⟩,
    ⟨0x290, 0, 0, 0, 0, 0⟩,
    ⟨0x294, 0, 0x3ff, 0, 0, 0⟩,
    ⟨0x298, 0x3ff, 0, 0, 0, 0⟩,
    ⟨0x29c, 0, 0, 0, 0, 0⟩,
    ⟨0x2a0, 0, 0, 0, 0xfffffff0, 0⟩,
    ⟨0x2a4, 0, 0, 0, 0xfffffff0, 0⟩,
    ⟨0x2a8, 0, 0xfffffff0, 0, 0, 0⟩,
    ⟨0x2ac, 0, 0, 0, 0, 0⟩,
    ⟨0x2b0, 0, 0, 0, 0, 0⟩,
    ⟨0x2b4, 0, 0, 0, 0, 0⟩ ]

/-- The TMR block (Table 1.7). -/
def tmrRegs : List RegInfo :=
  [ ⟨0x2c0, 0x3, 0, 0, 0, 0⟩,
    ⟨0x2c4, 0, 0, 0, 0, 0⟩,
    ⟨0x2c8, 0, 0xffffffff, 0, 0, 0⟩,
    ⟨0x2cc, 0xffffffff, 0, 0, 0, 0⟩,
    ⟨0x2e0, 0xfffff07, 0, 0, 0x10000000, 0⟩,
    ⟨0x2e4, 0, 0, 0, 0, 0⟩,
    ⟨0x2e8, 0, 0, 0, 0, 0⟩,
    ⟨0x2ec, 0xffffffff, 0, 0, 0, 0⟩,
    ⟨0x2f0, 0xffff, 0, 0, 0, 0⟩,
    ⟨0x2f4, 0, 0, 0, 0, 0⟩,
    ⟨0x2f8, 0, 0, 0, 0, 0⟩,
    ⟨0x2fc, 0, 0, 0, 0, 0⟩ ]

/-- The GPIO block (Table 1.7). -/
def gpioRegs : List RegInfo :=
  [ ⟨0x300, 0, 0, 0, 0, 0⟩,
    ⟨0x304, 0, 0, 0, 0, 0⟩,
    ⟨0x308, 0xffffffff, 0, 0, 0, 0⟩,
    ⟨0x30c, 0x1f, 0, 0, 0, 0⟩,
    ⟨0x310, 0xffffffff, 0, 0, 0, 0⟩,
    ⟨0x314, 0x1f, 0, 0, 0, 0⟩,
    ⟨0x318, 0, 0xffffffff, 0, 0, 0⟩,
    ⟨0x31c, 0, 0x1f, 0, 0, 0⟩,
    ⟨0x320, 0xffffffff, 0, 0, 0, 0⟩,
    ⟨0x324, 0x1f, 0, 0, 0, 0⟩,
    ⟨0x328, 0, 0, 0, 0, 0⟩,
    ⟨0x32c, 0, 0, 0, 0, 0⟩,
    ⟨0x330, 0, 0, 0, 0, 0⟩,
    ⟨0x334, 0, 0, 0, 0, 0⟩,
    ⟨0x338, 0, 0, 0, 0xffffffff, 0⟩,
    ⟨0x33c, 0, 0x3f, 0, 0, 0⟩,
    ⟨0x340, 0x3f, 0, 0, 0, 0⟩,
    ⟨0x344, 0x3f, 0, 0, 0, 0⟩,
    ⟨0x348, 0x373f77, 0, 0, 0, 0⟩,
    ⟨0x34c, 0x7777777, 0, 0, 0, 0x1155555⟩,
    ⟨0x350, 0xffffffff, 0, 0, 0, 0⟩,
    ⟨0x354, 0xffffffff, 0, 0, 0, 0⟩,
    ⟨0x358, 0xfffff, 0, 0, 0, 0⟩,
    ⟨0x35c, 0x8f8f8f8f, 0, 0, 0, 0x83828180⟩,
    ⟨0x360, 0x8f8f8f8f, 0, 0, 0, 0x87868584⟩,
    ⟨0x364, 0x8f8f8f8f, 0, 0, 0, 0x8b8a8988⟩,
    ⟨0x368, 0x8f8f8f8f, 0, 0, 0, 0⟩,
    ⟨0x36c, 0x8f8f8f8f, 0, 0, 0, 0⟩,
    ⟨0x370, 0x8f8f8f8f, 0, 0, 0, 0⟩,
    ⟨0x374, 0x8f, 0, 0, 0, 0⟩,
    ⟨0x380, 0xffffffff, 0, 0, 0, 0⟩,
    ⟨0x384, 0xffffffff, 0, 0, 0, 0⟩,
    ⟨0x388, 0xffffffff, 0, 0, 0, 0⟩,
    ⟨0x38c, 0xffffffff, 0, 0, 0, 0⟩,
    ⟨0x390, 0xffffffff, 0, 0, 0, 0⟩,
    ⟨0x394, 0xffffffff, 0, 0, 0, 0⟩,
    ⟨0x398, 0xffffffff, 0, 0, 0, 0⟩,
    ⟨0x39c, 0xffffffff, 0, 0, 0, 0⟩,
    ⟨0x3a0, 0xffffffff, 0, 0, 0, 0⟩,
    ⟨0x3a4, 0xffffffff, 0, 0, 0, 0⟩,
    ⟨0x3a8, 0xffffffff, 0, 0, 0, 0⟩,
    ⟨0x3ac, 0xffffffff, 0, 0, 0, 0⟩,
    ⟨0x3b0, 0xffffffff, 0, 0, 0, 0⟩,
    ⟨0x3b4, 0xffffffff, 0, 0, 0, 0⟩,
    ⟨0x3b8, 0xffffffff, 0, 0, 0, 0⟩,
    ⟨0x3bc, 0xffffffff, 0, 0, 0, 0⟩ ]

/-- The SCHED block (Table 1.7). -/
def schedRegs : List RegInfo :=
  [ ⟨0x3c0, 0, 0, 0, 0, 0⟩,
    ⟨0x3c4, 0, 0, 0, 0, 0⟩,
    ⟨0x3c8, 0, 0xffffffff, 0, 0, 0⟩,
    ⟨0x3cc, 0xffffffff, 0, 0, 0, 0⟩,
    ⟨0x3d0, 0, 0x3f, 0, 0, 0⟩,
    ⟨0x3d4, 0x3f, 0, 0, 0, 0⟩,
    ⟨0x3d8, 0, 0, 0, 0xffffffff, 0⟩,
    ⟨0x3dc, 0, 0, 0, 0, 0⟩,
    ⟨0x3e0, 0, 0, 0, 0, 0⟩,
    ⟨0x3e4, 0, 0, 0, 0, 0⟩,
    ⟨0x3e8, 0, 0xffffffff, 0, 0, 0⟩,
    ⟨0x3ec, 0xffffffff, 0, 0, 0, 0⟩,
    ⟨0x3f0, 0, 0x3f, 0, 0, 0⟩,
    ⟨0x3f4, 0x3f, 0, 0, 0, 0⟩,
    ⟨0x3f8, 0, 0, 0, 0, 0⟩ ]

/-- Every register word that a chapter lays out. -/
def regTable : List RegInfo :=
  sysRegs ++ pwrRegs ++ clkRegs ++ ethRegs ++ arbRegs ++ tdmRegs ++ canRegs ++ tmrRegs ++ gpioRegs ++ schedRegs

/-- The entry of the register word at a byte address, if a chapter lays one out. -/
def regInfo (addr : Nat) : Option RegInfo := regTable.find? fun r => r.addr == addr / 4 * 4

/-! ### Register addresses, by the manual's names (Table 1.7) -/

namespace Reg
abbrev CHIP_ID : Nat := 0x000
abbrev SYS_SCRATCH : Nat := 0x004
abbrev SYS_IRQ_STATUS : Nat := 0x008
abbrev SYS_IRQ_ENABLE : Nat := 0x00c
abbrev SYS_SPI_ERR : Nat := 0x010
abbrev SYS_AUTH : Nat := 0x014
abbrev SYS_ECC : Nat := 0x018
abbrev SYS_ECC_LAST : Nat := 0x01c
abbrev SYS_FAULT : Nat := 0x020
abbrev SYS_DBG_ADDR : Nat := 0x024
abbrev SYS_DBG_DATA_LO : Nat := 0x028
abbrev SYS_DBG_DATA_HI : Nat := 0x02c
abbrev SYS_DBG_STATUS : Nat := 0x030
abbrev PWR_STATE : Nat := 0x040
abbrev PWR_RESET_CAUSE : Nat := 0x044
abbrev PWR_PROOF_RESULT : Nat := 0x048
abbrev PWR_CTRL : Nat := 0x04c
abbrev PWR_RESET_REQ : Nat := 0x050
abbrev PWR_STATUS : Nat := 0x054
abbrev PWR_IRQ_STATUS : Nat := 0x058
abbrev PWR_IRQ_ENABLE : Nat := 0x05c
abbrev PWR_VBAT : Nat := 0x060
abbrev PWR_RAILS_A : Nat := 0x064
abbrev PWR_RAILS_B : Nat := 0x068
abbrev PWR_THRESH : Nat := 0x06c
abbrev PWR_HOLDUP : Nat := 0x070
abbrev PWR_HOLDUP_EST : Nat := 0x074
abbrev PWR_BOOT_STATUS : Nat := 0x078
abbrev PWR_STICKY : Nat := 0x07c
abbrev CLK_CTRL : Nat := 0x080
abbrev CLK_STATUS : Nat := 0x084
abbrev CLK_IRQ_STATUS : Nat := 0x088
abbrev CLK_IRQ_ENABLE : Nat := 0x08c
abbrev CLK_PLL : Nat := 0x090
abbrev CLK_LOOP : Nat := 0x094
abbrev CLK_SLOPE : Nat := 0x098
abbrev CLK_HOLD : Nat := 0x09c
abbrev CLK_DCO_ADJ : Nat := 0x0a0
abbrev CLK_PHASE_STEP : Nat := 0x0a4
abbrev CLK_MOVE_REMAIN_LO : Nat := 0x0a8
abbrev CLK_MOVE_REMAIN_HI : Nat := 0x0ac
abbrev CLK_OFFSET_LO : Nat := 0x0b0
abbrev CLK_OFFSET_HI : Nat := 0x0b4
abbrev CLK_DCO_SEED_LO : Nat := 0x0b8
abbrev CLK_DCO_SEED_HI : Nat := 0x0bc
abbrev CLK_REF_0 : Nat := 0x0c0
abbrev CLK_REF_1 : Nat := 0x0c4
abbrev CLK_REF_2 : Nat := 0x0c8
abbrev CLK_REF_3 : Nat := 0x0cc
abbrev CLK_REF_4 : Nat := 0x0d0
abbrev CLK_REF_5 : Nat := 0x0d4
abbrev CLK_REF_6 : Nat := 0x0d8
abbrev CLK_REF_7 : Nat := 0x0dc
abbrev CLK_REF_COMMIT : Nat := 0x0e0
abbrev CLK_MCLK : Nat := 0x0e4
abbrev CLK_FREQ_NOW : Nat := 0x0e8
abbrev CLK_HOLD_FREQ : Nat := 0x0ec
abbrev CLK_PHASE_ERR : Nat := 0x0f0
abbrev CLK_TIME_NS : Nat := 0x0f4
abbrev CLK_TIME_SEC_LO : Nat := 0x0f8
abbrev CLK_TIME_SEC_HI : Nat := 0x0fc
abbrev ETH0_CTRL : Nat := 0x100
abbrev ETH0_STATUS : Nat := 0x104
abbrev ETH0_IRQ_STATUS : Nat := 0x108
abbrev ETH0_IRQ_ENABLE : Nat := 0x10c
abbrev ETH0_MAC_LO : Nat := 0x110
abbrev ETH0_MAC_HI : Nat := 0x114
abbrev ETH0_FILT_SEL : Nat := 0x118
abbrev ETH0_FILT_LO : Nat := 0x11c
abbrev ETH0_FILT_HI : Nat := 0x120
abbrev ETH0_HALF_LO : Nat := 0x124
abbrev ETH0_HALF_HI : Nat := 0x128
abbrev ETH0_HALF_EN_LO : Nat := 0x12c
abbrev ETH0_HALF_EN_HI : Nat := 0x130
abbrev ETH0_RING : Nat := 0x134
abbrev ETH0_EASE : Nat := 0x138
abbrev ETH0_RETRAIN : Nat := 0x13c
abbrev ETH1_CTRL : Nat := 0x140
abbrev ETH1_STATUS : Nat := 0x144
abbrev ETH1_IRQ_STATUS : Nat := 0x148
abbrev ETH1_IRQ_ENABLE : Nat := 0x14c
abbrev ETH1_MAC_LO : Nat := 0x150
abbrev ETH1_MAC_HI : Nat := 0x154
abbrev ETH1_FILT_SEL : Nat := 0x158
abbrev ETH1_FILT_LO : Nat := 0x15c
abbrev ETH1_FILT_HI : Nat := 0x160
abbrev ETH1_HALF_LO : Nat := 0x164
abbrev ETH1_HALF_HI : Nat := 0x168
abbrev ETH1_HALF_EN_LO : Nat := 0x16c
abbrev ETH1_HALF_EN_HI : Nat := 0x170
abbrev ETH1_RING : Nat := 0x174
abbrev ETH1_EASE : Nat := 0x178
abbrev ETH1_RETRAIN : Nat := 0x17c
abbrev ETH2_CTRL : Nat := 0x180
abbrev ETH2_STATUS : Nat := 0x184
abbrev ETH2_IRQ_STATUS : Nat := 0x188
abbrev ETH2_IRQ_ENABLE : Nat := 0x18c
abbrev ETH2_MAC_LO : Nat := 0x190
abbrev ETH2_MAC_HI : Nat := 0x194
abbrev ETH2_FILT_SEL : Nat := 0x198
abbrev ETH2_FILT_LO : Nat := 0x19c
abbrev ETH2_FILT_HI : Nat := 0x1a0
abbrev ETH2_HALF_LO : Nat := 0x1a4
abbrev ETH2_HALF_HI : Nat := 0x1a8
abbrev ETH2_HALF_EN_LO : Nat := 0x1ac
abbrev ETH2_HALF_EN_HI : Nat := 0x1b0
abbrev ETH2_RING : Nat := 0x1b4
abbrev ETH2_EASE : Nat := 0x1b8
abbrev ETH2_RETRAIN : Nat := 0x1bc
abbrev ARB_PRIO : Nat := 0x1c0
abbrev ARB_STATUS : Nat := 0x1c4
abbrev ARB_WAIT_MAX_A : Nat := 0x1c8
abbrev ARB_WAIT_MAX_B : Nat := 0x1cc
abbrev ARB_WAIT_MAX_C : Nat := 0x1d0
abbrev ARB_WAIT_MAX_D : Nat := 0x1d4
abbrev ARB_DEADLINE_COUNT : Nat := 0x1d8
abbrev ARB_AGED_COUNT : Nat := 0x1dc
abbrev ARB_CTRL : Nat := 0x1e0
abbrev TDM0_CTRL : Nat := 0x200
abbrev TDM0_OUT_EN : Nat := 0x204
abbrev TDM0_IN_EN : Nat := 0x208
abbrev TDM0_COMMIT : Nat := 0x20c
abbrev TDM0_STATUS : Nat := 0x210
abbrev TDM0_ERR_COUNT : Nat := 0x214
abbrev TDM0_IRQ_STATUS : Nat := 0x218
abbrev TDM0_IRQ_ENABLE : Nat := 0x21c
abbrev TDM1_CTRL : Nat := 0x220
abbrev TDM1_OUT_EN : Nat := 0x224
abbrev TDM1_IN_EN : Nat := 0x228
abbrev TDM1_COMMIT : Nat := 0x22c
abbrev TDM1_STATUS : Nat := 0x230
abbrev TDM1_ERR_COUNT : Nat := 0x234
abbrev TDM1_IRQ_STATUS : Nat := 0x238
abbrev TDM1_IRQ_ENABLE : Nat := 0x23c
abbrev TDM2_CTRL : Nat := 0x240
abbrev TDM2_OUT_EN : Nat := 0x244
abbrev TDM2_IN_EN : Nat := 0x248
abbrev TDM2_COMMIT : Nat := 0x24c
abbrev TDM2_STATUS : Nat := 0x250
abbrev TDM2_ERR_COUNT : Nat := 0x254
abbrev TDM2_IRQ_STATUS : Nat := 0x258
abbrev TDM2_IRQ_ENABLE : Nat := 0x25c
abbrev TDM3_CTRL : Nat := 0x260
abbrev TDM3_OUT_EN : Nat := 0x264
abbrev TDM3_IN_EN : Nat := 0x268
abbrev TDM3_COMMIT : Nat := 0x26c
abbrev TDM3_STATUS : Nat := 0x270
abbrev TDM3_ERR_COUNT : Nat := 0x274
abbrev TDM3_IRQ_STATUS : Nat := 0x278
abbrev TDM3_IRQ_ENABLE : Nat := 0x27c
abbrev CAN_CTRL : Nat := 0x280
abbrev CAN_STATUS : Nat := 0x284
abbrev CAN_NBT : Nat := 0x288
abbrev CAN_DBT : Nat := 0x28c
abbrev CAN_ERR : Nat := 0x290
abbrev CAN_IRQ_STATUS : Nat := 0x294
abbrev CAN_IRQ_ENABLE : Nat := 0x298
abbrev CAN_TX_PENDING : Nat := 0x29c
abbrev CAN_TX_REQ : Nat := 0x2a0
abbrev CAN_TX_ABORT : Nat := 0x2a4
abbrev CAN_TX_DONE : Nat := 0x2a8
abbrev CAN_RX_NEW : Nat := 0x2ac
abbrev CAN_TDC : Nat := 0x2b0
abbrev CAN_ACK_RUN : Nat := 0x2b4
abbrev TMR_SEL : Nat := 0x2c0
abbrev TMR_OWNER : Nat := 0x2c4
abbrev TMR_IRQ_STATUS : Nat := 0x2c8
abbrev TMR_IRQ_ENABLE : Nat := 0x2cc
abbrev TMR_CTRL : Nat := 0x2e0
abbrev TMR_COUNT_LO : Nat := 0x2e4
abbrev TMR_COUNT_HI : Nat := 0x2e8
abbrev TMR_CMP_LO : Nat := 0x2ec
abbrev TMR_CMP_HI : Nat := 0x2f0
abbrev TMR_CAP_LO : Nat := 0x2f4
abbrev TMR_CAP_HI : Nat := 0x2f8
abbrev TMR_CH_STATUS : Nat := 0x2fc
abbrev GPIO_IN_LO : Nat := 0x300
abbrev GPIO_IN_HI : Nat := 0x304
abbrev GPIO_OUT_LO : Nat := 0x308
abbrev GPIO_OUT_HI : Nat := 0x30c
abbrev GPIO_DIR_LO : Nat := 0x310
abbrev GPIO_DIR_HI : Nat := 0x314
abbrev GPIO_IRQ_STATUS_LO : Nat := 0x318
abbrev GPIO_IRQ_STATUS_HI : Nat := 0x31c
abbrev GPIO_IRQ_EN_LO : Nat := 0x320
abbrev GPIO_IRQ_EN_HI : Nat := 0x324
abbrev GPIO_CONFLICT_LO : Nat := 0x328
abbrev GPIO_CONFLICT_HI : Nat := 0x32c
abbrev GPIO_LOCKED_LO : Nat := 0x330
abbrev GPIO_LOCKED_HI : Nat := 0x334
abbrev GPIO_LOCK : Nat := 0x338
abbrev GPIO_MISC_STATUS : Nat := 0x33c
abbrev GPIO_MISC_EN : Nat := 0x340
abbrev GPIO_PIN_SEL : Nat := 0x344
abbrev GPIO_PIN_CFG : Nat := 0x348
abbrev GPIO_PAD_GROUP : Nat := 0x34c
abbrev GPIO_MUX_0 : Nat := 0x350
abbrev GPIO_MUX_1 : Nat := 0x354
abbrev GPIO_MUX_2 : Nat := 0x358
abbrev GPIO_XBAR_0 : Nat := 0x35c
abbrev GPIO_XBAR_1 : Nat := 0x360
abbrev GPIO_XBAR_2 : Nat := 0x364
abbrev GPIO_XBAR_3 : Nat := 0x368
abbrev GPIO_XBAR_4 : Nat := 0x36c
abbrev GPIO_XBAR_5 : Nat := 0x370
abbrev GPIO_XBAR_6 : Nat := 0x374
abbrev SCHED_ARMED : Nat := 0x3c0
abbrev SCHED_HELD : Nat := 0x3c4
abbrev SCHED_IRQ_STATUS : Nat := 0x3c8
abbrev SCHED_IRQ_ENABLE : Nat := 0x3cc
abbrev SCHED_MISC_STATUS : Nat := 0x3d0
abbrev SCHED_MISC_EN : Nat := 0x3d4
abbrev SCHED_CANCEL : Nat := 0x3d8
abbrev SCHED_NEXT : Nat := 0x3dc
abbrev LINTEL_STATE_A : Nat := 0x3e0
abbrev LINTEL_STATE_B : Nat := 0x3e4
abbrev LINTEL_IRQ_STATUS : Nat := 0x3e8
abbrev LINTEL_IRQ_ENABLE : Nat := 0x3ec
abbrev LINTEL_IRQ_MISC : Nat := 0x3f0
abbrev LINTEL_IRQ_MISC_EN : Nat := 0x3f4
abbrev LINTEL_PREF : Nat := 0x3f8
end Reg

end Sys2Proof.Machine
end

