-- ==== Sys2Proof/Machine/StateCan.lean ====
section
/-! DEFINITION.
The state of the CAN FD controller, its message objects, the ISO 15765-2 transport and the
diagnostic server (chapter 12). -/

namespace Sys2Proof.Machine

/-- The fault-confinement states (Table 12.3). -/
inductive FcState where | active | passive | busOff
  deriving DecidableEq, Repr

/-- A frame an object received: the frame, local media time in ns within the second, and whether
it is unread and whether one was lost. -/
structure MoFrame where
  frame : CanFrame
  time : Nat
  unread : Bool
  lost : Bool
  deriving DecidableEq, Repr

/-- One message object (R318–R321). -/
structure CanObj where
  enable : Bool
  transmit : Bool
  ide : Bool
  fd : Bool
  brs : Bool
  oneShot : Bool
  id : BitVec 29
  mask : BitVec 29
  data : List Byte
  pending : Bool
  /-- An abort came while the object's frame was on the bus (Table 12.8). -/
  aborting : Bool
  held : Option MoFrame
  deriving DecidableEq, Repr

/-- What CAN_TESTER_SET sets (R340). -/
structure TesterCfg where
  physical : BitVec 29
  functional : BitVec 29
  response : BitVec 29
  ide : Bool
  fd : Bool
  brs : Bool
  txDl : Nat
  secret : Option Word
  deriving DecidableEq, Repr

/-- A segmented message being received, or one complete and not yet handed over (R330). -/
structure IsoRx where
  length : Nat
  bytes : List Byte
  sn : Nat
  block : Nat
  functional : Bool
  deriving DecidableEq, Repr

/-- A message being sent in segments: the bytes left and the next sequence number (R330). -/
structure IsoTx where
  rest : List Byte
  sn : Nat
  deriving DecidableEq, Repr

/-- The diagnostic server (R332–R338). Sessions: 0 default, 1 programming, 2 extended. -/
structure Uds where
  session : Nat
  unlocked : Bool
  seed : Option Word
  wrong : Nat
  delaying : Bool
  /-- A request handed to the next pass, and the SID of one whose response is still to come. -/
  request : Option (List Byte × Bool)
  awaiting : Option Byte
  /-- The last response sent. -/
  response : Option (List Byte)
  /-- A download is open, with the last block counter taken. -/
  download : Bool
  counter : Byte
  /-- The speaker mask, the speaker and the amplifier of the routines last started. -/
  dcMask : Nat
  deriving DecidableEq, Repr

/-- A CAN_SETUP that waits for INIT_ACK (R339). -/
structure CanSetup where
  nbt : Word
  dbt : Word
  ctrl : Word
  enable : Bool
  reply : Source × Byte
  deriving DecidableEq, Repr

/-- The CAN controller and what Ouvoso keeps with it (chapter 12). -/
structure Can where
  objs : Vector CanObj 32
  initAck : Bool
  /-- The timing in effect (R329), and LISTEN_ONLY as taken at exit from INIT. -/
  nbt : Word
  dbt : Word
  listen : Bool
  fc : FcState
  tec : Nat
  recErr : Nat
  lastError : Nat
  recovering : Bool
  /-- The object whose frame is on the bus. -/
  sending : Option (Fin 32)
  /-- The cc at which the suspend transmission of the last frame sent ends (R323). -/
  suspendEnd : Nat
  ackRun : Nat
  alone : Bool
  tdc : Nat
  counters : Vector Nat 16
  setup : List CanSetup
  /-- INIT as it stood at QUIET entry (R329). -/
  quietInit : Bool
  tester : TesterCfg
  rx : Option IsoRx
  tx : Option IsoTx
  /-- Frames' bytes that object 2 has still to send. -/
  out : List (List Byte)
  uds : Uds
  deriving DecidableEq, Repr

end Sys2Proof.Machine
end

