-- ==== Sys2Proof/Machine/StateCore.lean ====
section
/-! DEFINITION.
The state of the host interface, the audio RAM arbiter, the mailboxes, the power and
boot machinery and the configuration journal (chapters 1, 3, 4 and 5). -/

namespace Sys2Proof.Machine

/-! ### SPI slave, snapshot and debug port (chapter 4) -/

/-- Where an SPI transaction stands (R98): between transactions, before its opcode, in a
WRITE or READ burst at a byte address, complete, or ignored to its end. -/
inductive SpiPhase where
  | closed | opcode | writing (addr : U16) | reading (addr : U16) | finished | ignored
  deriving DecidableEq, Repr

/-- The host interface (R97–R113). -/
structure HostPort where
  phase : SpiPhase
  /-- SPI mode 3 was taken at the fall of HCS_N (R97). -/
  mode3 : Bool
  /-- The status byte captured at the fall of HCS_N (R100). -/
  statusByte : Byte
  /-- The last 32-bit word shifted out on HMISO. -/
  hmiso : Word
  /-- The holding registers 0x0800–0x0BFF (R111). -/
  snap : Vector Word 256
  /-- SYS_DBG_STATUS.BUSY: the debug beat requested, `none` when idle (R113). -/
  dbg : Option DbgBeat
  deriving DecidableEq, Repr

/-! ### Arbiter (chapter 1) -/

/-- A requester waiting for the audio RAM (R20–R25): its burst and the cc it has waited. -/
structure Waiting where
  beats : Nat
  waited : Nat
  aged : Bool
  deriving DecidableEq, Repr

/-- The arbiter of the audio RAM (R20–R25). -/
structure Arbiter where
  waiting : Vector (Option Waiting) 8
  /-- The burst in progress: its requester and the beats still to run. -/
  burst : Option (Fin 8 × Nat)
  /-- The round-robin pointer of each of the eight priority levels (R21). -/
  pointer : Vector (Fin 8) 8
  /-- The TDM deadline flag (R24). -/
  deadline : Bool
  /-- The word of the last single-bit interrupt, for Hearth's scrub (R122). -/
  scrub : Option U16
  /-- The words reported with a single-bit error and not rewritten since (R122). -/
  faulty : List U16
  /-- The packet cells in which a double-bit error was met whose frame is still to be discarded (R36). -/
  spoiled : List Nat
  deriving DecidableEq, Repr

/-! ### Mailboxes, events, authority (chapter 5) -/

/-- The state of a mailbox (Table 5.9). -/
inductive MbState where | idle | busy | ready
  deriving DecidableEq, Repr

/-- One mailbox (R126–R131). The windows are 64 words; word 62 and 63 of the response
window are registers and hold nothing here. (DEDUCED, log 59) -/
structure Mailbox where
  request : Vector Word 64
  response : Vector Word 64
  state : MbState
  /-- The command of a BUSY mailbox was taken up in a pass and its response is still to come. -/
  taken : Bool
  refusedDoorbell : Bool
  badDoorbell : Bool
  writeWhileBusy : Bool
  lastTag : Byte
  deriving DecidableEq, Repr

/-- One entry of the event queue (R143). -/
structure Event where
  code : U16
  seq : Byte
  arg : Word
  deriving DecidableEq, Repr

/-- A response as Ouvoso writes it (Table 5.2). -/
structure Response where
  opcode : Nat
  tag : Byte
  status : Nat
  detail : Nat
  pending : Bool
  payload : List Word
  deriving DecidableEq, Repr

/-- Mailboxes, event queue and authority (chapter 5). -/
structure Mail where
  mb : Vector Mailbox 2
  queue : List Event
  nextSeq : Byte
  /-- The entry latched by the last capture of EVQ_HEAD (R143). -/
  latch : Option Event
  ovf : Bool
  lost : Nat
  eventMask : Word
  lastRefusedOpcode : Nat
  lastRefusedStatus : Nat
  /-- Responses that wait for the next pass: those of ETH_PORT_DISABLE (R203). -/
  deferred : List (Source × Response)
  /-- The last response given to the tester and to the remote controller. -/
  testerResponse : Option Response
  remoteResponse : Option Response
  /-- Tester commands answered ACCEPTED whose end is to come: opcode and tag; the final status each
  opcode last ended with; and the argument of the last such OP_DONE (Table 12.6). -/
  testerOps : List (Nat × Byte)
  testerEnds : List (Nat × Nat)
  testerDone : Option Word
  /-- The tester holds the control lock (R142). -/
  lockHeld : Bool
  /-- The mailboxes on which a RESET command was answered: the software reset follows at the release of
  such a response, or 10 ms after READY. -/
  resetDue : List (Fin 2)
  /-- The commands whose response is still to come and whose record R81 withheld: the response has PENDING
  set (R139). -/
  latePending : List (Source × Byte)
  deriving DecidableEq, Repr

/-! ### Power, boot, flash and journal (chapter 3) -/

/-- The device states of Table 0.3. -/
inductive DeviceState where | off | proof | proofHold | boot | active | quiet
  deriving DecidableEq, Repr

/-- One persisted item: its key and its value, `none` where the record removes the key. -/
structure JItem where
  key : Nat
  value : Option (List Word)
  deriving DecidableEq, Repr

/-- One record of a journal bank (R86). `valid`: its CRC-32 matches and its commit word is set. -/
structure JRecord where
  seq : Nat
  item : JItem
  valid : Bool
  deriving DecidableEq, Repr

/-- One journal bank (R86, R87). -/
structure JBank where
  header : Bool
  gen : Nat
  records : List JRecord
  /-- The bank was left part-erased or part-compacted and is erased before use (R92). -/
  dirty : Bool
  deriving DecidableEq, Repr

/-- The header and image of one slot (R75, R93). -/
structure Slot where
  valid : Bool
  seq : Nat
  trial : Bool
  attempted : Bool
  confirmed : Bool
  image : List Word
  digest : List Word
  /-- An erase of the slot was interrupted and is repeated before its next use (R83). -/
  dirty : Bool
  deriving DecidableEq, Repr

/-- The configuration journal and its pending records (R86–R88). -/
structure Journal where
  bankA : JBank
  bankB : JBank
  liveB : Bool
  lastSeq : Nat
  /-- Records not yet started, oldest first. -/
  pending : List JItem
  /-- How many of them, from the oldest, R81 has withheld (R88). -/
  held : Nat
  /-- The record whose program is in progress. -/
  programming : Option JItem
  /-- That record was one of the withheld. -/
  progHeld : Bool
  /-- Compaction is in progress, and the tags of the JOURNAL_COMPACT commands its end answers. -/
  compacting : Bool
  compactTags : List Byte
  /-- The erase of the compaction is done and its record programs run (R87). -/
  copying : Bool
  /-- The erases in progress (R83). -/
  erasing : List EraseTarget
  /-- JOURNAL_DEFAULTS is erasing both banks; the tags its end answers. -/
  defaultsTags : List Byte
  /-- Withheld records written since the last JOURNAL_FLUSHED. -/
  flushed : Nat
  deriving DecidableEq, Repr

/-- The firmware-update session (R150–R152). -/
structure FwuSession where
  holder : Source
  length : Nat
  seq : Nat
  digest : List Word
  /-- Words programmed so far, in order. -/
  received : List Word
  /-- The erase of the target slot has completed. -/
  erased : Bool
  tag : Byte
  deriving DecidableEq, Repr

/-- Flash contents and the update session. -/
structure Flash where
  slotA : Slot
  slotB : Slot
  runningB : Bool
  /-- The factory record passes its CRC (R149). -/
  factoryOk : Bool
  session : Option FwuSession
  deriving DecidableEq, Repr

/-- The supply supervisor (R80–R84). -/
structure Supervisor where
  nvwInhibit : Bool
  crank : Bool
  supplyMute : Bool
  loadDump : Bool
  vddioFault : Bool
  vbatOpen : Bool
  /-- The sample before the next one: VBAT in 10 mV and VDD33 in mV (R80). -/
  prev : Option (Nat × Nat)
  /-- Samples taken since PROOF, up to 2 (PWR_STATUS.NVW_INHIBIT). -/
  samples : Nat
  /-- IOE_MODE as Proof chose it (R50). -/
  ioeMode : Nat
  /-- Die temperatures, 0.25 °C units. -/
  dieA : Int
  dieB : Int
  /-- AMON as last sampled, in mV at the pin. -/
  amon : Nat
  /-- The soft-mute ramp of R84 has ended and the mute lines are held low by it. -/
  muteLinesLow : Bool
  deriving DecidableEq, Repr

/-- Device state, resets and QUIET (R67–R79). -/
structure Power where
  state : DeviceState
  porAsserted : Bool
  rstLow : Bool
  pllLost : Bool
  /-- The Proof step running or last run. -/
  proofStep : Nat
  /-- Proof was stopped because the test access port took the pins (R400). -/
  proofStopped : Bool
  /-- The boot ROM has started a slot (R75). -/
  slotStarted : Bool
  /-- A software reset has been scheduled (R90, RESET, ECUReset). -/
  resetScheduled : Bool
  /-- QUIET_ENTER was taken up: the tag to answer at the end of entry (R77). -/
  quietEntry : Option (Source × Byte)
  /-- The flash programs that the entry waited for have ended, and its second step has begun (R77). -/
  quietBegun : Bool
  /-- QUIET_EXIT was served in QUIET: the tag to answer once ACTIVE is reached. -/
  quietExit : Option (Source × Byte)
  /-- A wake event arrived during QUIET entry (R91). -/
  wakePending : Bool
  /-- Hearth's clock runs in QUIET for a service pass (R78). -/
  quietPass : Bool
  /-- The cc of the frame boundary at which the clocks of the Proof-hold format started (R42). -/
  holdStart : Option Nat
  deriving DecidableEq, Repr

end Sys2Proof.Machine
end

