-- ==== Sys2Proof/Machine/StateEth.lean ====
section
/-! DEFINITION.
The state of the three Ethernet ports and of the remote-controller channel (chapter 7). -/

namespace Sys2Proof.Machine

/-- The port states (Table 7.3). -/
inductive LinkState where | down | training | up | easing
  deriving DecidableEq, Repr

/-- Who takes a received frame (R187, R190). -/
inductive Consumer where | stream | gptp | lintel | remote | hearth
  deriving DecidableEq, Repr

/-- A receive descriptor: its consumer, the 256-byte cells of the packet buffer that hold the frame, and the
VID of its tag, passed to the consumer (R182, R191, Table 1.2). -/
structure RxDesc where
  consumer : Consumer
  cells : List Nat
  vid : Option (BitVec 12)
  deriving DecidableEq, Repr

/-- A set-up that needs a destination address (R189): a listener's or a Lintel group's. -/
inductive FilterUser where
  | listener (index : Fin 16)
  | group (index : Fin 8)
  deriving DecidableEq, Repr

/-- One destination filter entry (R189, R200). `users` are the set-ups for which Ouvoso holds it: OWNER
reads 1 while there are any. -/
structure Filter where
  lo : Word
  hi : U16
  valid : Bool
  users : List FilterUser
  loHalf : Bool
  hiHalf : Bool
  deriving DecidableEq, Repr

/-- A flagged bad frame that Ouvoso keeps (R190): its flags, its length and its first 128 bytes. -/
structure BadFrame where
  flags : Nat
  length : Nat
  head : List Byte
  deriving DecidableEq, Repr

/-- The queues, rings and pause of one port (R186, R191, R196, R197). -/
structure PortTraffic where
  rxSize : Nat
  txSize : Nat
  rxRing : List RxDesc
  /-- The four transmit queues, in the order of R186, each oldest first. -/
  queues : Vector (List TxFrame) 4
  onWire : Option TxFrame
  /-- The quanta of the stop that runs (R197), 0 where none does. -/
  pauseQuanta : Nat
  /-- The source address of the frame on the wire (R200), and the TX_CLK_DELAY it started with. -/
  wireSource : BitVec 48
  txDelay : Nat
  /-- Best-effort frames are held under R196. -/
  holding : Bool
  badFrames : List BadFrame
  /-- The line time of the frames received and sent since the last utilisation window began, in bits,
  preamble and interframe gap included (R199). -/
  rxBits : Nat
  txBits : Nat
  counters : Vector Nat 40
  /-- Credits of the class A and class B shapers, in 10^-9 bit (R221). -/
  credit : Vector Int 2
  deriving DecidableEq, Repr

/-- The link, PHY and easing side of one port (R183–R203). -/
structure PortLink where
  state : LinkState
  speed : Fin 3
  locked : Bool
  phase : BitVec 6
  /-- RX_SAMPLE as taken at the last capture lock (R183). -/
  sample : Nat
  /-- MAX_SPEED as taken at the last entry to TRAINING, 100 Mbit/s at most with VDDIO_E at 3.3 V (R49). -/
  maxSpeed : Nat
  /-- The last poll since TRAINING was entered showed link status 1 and full duplex, and the speed it gave
  (R192, R194). -/
  phyUp : Bool
  phySpeed : Fin 3
  halfDuplex : Bool
  phyAbsent : Bool
  absentPolls : Nat
  reg1 : U16
  reg0 : U16
  /-- The cycle in which the present state was entered (ETH_PORT_STATUS). -/
  since : Nat
  scripts : Vector (List Word) 3
  /-- The script to run next, as a state change or an ease started it (R193). -/
  runScript : Option PhyScript
  easeUp : Bool
  eased : Bool
  /-- The port has eased down since it last left TRAINING (R199). -/
  easedSince : Bool
  easeWithheld : Bool
  /-- The one ETH_EASE event of a withheld decision has been pushed (R199). -/
  easeTold : Bool
  /-- 10 ms windows in a row below the ease-down threshold (R199). -/
  quietWindows : Nat
  util : Nat
  /-- ENABLE was cleared and the frame on the wire completes (R203). -/
  disabling : Bool
  /-- ETH_PORT_DISABLE waits for PORT_IDLE: who asked, and its tag (R203). -/
  disableReply : Option (Source × Byte)
  rxLatency : Nat
  txLatency : Nat
  deriving DecidableEq, Repr

/-- One Ethernet port. -/
structure EthPort where
  link : PortLink
  traffic : PortTraffic
  /-- The committed port address (R200). -/
  mac : BitVec 48
  filters : Vector Filter 8
  deriving DecidableEq, Repr

/-- A remote request answered: its source, SEQ and response (R198). -/
structure RemoteCache where
  source : BitVec 48
  seq : U16
  response : Response
  deriving DecidableEq, Repr

/-- A remote request that waits for a pass (R198). -/
structure RemoteWaiting where
  port : Fin 3
  source : BitVec 48
  seq : U16
  queued : Queued
  deriving DecidableEq, Repr

/-- One MDIO frame as the master drove it (R192): PHY, register, write or read, and data. -/
structure MdioFrame where
  phy : Nat
  register : Nat
  write : Bool
  data : U16
  deriving DecidableEq, Repr

/-- The remote-controller channel (R198): the allow list, the requests that wait, and the last
answer to each source; and the last MDIO frames the master drove (R192, R193). -/
structure Remote where
  mdio : List MdioFrame
  allow : List (BitVec 48)
  waiting : List RemoteWaiting
  /-- Requests taken up whose response is written later (R198). -/
  late : List RemoteWaiting
  cache : List RemoteCache
  deriving DecidableEq, Repr

end Sys2Proof.Machine
end

