-- ==== Sys2Proof/Machine/StateGpio.lean ====
section
/-! DEFINITION.
The state of the general-purpose pins (chapter 13), of the timers and the scheduler (chapter 14),
of the test access port and of the field self-tests (chapter 15). -/

namespace Sys2Proof.Machine

/-- The comparison of a pin that carries a mute line (R65): comparisons in a row that disagreed and
that agreed, and whether the mismatch has been reported. -/
structure MuteWatch where
  disagree : Nat
  agree : Nat
  told : Bool
  deriving DecidableEq, Repr

/-- One general-purpose pin. -/
structure GpioPin where
  /-- The stored bits of GPIO_PIN_CFG of this pin (Table 13.10). -/
  cfg : Word
  locked : Bool
  /-- The recognised pad level (GPIO_IN, R355) and the output of the debounce filter (R356). -/
  raw : Bool
  filt : Bool
  /-- The cc from which the debounce count runs: that of the last change of the level, or the one after
  a change of the code (R356). -/
  since : Nat
  /-- The hold latch: the driven level at the end of cc −1, `none` where the pad was not driven,
  while the latch holds (R352). -/
  hold : Option (Option Bool)
  /-- The cc in which the hold ends (R352). -/
  holdEnd : Nat
  /-- What the pad was driven to at QUIET entry (sleep state 5, R360). -/
  sleepLatch : Option Bool
  /-- The pin's conflict bit (R351). -/
  conflict : Bool
  watch : MuteWatch
  deriving DecidableEq, Repr

/-- Where a lock sequence stands (R358): at its start, the first key seen, a pin named. -/
inductive LockSeq where
  | start | opened | named (pin : Fin 37)
  deriving DecidableEq, Repr

/-- The general-purpose pins and the crossbar (chapter 13). -/
structure Gpio where
  pins : Vector GpioPin 37
  /-- The pin whose filter each function of Table 13.1 sees, `none` for its idle value (R350). -/
  source : Vector (Option (Fin 37)) 25
  inputMulti : Bool
  /-- The lock sequences of the host and of Hearth (R358). -/
  lockHost : LockSeq
  lockHearth : LockSeq
  /-- The pins are in their sleep states (R360). -/
  asleep : Bool
  deriving DecidableEq, Repr

/-- One entry of a capture queue (R376, R378). -/
structure CaptureEntry where
  value : Nat
  falling : Bool
  width : Bool
  deriving DecidableEq, Repr

/-- One timer channel (R371–R379). -/
structure TimerCh where
  /-- TMR_CTRL as in effect, CLEAR aside. -/
  ctrl : Word
  counter : Nat
  /-- Clock cycles since the last advance, and those from it to the next. -/
  sub : Nat
  period : Nat
  cmpLo : Word
  cmpHi : U16
  /-- The compare value in force. -/
  cmp : Nat
  /-- The half written while the other is awaited: `true` for TMR_CMP_HI (R374). -/
  half : Option Bool
  /-- The value was loaded in this cc and is in force from the next: an advance to it makes no match (R374). -/
  loaded : Bool
  queue : List CaptureEntry
  ovfCount : Nat
  /-- The recorded start value while the gate runs (Table 14.1). -/
  gate : Option Nat
  out : Bool
  /-- The latches of TMR_COUNT_HI and TMR_CAP_HI, the host's and then Hearth's (R372). -/
  countHi : Vector U16 2
  capture : Vector (Option CaptureEntry) 2
  deriving DecidableEq, Repr

/-- The timers (chapter 14). -/
structure Timers where
  ch : Vector TimerCh 4
  /-- Keystone owns TMR3 (R379). -/
  owned : Bool
  /-- Hearth's own channel selection (R372). -/
  hearthSel : Fin 4
  /-- The cc of TMR3's latest overflows under Keystone's claim, the newest first (Table 6.1). -/
  overflows : List Nat
  deriving DecidableEq, Repr

/-- The states of a scheduler entry (Table 14.3). -/
inductive SchedState where | free | armed | held | done | missed | cancelled | failed
  deriving DecidableEq, Repr

/-- One scheduler entry (R380–R384). -/
structure SchedEntry where
  state : SchedState
  action : Nat
  lateLimit : Nat
  /-- Its time in ns of local media time, and the two target words of SCHED_SET. -/
  time : Nat
  target : Word
  target2 : Word
  /-- The authority class of its source. -/
  cls : Nat
  reason : Nat
  late : Bool
  lateCancel : Bool
  lateness : Nat
  detail : Nat
  deriving DecidableEq, Repr

/-- The sixteen states of the TAP controller (IEEE 1149.1). -/
inductive TapState where
  | reset | idle | selectDr | captureDr | shiftDr | exit1Dr | pauseDr | exit2Dr | updateDr
  | selectIr | captureIr | shiftIr | exit1Ir | pauseIr | exit2Ir | updateIr
  deriving DecidableEq, Repr

/-- The test access port (chapter 15). -/
structure Tap where
  state : TapState
  /-- The instruction in force, and the instruction shift register. -/
  ir : BitVec 4
  irShift : BitVec 4
  /-- The data shift registers: boundary, device identification, bypass. -/
  boundary : BitVec 225
  ident : Word
  bypass : Bool
  /-- The update latches of the boundary cells; cell 0 is bit 0. -/
  cells : BitVec 225
  /-- The level TDO drives, `none` while it is high-Z. -/
  tdo : Option Bool
  deriving DecidableEq, Repr

/-- The field self-tests (R402, R403). -/
structure SelfTest where
  /-- The mask and the tag of the run in progress. -/
  run : Option (Byte × Byte)
  ran : Byte
  failed : Byte
  /-- 0 never run, 1 running, 2 done, 3 stopped. -/
  state : Nat
  uptime : Nat
  deriving DecidableEq, Repr

end Sys2Proof.Machine
end

