-- ==== Sys2Proof/Machine/StateKeystone.lean ====
section
/-! DEFINITION.
The state of Keystone: the reference table in effect, selection and holdover, the DCO, the
phase moves and local media time (chapter 6). -/

namespace Sys2Proof.Machine

/-- The Keystone states (Table 6.2). -/
inductive KsState where | free | acquire | track | steer | holdover | expired
  deriving DecidableEq, Repr

/-- One reference entry, as in effect (Table 6.1, Table 6.8). -/
structure RefEntry where
  prio : Nat
  enable : Bool
  qualTime : Nat
  qualified : Bool
  present : Bool
  /-- A loss condition was met and is acted on at the next tick (R160). -/
  lost : Bool
  /-- That loss is the entry's port going down for a rate-easing retrain (R174). -/
  plannedLoss : Bool
  deriving DecidableEq, Repr

/-- Keystone (chapter 6). Frequencies in ppt of nominal, moves and offsets in ps. -/
structure Keystone where
  state : KsState
  selected : Fin 8
  refs : Vector RefEntry 8
  /-- SYS_RATE: 0 44.1, 1 48, 2 88.2, 3 96, 4 176.4, 5 192 kHz. -/
  rate : Fin 6
  commitPending : Bool
  /-- ACQUIRE was entered from FREE, STEER, HOLDOVER_EXPIRED, a re-acquire or a rate change: it narrows
  unless entry 6 is selected (R168), and holds steps until TRACK (R171). -/
  wide : Bool
  /-- The family of the rate has changed; ACQUIRE or FREE is entered at the next tick (Configuration). -/
  rateChanged : Bool
  bwStep : Nat
  acqBw : Nat
  trkBw : Nat
  /-- The frequency word the servo, the line of R166, STEER or holdover demands. -/
  baseWord : Nat
  /-- The frequency word the DCO adds each cc (R155), the running move's slope included. -/
  word : Nat
  /-- The integrator of the servo, in ppt (R168, R176). -/
  integrator : Int
  /-- The 48-bit phase accumulator of the DCO, and the points of the edge grid it has marked, modulo
  4096, one frame at 44.1 or 48 kHz (R155). -/
  phase : Nat
  grid : Nat
  /-- The point of the grid at which the present sample period began (R256). -/
  frameGrid : Nat
  /-- The divider codes of MCLK0 and MCLK1 in effect (R157). -/
  mclk : Vector Nat 2
  /-- The line of R166: the word it began at and the ms run of its 1000. -/
  line : Option (Nat × Nat)
  /-- CLK_MOVE_REMAIN: the shift of local media time still to come, held steps included. -/
  remain : Int
  /-- The part of the remainder held until TRACK (R171). -/
  held : Int
  /-- The slope in ns/s taken by the running move (R170). -/
  slope : Nat
  offset : Int
  phaseErr : Int
  /-- DCO frequencies at the ticks of TRACK since the entry was selected, newest first (R173). -/
  history : List Int
  /-- The average as a re-acquire froze it (R178). -/
  frozen : Option Int
  holdFreq : Int
  holdShort : Bool
  planned : Bool
  timeValid : Bool
  /-- Ticks since local media time was last held to an entry 0–4 (R159). -/
  msSinceHeld : Nat
  msInState : Nat
  switches : Nat
  /-- Seed halves written since the last load: LO and HI (R176). -/
  seedLo : Bool
  seedHi : Bool
  /-- Local media time: nanoseconds since second 0 (R158). -/
  ns : Nat
  /-- Its sub-nanosecond part, in units of 1 / `lmtDen` ns. -/
  sub : Nat
  deriving DecidableEq, Repr

/-- The latches of the 48-bit reads (R180): seconds, the HI words of CLK_MOVE_REMAIN and
CLK_OFFSET; and the level of KS_PPS_OUT. -/
structure ClkLatch where
  sec : Nat
  remainHi : Nat
  offsetHi : Nat
  ppsOut : Bool
  deriving DecidableEq, Repr

end Sys2Proof.Machine
end

