-- ==== Sys2Proof/Machine/StateLintel.lean ====
section
/-! DEFINITION.
The state of Lintel: the output groups, what their beacons said, their health, and the beacon
roles of the endpoint's own talkers (chapter 9). Paths A and B are 0 and 1, as are the roles
primary and standby. -/

namespace Sys2Proof.Machine

/-- The group states (Table 9.6). -/
inductive GroupState where | primary | overlapOut | standby | overlapBack | bothLost | stopped
  deriving DecidableEq, Repr

/-- The health results (R247). -/
inductive Health where | unknown | good | suspect | failed
  deriving DecidableEq, Repr

/-- What LINTEL_GROUP_SETUP forms (Table 9.10). -/
structure GroupSetup where
  primary : Fin 16
  standby : Fin 16
  revertive : Bool
  clockGroup : Bool
  noBeacon : Bool
  autostart : Bool
  tag : U16
  /-- OVERLAP in 0.1 ms. -/
  overlap : Nat
  hbTimeout : Nat
  dest : BitVec 48
  /-- REVERT_HOLD in 0.1 s. -/
  revertHold : Nat
  threshold : Nat
  failCount : Nat
  deriving DecidableEq, Repr

/-- A running crossfade (R240): the presentation time of its first sample in ps, its length in samples, the gains
in 2^-30 that the arriving and the leaving path start it with (0 and full, or those a reversed fade has reached,
R241), whether the leaving path is cut, and whether it goes to the standby. -/
structure Fade where
  start : Int
  length : Nat
  arriving : Int
  leaving : Int
  cut : Bool
  toStandby : Bool
  deriving DecidableEq, Repr

/-- What one path's role beacons said last (R235, R236). -/
structure PathBeacon where
  heard : Bool
  missed : Nat
  streaming : Bool
  plannedStop : Bool
  timeBase : U64
  lastSeq : Option U16
  accepted : Nat
  deriving DecidableEq, Repr

/-- The counters of a group (Table 9.10), each wrapping at 2^16 but for BLOCKS_SKIPPED. -/
structure GroupCounts where
  switchOut : Nat
  returns : Nat
  bothLost : Nat
  cut : Nat
  short : Nat
  reversed : Nat
  beaconBad : Nat
  seqGaps : Nat
  compared : Nat
  mismatched : Nat
  skipped : Nat
  deriving DecidableEq, Repr

/-- One output group (R231–R247). -/
structure Group where
  setup : Option GroupSetup
  state : GroupState
  usable : Vector Bool 2
  cause : Nat
  hold : Bool
  /-- Beacons by role and path: entry 2 × role + path. -/
  beacons : Vector PathBeacon 4
  /-- STREAMING and PLANNED_STOP of each role's latest accepted beacon, on either path (R237). -/
  said : Vector (Option (Bool × Bool)) 2
  /-- The cycle in which a frame of each path's stream was last accepted (R236). -/
  frameAt : Vector (Option Nat) 2
  /-- Time-base correction of each path's listener, in ps (R245). -/
  correction : Vector Int 2
  tbDiff : Bool
  tbFar : Vector Bool 2
  fade : Option Fade
  /-- The path in use or arriving: 0 A, 1 B. -/
  inUse : Fin 2
  lastFade : Nat
  /-- The gains of the path in use and of the other while no fade runs, in 2^-30: full and 0, or those at which
  the group was stopped or lost both paths (Table 9.3). -/
  mix : Int × Int
  /-- The ramp of the overall gain, in 2^-30: where it began, where it goes, and the samples of its 64 run
  (Table 9.3). -/
  levelFrom : Int
  levelTo : Int
  levelDone : Nat
  msInState : Nat
  revertMs : Nat
  health : Health
  /-- Consecutive matched and consecutive mismatched blocks (R247). -/
  matchRun : Nat
  missRun : Nat
  healthMask : Nat
  worstChannel : Nat
  worstDb : Int
  /-- A fade or a group-wide wait began in the running block (R247). -/
  blockSpoiled : Bool
  counts : GroupCounts
  deriving DecidableEq, Repr

/-- The beacon role of a talker (LINTEL_TALKER_SET, R248). -/
structure TalkerRole where
  standby : Bool
  tag : U16
  portA : Fin 3
  portB : Fin 3
  dest : BitVec 48
  seqA : U16
  seqB : U16
  deriving DecidableEq, Repr

/-- Lintel (chapter 9): the groups and the talkers' roles. -/
structure Lintel where
  groups : Vector Group 8
  roles : Vector (Option TalkerRole) 8
  /-- The entry named to Keystone (R244). -/
  named : Option (Fin 8)
  /-- What is left, in ps, of a phase move toward a newly selected entry (R245). -/
  glide : Int
  deriving DecidableEq, Repr

end Sys2Proof.Machine
end

