-- ==== Sys2Proof/Machine/StateMeas.lean ====
section
/-! DEFINITION.
The state of speaker measurement, thermal foldback, amplifier control, the I2C buses and the DTCs
(chapter 11). -/

namespace Sys2Proof.Machine

/-- What MEAS_SPEAKER_SET sets (Table 11.12). -/
structure SpeakerSetup where
  enable : Bool
  amp : Fin 4
  load : Nat
  dest : Fin 64
  vfs : Nat
  ifs : Nat
  skew : Int
  shortOhm : Nat
  openOhm : Nat
  rise : Nat
  driftPct : Nat
  driftDeg : Nat
  failN : Nat
  passN : Nat
  dcShort : Nat
  dcOpen : Nat
  dcDriftPct : Nat
  deriving DecidableEq, Repr

/-- What a pilot slot has gathered (R291–R293): the slot, in 15.625 ms of local media time; the samples taken in
its integration window and their weight; the weighted sums, in phase and in quadrature, of voltage and current at
the pilot frequency and 500 Hz below and above it; and what held in any frame of it. -/
structure SlotWatch where
  number : Nat
  samples : Nat
  weight : Int
  voltage : Vector (Int × Int) 3
  current : Vector (Int × Int) 3
  muted : Bool
  fault : Bool
  dcTest : Bool
  stale : Bool
  clip : Bool
  noPilot : Bool
  overcurrent : Bool
  deriving DecidableEq, Repr

/-- Consecutive failures and passes of one test (R294). -/
structure TestRun where
  fails : Nat
  passes : Nat
  deriving DecidableEq, Repr

/-- A baseline being learnt: sums, count, the tag of the command, and its PERSIST (R295). -/
structure Learn where
  sumZ : Nat
  sumPhase : Int
  count : Nat
  tag : Byte
  persist : Bool
  deriving DecidableEq, Repr

/-- One speaker (R287–R298). -/
structure Speaker where
  setup : SpeakerSetup
  baseline : Option (Nat × Int)
  dcBaseline : Option Nat
  lastZ : Nat
  lastPhase : Int
  lastReject : Nat
  accepted : Nat
  rejected : Nat
  runs : Vector TestRun 5
  staleRun : Nat
  acceptRun : Nat
  rdc : Nat
  dcOutcome : Nat
  learn : Option Learn
  deriving DecidableEq, Repr

/-- The parameters of MEAS_CONFIG. Slopes and folds in 0.1 dB, levels as magnitudes in dB. -/
structure MeasConfig where
  pilotEn : Bool
  ampStart : Nat
  ampSlope : Nat
  warnFold : Nat
  dieStart : Nat
  dieSlope : Nat
  faultHold : Nat
  retries : Nat
  amonRatio : Nat
  amonLow : Nat
  amonHigh : Nat
  dcLevel : Nat
  quietLevel : Nat
  deriving DecidableEq, Repr

/-- A foldback target: its magnitude in 0.1 dB and the temperature, in 0.25 °C, that last
lowered it (R299). -/
structure Foldback where
  target : Nat
  temp : Int
  deriving DecidableEq, Repr

/-- The kinds of amplifier scripts (R304). -/
inductive ScriptKind where | start | fault | user
  deriving DecidableEq, Repr

/-- One script step (AMP_SCRIPT_SET): `op` 0 write, 1 verify, 2 delay only, 3 wait for the fault
line high. -/
structure ScriptStep where
  op : Nat
  bytes : Nat
  register : Nat
  delayMs : Nat
  data : Word
  deriving DecidableEq, Repr

/-- One script. -/
structure Script where
  bus : Fin 2
  address : Nat
  fast : Bool
  steps : List ScriptStep
  deriving DecidableEq, Repr

/-- One amplifier (R300, R301, R304). -/
structure Amp where
  /-- AMP_FAULT_Nk is low, after its debounce, and the cc at which it last went high. -/
  faultLow : Bool
  highAt : Nat
  demand : Bool
  latched : Bool
  recoveries : Nat
  /-- The commanded state of AMP_LINE is mute, and the one recorded under a supply mute for its end (R85). -/
  muted : Bool
  recorded : Option Bool
  autoRelease : Bool
  scripts : Vector (Option Script) 3
  fold : Foldback
  /-- The highest temperature and the warning reported since the last evaluation, and those that the last
  evaluation took (R299). -/
  maxTemp : Option Int
  warned : Bool
  temp : Option Int
  warning : Bool
  deriving DecidableEq, Repr

/-- A job on an I2C bus: a script run with its place, or a transfer of AMP_I2C (R302, R304). -/
inductive BusJob where
  | script (amp : Fin 4) (kind : ScriptKind) (step : Nat) (failures : Nat)
      (ended : Option Bool) (reply : Option Byte)
  | transfer (address : Nat) (fast : Bool) (write : List Byte) (readCount : Nat) (reply : Source × Byte)
  deriving DecidableEq, Repr

/-- One I2C bus: its jobs, the one in progress first, and the cc until which a script's delay runs. -/
structure Bus where
  jobs : List BusJob
  stuck : Bool
  delayEnd : Nat
  /-- A retry waits its 1 ms (R304). -/
  retrying : Bool
  deriving DecidableEq, Repr

/-- A DTC as the endpoint keeps it (R308–R310, MEAS_DTC_READ). -/
structure Dtc where
  code : Nat
  status : Byte
  occurrences : Nat
  aging : Nat
  first : Nat
  last : Nat
  value : Int
  vbat : Nat
  die : Int
  deriving DecidableEq, Repr

/-- Samples of voltage and current summed over a part of a DC-resistance test (Table 11.5). -/
structure DcMean where
  samples : Nat
  voltage : Int
  current : Int
  deriving DecidableEq, Repr

/-- The DC level driven into stage 6 (R297, R298): the speaker, the cc at which its sequence started, what was
measured at each level, and, once aborted, the level reached in 2^-30 and the cc of the abort. -/
structure DcDrive where
  speaker : Fin 16
  start : Nat
  plus : DcMean
  minus : DcMean
  abort : Option (Int × Nat)
  deriving DecidableEq, Repr

/-- A bank of the DTC store: its header, its generation and the records programmed since, each a DTC with what it
is to hold, none where it was cleared (R310, R86). -/
structure DtcBank where
  header : Bool
  gen : Nat
  records : List (Nat × Option Dtc)
  deriving DecidableEq, Repr

/-- The DTC store's two banks, and which is live (R310). -/
structure DtcStore where
  bankA : DtcBank
  bankB : DtcBank
  liveB : Bool
  deriving DecidableEq, Repr

/-- The DC-resistance tests of one command: the speakers still to test, the one at the head
first, and the tag. -/
structure DcTest where
  queue : List (Fin 16)
  started : Bool
  tag : Byte
  deriving DecidableEq, Repr

/-- Measurement, amplifiers, monitors and DTCs (chapter 11). -/
structure Meas where
  config : MeasConfig
  speakers : Vector Speaker 16
  amps : Vector Amp 4
  die : Foldback
  buses : Vector Bus 2
  /-- What the pilot slot of each speaker has gathered. -/
  watch : Vector SlotWatch 16
  dcTest : Option DcTest
  drive : Option DcDrive
  /-- The pilot of a speaker disabled in its slot: its destination, the level in 2^-30 and the
  cc it ramps out from (R311). -/
  rampOut : Option (Fin 64 × Int × Nat)
  /-- The statuses in RAM, in ascending order of code, and the store. -/
  dtcs : List Dtc
  store : DtcStore
  /-- The DTCs whose change waits to be programmed (R310). -/
  unsaved : List Nat
  /-- The operation cycle's number (R309). -/
  cycle : Nat
  deriving DecidableEq, Repr

end Sys2Proof.Machine
end

