-- ==== Sys2Proof/Machine/StateRoute.lean ====
section
/-! DEFINITION.
The state of the TDM ports, the routing matrix and the output processing (chapter 10). -/

namespace Sys2Proof.Machine

/-- A TDM configuration, staged or in effect (Table 10.8). -/
structure TdmCfg where
  enable : Bool
  format : Nat
  width : Nat
  slots : Nat
  bclkInv : Bool
  fsyncInv : Bool
  sdiDelay : Nat
  outEn : Word
  inEn : Word
  deriving DecidableEq, Repr

/-- The TDM port states (Table 10.2). -/
inductive TdmState where | off | running | stopping
  deriving DecidableEq, Repr

/-- One TDM port. Slot s of line l is entry 16 × l + s. -/
structure TdmPort where
  staged : TdmCfg
  active : TdmCfg
  pending : Bool
  state : TdmState
  /-- Frames since RUNNING, wrapping at 2^16. -/
  frames : Nat
  underruns : Nat
  overruns : Nat
  /-- TDM_PORT_DISABLE waits for STOPPED (R284). -/
  replies : List (Source × Byte)
  /-- The port stopped for QUIET entry (R262). -/
  quiet : Bool
  /-- The input slots of the last frame, left-justified (R258). -/
  sdi : Vector Word 32
  /-- The slot codes of the frame on the output lines. -/
  sdo : Vector Int 32
  /-- The bits of the last frame that fall in bit position 0 of this one, a line each (R257). -/
  carry : Vector Bool 2
  deriving DecidableEq, Repr

/-- A slot of a line of a port. -/
structure SlotRef where
  port : Fin 4
  line : Fin 2
  slot : Fin 16
  deriving DecidableEq, Repr

/-- What a matrix source is bound to (Table 10.4). -/
inductive SourceKind where
  | unbound
  | listener (index : Fin 16) (channel : Fin 16)
  | group (index : Fin 8) (channel : Fin 16)
  | slot (slot : SlotRef)
  | tone (index : Fin 2)
  | pilot
  deriving DecidableEq, Repr

/-- What a matrix destination is bound to (Table 10.4). -/
inductive DestKind where
  | unbound
  | slot (slot : SlotRef)
  | talker (index : Fin 8) (channel : Fin 16)
  deriving DecidableEq, Repr

/-- A crosspoint with its gain in 2^-22 (R268). -/
structure Xp where
  src : Fin 64
  dst : Fin 64
  gain : Int
  deriving DecidableEq, Repr

/-- A crosspoint of the active bank: the gain it ramps from and the gain it ramps to (R269). -/
structure ActiveXp where
  src : Fin 64
  dst : Fin 64
  start : Int
  gain : Int
  deriving DecidableEq, Repr

/-- One destination and its chain (R267, R271–R276). Gains of the limiter and the mute are in
2^-30, the foldback in 10^-6 of 0.1 dB. -/
structure Dest where
  kind : DestKind
  /-- The words of the binding as they were set, for the journal (R286). -/
  words : List Word
  /-- The amplifier of the AMP field, `none` for 4 to 7. -/
  amp : Option (Fin 4)
  muted : Bool
  /-- Held muted after a supply mute left with AUTO_UNMUTE 0, until commanded (R84). -/
  held : Bool
  /-- The delay in effect, and the one that takes its place when the mute gain has reached zero (R276). -/
  delay : Nat
  newDelay : Option Nat
  /-- RAMP_LEN as it was set. -/
  rampLen : Nat
  thresh : Nat
  attack : Nat
  release : Nat
  gainFrom : Int
  gainTo : Int
  /-- The length of the ramp of DEST_GAIN and its samples done (R273). -/
  gainLen : Nat
  gainDone : Nat
  /-- The length in force for the mute gain, a RAMP_LEN taken at an end of the curve, and the steps up the
  curve (R273). -/
  muteLen : Nat
  muteStep : Nat
  limiter : Int
  foldback : Nat
  line : List Int
  clip : Nat
  /-- The sample of the last period, in 32 bits. -/
  out : Int
  /-- The stage-1 sum of the last period, and the cc of the last one that was not below QUIET_LEVEL (R296). -/
  sum : Int
  loudAt : Nat
  deriving DecidableEq, Repr

/-- A tone generator (R277). -/
structure Tone where
  freq : Nat
  newFreq : Nat
  /-- The level in −0.5 dB, 255 silent, it moves from and to, and the samples of 64 done. -/
  levelFrom : Int
  level : Nat
  levelDone : Nat
  /-- The phase in 1/10 Hz accumulated, of 10 × fs a turn. -/
  phase : Nat
  deriving DecidableEq, Repr

/-- What ROUTE_SENSE_BIND binds (R263). -/
structure SenseBind where
  port : Fin 4
  line : Fin 2
  voltage : Fin 16
  current : Fin 16
  tagged : Bool
  deriving DecidableEq, Repr

/-- The sense slots of one speaker (R263–R265). -/
structure Sense where
  bind : Option SenseBind
  /-- The samples of the last frame, left-justified, and its overcurrent and clipping flags (R264). -/
  voltage : Word
  current : Word
  overcurrent : Bool
  clip : Bool
  lastTag : Option Nat
  /-- Frames in a row with one tag, and with a tag advanced by 1. -/
  same : Nat
  advanced : Nat
  stale : Bool
  deriving DecidableEq, Repr

/-- The routing matrix (R266–R277). -/
structure Route where
  sources : Vector SourceKind 64
  dests : Vector Dest 64
  active : List ActiveXp
  /-- The ramp of the last commit: its length and the samples done. -/
  rampLen : Nat
  rampDone : Nat
  staged : List Xp
  /-- A commit that waits for the sample boundary: its bank and RAMP. -/
  commit : Option (List Xp × Nat)
  /-- ROUTE_COMMIT commands to be answered at the swap (R284). -/
  replies : List (Source × Byte)
  tones : Vector Tone 2
  sense : Vector Sense 16
  /-- The phase of the pilot, in Hz accumulated, of fs a turn. -/
  pilotPhase : Nat
  deriving DecidableEq, Repr

end Sys2Proof.Machine
end

