-- ==== Sys2Proof/Machine/StateStream.lean ====
section
/-! DEFINITION.
The state of the 802.1AS instances and of the stream engine: listeners with their Mortar
regions, talkers, and the counters of each (chapter 8). -/

namespace Sys2Proof.Machine

/-- The port role of an instance (GPTP_STATUS): DisabledPort, SlavePort or none. -/
inductive GptpRole where | disabled | slave | none
  deriving DecidableEq, Repr

/-- One 802.1AS instance (R207–R209). Times are in units of 2^-16 ns. -/
structure Gptp where
  enable : Bool
  role : GptpRole
  asCapable : Bool
  measuring : Bool
  /-- neighborPropDelay in ps. -/
  delayPs : Int
  neighborRatio : Int
  gmRatio : Int
  grandmaster : U64
  steps : Nat
  logSync : Int
  logPdelay : Int
  /-- The initial logPdelayReqInterval of GPTP_SET (Table 8.5). -/
  initLogPdelay : Int
  lostResponses : Nat
  /-- A Pdelay_Req was sent and its exchange is not complete. -/
  awaiting : Bool
  /-- The sequenceId of the last Pdelay_Req, the time it left, and the two times of its response: received here,
  and received by the peer before it (R207, R209). -/
  pdelaySeq : U16
  reqSent : Option Int
  respRecv : Option (Int × Int)
  /-- The last complete exchange: when the peer sent its response and when it was received here. -/
  exchange : Option (Int × Int)
  /-- A two-step Sync that awaits its Follow_Up: when it was received. -/
  syncRecv : Option Int
  /-- The last Sync received whole: its receipt and the grandmaster's time it carried. -/
  lastSync : Option (Int × Int)
  delayThresh : Nat
  allowedLost : Nat
  syncTimeout : Nat
  announceTimeout : Nat
  deriving DecidableEq, Repr

/-- The stream states (Table 8.4), in the order of their codes. -/
inductive StreamState where | idle | waiting | playing | starved | sending | stopping
  deriving DecidableEq, Repr

/-- What LISTENER_SETUP binds (Table 8.8). -/
structure ListenerSetup where
  port : Fin 3
  crf : Bool
  slotB : Bool
  autostart : Bool
  streamId : U64
  dest : BitVec 48
  channels : Nat
  format : Nat
  mttUs : Nat
  rideMs : Nat
  deriving DecidableEq, Repr

/-- The counters of a listener (Table 8.9). -/
structure ListenerCounts where
  accepted : Nat
  late : Nat
  early : Nat
  duplicates : Nat
  overlaps : Nat
  seqGaps : Nat
  mismatch : Nat
  tsInvalid : Nat
  tsUncertain : Nat
  noTime : Nat
  concealed : Nat
  resync : Nat
  discarded : Nat
  deriving DecidableEq, Repr

/-- A filled position of a Mortar region: its number, when its sample is due in ps of local media
time, and one word per channel (R212, R216). -/
structure FilledPos where
  pos : Int
  due : Int
  words : List Word
  deriving DecidableEq, Repr

/-- A listener stream (R212–R228). -/
structure Listener where
  setup : Option ListenerSetup
  state : StreamState
  reason : Nat
  startAt : Option Nat
  stopAt : Option Nat
  /-- The stream's rate against local media time, less 1, in ppt (R214). -/
  rate : Int
  rateBad : Bool
  /-- The filled positions of the region. -/
  filled : List FilledPos
  /-- The first position of the last accepted frame and its presentation time: the positions run on from there
  at the stream's measured sample period (R212). -/
  anchor : Option (Int × Int)
  /-- The last position the readout has inspected (R215). -/
  inspected : Option Int
  /-- The position with which the listener last entered PLAYING: no gap lies before it. -/
  playFrom : Option Int
  /-- How far, in ps, the readout stands from local media time: a relabel has moved local media time and the
  ramp down plays on from where it was (R218). -/
  skew : Int
  /-- A cause of WAITING has come: the listener ramps down and enters WAITING with this reason (R222). -/
  leaving : Option Nat
  /-- Lead of the last accepted frame and the least of any frame since the start, in ns. -/
  lead : Int
  leastLead : Option Int
  lastSeq : Option Byte
  lastMr : Bool
  /-- Samples in the last frame taken (its nominal frame interval). -/
  frameLen : Nat
  unfilledRun : Nat
  lateRun : Nat
  mismatchRun : Nat
  /-- TIMEBASE and FORMAT faults already pushed since the last accepted frame (R228). -/
  toldTimebase : Bool
  toldFormat : Bool
  /-- The ramp: 64ths of full gain reached, and its target (R222, R223). -/
  gain : Nat
  target : Nat
  counts : ListenerCounts
  /-- The Lintel group that includes the stream (R226). -/
  group : Option (Fin 8)
  deriving DecidableEq, Repr

/-- What TALKER_SETUP binds (Table 8.8). -/
structure TalkerSetup where
  port : Fin 3
  classB : Bool
  autostart : Bool
  streamId : U64
  dest : BitVec 48
  channels : Nat
  format : Nat
  presUs : Nat
  spf : Nat
  vid : Nat
  pcp : Nat
  deriving DecidableEq, Repr

/-- A frame a talker has gathered whole: its samples, the local media time in ns of the edge that starts the TDM
input frame carrying the first, and its mr bit (R219, R220). -/
structure TalkerFrame where
  samples : List (List Word)
  edge : Nat
  mr : Bool
  deriving DecidableEq, Repr

/-- A talker stream (R219–R223). -/
structure Talker where
  setup : Option TalkerSetup
  state : StreamState
  reason : Nat
  startAt : Option Nat
  stopAt : Option Nat
  seq : Byte
  mr : Bool
  /-- A relabel or an exit from WAITING makes the next frame toggle mr (R219). -/
  toggle : Bool
  /-- Samples gathered for the frame being built and the edge of the first; the frames built. -/
  gathered : List (List Word)
  firstEdge : Nat
  ready : List TalkerFrame
  /-- The AVTP timestamp of the last frame submitted (R219). -/
  lastStamp : Word
  gain : Nat
  framesSent : Nat
  linkDiscard : Nat
  tuSent : Nat
  deriving DecidableEq, Repr

/-- Who holds Mortar granules (R29): a listener's region or a destination's delay line. -/
inductive MortarOwner where
  | listener (index : Fin 16)
  | delay (dest : Fin 64)
  deriving DecidableEq, Repr

/-- One Mortar allocation: whole, contiguous granules (R29). -/
structure MortarAlloc where
  owner : MortarOwner
  first : Nat
  count : Nat
  deriving DecidableEq, Repr

/-- The stream engine: STREAM_UNKNOWN per port, and streams waiting to be autostarted (R226). -/
structure StreamEngine where
  listeners : Vector Listener 16
  talkers : Vector Talker 8
  unknown : Vector Nat 3
  autostart : Bool
  /-- The CRF slots A and B: their listener, if any holds the slot (R211). -/
  crfSlot : Vector (Option (Fin 16)) 2
  /-- Valid CRF frames received on each slot since the last loss. -/
  crfFrames : Vector Nat 2
  /-- The first timestamp of the last valid CRF frame of each slot, and how many timestamps it carried; whether the
  timestamps run at the nominal rate within ±300 ppm (Table 6.1). -/
  crfLast : Vector (Option (Nat × Nat)) 2
  crfRateOk : Vector Bool 2
  /-- Local media time in ns at the last grid point: the edge that starts the TDM frame in progress (R219). -/
  edge : Nat
  /-- The Mortar allocations and the granules at its top reserved for delay lines (R29, R275). -/
  mortar : List MortarAlloc
  partition : Nat
  deriving DecidableEq, Repr

end Sys2Proof.Machine
end

