-- ==== Sys2Proof/Machine/StateDev.lean ====
section
/-! DEFINITION.
The device: everything the manual gives the endpoint, block by block. -/

namespace Sys2Proof.Machine

/-- The device: every register, FIFO, buffer, counter and mode of the endpoint but the audio RAM.
 (DESIGN CHOICE, log 12) -/
structure Dev where
  /-- The stored bits of the register words 0x0000–0x03FF: RW values, W1C and RWS flags, and the
  RO latches that hardware writes (R6, R104). Fields computed from other state are not stored. -/
  regs : Vector Word 256
  host : HostPort
  arb : Arbiter
  mail : Mail
  power : Power
  flash : Flash
  journal : Journal
  sup : Supervisor
  ks : Keystone
  clk : ClkLatch
  eth : Vector EthPort 3
  remote : Remote
  gptp : Vector Gptp 3
  streams : StreamEngine
  lintel : Lintel
  tdm : Vector TdmPort 4
  route : Route
  meas : Meas
  can : Can
  gpio : Gpio
  timers : Timers
  sched : Vector SchedEntry 32
  tap : Tap
  selfTest : SelfTest
  /-- CLK_CORE cycles since the end of reset (Table 4.8). -/
  cc : Nat
  /-- The model's own counter of free values drawn (not the manual's). -/
  freeIdx : Nat
  deriving DecidableEq, Repr

end Sys2Proof.Machine
end

