-- ==== Sys2Proof/Machine/Reset.lean ====
section
/-! DEFINITION.
What every block holds after a power-on reset, block by block, and the device that a power-on
reset leaves at the start of Proof. -/

namespace Sys2Proof.Machine

/-- The stored bits of the register words after a reset (R124 and the register tables). -/
def resetRegs : Vector Word 256 :=
  Vector.ofFn fun i : Fin 256 => (regInfo (4 * i.val)).elim 0 (·.reset)

/-- The host interface between transactions (R97–R113). (DESIGN CHOICE, log 9) -/
def resetHost : HostPort :=
  { phase := .closed, mode3 := false, statusByte := 0, hmiso := 0, snap := Vector.replicate 256 0, dbg := none }

/-- The arbiter with nothing waiting (chapter 1). (DESIGN CHOICE, log 9) -/
def resetArb : Arbiter :=
  { waiting := Vector.replicate 8 none, burst := none, pointer := Vector.replicate 8 0, deadline := false, scrub := none,
    faulty := [], spoiled := [] }

/-- A mailbox after a reset: IDLE, both windows zero (chapter 5). -/
def resetMailbox : Mailbox :=
  { request := Vector.replicate 64 0, response := Vector.replicate 64 0, state := .idle, taken := false, refusedDoorbell := false,
    badDoorbell := false, writeWhileBusy := false, lastTag := 0 }

/-- Mailboxes, events and authority after a reset. (DESIGN CHOICE, log 9) -/
def resetMail : Mail :=
  { mb := Vector.replicate 2 resetMailbox, queue := [], nextSeq := 0, latch := none, ovf := false, lost := 0,
    eventMask := 0x1FFF, lastRefusedOpcode := 0, lastRefusedStatus := 0, deferred := [],
    testerResponse := none, remoteResponse := none, testerOps := [], testerEnds := [], testerDone := none,
    lockHeld := false, resetDue := [], latePending := [] }

/-- PROOF, as the power-on reset leads to it (Tables 3.9, 3.10). -/
def resetPower : Power :=
  { state := .proof, porAsserted := false, rstLow := false, pllLost := false, proofStep := 1, proofStopped := false, slotStarted := false,
    resetScheduled := false,
    quietEntry := none, quietBegun := false, quietExit := none, wakePending := false, quietPass := false, holdStart := none }

/-- An empty journal bank, with no valid header. -/
def emptyBank : JBank := { header := false, gen := 0, records := [], dirty := false }

/-- The journal as the model finds it: no bank written (R92). -/
def resetJournal : Journal :=
  { bankA := emptyBank, bankB := emptyBank, liveB := false, lastSeq := 0, pending := [], held := 0, programming := none,
    progHeld := false, compacting := false, compactTags := [], copying := false, erasing := [], defaultsTags := [], flushed := 0 }

/-- The flash as the model finds it: a confirmed image in slot A, none in slot B. -/
def resetFlash : Flash :=
  { slotA := { valid := true, seq := 1, trial := false, attempted := false, confirmed := true, image := [], digest := [], dirty := false }
    slotB := { valid := false, seq := 0, trial := false, attempted := false, confirmed := false, image := [], digest := [], dirty := false }
    runningB := false, factoryOk := true, session := none }

/-- The supervisor before its first sample (PWR_STATUS). (DESIGN CHOICE, log 9) -/
def resetSup : Supervisor :=
  { nvwInhibit := true, crank := false, supplyMute := false, loadDump := false, vddioFault := false, vbatOpen := false,
    prev := none, samples := 0, ioeMode := 0, dieA := 0, dieB := 0, amon := 0, muteLinesLow := false }

/-- An entry of the reference table in effect (Table 6.8); entry 7 is the crystal's. -/
def resetRef (n : Fin 8) : RefEntry :=
  let w := (regInfo (Reg.CLK_REF_0 + 4 * n.val)).elim 0 (·.reset)
  { prio := fld w 3 0, enable := n == 7, qualTime := fld w 15 8, qualified := n == 7, present := n == 7,
    lost := false, plannedLoss := false }

/-- Keystone free running on the crystal at 48 kHz (chapter 6). -/
def resetKs : Keystone :=
  { state := .free, selected := 7, refs := Vector.ofFn resetRef, rate := 1, commitPending := false, wide := false, rateChanged := false,
    bwStep := 0, acqBw := 200, trkBw := 50, baseWord := 0x3254E6E221C9, word := 0x3254E6E221C9, integrator := 0,
    phase := 0, grid := 0, frameGrid := 0, mclk := Vector.replicate 2 0, line := none,
    remain := 0, held := 0, slope := 0, offset := 0, phaseErr := 0, history := [], frozen := none, holdFreq := 0,
    holdShort := false, planned := false, timeValid := false, msSinceHeld := 0, msInState := 0, switches := 0,
    seedLo := false, seedHi := false, ns := 0, sub := 0 }

/-- An unused destination filter entry. -/
def emptyFilter : Filter := { lo := 0, hi := 0, valid := false, users := [], loHalf := false, hiHalf := false }

/-- A port in DOWN with its rings of size 0 (chapter 7). (DESIGN CHOICE, log 9) -/
def resetEth : EthPort :=
  { link := { state := .down, speed := 0, locked := false, phase := 0, sample := 0, maxSpeed := 0, phyUp := false,
              phySpeed := 0, halfDuplex := false, phyAbsent := false, absentPolls := 0, reg1 := 0, reg0 := 0,
              since := 0, scripts := Vector.replicate 3 [], runScript := none, easeUp := false, eased := false,
              easedSince := false, easeWithheld := false, easeTold := false, quietWindows := 0, util := 0,
              disabling := false, disableReply := none, rxLatency := 0, txLatency := 0 }
    traffic := { rxSize := 0, txSize := 0, rxRing := [], queues := Vector.replicate 4 [], onWire := none,
                 pauseQuanta := 0, wireSource := 0, txDelay := 0, holding := false, badFrames := [], rxBits := 0, txBits := 0,
                 counters := Vector.replicate 40 0, credit := Vector.replicate 2 0 }
    mac := 0
    filters := Vector.replicate 8 emptyFilter }

/-- The remote-controller channel with nothing in it. -/
def resetRemote : Remote := { mdio := [], allow := [], waiting := [], late := [], cache := [] }

/-- An 802.1AS instance with the defaults of Table 8.5. (DESIGN CHOICE, log 9) -/
def resetGptp : Gptp :=
  { enable := false, role := .disabled, asCapable := false, measuring := false, delayPs := 0, neighborRatio := 0,
    gmRatio := 0, grandmaster := 0, steps := 0, logSync := -3, logPdelay := 0, initLogPdelay := 0, lostResponses := 0,
    awaiting := false, pdelaySeq := 0, reqSent := none, respRecv := none, exchange := none, syncRecv := none,
    lastSync := none, delayThresh := 800, allowedLost := 9, syncTimeout := 3, announceTimeout := 3 }

/-- The counters of a listener at zero. -/
def zeroCounts : ListenerCounts := ⟨0, 0, 0, 0, 0, 0, 0, 0, 0, 0, 0, 0, 0⟩

/-- A listener not set up. (DESIGN CHOICE, log 9) -/
def resetListener : Listener :=
  { setup := none, state := .idle, reason := 0, startAt := none, stopAt := none, rate := 0, rateBad := false,
    filled := [], anchor := none, inspected := none, playFrom := none, skew := 0, leaving := none, lead := 0, leastLead := none, lastSeq := none, lastMr := false, frameLen := 0, unfilledRun := 0,
    lateRun := 0, mismatchRun := 0, toldTimebase := false, toldFormat := false, gain := 0, target := 0,
    counts := zeroCounts, group := none }

/-- A talker not set up. -/
def resetTalker : Talker :=
  { setup := none, state := .idle, reason := 0, startAt := none, stopAt := none, seq := 0, mr := false, toggle := false,
    gathered := [], firstEdge := 0, ready := [], lastStamp := 0, gain := 0, framesSent := 0, linkDiscard := 0, tuSent := 0 }

/-- The stream engine with no stream set up (chapter 8). -/
def resetStreams : StreamEngine :=
  { listeners := Vector.replicate 16 resetListener, talkers := Vector.replicate 8 resetTalker,
    unknown := Vector.replicate 3 0, autostart := false, crfSlot := Vector.replicate 2 none,
    crfFrames := Vector.replicate 2 0, crfLast := Vector.replicate 2 none, crfRateOk := Vector.replicate 2 false,
    edge := 0, mortar := [], partition := 0 }

/-- A group as it is while no beacon has been heard. -/
def idleGroup (s : Option GroupSetup) : Group :=
  { setup := s, state := .stopped, usable := Vector.replicate 2 false, cause := 0, hold := false,
    beacons := Vector.replicate 4 ⟨false, 0, false, false, 0, none, 0⟩, said := Vector.replicate 2 none,
    frameAt := Vector.replicate 2 none,
    correction := Vector.replicate 2 0, tbDiff := false, tbFar := Vector.replicate 2 false, fade := none,
    inUse := 0, lastFade := 0, mix := (2 ^ 30, 0), levelFrom := 0, levelTo := 0, levelDone := 64, msInState := 0, revertMs := 0, health := .unknown,
    matchRun := 0, missRun := 0, healthMask := 0, worstChannel := 0, worstDb := 0, blockSpoiled := false,
    counts := ⟨0, 0, 0, 0, 0, 0, 0, 0, 0, 0, 0⟩ }

/-- Lintel with no group and no talker role (chapter 9). -/
def resetLintel : Lintel :=
  { groups := Vector.replicate 8 (idleGroup none), roles := Vector.replicate 8 none, named := none, glide := 0 }

/-- A TDM configuration as its registers reset (Table 10.8). -/
def resetTdmCfg : TdmCfg :=
  { enable := false, format := 0, width := 0, slots := 0, bclkInv := false, fsyncInv := false, sdiDelay := 0,
    outEn := 0, inEn := 0 }

/-- A TDM port in OFF (chapter 10). (DESIGN CHOICE, log 9) -/
def resetTdm : TdmPort :=
  { staged := resetTdmCfg, active := resetTdmCfg, pending := false, state := .off, frames := 0, underruns := 0,
    overruns := 0, replies := [], quiet := false, sdi := Vector.replicate 32 0, sdo := Vector.replicate 32 0,
    carry := Vector.replicate 2 false }

/-- An unbound destination with the defaults of chapter 10. (DESIGN CHOICE, log 9) -/
def resetDest : Dest :=
  { kind := .unbound, words := [], amp := none, muted := false, held := false, delay := 0, newDelay := none,
    rampLen := 64, thresh := 0, attack := 10, release := 20, gainFrom := 4194304, gainTo := 4194304, gainLen := 64,
    gainDone := 64, muteLen := 64, muteStep := 64, limiter := 1073741824, foldback := 0, line := [], clip := 0, out := 0,
    sum := 0, loudAt := 0 }

/-- A silent tone generator. -/
def resetTone : Tone :=
  { freq := 0, newFreq := 0, levelFrom := 0, level := 255, levelDone := 64, phase := 0 }

/-- A speaker with no sense binding. -/
def resetSense : Sense :=
  { bind := none, voltage := 0, current := 0, overcurrent := false, clip := false, lastTag := none, same := 0,
    advanced := 0, stale := false }

/-- The matrix with nothing bound and both banks empty. -/
def resetRoute : Route :=
  { sources := Vector.replicate 64 .unbound, dests := Vector.replicate 64 resetDest, active := [], rampLen := 0,
    rampDone := 0, staged := [], commit := none, replies := [], tones := Vector.replicate 2 resetTone,
    sense := Vector.replicate 16 resetSense, pilotPhase := 0 }

/-- A speaker not enabled, with the defaults of Tables 11.4 and 11.12. (DESIGN CHOICE, log 9) -/
def resetSpeaker : Speaker :=
  { setup := { enable := false, amp := 0, load := 0, dest := 0, vfs := 0, ifs := 0, skew := 0, shortOhm := 100,
               openOhm := 4000, rise := 160, driftPct := 25, driftDeg := 20, failN := 4, passN := 8, dcShort := 50,
               dcOpen := 4000, dcDriftPct := 15 }
    baseline := none, dcBaseline := none, lastZ := 0, lastPhase := 0, lastReject := 0, accepted := 0, rejected := 0,
    runs := Vector.replicate 5 ⟨0, 0⟩, staleRun := 0, acceptRun := 0, rdc := 0, dcOutcome := 0, learn := none }

/-- An amplifier with no script, its line commanded to mute (R44). -/
def resetAmp : Amp :=
  { faultLow := false, highAt := 0, demand := false, latched := false, recoveries := 0, muted := true,
    recorded := none, autoRelease := false, scripts := Vector.replicate 3 none, fold := ⟨0, 0⟩, maxTemp := none,
    warned := false, temp := none, warning := false }

/-- A pilot slot of which nothing has been gathered. -/
def freshWatch (number : Nat) : SlotWatch :=
  { number := number, samples := 0, weight := 0, voltage := Vector.replicate 3 (0, 0),
    current := Vector.replicate 3 (0, 0), muted := false, fault := false, dcTest := false, stale := false,
    clip := false, noPilot := false, overcurrent := false }

/-- Measurement after a reset (chapter 11); `dtcs`, `store` and `cycle` are the flash's. -/
def resetMeas : Meas :=
  { config := { pilotEn := true, ampStart := 110, ampSlope := 10, warnFold := 60, dieStart := 135, dieSlope := 15,
                faultHold := 10, retries := 3, amonRatio := 0, amonLow := 0, amonHigh := 0, dcLevel := 34, quietLevel := 60 }
    speakers := Vector.replicate 16 resetSpeaker, amps := Vector.replicate 4 resetAmp, die := ⟨0, 0⟩,
    buses := Vector.replicate 2 ⟨[], false, 0, false⟩, watch := Vector.replicate 16 (freshWatch 0), dcTest := none, drive := none, rampOut := none, dtcs := [],
    store := ⟨⟨false, 0, []⟩, ⟨false, 0, []⟩, false⟩, unsaved := [], cycle := 0 }

/-- A message object not enabled. -/
def resetObj : CanObj :=
  { enable := false, transmit := false, ide := false, fd := false, brs := false, oneShot := false, id := 0, mask := 0,
    data := [], pending := false, aborting := false, held := none }

/-- The default session of the diagnostic server. -/
def resetUds : Uds :=
  { session := 0, unlocked := false, seed := none, wrong := 0, delaying := false, request := none, awaiting := none,
    response := none, download := false, counter := 0, dcMask := 0 }

/-- The CAN controller in INIT with the reset timing, the tester's identifiers as R340 gives them. -/
def resetCan : Can :=
  { objs := Vector.replicate 32 resetObj, initAck := true, nbt := 0x13269C09, dbt := 0xC8811249, listen := false,
    fc := .active, tec := 0, recErr := 0, lastError := 0, recovering := false, sending := none, suspendEnd := 0, ackRun := 0,
    alone := false, tdc := 0, counters := Vector.replicate 16 0, setup := [], quietInit := false
    tester := { physical := 0x7A4, functional := 0x7DF, response := 0x7AC, ide := false, fd := false, brs := false,
                txDl := 8, secret := none }
    rx := none, tx := none, out := [], uds := resetUds }

/-- GPIO_PIN_CFG of a pin after a reset (Table 13.11). -/
def resetPinCfg (p : Fin 37) : Word :=
  if p.val < 4 then 0x00010012 else if p.val < 8 then 0x00030010 else if p.val < 12 then 0x00020010 else 0x00000011

/-- The general-purpose pins after a reset, functions 0 to 11 on GP0 to GP11 (R365). (DESIGN CHOICE, log 9) -/
def resetGpio : Gpio :=
  { pins := Vector.ofFn fun p : Fin 37 =>
      { cfg := resetPinCfg p, locked := false, raw := false
        filt := p.val < 4 || (8 ≤ p.val && p.val < 12)
        since := 0, hold := none, holdEnd := 0, sleepLatch := none, conflict := false, watch := ⟨0, 0, false⟩ }
    source := Vector.ofFn fun f : Fin 25 =>
      if f.val < 4 ∨ (8 ≤ f.val ∧ f.val < 12) then some (f.castLE (by omega)) else none
    inputMulti := false, lockHost := .start, lockHearth := .start, asleep := false }

/-- The reset values of a channel (R386). (DESIGN CHOICE, log 9) -/
def TimerCh.reset : TimerCh :=
  { ctrl := 0, counter := 0, sub := 0, period := 1, cmpLo := 0, cmpHi := 0, cmp := 0, half := none, loaded := false, queue := [],
    ovfCount := 0, gate := none, out := false, countHi := Vector.replicate 2 0, capture := Vector.replicate 2 none }

/-- A free scheduler entry. -/
def SchedEntry.reset : SchedEntry :=
  { state := .free, action := 0, lateLimit := 0, time := 0, target := 0, target2 := 0, cls := 0, reason := 0,
    late := false, lateCancel := false, lateness := 0, detail := 0 }

/-- The TAP in Test-Logic-Reset, IDCODE loaded (R394). (DESIGN CHOICE, log 9) -/
def resetTap : Tap :=
  { state := .reset, ir := 1, irShift := 0, boundary := 0, ident := 0, bypass := false, cells := 0, tdo := none }

/-- The device as a power-on reset leaves it at the start of Proof. (DESIGN CHOICE, log 9, 10) -/
def Dev.initial : Dev :=
  { regs := resetRegs, host := resetHost, arb := resetArb, mail := resetMail, power := resetPower,
    flash := resetFlash, journal := resetJournal, sup := resetSup, ks := resetKs, clk := ⟨0, 0, 0, false⟩,
    eth := Vector.replicate 3 resetEth, remote := resetRemote, gptp := Vector.replicate 3 resetGptp,
    streams := resetStreams, lintel := resetLintel, tdm := Vector.replicate 4 resetTdm, route := resetRoute,
    meas := resetMeas, can := resetCan, gpio := resetGpio, timers := ⟨Vector.replicate 4 .reset, false, 0, []⟩,
    sched := Vector.replicate 32 .reset, tap := resetTap, selfTest := ⟨none, 0, 0, 0, 0⟩, cc := 0, freeIdx := 0 }

end Sys2Proof.Machine
end

