-- ==== Sys2Proof/Machine/State.lean ====
section
/-! DEFINITION.
The state of the block: the device, which holds everything the manual gives the endpoint but the
audio RAM; the audio RAM; and the queue of commands that wait, first in, first out. The ways a step
stops, and the reset state. -/

namespace Sys2Proof.Machine

/-- The state: the device, the audio RAM, and the commands that wait, the first to be taken first.
 (DESIGN CHOICE, log 8) -/
structure State where
  dev : Dev
  /-- The audio RAM, byte by byte, in canonical form (R18). -/
  ram : List Host.Cell
  pending : List Instr
  deriving DecidableEq, Repr

/-- A behaviour the manual calls undefined and gives no effect. -/
inductive Fault where
  /-- RST_N low from 200 ns to below 1 µs (Table 3.2), raised by RST_N_ASSERT. Safe: the run stops. -/
  | rstPulseUndefined
  deriving DecidableEq, Repr

/-- A command the model does not run. -/
inductive Refusal where
  /-- Raised by an arm of `exec` whose command has no meaning yet. Safe: the run stops. -/
  | notModelled (mnemonic : String)
  deriving DecidableEq, Repr

/-- The machine right after a power-on reset, at the start of Proof, with no command waiting.
 (DESIGN CHOICE, log 2, 11) -/
def State.reset : State := { dev := Dev.initial, ram := [], pending := [] }

end Sys2Proof.Machine
end

