-- ==== Sys2Proof/Machine/Ops.lean ====
section
/-! DEFINITION.
The named operations every meaning is written with: stored register bits, interrupt flags,
the event queue, the audio RAM and the draw of a free value. -/

namespace Sys2Proof.Machine

namespace Dev

/-- The stored bits of the register word at a byte address. -/
def reg (d : Dev) (a : Nat) : Word := d.regs[a / 4]?.getD 0

/-- Store a whole register word. -/
def setReg (d : Dev) (a : Nat) (w : Word) : Dev := { d with regs := d.regs.setIfInBounds (a / 4) w }

/-- A stored field as a number. -/
def rfld (d : Dev) (a hi lo : Nat) : Nat := fld (d.reg a) hi lo

/-- A stored bit. -/
def rbit (d : Dev) (a i : Nat) : Bool := (d.reg a).getLsbD i

/-- Store a field, the other bits of the word kept. -/
def setRfld (d : Dev) (a hi lo v : Nat) : Dev := d.setReg a (setFld (d.reg a) hi lo v)

/-- Store a bit, the other bits of the word kept. -/
def setRbit (d : Dev) (a i : Nat) (b : Bool) : Dev := d.setRfld a i i (if b then 1 else 0)

/-- Hardware sets flags of a status register; flags already set stay (R6, R12). -/
def raise (d : Dev) (a : Nat) (m : Word) : Dev := d.setReg a (d.reg a ||| m)

/-- Hardware sets one flag of a status register. -/
def raiseBit (d : Dev) (a i : Nat) : Dev := d.raise a (bitW i true)

/-- Hardware sets one flag where a condition holds. -/
def raiseIf (d : Dev) (c : Bool) (a i : Nat) : Dev := if c then d.raiseBit a i else d

/-- The index of the next free value, and the device with the counter advanced. (DESIGN CHOICE, log 12) -/
def fresh (d : Dev) : Nat × Dev := (d.freeIdx, { d with freeIdx := d.freeIdx + 1 })

/-- The group of an event is pushed: group 0x00 always, the others by EVENT_MASK (R145). -/
def eventEnabled (d : Dev) (code : Nat) : Bool :=
  code / 256 == 0 || d.mail.eventMask.getLsbD (code / 256)

/-- The push of an enabled event on the queue (R143, R144): at 32 entries the new one is
discarded, OVF set and LOST counted, saturating at 255; the sequence number advances either way. -/
def pushMail (m : Mail) (code : Nat) (arg : Word) : Mail :=
  if m.queue.length < 32 then
    { m with queue := m.queue ++ [⟨BitVec.ofNat 16 code, m.nextSeq, arg⟩], nextSeq := m.nextSeq + 1 }
  else
    { m with ovf := true, lost := satInc 255 m.lost, nextSeq := m.nextSeq + 1 }

/-- Push an event if its group is enabled (R143–R145). -/
def push (d : Dev) (code : Nat) (arg : Word) : Dev :=
  if d.eventEnabled code then { d with mail := pushMail d.mail code arg } else d

/-- Push an event where a condition holds. -/
def pushIf (d : Dev) (c : Bool) (code : Nat) (arg : Word) : Dev := if c then d.push code arg else d

/-- The end of a tester command is kept for the routines of Table 12.6. -/
def testerEnd (m : Mail) (opcode status : Nat) (tag : Byte) (arg : Word) : Mail :=
  if m.testerOps.contains (opcode, tag) then
    { m with
      testerOps := m.testerOps.erase (opcode, tag)
      testerEnds := (opcode, status) :: m.testerEnds.filter fun e => e.1 != opcode
      testerDone := some arg }
  else m

/-- The end of work that was answered ACCEPTED: event OP_DONE (R135, Table 5.6). -/
def opDone (d : Dev) (opcode status : Nat) (tag : Byte) : Dev :=
  let arg := at' 16 opcode ||| at' 8 status ||| tag.setWidth 32
  ({ d with mail := testerEnd d.mail opcode status tag arg } : Dev).push 0x0004 arg

end Dev

/-! ### The audio RAM (R18, R19) -/

/-- What a byte of the audio RAM that nothing has written reads as (the manual gives none). (DESIGN CHOICE, log 7) -/
def ramDefault : Byte := 0

/-- Read one byte of a memory in canonical form. -/
def readCell : List Host.Cell → Nat → Byte
  | [], _ => ramDefault
  | (k, b) :: t, a => if k == a then b else if a < k then ramDefault else readCell t a

/-- Write one byte, keeping the canonical form: addresses rise and no entry holds the default. -/
def writeCell : List Host.Cell → Nat → Byte → List Host.Cell
  | [], a, b => if b == ramDefault then [] else [(a, b)]
  | (k, c) :: t, a, b =>
    if k == a then (if b == ramDefault then t else (a, b) :: t)
    else if a < k then (if b == ramDefault then (k, c) :: t else (a, b) :: (k, c) :: t)
    else (k, c) :: writeCell t a b

/-- The canonical form: addresses inside the 512 KB and strictly rising, no entry at the default. -/
def Memory.wf : List Host.Cell → Bool
  | [] => true
  | [(a, b)] => a < 524288 && b != ramDefault
  | (a, b) :: (a', b') :: t => a < a' && b != ramDefault && Memory.wf ((a', b') :: t)

/-- Write a list of bytes from an address upward. -/
def writeBytes (m : List Host.Cell) (a : Nat) : List Byte → List Host.Cell
  | [] => m
  | b :: t => writeBytes (writeCell m a b) (a + 1) t

/-- The bytes of a 64-bit word, least significant first. -/
def bytes64 (w : U64) : List Byte := (List.range 8).map fun i => w.extractLsb' (8 * i) 8

/-- One beat's read of the 64-bit word `word` (R19): its bytes, the lowest least significant. -/
def readWord64 (m : List Host.Cell) (word : U16) : U64 :=
  (List.range 8).foldr (fun i w => w <<< 8 ||| (readCell m (8 * word.toNat + i)).setWidth 64) 0

/-- One beat's write of the 64-bit word `word` (R19). -/
def writeWord64 (m : List Host.Cell) (word : U16) (w : U64) : List Host.Cell :=
  writeBytes m (8 * word.toNat) (bytes64 w)

end Sys2Proof.Machine
end

