-- ==== Sys2Proof/Machine/Curve.lean ====
section
/-! DEFINITION.
The arithmetic of the audio path: rounding, one step of a filter, and the raised cosine, the sine and the
decibel, which the manual names by their formulas (chapters 8 to 11).

A curve is computed in units of 2^-62 with an error far below 2^-50 and then narrowed: the result is exact
where the value is a whole number of the unit asked for, and one of its two neighbours elsewhere, since the
manual gives the formula and not its rounding. (DESIGN CHOICE, log 15) -/

namespace Sys2Proof.Machine

/-- A quotient that is exact where it is a whole number, and otherwise one of its two neighbours, the manual
giving no rounding. (DESIGN CHOICE, log 15) -/
def narrow (num : Int) (den : Nat) : Int :=
  if num % den = 0 then num / den else num / den + (if Config.roundUp num den then 1 else 0)

/-- A quotient rounded to the nearest whole number (R210, R258). Of a half the manual does not say which way it
goes. (DESIGN CHOICE, log 15) -/
def nearest (x : Int) (den : Nat) : Int :=
  let twice := 2 * (x % den)
  x / den + (if twice > den then 1 else if twice = den then (if Config.roundUp x den then 1 else 0) else 0)

/-- A value that a filter's step leaves somewhere between what it held and what it follows: the manual gives a
time constant and no difference equation. (DESIGN CHOICE, log 16) -/
def toward (held goal free : Int) : Int := clampI (min held goal) (max held goal) free

/-- A value in 2^-62 as a whole number of 2^-(62 - k): one of its neighbours, and itself where it is whole. -/
def unitOf (k : Nat) (x : Int) : Int :=
  let unit : Nat := 2 ^ k
  let rest := x % unit
  if rest ≤ 2048 then x / unit else if unit - rest ≤ 2048 then x / unit + 1 else narrow x unit

/-- The terms of the series of the cosine (`step` 2, from 1) and of the exponential (`step` 1), each from the one
before: `next j` is what divides term j + 1. -/
def seriesFrom (factor : Int) (next : Nat → Nat) : Nat → Nat → Int → Int
  | 0, _, _ => 0
  | fuel + 1, j, term => term + seriesFrom factor next fuel (j + 1) (-(term * factor) / 2 ^ 62 / next j)

/-- cos(π × num / den) in 2^-62, for num / den from 0 to 1/2. -/
def cosPi (num den : Nat) : Int :=
  let angle : Int := 14488038916154245685 * num / den
  seriesFrom (angle * angle / 2 ^ 62) (fun j => (2 * j + 1) * (2 * j + 2)) 20 0 (2 ^ 62)

/-- ½ (1 − cos(π k / n)) in 2^-62, for k from 0 to n (R215, R240). -/
def cosineRise (k n : Nat) : Int :=
  if 2 * k ≤ n then (2 ^ 62 - cosPi k n) / 2 else (2 ^ 62 + cosPi (n - k) n) / 2

/-- The raised-cosine curve of `n` steps at step `k`, in 2^-30 (R215, R240). -/
def raisedCos (k n : Nat) : Int :=
  if k = 0 then 0 else if n ≤ k then 2 ^ 30 else unitOf 32 (cosineRise k n)

/-- sin(π × num / den) in 2^-62, for num / den from 0 to 1. -/
def sinPi (num den : Nat) : Int :=
  if 2 * num ≤ den then cosPi (den - 2 * num) (2 * den) else cosPi (2 * num - den) (2 * den)

/-- A sine of full scale, in 2^-31, at `phase` of a `turn` (R277, R289). -/
def sineOf (phase turn : Nat) : Int :=
  let m := 2 * (phase % turn)
  if m = 0 then 0 else if m ≤ turn then unitOf 31 (sinPi m turn) else -unitOf 31 (sinPi (m - turn) turn)

/-- The linear factor of an attenuation of `n` × 10^-7 dB, in 2^-62: 10^(-n / (2 × 10^8)) (chapters 10, 11). -/
def dbFactor (n : Nat) : Int :=
  let z := n * 10618799479599967255 / 200000000
  seriesFrom (z % 3196577161300663915 : Nat) (fun j => j + 1) 28 0 (2 ^ 62) / 2 ^ (z / 3196577161300663915)

/-- An attenuation in 10^-7 dB as a linear factor in 2^-30. -/
def dbLin (n : Nat) : Int := if n = 0 then 2 ^ 30 else unitOf 32 (dbFactor n)

end Sys2Proof.Machine
end

