-- ==== Sys2Proof/Machine/Keystone.lean ====
section
/-! DEFINITION.
Keystone: reference qualification and selection, its state machine, the DCO, phase moves,
holdover and local media time (chapter 6). -/

namespace Sys2Proof.Machine

/-! ### The DCO and local media time (R155–R158) -/

/-- The rate code is of the 44.1 kHz family: 44.1, 88.2 or 176.4 kHz. -/
def rateIs441 (r : Fin 6) : Bool := r.val % 2 == 0

/-- The system rate in Hz of a rate code (SYS_RATE). -/
def rateHz (r : Fin 6) : Nat := [44100, 48000, 88200, 96000, 176400, 192000].getD r.val 48000

/-- Units one channel counts at a rate (R27). -/
def rateUnits (r : Fin 6) : Nat := 2 ^ (r.val / 2)

/-- The nominal frequency word of a family (R156). -/
def nominalWord (r : Fin 6) : Nat := if rateIs441 r then 0x2E3E00EC8F0A else 0x3254E6E221C9

/-- Parts of a nanosecond in which local media time is kept exactly: the advance of one cc is
a whole number of them for both families (R155, R158). -/
def lmtDen : Nat := 2 ^ 48 * 225792 * 125

/-- The advance of local media time in one cc, in units of 1 / `lmtDen` ns: one tick of F_T is
15625/1536 ns in the 48 kHz family and 78125/7056 ns in the 44.1 kHz family (R155, R158). -/
def lmtStep (r : Fin 6) (word : Nat) : Nat :=
  if rateIs441 r then 78125 * 32 * 125 * word else 15625 * 147 * 125 * word

/-- Local media time as one number of 1 / `lmtDen` ns. -/
def Keystone.lmt (k : Keystone) : Nat := k.ns * lmtDen + k.sub

/-- Set local media time, wrapping at 2^48 seconds (R158). -/
def Keystone.setLmt (k : Keystone) (t : Nat) : Keystone :=
  { k with ns := t / lmtDen % (2 ^ 48 * 1000000000), sub := t % lmtDen }

/-- One cc of local media time. -/
def Keystone.advance (k : Keystone) : Keystone := k.setLmt (k.lmt + lmtStep k.rate k.word)

/-- One cc of the phase accumulator: each wrap and each crossing of its half range marks one point of the
edge grid (R155). -/
def Keystone.accumulate (k : Keystone) : Keystone :=
  let p := k.phase + k.word
  { k with phase := p % 2 ^ 48, grid := (k.grid + (p / 2 ^ 47 - k.phase / 2 ^ 47)) % 4096 }

/-- An MCLK output of a divider code rises at this point of the grid: codes 1 to 4 divide F_T by 4, 8, 16
or 32, the grid runs at 2 × F_T, and code 0 is held low (R155, R157, Table 6.9). -/
def mclkRises (code grid : Nat) : Bool := code != 0 && grid % 2 ^ (code + 2) == 0

/-- The level of an MCLK output of a divider code at a point of the grid (R157). -/
def mclkHigh (code grid : Nat) : Bool := code != 0 && grid % 2 ^ (code + 2) < 2 ^ (code + 1)

/-- The divider code in effect after a grid point: a new one is taken where the old and the new output both
rise; an output held low, which never rises, is waited for on the other alone (R157). (DESIGN CHOICE, log 138) -/
def mclkNext (old new grid : Nat) : Nat :=
  if (old == 0 || mclkRises old grid) && (new == 0 || mclkRises new grid) then new else old

/-- The seconds and the nanoseconds of local media time. -/
def Keystone.sec (k : Keystone) : Nat := k.ns / 1000000000
/-- The nanoseconds within the second. -/
def Keystone.nsec (k : Keystone) : Nat := k.ns % 1000000000

/-- The word of a frequency given in ppt of nominal (R169). (DESIGN CHOICE, log 18) -/
def wordOfPpt (r : Fin 6) (ppt : Int) : Nat :=
  (roundDiv ((nominalWord r : Int) * (10 ^ 12 + ppt)) (10 ^ 12)).toNat

/-- The frequency of a word in ppt of nominal (CLK_FREQ_NOW). -/
def pptOfWord (r : Fin 6) (w : Nat) : Int :=
  roundDiv (((w : Int) - nominalWord r) * 10 ^ 12) (nominalWord r)

/-- The word held within ±500 ppm of nominal (R156). -/
def boundWord (r : Fin 6) (w : Int) : Nat :=
  (clampI (wordOfPpt r (-500000000)) (wordOfPpt r 500000000) w).toNat

/-- CLK_STATUS.MOVING: the remainder is nonzero (R170). -/
def Keystone.moving (k : Keystone) : Bool := k.remain != 0

/-- A move is running: some of the remainder is not held (R171). -/
def Keystone.running (k : Keystone) : Bool := k.remain != k.held

/-- The frequency offset of the running move in ppt: CLK_SLOPE ns/s is 1000 ppt each (R170). -/
def Keystone.slopePpt (k : Keystone) : Int :=
  if k.remain > k.held then 1000 * k.slope else if k.remain < k.held then -(1000 * k.slope) else 0

/-- The word demanded: the base word with the running move's offset added (R170). -/
def Keystone.demand (k : Keystone) : Int :=
  (k.baseWord : Int) + roundDiv ((nominalWord k.rate : Int) * k.slopePpt) (10 ^ 12)

namespace Dev

/-- Change Keystone. -/
def modKs (d : Dev) (f : Keystone → Keystone) : Dev := { d with ks := f d.ks }

/-- One cc of the DCO: the accumulator, and at a grid point the dividers of MCLK0 and MCLK1 (R155, R157). -/
def dcoCycle (d : Dev) : Dev :=
  let k := d.ks.accumulate
  let code (m : Fin 2) : Nat := mclkNext d.ks.mclk[m] (d.rfld Reg.CLK_MCLK (4 * m.val + 2) (4 * m.val)) k.grid
  d.modKs fun _ => if k.grid = d.ks.grid then k else { k with mclk := Vector.ofFn code }

/-- Recompute the frequency word; a demand beyond ±500 ppm is held and CLAMPED set (R156). -/
def retune (d : Dev) : Dev :=
  let w := boundWord d.ks.rate d.ks.demand
  (d.modKs fun k => { k with word := w }).raiseIf ((w : Int) != d.ks.demand) Reg.CLK_IRQ_STATUS 9

/-! ### State changes (R165) -/

/-- KS_STATE as the register codes it. -/
def ksCode : KsState → Nat
  | .free => 0 | .acquire => 1 | .track => 2 | .steer => 3 | .holdover => 4 | .expired => 5

/-- Change the Keystone state: STATE_CHANGE is set and KS_STATE pushed (Table 6.5, Table 6.12). -/
def ksEnter (d : Dev) (s : KsState) : Dev :=
  if d.ks.state = s then d else
  let old := d.ks.state
  let d := d.modKs fun k =>
    { k with state := s, msInState := 0, planned := k.planned && s == .holdover }
  (d.raiseBit Reg.CLK_IRQ_STATUS 0).push 0x0301
    (at' 0 (ksCode s) ||| at' 4 (ksCode old) ||| at' 8 d.ks.selected.val ||| bitW 16 d.ks.planned)

/-- Select an entry: REF_SWITCH on a change, counted (Table 6.5, KS_STATUS). -/
def ksSelect (d : Dev) (e : Fin 8) : Dev :=
  if d.ks.selected = e then d else
  (d.modKs fun k => { k with selected := e, switches := k.switches + 1 }).raiseBit Reg.CLK_IRQ_STATUS 1

/-- The remainder has reached zero: MOVE_DONE and event KS_MOVE_DONE (R170, Table 6.12). -/
def noteMoveDone (d : Dev) : Dev := (d.raiseBit Reg.CLK_IRQ_STATUS 6).push 0x0302 (i32 d.ks.offset)

/-- The remainder takes a new value; one that comes to zero ends the move (R170). -/
def setRemain (d : Dev) (r : Int) : Dev :=
  let e := d.modKs fun k => { k with remain := r }
  if d.ks.moving ∧ ¬ e.ks.moving then e.noteMoveDone else e

/-- Add a phase move to the remainder; the slope in effect now applies to the sum (R32, R170). -/
def addMove (d : Dev) (ps : Int) : Dev :=
  if ps = 0 then d else
  ((d.modKs fun k => { k with slope := d.rfld Reg.CLK_SLOPE 16 0 }).setRemain (d.ks.remain + ps)).retune

/-- The running move ends: what is left of the remainder is what is held (R170, R171). -/
def moveDone (d : Dev) : Dev := if d.ks.running then (d.setRemain d.ks.held).retune else d

/-- Enter FREE from another state: entry 7 is selected and the line of R166 begins, or, at a rate
change, the nominal word is in place already. -/
def enterFree (d : Dev) (line : Bool) : Dev :=
  let d := d.ksSelect 7
  let d := d.modKs fun k =>
    { k with line := if line then some (k.baseWord, 0) else none, bwStep := 0,
             baseWord := if line then k.baseWord else nominalWord k.rate }
  (d.ksEnter .free).retune

/-- The whole number of sample periods nearest to an offset in ps, and the remainder in ps. -/
def periodsOf (r : Fin 6) (ps : Int) : Int × Int :=
  let n := roundDiv (ps * rateHz r) (10 ^ 12)
  (n, ps - roundDiv (n * 10 ^ 12) (rateHz r))

/-- Shift local media time by whole sample periods; no edge moves (R172). -/
def relabel (d : Dev) (n : Int) : Dev :=
  let d := d.modKs fun k => k.setLmt ((k.lmt : Int) + n * (10 ^ 9 * lmtDen / rateHz k.rate : Nat)).toNat
  (d.raiseBit Reg.CLK_IRQ_STATUS 7).push 0x0304 (i32 n)

/-- The offset an entry shows: entries 5 and 6 show phase modulo one sample period and one second, and
their offset is the equivalent within half that interval (R172). -/
def shownOffset (r : Fin 6) (e : Fin 8) (offset : Int) : Int :=
  if e = 5 then (periodsOf r offset).2
  else if e = 6 then offset - roundDiv offset (10 ^ 12) * 10 ^ 12 else offset

/-- Enter ACQUIRE on an entry that shows an offset in ps (R168, R172): local media time is relabelled
where ACQUIRE is entered from FREE, STEER or HOLDOVER_EXPIRED or the offset exceeds 1 ms, and what is left
joins the phase move (R32, R170). `wide` is how R168 counts the entry. Answers the device and the whole
sample periods relabelled. (DEDUCED, log 62) -/
def enterAcquire (d : Dev) (e : Fin 8) (offset : Int) (wide : Bool) : Dev × Int :=
  let x := shownOffset d.ks.rate e offset
  let label := d.ks.state == .free || d.ks.state == .steer || d.ks.state == .expired || x.natAbs > 1000000000
  let (n, rest) := if label then periodsOf d.ks.rate x else (0, x)
  let fresh := d.ks.selected != e
  let d := d.ksSelect e
  let d := d.modKs fun k =>
    { k with wide := wide, rateChanged := false, bwStep := if wide && e != 6 then 0 else 8,
             acqBw := d.rfld Reg.CLK_LOOP 8 0, trkBw := d.rfld Reg.CLK_LOOP 23 16,
             history := if fresh then [] else k.history, line := none }
  let d := if label ∧ n ≠ 0 then d.relabel n else d
  ((d.ksEnter .acquire).addMove rest, n)

/-- Enter TRACK: a step held in ACQUIRE moves from now on, at the slope of now (R170, R171); an average that
a re-acquire ended starts anew (R178). (DEDUCED, log 63) -/
def enterTrack (d : Dev) : Dev :=
  let d := d.modKs fun k =>
    { k with bwStep := 8, trkBw := d.rfld Reg.CLK_LOOP 23 16,
             history := if k.frozen.isSome then [] else k.history, frozen := none,
             slope := if k.held ≠ 0 then d.rfld Reg.CLK_SLOPE 16 0 else k.slope, held := 0 }
  (d.ksEnter .track).retune

/-- The average of a list of frequencies (R173). -/
def averageOf (l : List Int) : Int := if l.isEmpty then 0 else roundDiv l.sum l.length

/-- The frequency to hold at a loss, and whether it is short: the average as a re-acquire left it, the
average of the time in TRACK, or the word in effect where there was none (R173, R178). -/
def holdValue (k : Keystone) : Int × Bool :=
  match k.frozen with
  | some f => (f, k.holdShort)
  | none => if k.history.isEmpty then (pptOfWord k.rate k.word, true) else (averageOf k.history, false)

/-- Enter HOLDOVER after the loss of the selected entry (R164, R173, R174, R178). -/
def enterHoldover (d : Dev) : Dev :=
  let planned := d.ks.refs[d.ks.selected].plannedLoss
  let (f, short) := holdValue d.ks
  let d := d.modKs fun k =>
    { k with holdFreq := f, holdShort := short, baseWord := wordOfPpt k.rate f, bwStep := 0,
             line := none }
  -- PLANNED is set before the state event, which carries it (Table 6.12).
  let old := d.ks.state
  let d := d.modKs fun k => { k with state := .holdover, msInState := 0, planned := planned }
  let d := (d.raiseBit Reg.CLK_IRQ_STATUS 0).push 0x0301
    (at' 0 4 ||| at' 4 (ksCode old) ||| at' 8 d.ks.selected.val ||| bitW 16 planned)
  (d.raiseIf (!planned) Reg.CLK_IRQ_STATUS 4).retune

/-- Enter HOLDOVER_EXPIRED. Holding ended no later than HOLDOVER began, so TIME_VALID has
lapsed as well when HOLD_LIMIT has run (R159, R165). -/
def enterExpired (d : Dev) : Dev :=
  let d := d.modKs fun k => { k with baseWord := wordOfPpt k.rate k.holdFreq, bwStep := 0, line := none }
  ((d.ksEnter .expired).raiseBit Reg.CLK_IRQ_STATUS 5).retune

/-- Enter STEER (R169): the frequency is CLK_DCO_ADJ's. (DEDUCED, log 71) -/
def enterSteer (d : Dev) : Dev :=
  let d := d.modKs fun k =>
    { k with baseWord := wordOfPpt k.rate (d.reg Reg.CLK_DCO_ADJ).toInt, bwStep := 0, line := none,
             rateChanged := false }
  (d.ksEnter .steer).retune

/-- Local media time is held to an entry from 0 to 4 (R159). -/
def timeHeld (d : Dev) : Bool :=
  (d.ks.state == .acquire || d.ks.state == .track) && d.ks.selected.val ≤ 4

/-- HOLD_LIMIT in ms (CLK_HOLD). -/
def holdLimitMs (d : Dev) : Nat := 1000 * d.rfld Reg.CLK_HOLD 11 0

/-- TIME_VALID falls when holding has ended (R159). -/
def timeValidLapse (d : Dev) : Dev :=
  if d.timeHeld then d else d.modKs fun k => { k with timeValid := false }

/-- HOLD_LIMIT seconds of HOLDOVER have elapsed (R159, R165). -/
def holdoverExpire (d : Dev) : Dev :=
  if d.ks.state = .holdover then d.enterExpired.timeValidLapse else d

/-! ### Qualification and selection (R160–R164) -/

/-- An entry becomes qualified: QUAL_GAINED and KS_QUAL. An entry that is not enabled is not (R160).
 (DEDUCED, log 69) -/
def refQualify (d : Dev) (n : Fin 8) : Dev :=
  let e := d.ks.refs[n]
  if e.enable ∧ ¬ e.qualified then
    ((d.modKs fun k => { k with refs := upd k.refs n fun e =>
        { e with qualified := true, present := true, lost := false, plannedLoss := false } }).raiseBit
      Reg.CLK_IRQ_STATUS 2).push 0x0303 (at' 0 n.val ||| bitW 8 true)
  else d

/-- A loss condition is met; it is acted on at the next tick (R160). -/
def refLose (d : Dev) (n : Fin 8) (planned : Bool) : Dev :=
  d.modKs fun k => { k with refs := upd k.refs n fun e =>
    { e with lost := true, plannedLoss := planned } }

/-- At a tick, an entry with a loss condition becomes unqualified: QUAL_LOST and KS_QUAL (R160). -/
def refUnqualify (d : Dev) (n : Fin 8) : Dev :=
  let e := d.ks.refs[n]
  if n ≠ 7 ∧ (e.lost ∨ ¬ e.enable) ∧ e.qualified then
    ((d.modKs fun k => { k with refs := upd k.refs n fun e =>
        { e with qualified := false, lost := false } }).raiseBit
      Reg.CLK_IRQ_STATUS 3).push 0x0303 (at' 0 n.val)
  else d.modKs fun k => { k with refs := upd k.refs n fun e => { e with lost := false } }

/-- The staged CLK_REF_n words take effect (R175). An entry enabled anew starts unqualified (R160). -/
def refCommit (d : Dev) : Dev :=
  (allFin 7).foldl (fun d n =>
    let w := d.reg (Reg.CLK_REF_0 + 4 * n.val)
    d.modKs fun k => { k with refs := upd k.refs (n.castLE (by omega)) fun e =>
      { e with prio := fld w 3 0, enable := w.getLsbD 4, qualTime := fld w 15 8 } })
    (d.modKs fun k => { k with
      commitPending := false,
      refs := upd k.refs 7 fun e => { e with prio := d.rfld Reg.CLK_REF_7 3 0 } })

/-- The entry of the lowest PRIO number among candidates, the lower entry winning a tie (R163). (DEDUCED, log 65) -/
def bestRef (k : Keystone) (ok : Fin 8 → Bool) : Option (Fin 8) :=
  (allFin 8).foldl (fun best n =>
    if ok n then
      match best with
      | none => some n
      | some b => if k.refs[n].prio < k.refs[b].prio then some n else some b
    else best) none

/-- Selection at a tick outside STEER, `none` where Keystone holds over (R163, R164). `named` is
the entry Lintel names. Entry 7 is taken only under R164. (DEDUCED, log 65, 66) -/
def selectRef (d : Dev) (named : Option (Fin 8)) : Option (Fin 8) :=
  let k := d.ks
  let good := fun n : Fin 8 => k.refs[n].enable && k.refs[n].qualified
  let follow := named.filter fun n => d.rbit Reg.CLK_CTRL 2 && good n
  match follow with
  | some n => some n
  | none =>
    if ¬ d.rbit Reg.CLK_CTRL 0 ∧ k.selected ≠ 7 ∧ good k.selected ∧ k.state ≠ .free then some k.selected
    else
      let noneEnabled := (allFin 7).all fun n => !(k.refs[n.castLE (by omega : 7 ≤ 8)]).enable
      let seven := noneEnabled || (allFin 7).all fun n =>
        let e := k.refs[n.castLE (by omega : 7 ≤ 8)]
        !e.enable || k.refs[(7 : Fin 8)].prio < e.prio
      if seven then some 7 else bestRef k fun n => n != 7 && good n

/-- The change of state that the selection gives (Table 6.2); after a change of the rate's family ACQUIRE is
entered anew (R168). (DEDUCED, log 62, 66) -/
def applySelection (d : Dev) (sel : Option (Fin 8)) (offset : Fin 8 → Int) : Dev × Int :=
  let s := d.ks.state
  match sel with
  | some e =>
    if e = 7 then
      (if s = .free then d else d.enterFree true, 0)
    else if (s = .acquire ∨ s = .track) ∧ d.ks.selected = e ∧ ¬ d.ks.rateChanged then (d, 0)
    else d.enterAcquire e (offset e)
      (s == .free || s == .steer || s == .expired || d.ks.rateChanged || (s == .acquire && d.ks.wide))
  | none =>
    match s with
    | .acquire | .track => (d.enterHoldover, 0)
    | .steer => (d.enterExpired, 0)
    | .free | .holdover | .expired => (d, 0)

/-! ### The 1 ms tick -/

/-- The shift of one tick of the running move: CLK_SLOPE ns/s is that many ps in 1 ms (R170). -/
def moveTick (d : Dev) : Dev :=
  let k := d.ks
  if k.running then
    let left := k.remain - k.held
    if left.natAbs ≤ k.slope then d.moveDone
    else d.modKs fun k => { k with remain := k.remain - (if left > 0 then (k.slope : Int) else -k.slope) }
  else d

/-- The line of R166: 1000 ticks in a straight line from the word at entry to the nominal word. -/
def lineTick (d : Dev) : Dev :=
  match d.ks.line with
  | none => d
  | some (w, ms) =>
    let n := nominalWord d.ks.rate
    (d.modKs fun k =>
      { k with line := if ms + 1 < 1000 then some (w, ms + 1) else none,
               baseWord := ((w : Int) + roundDiv (((n : Int) - w) * (ms + 1)) 1000).toNat }).retune

/-- The holdover average grows in TRACK: one frequency a tick, 60 s of them (R173). -/
def averageTick (d : Dev) : Dev :=
  if d.ks.state = .track then
    d.modKs fun k =>
      let h := (pptOfWord k.rate k.word :: k.history).take 60000
      { k with history := h, holdFreq := averageOf h, holdShort := false }
  else d

/-- What the ms before a tick adds: the running move, the line, the average, the time in the state
and since local media time was last held (R159, R165, R166, R170, R173). (DEDUCED, log 67) -/
def ksElapse (d : Dev) : Dev :=
  d.moveTick.lineTick.averageTick.modKs fun k =>
    { k with msInState := satInc 0xFFFFFFFF k.msInState,
             msSinceHeld := if d.timeHeld then 0 else k.msSinceHeld + 1 }

/-- HOLD_LIMIT at a tick: TIME_VALID while local media time is held and for HOLD_LIMIT seconds after,
and the end of HOLDOVER (R159, R165). (DEDUCED, log 67) -/
def ksLimits (d : Dev) : Dev :=
  let d := if d.timeHeld then d.modKs fun k => { k with timeValid := true, msSinceHeld := 0 } else d
  let d := if d.ks.state = .holdover ∧ d.ks.msInState ≥ d.holdLimitMs then d.holdoverExpire else d
  if d.ks.msSinceHeld ≥ d.holdLimitMs ∧ d.ks.timeValid then d.timeValidLapse else d

/-- A Keystone tick (R160, R163, R165, R175), after what the ms before it adds: the commit first,
then losses, then STEER and selection, then HOLD_LIMIT. `named` is the entry Lintel names; the second
answer is the whole sample periods relabelled. (DEDUCED, log 67) -/
def ksTick (d : Dev) (input : KsTickInput) (named : Option (Fin 8)) : Dev × Int :=
  let d := if d.ks.commitPending then d.refCommit else d
  let d := (allFin 7).foldl (fun d n =>
    d.modKs fun k => { k with refs := upd k.refs (n.castLE (by omega)) fun e =>
      { e with present := input.present.getLsbD n.val } }) d
  let d := (allFin 8).foldl refUnqualify d
  let offset := fun e : Fin 8 => input.offsets.getD e.val 0
  let steer := d.rbit Reg.CLK_CTRL 1
  let (d, n) :=
    if steer then (if d.ks.state = .steer then d else d.enterSteer, 0)
    else d.applySelection (d.selectRef named) offset
  (d.ksLimits, n)

/-- QUIET entry saves the holdover frequency: the one held, or what a loss would hold (R167, R173). -/
def ksQuietSave (d : Dev) : Dev :=
  if d.ks.state = .holdover ∨ d.ks.state = .expired then d
  else d.modKs fun k => { k with holdFreq := (holdValue k).1, holdShort := (holdValue k).2 }

/-- At exit from QUIET an entry becomes unqualified: QUAL_LOST and KS_QUAL where it was qualified (R167,
Table 6.5). -/
def refDrop (d : Dev) (n : Fin 7) : Dev := (d.refLose (n.castLE (by omega)) false).refUnqualify (n.castLE (by omega))

/-- Exit from QUIET (R167): the entries 0–6 are unqualified, and Keystone takes the state of a
leaving of STEER, or stays in STEER. TIME_VALID and the time since local media time was last held are as
they were at QUIET entry. (DESIGN CHOICE, log 139) -/
def ksQuietExit (d : Dev) (named : Option (Fin 8)) : Dev :=
  let d := (allFin 7).foldl refDrop d
  if d.rbit Reg.CLK_CTRL 1 then d.enterSteer
  else match d.selectRef named with
    | some _ => if d.ks.state = .free then d else d.enterFree true
    | none => d.enterExpired

/-! ### Written steps, the seed, STEER (R169, R171, R176) -/

/-- The part of a step within ±100 ms of both sums: the larger excess is dropped from both (R171).
 (DEDUCED, log 64) -/
def boundStep (k : Keystone) (ps : Int) : Int :=
  let top : Int := 10 ^ 11
  let excess (v : Int) : Int := max 0 ((v.natAbs : Int) - top)
  let e := max (excess (k.offset + ps)) (excess (k.remain + ps))
  if ps ≥ 0 then max 0 (ps - e) else min 0 (ps + e)

/-- A phase step in ps: added to CLK_OFFSET and to the remainder; held until TRACK in an ACQUIRE entered
from FREE, STEER, HOLDOVER_EXPIRED, a re-acquire or a rate change, moved at once in every other state
(R171). (DEDUCED, log 70) -/
def phaseStep (d : Dev) (ps : Int) : Dev :=
  let s := boundStep d.ks ps
  let d := d.raiseIf (s != ps) Reg.CLK_IRQ_STATUS 9
  let d := d.modKs fun k => { k with offset := k.offset + s }
  if d.ks.state = .acquire ∧ d.ks.wide then
    (d.modKs fun k => { k with held := k.held + s }).setRemain (d.ks.remain + s)
  else d.addMove s

/-- A seed half has been written; the seed is loaded when both have been (R176). -/
def seedWrite (d : Dev) (high : Bool) : Dev :=
  let d := d.modKs fun k => { k with seedLo := k.seedLo || !high, seedHi := k.seedHi || high }
  if d.ks.seedLo ∧ d.ks.seedHi then
    let w := d.rfld Reg.CLK_DCO_SEED_HI 15 0 * 2 ^ 32 + (d.reg Reg.CLK_DCO_SEED_LO).toNat
    let d := d.modKs fun k =>
      { k with seedLo := false, seedHi := false, baseWord := w, line := none,
               integrator := if k.state = .acquire ∨ k.state = .track then pptOfWord k.rate w else k.integrator,
               holdFreq := if k.state = .holdover ∨ k.state = .expired then pptOfWord k.rate w else k.holdFreq }
    (d.raiseBit Reg.CLK_IRQ_STATUS 10).retune
  else d

/-- A write to CLK_DCO_ADJ: in STEER the frequency follows from the next cc (R169). -/
def steerAdjust (d : Dev) : Dev :=
  if d.ks.state = .steer then
    (d.modKs fun k => { k with baseWord := wordOfPpt k.rate (d.reg Reg.CLK_DCO_ADJ).toInt }).retune
  else d

/-- Set the system rate: if the family changes, the new nominal word is loaded, with CLK_DCO_ADJ in STEER
and the frequency held in holdover applied to it, and Keystone enters ACQUIRE or FREE by R163 and R164 at
the next tick, where state changes take place (chapter 6, Configuration). (DEDUCED, log 72) -/
def setRate (d : Dev) (r : Fin 6) : Dev :=
  let change := rateIs441 r != rateIs441 d.ks.rate
  let d := d.modKs fun k => { k with rate := r }
  if change then
    (d.modKs fun k =>
      let ppt := match k.state with
        | .steer => (d.reg Reg.CLK_DCO_ADJ).toInt
        | .holdover | .expired => k.holdFreq
        | .free | .acquire | .track => 0
      { k with baseWord := wordOfPpt r ppt, line := none, integrator := 0,
               rateChanged := k.state != .free && k.state != .steer }).retune
  else d

/-! ### The narrowing, tracking and comparison events (R168, R178) -/

/-- A narrowing step; TRACK is entered at the eighth (R168). (DEDUCED, log 63) -/
def narrowStep (d : Dev) : Dev :=
  if d.ks.state = .acquire ∧ d.ks.wide ∧ d.ks.selected ≠ 6 ∧ d.ks.bwStep < 8 then
    let d := d.modKs fun k => { k with bwStep := k.bwStep + 1, trkBw := d.rfld Reg.CLK_LOOP 23 16 }
    if d.ks.bwStep ≥ 8 then d.enterTrack else d
  else d

/-- The conditions for leaving an ACQUIRE that skips narrowing are met: no phase move runs, but with entry 6
selected, where the ten pulses alone count (R168). -/
def trackEntry (d : Dev) : Dev :=
  if d.ks.state = .acquire ∧ (d.ks.selected = 6 ∨ (¬ d.ks.wide ∧ ¬ d.ks.running)) then d.enterTrack else d

/-- A re-acquire on the offset the entry shows (R172, R178): the holdover average is kept as it stands until
TRACK is regained. -/
def reacquire (d : Dev) (offset : Int) : Dev × Int :=
  if d.ks.state = .track then
    let (d, n) := (d.modKs fun k => { k with frozen := some k.holdFreq }).enterAcquire d.ks.selected offset true
    (d.raiseBit Reg.CLK_IRQ_STATUS 8, n)
  else (d, 0)

/-- The eighth root of a number below 2^256, rounded down, by bisection. -/
def root8 (n : Nat) : Nat :=
  (List.range 32).foldl (fun r k => let c := r + 2 ^ (31 - k); if c ^ 8 ≤ n then c else r) 0

/-- The loop bandwidth in mHz (R168): 0.05 Hz with entry 6; else ACQ_BW multiplied at each of the eight steps
by (TRK_BW / ACQ_BW)^(1/8). (DEDUCED, log 63) -/
def loopBandwidth (k : Keystone) : Nat :=
  if k.selected = 6 then 50
  else root8 ((100 * k.acqBw) ^ (8 - k.bwStep) * (10 * k.trkBw) ^ k.bwStep)

/-- The phase error: local media time minus the reference's indicated time, minus the remainder of any
running move, minus CLK_OFFSET (R168), saturating as CLK_PHASE_ERR shows it. (DEDUCED, log 61) -/
def phaseError (k : Keystone) (lmtMinusRef : Int) : Int :=
  clampI (-2147483648) 2147483647 (lmtMinusRef - k.remain - k.offset)

/-- A comparison of the phase detector: the closed servo moves its integrator and demands a frequency, both
free in the integrator, the bandwidth and the phase error, and held within ±500 ppm (R156, R168).
 (DESIGN CHOICE, log 18, 73) -/
def phaseCompare (d : Dev) (lmtMinusRef : Int) : Dev :=
  if d.ks.state = .acquire ∨ d.ks.state = .track then
    let err := phaseError d.ks lmtMinusRef
    let bw := loopBandwidth d.ks
    let (i, d) := d.fresh
    (d.modKs fun k =>
      { k with phaseErr := err, integrator := Config.servoIntegral i k.integrator bw err,
               baseWord := wordOfPpt k.rate (Config.servoPpt i k.integrator bw err) }).retune
  else d

/-! ### Register reads -/

/-- CLK_STATUS (Table 6.4), computed from Keystone. `named` is the entry Lintel names. -/
def clkStatus (d : Dev) (named : Option (Fin 8)) : Word :=
  let k := d.ks
  orW [at' 0 (ksCode k.state), at' 4 k.selected.val, bitW 7 k.moving,
    at' 8 (if k.state = .acquire ∨ k.state = .track then k.bwStep else 0),
    at' 12 (named.elim 0 Fin.val), bitW 15 named.isSome,
    at' 16 (bitsW 8 fun i => if h : i < 8 then k.refs[i].qualified else false).toNat,
    bitW 24 k.timeValid, bitW 25 k.holdShort, bitW 26 k.planned,
    bitW 27 (k.seedLo || k.seedHi), at' 28 k.rate.val]

/-- The computed part of a CLK register (R179, Tables 6.4 to 6.9). -/
def clkRead (d : Dev) (named : Option (Fin 8)) (a : Nat) : Word :=
  let k := d.ks
  if a = Reg.CLK_STATUS then d.clkStatus named
  else if a = Reg.CLK_PLL then bitW 8 (!d.power.pllLost)
  else if a = Reg.CLK_MOVE_REMAIN_LO then i32 k.remain
  else if a = Reg.CLK_MOVE_REMAIN_HI then at' 0 d.clk.remainHi
  else if a = Reg.CLK_OFFSET_LO then i32 k.offset
  else if a = Reg.CLK_OFFSET_HI then at' 0 d.clk.offsetHi
  else if 0xC0 ≤ a ∧ a < 0xE0 then
    let e := k.refs[(a - 0xC0) / 4]?.getD ⟨0, false, 0, false, false, false, false⟩
    orW [bitW 4 (a == 0xDC), bitW 16 e.qualified, bitW 17 e.present, bitW 27 e.enable, at' 28 e.prio]
  else if a = Reg.CLK_REF_COMMIT then bitW 1 k.commitPending
  else if a = Reg.CLK_FREQ_NOW then i32 (pptOfWord k.rate k.word)
  else if a = Reg.CLK_HOLD_FREQ then i32 k.holdFreq
  else if a = Reg.CLK_PHASE_ERR then i32 k.phaseErr
  else if a = Reg.CLK_TIME_NS then w32 k.nsec
  else if a = Reg.CLK_TIME_SEC_LO then w32 d.clk.sec
  else if a = Reg.CLK_TIME_SEC_HI then at' 0 (d.clk.sec / 2 ^ 32)
  else 0

/-- The latches a capture of a CLK word takes (R180). -/
def clkCapture (d : Dev) (a : Nat) : Dev :=
  if a = Reg.CLK_TIME_NS then { d with clk := { d.clk with sec := d.ks.sec } }
  else if a = Reg.CLK_MOVE_REMAIN_LO then
    { d with clk := { d.clk with remainHi := (d.ks.remain / 2 ^ 32 % 2 ^ 16).toNat } }
  else if a = Reg.CLK_OFFSET_LO then
    { d with clk := { d.clk with offsetHi := (d.ks.offset / 2 ^ 32 % 2 ^ 16).toNat } }
  else d

/-- The effect of a write to a CLK register beyond its stored bits. `w` is the word written. -/
def clkWritten (d : Dev) (a : Nat) (w : Word) : Dev :=
  if a = Reg.CLK_PHASE_STEP then d.phaseStep w.toInt
  else if a = Reg.CLK_DCO_SEED_LO then d.seedWrite false
  else if a = Reg.CLK_DCO_SEED_HI then d.seedWrite true
  else if a = Reg.CLK_DCO_ADJ then d.steerAdjust
  else if a = Reg.CLK_REF_COMMIT ∧ w.getLsbD 0 then d.modKs fun k => { k with commitPending := true }
  else if a = Reg.CLK_LOOP ∧ d.ks.state = .track then
    d.modKs fun k => { k with trkBw := d.rfld Reg.CLK_LOOP 23 16 }
  else d

/-- Clamp the ranged fields of a CLK word as it is stored (R11, Limits of chapter 6). -/
def clkClamp (a : Nat) (w : Word) : Word :=
  if a = Reg.CLK_LOOP then
    setFld (setFld w 8 0 (clampN 50 500 (fld w 8 0))) 23 16 (clampN 5 200 (fld w 23 16))
  else if a = Reg.CLK_SLOPE then setFld w 16 0 (clampN 100 100000 (fld w 16 0))
  else if a = Reg.CLK_HOLD then setFld w 11 0 (clampN 1 3600 (fld w 11 0))
  else if a = Reg.CLK_DCO_ADJ then i32 (clampI (-500000000) 500000000 w.toInt)
  else if 0xC0 ≤ a ∧ a < 0xE0 then setFld w 15 8 (clampN 1 255 (fld w 15 8))
  else if a = Reg.CLK_MCLK then
    setFld (setFld w 2 0 (clampN 0 4 (fld w 2 0))) 6 4 (clampN 0 4 (fld w 6 4))
  else w

end Dev
end Sys2Proof.Machine
end

