-- ==== Sys2Proof/Machine/Operands.lean ====
section
/-! DEFINITION.
The operand form of an Ouvoso command: its request payload by byte offset, the status it ends
with, and the result a command function answers (Tables 5.2 and 5.3). -/

namespace Sys2Proof

/-- The payload word at a byte offset of the request (offsets from 0x08). -/
def Request.word (r : Request) (off : Nat) : Word := r.payload.getD ((off - 8) / 4) 0

/-- The field `hi:lo` of the payload word at a byte offset. -/
def Request.fld (r : Request) (off hi lo : Nat) : Nat := Machine.fld (r.word off) hi lo

/-- A bit of the payload word at a byte offset. -/
def Request.bit (r : Request) (off i : Nat) : Bool := (r.word off).getLsbD i

/-- Six address octets of a payload: octets 0–3 in one word, octet 0 in 31:24, and octets 4–5
in 31:16 of the next (Table 8.8). -/
def Request.octets (r : Request) (off : Nat) : BitVec 48 :=
  BitVec.ofNat 48 ((r.word off).toNat * 65536 + r.fld (off + 4) 31 16)

/-- An 8-octet identifier held first octet first in two little-endian words (Table 8.8). -/
def Request.ident (r : Request) (off : Nat) : U64 :=
  BitVec.ofNat 64 (Machine.beNat (Machine.wordBytes [r.word off, r.word (off + 4)]))

/-- A time of a payload in ns, `none` where all three words are zero, "at once" (R229). -/
def Request.time (r : Request) (off : Nat) : Option Nat :=
  let s := (r.word off).toNat + r.fld (off + 4) 15 0 * 2 ^ 32
  let n := (r.word (off + 8)).toNat
  if s = 0 ∧ n = 0 then none else some (s * 1000000000 + n)

end Sys2Proof

namespace Sys2Proof.Machine

/-- The status codes of Table 5.3 from 0x10 upward: the command had no effect (R139). -/
inductive Status where
  | badOpcode | badLength | badParam | notOnMb1 | busyAuthority | refusedProofHold | refusedState
  | session | budget | noSpace | supplyInhibit | flashError | digestMismatch | internal
  deriving DecidableEq, Repr

/-- The code of a refusal status (Table 5.3). -/
def Status.code : Status → Nat
  | .badOpcode => 0x10 | .badLength => 0x11 | .badParam => 0x12 | .notOnMb1 => 0x13
  | .busyAuthority => 0x20 | .refusedProofHold => 0x21 | .refusedState => 0x22 | .session => 0x23
  | .budget => 0x30 | .noSpace => 0x31 | .supplyInhibit => 0x40 | .flashError => 0x41
  | .digestMismatch => 0x42 | .internal => 0x7F

/-- What serving a command gives. A refusal carries no device: it has no effect (R139). -/
inductive CmdResult where
  /-- Refused, with DETAIL and the response payload, empty but for FWU_WRITE. -/
  | refuse (status : Status) (detail : Nat) (payload : List Word)
  /-- OK or, if `accepted`, ACCEPTED, with DETAIL, the response payload, the journal items of
  the change, and the device with the effect applied. -/
  | done (accepted : Bool) (detail : Nat) (payload : List Word) (items : List JItem) (dev : Dev)
  /-- Taken up; the response is written later by the event that ends it. -/
  | later (items : List JItem) (dev : Dev)
  /-- A response of status DIGEST_MISMATCH, whose command ends the session all the same (R150). -/
  | mismatch (dev : Dev)
  deriving DecidableEq, Repr

/-- The effect of one opcode, after the checks every command shares. -/
abbrev CmdFn := Source → Request → Dev → CmdResult

/-- BAD_PARAM with the byte offset of the field in the payload window (Table 5.3). -/
def badParam (off : Nat) : CmdResult := .refuse .badParam off []

/-- REFUSED_STATE with its DETAIL. -/
def refusedState (detail : Nat) : CmdResult := .refuse .refusedState detail []

/-- OK with no payload and no journal item. -/
def okay (d : Dev) : CmdResult := .done false 0 [] [] d

/-- OK with a response payload. -/
def reply (payload : List Word) (d : Dev) : CmdResult := .done false 0 payload [] d

/-- OK, the change journaled under a key if the request carries PERSIST (R139). The value kept
is the request payload, so that replay applies the command again. (DEDUCED, log 35) -/
def okayKey (req : Request) (key : Nat) (d : Dev) : CmdResult :=
  .done false 0 [] (if req.persist then [⟨key, some req.payload⟩] else []) d

/-- OK, a persisted item removed if the request carries PERSIST. (DEDUCED, log 35) -/
def okayRemove (req : Request) (key : Nat) (d : Dev) : CmdResult :=
  .done false 0 [] (if req.persist then [⟨key, none⟩] else []) d

/-- A whole number below a bound, or BAD_PARAM with the offset of its field. -/
def withFin (n v off : Nat) (k : Fin n → CmdResult) : CmdResult :=
  if h : v < n then k ⟨v, h⟩ else badParam off

/-- The two words of an 8-octet identifier, first octet first. -/
def identWords (x : U64) : List Word := packWords (natBe 8 x.toNat)

/-- The header and payload words of a response (Table 5.2). -/
def Response.words (r : Response) : List Word :=
  [orW [at' 0 (r.opcode % 65536), at' 16 r.tag.toNat, at' 24 (r.status % 256)],
   orW [at' 0 (4 * r.payload.length % 256), at' 8 (r.detail % 256), bitW 16 r.pending]] ++ r.payload

end Sys2Proof.Machine
end

