-- ==== Sys2Proof/Machine/Ports.lean ====
section
/-! DEFINITION.
The operations every user of an Ethernet port shares: its counters with their half-range flags,
its filter entries, its rings and queues, and the cells of the packet buffer (chapter 7, Table 1.2). -/

namespace Sys2Proof.Machine
namespace Dev

/-- Change one port. -/
def modPort (d : Dev) (p : Fin 3) (f : EthPort → EthPort) : Dev := { d with eth := upd d.eth p f }

/-- Change the link side of one port. -/
def modLink (d : Dev) (p : Fin 3) (f : PortLink → PortLink) : Dev :=
  d.modPort p fun e => { e with link := f e.link }

/-- Change the traffic side of one port. -/
def modTraffic (d : Dev) (p : Fin 3) (f : PortTraffic → PortTraffic) : Dev :=
  d.modPort p fun e => { e with traffic := f e.traffic }

/-- The address of a register of port `p` from that of port 0 (R204). -/
def ethReg (p : Fin 3) (a : Nat) : Nat := a + 0x40 * p.val

/-- Set flags of ETHn_IRQ_STATUS. -/
def ethFlag (d : Dev) (p : Fin 3) (i : Nat) : Dev := d.raiseBit (ethReg p Reg.ETH0_IRQ_STATUS) i

/-- ETHn_CTRL.ENABLE. -/
def ethEnabled (d : Dev) (p : Fin 3) : Bool := d.rbit (ethReg p Reg.ETH0_CTRL) 0

/-- The half-range flag of a port counter is set where a condition holds (R204). -/
def halfFlag (d : Dev) (p : Fin 3) (k : Fin 40) (cross : Bool) : Dev :=
  d.raiseIf cross (ethReg p (if k.val < 32 then Reg.ETH0_HALF_LO else Reg.ETH0_HALF_HI)) (k.val % 32)

/-- Add to a port counter, wrapping at 2^32; a passage of half range sets its flag (R204, R205). -/
def countBy (d : Dev) (p : Fin 3) (k : Fin 40) (n : Nat) : Dev :=
  let old := d.eth[p].traffic.counters[k]
  let new := (old + n) % 2 ^ 32
  (d.modTraffic p fun t => { t with counters := t.counters.set k new }).halfFlag p k (old < 2 ^ 31 && 2 ^ 31 ≤ old + n)

/-- Count one event of a port counter. -/
def count (d : Dev) (p : Fin 3) (k : Fin 40) : Dev := d.countBy p k 1

/-! ### Filter entries (R188, R189, R200) -/

/-- The address a filter entry holds. -/
def Filter.address (f : Filter) : BitVec 48 := BitVec.ofNat 48 (f.hi.toNat * 2 ^ 32 + f.lo.toNat)

/-- The entry is excluded: one half is written and the other is not (R200). -/
def Filter.excluded (f : Filter) : Bool := f.loHalf || f.hiHalf

/-- The first index that satisfies a test. -/
def findIdx? {n : Nat} (ok : Fin n → Bool) : Option (Fin n) := (allFin n).find? ok

/-- Ouvoso holds the entry: OWNER reads 1 (R189). -/
def Filter.owned (f : Filter) : Bool := !f.users.isEmpty

/-- Change one filter entry. -/
def modFilter (d : Dev) (p : Fin 3) (i : Fin 8) (f : Filter → Filter) : Dev :=
  d.modPort p fun e => { e with filters := upd e.filters i f }

/-- Ouvoso takes a filter entry for a destination address of a set-up: an entry of its own that holds the
address is shared, an entry of the host that holds it is enough and has no user of Ouvoso's, and otherwise
the first free entry is marked OWNER; `none` when there is none (R189). -/
def takeFilter (d : Dev) (p : Fin 3) (dest : BitVec 48) (user : FilterUser) : Option Dev :=
  let fs := d.eth[p].filters
  match findIdx? fun i : Fin 8 => Filter.address fs[i] == dest && Filter.owned fs[i] with
  | some i => some (d.modFilter p i fun f => { f with users := user :: f.users })
  | none =>
    match findIdx? fun i : Fin 8 => Filter.address fs[i] == dest && fs[i].valid && !Filter.excluded fs[i] with
    | some _ => some d
    | none =>
      match findIdx? fun i : Fin 8 => !fs[i].valid && !Filter.owned fs[i] with
      | some i => some (d.modFilter p i fun _ =>
          ⟨BitVec.ofNat 32 dest.toNat, BitVec.ofNat 16 (dest.toNat / 2 ^ 32), true, [user], false, false⟩)
      | none => none

/-- A filter entry without one of its users: freed when none is left (R189). -/
def Filter.without (user : FilterUser) (f : Filter) : Filter :=
  if f.users.contains user then
    { f with users := f.users.erase user, valid := f.valid && !(f.users.erase user).isEmpty }
  else f

/-- A set-up leaves the entry it uses on a port, if it uses one. -/
def freeFilter (d : Dev) (p : Fin 3) (user : FilterUser) : Dev :=
  d.modPort p fun e => { e with filters := e.filters.map (Filter.without user) }

/-- A destination address matches at a port (R188). -/
def destMatches (d : Dev) (p : Fin 3) (a : BitVec 48) : Bool :=
  let e := d.eth[p]
  a == e.mac || a == 0x0180C200000E || a == 0x0180C2000001 ||
  (allFin 8).any (fun i => e.filters[i].valid && !Filter.excluded e.filters[i] && Filter.address e.filters[i] == a) ||
  (a == 0xFFFFFFFFFFFF && d.rbit (ethReg p Reg.ETH0_CTRL) 3)

/-! ### Rings, queues and cells (R186, R191, R196) -/

/-- Cells of 256 bytes a frame takes (Table 1.2). -/
def cellsOf (length : Nat) : Nat := (length + 255) / 256

/-- Receive cells in use over the three ports. -/
def rxCells (d : Dev) : Nat :=
  ((allFin 3).map fun p => (d.eth[p].traffic.rxRing.map fun x => x.cells.length).sum).sum

/-- The number of a transmit queue, highest priority first (R186). -/
def queueNo : TxQueue → Fin 4
  | .control => 0 | .classA => 1 | .classB => 2 | .bestEffort => 3

/-- The frames a port's transmit ring holds, the frame on the wire among them (R191). -/
def PortTraffic.txFrames (t : PortTraffic) : List TxFrame :=
  t.queues[(0 : Fin 4)] ++ t.queues[(1 : Fin 4)] ++ t.queues[(2 : Fin 4)] ++ t.queues[(3 : Fin 4)] ++ t.onWire.toList

/-- Transmit cells in use over the three ports. -/
def txCells (d : Dev) : Nat :=
  ((allFin 3).map fun p => ((PortTraffic.txFrames d.eth[p].traffic).map fun f => cellsOf f.length).sum).sum

/-- The time of one port instant in units of 2^-16 ns (R209): 31.25 ps, one of 64 phases of a cycle, is 2048. -/
def stampOf (cycle phase : Int) : Int := 2048 * (64 * cycle + phase)

/-- The counter of a frame discarded because the port is not UP (R196, R221). -/
def discardCounter : TxQueue → Fin 40
  | .control => 31 | .classA => 26 | .classB => 26 | .bestEffort => 27

/-- Count a talker's frame that its port discarded for want of a link (FRAMES_LINK_DISCARD). -/
def talkerDiscard (d : Dev) (t : Option (Fin 8)) : Dev :=
  match t with
  | none => d
  | some i => { d with streams := { d.streams with talkers := upd d.streams.talkers i fun t =>
      { t with linkDiscard := wrapInc 32 t.linkDiscard } } }

/-- Submit a frame to a port's transmit ring (R31, R191, R196). Class A, class B and control
frames are discarded while the port is not UP; best-effort frames join the held ones. (DESIGN CHOICE, log 86) -/
def submit (d : Dev) (p : Fin 3) (f : TxFrame) : Dev :=
  let e := d.eth[p]
  if e.link.state ≠ .up ∧ f.queue ≠ .bestEffort then
    (d.count p (discardCounter f.queue)).talkerDiscard f.talker
  else if (PortTraffic.txFrames e.traffic).length ≥ e.traffic.txSize ∨ d.txCells + cellsOf f.length > 320 then
    (d.count p 28).ethFlag p 5
  else
    let d := if e.traffic.pauseQuanta ≠ 0 then d.count p 30 else d
    d.modTraffic p fun t => { t with
      queues := upd t.queues (queueNo f.queue) fun q => q ++ [f],
      holding := t.holding || e.link.state != .up }

end Dev
end Sys2Proof.Machine
end

