-- ==== Sys2Proof/Machine/Streams.lean ====
section
/-! DEFINITION.
The stream engine: Mortar allocation, starts and stops, the judging of AAF and CRF frames, the
readout, talker frames, and the stream and gPTP commands (chapter 8). -/

namespace Sys2Proof.Machine

namespace Dev

/-- Change the stream engine. -/
def modStreams (d : Dev) (f : StreamEngine → StreamEngine) : Dev := { d with streams := f d.streams }
/-- Change one listener. -/
def modListener (d : Dev) (i : Fin 16) (f : Listener → Listener) : Dev :=
  d.modStreams fun s => { s with listeners := upd s.listeners i f }
/-- Change one talker. -/
def modTalker (d : Dev) (i : Fin 8) (f : Talker → Talker) : Dev :=
  d.modStreams fun s => { s with talkers := upd s.talkers i f }
/-- Change the counters of one listener. -/
def modCounts (d : Dev) (i : Fin 16) (f : ListenerCounts → ListenerCounts) : Dev :=
  d.modListener i fun l => { l with counts := f l.counts }

/-- Local media time in ns. -/
def now (d : Dev) : Nat := d.ks.ns
/-- Local media time in whole ps. -/
def nowPs (d : Dev) : Int := d.ks.ns * 1000 + d.ks.sub * 1000 / lmtDen
/-- The system rate in Hz. -/
def fs (d : Dev) : Nat := rateHz d.ks.rate

/-! ### Mortar (R29, R216, R275) -/

/-- A granule is free for a kind of allocation: unheld, and on the right side of the partition,
the top `partition` granules being for delay lines alone (R275). -/
def granuleFree (s : StreamEngine) (delay : Bool) (g : Nat) : Bool :=
  (if delay then true else g < 256 - s.partition) &&
  s.mortar.all fun a => !(a.first ≤ g && g < a.first + a.count)

/-- The lengths of the free runs that end at each granule, and the largest. -/
def freeRun (s : StreamEngine) (delay : Bool) : Nat :=
  ((List.range 256).foldl (fun (r : Nat × Nat) g =>
    let run := if granuleFree s delay g then r.1 + 1 else 0
    (run, max r.2 run)) (0, 0)).2

/-- The place of `n` contiguous free granules: the lowest for a presentation region, the highest for
a delay line (R275). (DEDUCED, log 87) -/
def findRun (s : StreamEngine) (delay : Bool) (n : Nat) : Option Nat :=
  (if delay then (List.range 256).reverse else List.range 256).find? fun g => g + n ≤ 256 && (List.range n).all fun k => granuleFree s delay (g + k)

/-- Allocate whole contiguous granules to an owner (R29). (DEDUCED, log 87) -/
def allocate (d : Dev) (o : MortarOwner) (delay : Bool) (n : Nat) : Option Dev :=
  (findRun d.streams delay n).map fun g =>
    d.modStreams fun s => { s with mortar := s.mortar ++ [⟨o, g, n⟩] }

/-- Release an owner's granules. (DEDUCED, log 87) -/
def release (d : Dev) (o : MortarOwner) : Dev :=
  d.modStreams fun s => { s with mortar := s.mortar.filter fun a => a.owner != o }

/-- Granules a listener's region takes: D = ⌈(MTT + RIDE) × fs⌉ + 72 samples a channel (R216). -/
def regionGranules (d : Dev) (s : ListenerSetup) : Nat :=
  let depth := ((s.mttUs + 1000 * s.rideMs) * d.fs + 999999) / 1000000 + 72
  (s.channels * depth * 4 + 1023) / 1024

/-! ### Budgets (R27, R28) -/

/-- The stream is started: in every state but IDLE (R222). -/
def isStarted (s : StreamState) : Bool := s != .idle

/-- Decode units taken by started AAF listeners. -/
def decodeUnits (d : Dev) : Nat :=
  ((allFin 16).map fun i =>
    let l := d.streams.listeners[i]
    match l.setup with
    | some s => if isStarted l.state && !s.crf then s.channels * rateUnits d.ks.rate else 0
    | none => 0).sum

/-- Talker units taken by started talkers. -/
def talkerUnits (d : Dev) : Nat :=
  ((allFin 8).map fun i =>
    let t := d.streams.talkers[i]
    match t.setup with
    | some s => if isStarted t.state then s.channels * rateUnits d.ks.rate else 0
    | none => 0).sum

/-- Any stream is started (KS_SET_RATE). -/
def anyStreamStarted (d : Dev) : Bool :=
  (allFin 16).any (fun i => isStarted d.streams.listeners[i].state) ||
  (allFin 8).any (fun i => isStarted d.streams.talkers[i].state)

/-- Bytes of a sample on the wire of an AAF format (Table 8.2). -/
def sampleBytes (format : Nat) : Nat := if format = 2 then 4 else if format = 3 then 3 else 2

/-- The length of a talker's frame from destination to FCS (R220). -/
def talkerFrameLength (s : TalkerSetup) : Nat := 18 + 24 + s.channels * s.spf * sampleBytes s.format + 4

/-- The least common multiple of 1 to 64, so that a talker's bandwidth is a whole number of 1 / `spfUnit` bit/s. -/
def spfUnit : Nat := 1182266884102822267511361600

/-- A talker's bandwidth, W × 8 × fs / SPF, in 1 / `spfUnit` bit/s (R220). -/
def talkerBandwidth (d : Dev) (s : TalkerSetup) : Nat := (talkerFrameLength s + 20) * 8 * d.fs * (spfUnit / s.spf)

/-- The idleSlope of a class on a port, in kbit/s rounded up (R221). -/
def idleSlope (d : Dev) (p : Fin 3) (classB : Bool) : Nat :=
  (((allFin 8).map fun i =>
    let t := d.streams.talkers[i]
    match t.setup with
    | some s => if isStarted t.state && s.port == p && s.classB == classB then d.talkerBandwidth s else 0
    | none => 0).sum + 1000 * spfUnit - 1) / (1000 * spfUnit)

/-- The speed a reservation is checked against, in kbit/s (R221). -/
def portKbps (d : Dev) (p : Fin 3) : Nat :=
  let code := if d.eth[p].link.state = .up then d.eth[p].link.speed.val
    else d.rfld (ethReg p Reg.ETH0_CTRL) 9 8
  [10000, 100000, 1000000, 1000000].getD code 10000

/-! ### State changes (R222, R229) -/

/-- The code of a stream state (Table 8.9). -/
def streamCode : StreamState → Nat
  | .idle => 0 | .waiting => 1 | .playing => 2 | .starved => 3 | .sending => 4 | .stopping => 5

/-- Event STREAM_STATE (Table 8.11). -/
def streamEvent (d : Dev) (talker : Bool) (i old new reason : Nat) : Dev :=
  d.push 0x0501 (orW [at' 0 i, bitW 4 talker, at' 8 new, at' 12 old, at' 16 reason])

/-- A listener changes state. -/
def listenerEnter (d : Dev) (i : Fin 16) (s : StreamState) (reason : Nat) : Dev :=
  let old := d.streams.listeners[i].state
  let d := d.modListener i fun l => { l with state := s, reason := reason }
  if old = s then d else d.streamEvent false i.val (streamCode old) (streamCode s) reason

/-- A talker changes state. -/
def talkerEnter (d : Dev) (i : Fin 8) (s : StreamState) (reason : Nat) : Dev :=
  let old := d.streams.talkers[i].state
  let d := d.modTalker i fun t => { t with state := s, reason := reason }
  if old = s then d else d.streamEvent true i.val (streamCode old) (streamCode s) reason

/-- The CRF stream of a slot is gone: the slot's entry has lost its reference (R160, Table 6.1). -/
def crfLost (d : Dev) (slot : Fin 2) : Dev :=
  (d.modStreams fun e => { e with
    crfFrames := upd e.crfFrames slot fun _ => 0, crfLast := upd e.crfLast slot fun _ => none,
    crfRateOk := upd e.crfRateOk slot fun _ => false }).refLose (if slot = 0 then 3 else 4) false

/-- The slot of a CRF set-up (R211). -/
def slotOf (s : ListenerSetup) : Fin 2 := if s.slotB then 1 else 0

/-- A listener returns to IDLE: its region and every sample in it are given up (R223); a CRF stream is stopped. -/
def listenerIdle (d : Dev) (i : Fin 16) (reason : Nat) : Dev :=
  let d := match d.streams.listeners[i].setup with
    | some s => if s.crf then d.crfLost (slotOf s) else d
    | none => d
  let d := d.modListener i fun l => { l with
    startAt := none, stopAt := none, gain := 0, target := 0, filled := [], anchor := none, inspected := none,
    playFrom := none, skew := 0, leaving := none, unfilledRun := 0,
    counts := { l.counts with discarded := l.counts.discarded + (l.filled.map fun p => p.words.length).sum } }
  (d.release (.listener i)).listenerEnter i .idle reason

/-- A talker returns to IDLE. -/
def talkerIdle (d : Dev) (i : Fin 8) (reason : Nat) : Dev :=
  (d.modTalker i fun t => { t with
    startAt := none, stopAt := none, gain := 0, gathered := [], ready := [] }).talkerEnter i .idle reason

/-- A listener enters WAITING: its readout stands at local media time again (R218, R222). -/
def listenerWaiting (d : Dev) (i : Fin 16) (reason : Nat) : Dev :=
  (d.modListener i fun l => { l with
    leaving := none, skew := 0, inspected := none, playFrom := none, gain := 0, target := 0,
    unfilledRun := 0 }).listenerEnter i .waiting reason

/-- A cause of WAITING (R217, R218, R228): a listener that plays ramps to zero over 64 samples first, and the
latest cause gives the reason; one that is STARVED has nothing to ramp (Table 8.4). (DEDUCED, log 89) -/
def listenerWait (d : Dev) (i : Fin 16) (reason : Nat) : Dev :=
  let l := d.streams.listeners[i]
  match l.state with
  | .playing =>
    if l.gain = 0 then d.listenerWaiting i reason
    else d.modListener i fun l => { l with target := 0, leaving := some reason }
  | .starved => d.listenerWaiting i reason
  | _ => d

/-- TIME_VALID has fallen to 0 (R217). -/
def timeLost (d : Dev) : Dev := (allFin 16).foldl (fun d i => d.listenerWait i 4) d

/-- A relabel has moved local media time by `n` sample periods (R218, R219): what plays, plays on from where it
was until its ramp has ended; PLAYING listeners count a RESYNC and wait; talkers toggle mr. -/
def streamsRelabel (d : Dev) (n : Int) : Dev :=
  let shift := roundDiv (n * 10 ^ 12) d.fs
  let d := (allFin 16).foldl (fun (d : Dev) (i : Fin 16) =>
    let l := d.streams.listeners[i]
    if l.state = .playing then
      ((d.modListener i fun l => { l with
          skew := l.skew - shift, counts := { l.counts with resync := wrapInc 16 l.counts.resync } })).listenerWait i 5
    else if l.state = .stopping then d.modListener i fun l => { l with skew := l.skew - shift }
    else d) d
  (allFin 8).foldl (fun d i => d.modTalker i fun t => { t with toggle := true }) d

/-! ### Starts and stops (R222–R224) -/

/-- The start of listeners together: budgets and Mortar of all are taken, or none (R28, R216). -/
def startListeners (d : Dev) (is : List (Fin 16)) (time : Option Nat) : CmdResult :=
  let at? := time.filter fun t => d.now < t
  let start (d : Option Dev) (i : Fin 16) : Option Dev :=
    d.bind fun d =>
      match d.streams.listeners[i].setup with
      | none => some d
      | some s =>
        let d? := if s.crf then some d else d.allocate (.listener i) false (d.regionGranules s)
        d?.map fun d => (d.modListener i fun l => { l with
            startAt := at?, stopAt := none, filled := [], anchor := none, inspected := none, playFrom := none, skew := 0,
            leaving := none, unfilledRun := 0, lateRun := 0, mismatchRun := 0, gain := 0, target := 0,
            rateBad := false, leastLead := none, lastSeq := none }).listenerEnter i .waiting 0
  let units := (is.map fun i => match d.streams.listeners[i].setup with
    | some s => if s.crf then 0 else s.channels * rateUnits d.ks.rate
    | none => 0).sum
  if d.decodeUnits + units > 128 then .refuse .budget 3 []
  else match is.foldl start (some d) with
    | none => .refuse .noSpace (min 255 (freeRun d.streams false)) []
    | some d' => .done false (if time.isSome && at?.isNone then 1 else 0) [] [] d'

/-- The start of a talker (R221, R224). -/
def startTalker (d : Dev) (i : Fin 8) (time : Option Nat) : CmdResult :=
  let at? := time.filter fun t => d.now < t
  match d.streams.talkers[i].setup with
  | none => refusedState 6
  | some s =>
    let d' := (d.modTalker i fun t => { t with
        startAt := at?, stopAt := none, gathered := [], ready := [], toggle := false, gain := 0 }).talkerEnter
          i .waiting 0
    if d.talkerUnits + s.channels * rateUnits d.ks.rate > 64 then .refuse .budget 4 []
    else if 4 * (d'.idleSlope s.port false + d'.idleSlope s.port true) > 3 * d.portKbps s.port then refusedState 8
    else .done false (if time.isSome && at?.isNone then 1 else 0) [] [] d'

/-- A stop applied to a listener now (R222, R223): from WAITING with no ramp, and otherwise from the present gain. -/
def stopListener (d : Dev) (i : Fin 16) (reason : Nat) : Dev :=
  let l := d.streams.listeners[i]
  let d := d.modListener i fun l => { l with stopAt := none }
  match l.state with
  | .waiting => d.listenerIdle i reason
  | .playing | .starved =>
    (d.modListener i fun l => { l with target := 0, leaving := none }).listenerEnter i .stopping reason
  | _ => d

/-- A stop applied to a talker now. -/
def stopTalker (d : Dev) (i : Fin 8) (reason : Nat) : Dev :=
  let t := d.streams.talkers[i]
  let d := d.modTalker i fun t => { t with stopAt := none }
  match t.state with
  | .waiting => d.talkerIdle i reason
  | .sending => d.talkerEnter i .stopping reason
  | _ => d

/-- A start time is pending: it lies ahead, or TIME_VALID has not returned since (R217). -/
def startPending (d : Dev) (startAt : Option Nat) : Option Nat :=
  startAt.filter fun t => d.now < t || !d.ks.timeValid

/-- The orderings R224 refuses for a start, with the TIME_VALID rule of R217. -/
def startRefusal (d : Dev) (state : StreamState) (timed : Bool) : Option Nat :=
  if state ≠ .idle then some 1 else if timed && !d.ks.timeValid then some 5 else none

/-- The orderings R224 refuses for a stop. -/
def stopRefusal (d : Dev) (state : StreamState) (startAt : Option Nat) (time : Option Nat) : Option Nat :=
  if state = .idle then some 2
  else if time.isSome && !d.ks.timeValid then some 5
  else match time, d.startPending startAt with
    | some t, some s => if t ≤ s then some 3 else none
    | _, _ => none

/-- STREAM_START applied (R224, R226), from a command or a scheduled entry. (DEDUCED, log 88) -/
def streamStart (d : Dev) (talker : Bool) (index : Nat) (time : Option Nat) : CmdResult :=
  if talker then withFin 8 index 8 fun i =>
    let t := d.streams.talkers[i]
    if t.setup.isNone then refusedState 6
    else match d.startRefusal t.state time.isSome with
      | some k => refusedState k
      | none => d.startTalker i time
  else withFin 16 index 8 fun i =>
    let l := d.streams.listeners[i]
    if l.setup.isNone then refusedState 6
    else if l.group.isSome then refusedState 7
    else match d.startRefusal l.state time.isSome with
      | some k => refusedState k
      | none => d.startListeners [i] time

/-- STREAM_STOP applied (R224, R226). A stop whose time is not after now acts at once. (DEDUCED, log 88) -/
def streamStop (d : Dev) (talker : Bool) (index : Nat) (time : Option Nat) : CmdResult :=
  let future := time.filter fun t => d.now < t
  if talker then withFin 8 index 8 fun i =>
    let t := d.streams.talkers[i]
    if t.setup.isNone then refusedState 6
    else match d.stopRefusal t.state t.startAt time with
      | some k => refusedState k
      | none => okay (match future with
        | some x => d.modTalker i fun t => { t with stopAt := some x }
        | none => d.stopTalker i 0)
  else withFin 16 index 8 fun i =>
    let l := d.streams.listeners[i]
    if l.setup.isNone then refusedState 6
    else if l.group.isSome then refusedState 7
    else match d.stopRefusal l.state l.startAt time with
      | some k => refusedState k
      | none => okay (match future with
        | some x => d.modListener i fun l => { l with stopAt := some x }
        | none => d.stopListener i 0)

/-! ### The events of the state table -/

/-- The position presented at a time in ps, counted from the last accepted frame at the stream's measured period
(R212, R214). Two ps of tolerance take up the rounding of the presentation times. -/
def posAt (d : Dev) (l : Listener) (t : Int) : Option Int :=
  l.anchor.map fun (n, t0) => n + (t - t0 + 2) * (d.fs * (10 ^ 12 + l.rate)) / 10 ^ 24

/-- What fills a position. (DEDUCED, log 89) -/
def filledAt (l : Listener) (pos : Int) : Option FilledPos := l.filled.find? fun p => p.pos == pos

/-- The position at the readout now, where an accepted sample stands there (R222). -/
def atReadout (d : Dev) (i : Fin 16) : Option Int :=
  let l := d.streams.listeners[i]
  (d.posAt l (d.nowPs + l.skew)).filter fun p => (filledAt l p).isSome

/-- A listener starts to play (R222). -/
def listenerStartPlay (d : Dev) (i : Fin 16) : Dev :=
  let l := d.streams.listeners[i]
  if l.state = .waiting ∧ d.ks.timeValid ∧ ¬ l.rateBad ∧ l.startAt.all (· ≤ d.now) ∧ (d.atReadout i).isSome then
    (d.modListener i fun l => { l with
      startAt := none, gain := 0, target := 64, unfilledRun := 0, playFrom := d.atReadout i }).listenerEnter i .playing 2
  else d

/-- 64 consecutive unfilled positions (R215). -/
def listenerStarve (d : Dev) (i : Fin 16) : Dev :=
  let l := d.streams.listeners[i]
  if l.state = .playing ∧ l.unfilledRun ≥ 64 then
    let d' := (d.modListener i fun l => { l with gain := 0, target := 0, leaving := none }).listenerEnter i .starved 3
    match l.leaving with
    | some reason => d'.listenerWaiting i reason
    | none => d'
  else d

/-- An accepted sample reaches the readout of a STARVED listener (R222). -/
def listenerResume (d : Dev) (i : Fin 16) : Dev :=
  if d.streams.listeners[i].state = .starved ∧ (d.atReadout i).isSome then
    (d.modListener i fun l => { l with gain := 0, target := 64, unfilledRun := 0 }).listenerEnter i .playing 2
  else d

/-- A talker's start time is reached, with TIME_VALID; its exit from WAITING toggles mr (R217, R219, R222). -/
def talkerStartSend (d : Dev) (i : Fin 8) : Dev :=
  let t := d.streams.talkers[i]
  if t.state = .waiting ∧ (d.startPending t.startAt).isNone then
    (d.modTalker i fun t => { t with startAt := none, toggle := true, gain := 64 }).talkerEnter i .sending 1
  else d

/-- A pending stop time is reached; it waits while TIME_VALID is 0 (R217, R223). (DEDUCED, log 92) -/
def stopTimeReached (d : Dev) (talker : Bool) (index : Fin 16) : Dev :=
  if ¬ d.ks.timeValid then d
  else if talker then
    if h : index.val < 8 then
      if d.streams.talkers[(⟨index.val, h⟩ : Fin 8)].stopAt.any (· ≤ d.now) then d.stopTalker ⟨index.val, h⟩ 7 else d
    else d
  else if d.streams.listeners[index].stopAt.any (· ≤ d.now) then d.stopListener index 7 else d

/-! ### Talkers (R217, R219, R220, R223) -/

/-- A sample as a talker sends it, in `bytes` bytes: rounded to the nearest (R210). Of one that rounds beyond the
format's largest value the manual does not say what is sent. (DESIGN CHOICE, log 140) -/
def sendSample (bytes : Nat) (w : Word) : List Byte :=
  let q := nearest w.toInt (2 ^ (32 - 8 * bytes))
  let top : Int := 2 ^ (8 * bytes - 1) - 1
  natBe bytes ((if q ≤ top then q else Config.roundedOver bytes q) % (2 ^ (8 * bytes) : Nat)).toNat

/-- The nsr code of the system rate (Table 8.2). -/
def nsrCode (r : Fin 6) : Nat := r.val + 4

/-- The AAF frame a talker sends of what it has gathered (Table 8.2, R219). -/
def aafOf (d : Dev) (s : TalkerSetup) (t : Talker) (f : TalkerFrame) : AafSent :=
  let bytes := sampleBytes s.format
  { streamId := s.streamId, vid := s.vid, pcp := s.pcp, mr := f.mr, tu := !d.ks.timeValid, seq := t.seq,
    format := s.format, nsr := nsrCode d.ks.rate, channels := s.channels, bitDepth := 8 * bytes,
    timestamp := w32 (f.edge + 1000 * s.presUs), data := (f.samples.flatten).flatMap (sendSample bytes) }

/-- A talker gathers one sample of each channel at a TDM frame. The first of a frame keeps the local media time of
its edge, and the frame toggles mr if it is the first started after a relabel or an exit from WAITING (R219). A
stop ramp scales the samples, and its last one completes the last frame, with zeros (R223). -/
def talkerGather (d : Dev) (i : Fin 8) (sample : List Word) : Dev :=
  let t := d.streams.talkers[i]
  match t.setup with
  | none => d
  | some s =>
    if t.state = .sending ∨ (t.state = .stopping ∧ 0 < t.gain) then
      let gain := if t.state = .stopping then t.gain - 1 else t.gain
      let sample := if t.state = .stopping then sample.map fun w => i32 (narrow (w.toInt * gain) 64) else sample
      let first := t.gathered.isEmpty
      let t : Talker := { t with
        gain := gain, gathered := t.gathered ++ [sample], firstEdge := if first then d.streams.edge else t.firstEdge,
        mr := t.mr != (first && t.toggle), toggle := t.toggle && !first }
      let last := t.state == .stopping && t.gain == 0
      let rest := List.replicate (s.spf - t.gathered.length) (List.replicate s.channels (0 : Word))
      d.modTalker i fun _ =>
        if last ∨ t.gathered.length ≥ s.spf then
          { t with gathered := [], ready := t.ready ++ [⟨t.gathered ++ rest, t.firstEdge, t.mr⟩] }
        else t
    else d

/-- A talker submits the oldest frame it has gathered whole, stamped (R217, R219, R220). -/
def talkerFrameSend (d : Dev) (i : Fin 8) : Dev :=
  let t := d.streams.talkers[i]
  match t.setup, t.ready with
  | some s, f :: rest =>
    let a := d.aafOf s t f
    let d := d.modTalker i fun t => { t with
      ready := rest, seq := t.seq + 1, lastStamp := a.timestamp,
      framesSent := wrapInc 32 t.framesSent, tuSent := if a.tu then wrapInc 32 t.tuSent else t.tuSent }
    d.submit s.port ⟨if s.classB then .classB else .classA, talkerFrameLength s, some i, s.dest, 0x22F0, .aaf a⟩
  | _, _ => d

/-- The stop ramp ends (R223): a talker's last frame has been gathered and is sent. -/
def stopRampEnd (d : Dev) (talker : Bool) (index : Fin 16) : Dev :=
  if talker then
    if h : index.val < 8 then
      let i : Fin 8 := ⟨index.val, h⟩
      let t := d.streams.talkers[i]
      if t.state = .stopping ∧ t.gain = 0 then
        (t.ready.foldl (fun d _ => d.talkerFrameSend i) d).talkerIdle i t.reason
      else d
    else d
  else
    let l := d.streams.listeners[index]
    if l.state = .stopping ∧ l.gain = 0 then d.listenerIdle index l.reason else d

/-! ### Received frames (R210–R214, R228) -/

/-- Event STREAM_FAULT (Table 8.11). -/
def faultEvent (d : Dev) (i : Fin 16) (kind : Nat) : Dev := d.push 0x0502 (at' 0 i.val ||| at' 8 kind)

/-- The estimated rate lies outside ±300 ppm of local media time (R228). -/
def rateOut (l : Listener) : Bool := l.rate.natAbs > 300000000

/-- A stream fault is raised (R228): RATE takes the listener to WAITING; TIMEBASE and FORMAT are
pushed once for 64 frames in a row, until an accepted frame. -/
def streamFault (d : Dev) (i : Fin 16) (kind : Fin 3) : Dev :=
  let l := d.streams.listeners[i]
  match kind with
  | 0 => if l.state ≠ .idle ∧ rateOut l = true ∧ ¬ l.rateBad then
      ((d.modListener i fun l => { l with rateBad := true }).faultEvent i 0).listenerWait i 6 else d
  | 1 => if l.lateRun ≥ 64 ∧ ¬ l.toldTimebase then
      (d.modListener i fun l => { l with toldTimebase := true }).faultEvent i 1 else d
  | 2 => if l.mismatchRun ≥ 64 ∧ ¬ l.toldFormat then
      (d.modListener i fun l => { l with toldFormat := true }).faultEvent i 2 else d

/-- The rate estimate has stayed in range for 1 s (R228). -/
def rateRecovered (d : Dev) (i : Fin 16) : Dev :=
  d.modListener i fun l => { l with rateBad := l.rateBad && rateOut l }

/-- The listener that a stream ID names on a port. -/
def listenerOf (d : Dev) (p : Fin 3) (id : U64) : Option (Fin 16) :=
  findIdx? fun i : Fin 16 => d.streams.listeners[i].setup.any fun s => s.port == p && s.streamId == id

/-- Frames with an unknown stream ID are counted per port and discarded (R228). -/
def streamUnknown (d : Dev) (p : Fin 3) : Dev :=
  d.modStreams fun s => { s with unknown := upd s.unknown p (wrapInc 32) }

/-- The samples of a frame, instant by instant and channel by channel, most significant byte first; 16-bit and
24-bit samples are held left-justified (R210). -/
def aafSamples (channels bytes : Nat) (data : List Byte) : List (List Word) :=
  (List.range (data.length / (channels * bytes))).map fun k => (List.range channels).map fun c =>
    w32 (beNat ((data.drop ((k * channels + c) * bytes)).take bytes) * 2 ^ (32 - 8 * bytes))

/-- A frame passes the "Listener accepts" column of Table 8.2, `tv` apart. -/
def aafFits (d : Dev) (s : ListenerSetup) (f : AafFrame) : Bool :=
  let bytes := sampleBytes s.format
  let n := f.dataLength / (s.channels * bytes)
  f.version == 0 && f.format == s.format && f.nsr == nsrCode d.ks.rate && f.channels == s.channels &&
  1 ≤ f.bitDepth && f.bitDepth ≤ 8 * bytes && !f.sp && f.dataLength == f.data.length &&
  f.dataLength == s.channels * n * bytes && 1 ≤ n && n ≤ 64

/-- The AVTP timestamp extended to the value within ±2^31 ns of a time (R212). -/
def extendStamp (now : Nat) (ts : Nat) : Int :=
  let base : Int := (now : Int) - 2 ^ 31
  base + ((ts : Int) - base) % 2 ^ 32

/-- The presentation time of the `k`th position after one at `t`, in ps, at the stream's measured period (R212). -/
def laterPs (fs : Nat) (rate t : Int) (k : Nat) : Int := t + roundDiv (k * 10 ^ 24) (max 1 (fs * (10 ^ 12 + rate)))

/-- The number of the position whose presentation time is `first` (R212). -/
def firstPos (fs : Nat) (l : Listener) (first : Int) : Int :=
  match l.anchor with
  | none => roundDiv (first * fs) (10 ^ 12)
  | some (n, t0) => n + roundDiv ((first - t0) * (fs * (10 ^ 12 + l.rate))) (10 ^ 24)

/-- The rate estimate after a frame whose first position and presentation time are given (R214): what the two
timestamps show is followed by a filter of 1 s time constant. (DESIGN CHOICE, log 16) -/
def nextRate (fs : Nat) (l : Listener) (pos first : Int) : Int :=
  match l.anchor with
  | none => l.rate
  | some (n, t0) =>
    if first ≤ t0 then l.rate
    else
      let measured := roundDiv ((pos - n) * 10 ^ 24) (fs * (first - t0)) - 10 ^ 12
      toward l.rate measured (Config.rateEstimate l.rate measured (first - t0))

/-- A frame is taken: the runs of faults end, its sequence number is checked, and the rate
estimate moves on (R213, R214, R228). -/
def frameTaken (d : Dev) (i : Fin 16) (f : AafFrame) (n : Nat) (pos first : Int) : Dev :=
  let gap := d.streams.listeners[i].lastSeq.any (· + 1 != f.seq)
  let d := d.modListener i fun l => { l with
    lastSeq := some f.seq, lastMr := f.mr, frameLen := n, lateRun := 0, mismatchRun := 0, toldTimebase := false,
    toldFormat := false, rate := nextRate d.fs l pos first, anchor := some (pos, first), lead := (first - d.nowPs) / 1000 }
  if gap then d.modCounts i fun c => { c with seqGaps := wrapInc 32 c.seqGaps } else d

/-- A frame that is not taken ends the runs of the other kinds (R228). -/
def runsEnd (d : Dev) (i : Fin 16) (late mismatch : Bool) : Dev :=
  d.modListener i fun l => { l with
    lateRun := if late then l.lateRun + 1 else 0, mismatchRun := if mismatch then l.mismatchRun + 1 else 0 }

/-- The judgement of a well-formed AAF frame at acceptance (R212, R213). A frame whose first position the readout
has inspected is late (Table 8.6). `shift` is Lintel's time-base correction in ns (R245). -/
def aafJudge (d : Dev) (i : Fin 16) (s : ListenerSetup) (f : AafFrame) (shift : Int) : Dev :=
  let l := d.streams.listeners[i]
  let samples := aafSamples s.channels (sampleBytes s.format) f.data
  let first := 1000 * (extendStamp d.now f.timestamp.toNat + shift + 1000000 * s.rideMs)
  let last := laterPs d.fs l.rate first (samples.length - 1)
  let pos := firstPos d.fs l first
  let lead := first - d.nowPs
  let d := d.modListener i fun l => { l with leastLead := some (l.leastLead.elim (lead / 1000) (min (lead / 1000))) }
  if lead * d.fs < 4 * 10 ^ 12 ∨ l.inspected.any (pos ≤ ·) then
    (d.runsEnd i true false).modCounts i fun c => { c with late := wrapInc 32 c.late }
  else if (last - d.nowPs - 1000000 * s.mttUs - 1000000000 * s.rideMs) * d.fs > 64 * 10 ^ 12 then
    (d.runsEnd i true false).modCounts i fun c => { c with early := wrapInc 32 c.early }
  else
    let frame := (List.range samples.length).map fun (k : Nat) =>
      (⟨pos + k, laterPs d.fs l.rate first k, samples.getD k []⟩ : FilledPos)
    let news := frame.filter fun p => (filledAt l p.pos).isNone
    if news.isEmpty then (d.runsEnd i false false).modCounts i fun c => { c with duplicates := wrapInc 32 c.duplicates }
    else
      let d := (d.modListener i fun l => { l with filled := l.filled ++ news }).frameTaken i f samples.length pos first
      if news.length < frame.length then d.modCounts i fun c => { c with overlaps := wrapInc 32 c.overlaps }
      else d.modCounts i fun c => { c with accepted := wrapInc 32 c.accepted }

/-- A frame of a kind or format the listener does not accept (R210, R211). -/
def formatMismatch (d : Dev) (i : Fin 16) : Dev :=
  (d.runsEnd i false true).modCounts i fun c => { c with mismatch := wrapInc 32 c.mismatch }

/-- A received AAF frame (R210, R213, R217). Answers the device and, if the frame's samples were
taken, the listener. -/
def aafFrame (d : Dev) (f : AafFrame) (shift : Fin 16 → Int) : Dev × Option (Fin 16) :=
  match d.listenerOf f.port f.streamId with
  | none => (d.streamUnknown f.port, none)
  | some i =>
    match d.streams.listeners[i].setup with
    | none => (d, none)
    | some s =>
      if d.streams.listeners[i].state = .idle then (d, none)
      else if ¬ d.ks.timeValid then
        ((d.runsEnd i false false).modCounts i fun c => { c with noTime := wrapInc 32 c.noTime }, none)
      else if s.crf then (d.formatMismatch i, none)
      else if ¬ f.tv then
        ((d.runsEnd i false false).modCounts i fun c => { c with tsInvalid := wrapInc 32 c.tsInvalid }, none)
      else if ¬ d.aafFits s f then (d.formatMismatch i, none)
      else
        let d := if f.tu then d.modCounts i fun c => { c with tsUncertain := wrapInc 32 c.tsUncertain } else d
        let before := d.streams.listeners[i].filled.length
        let d := d.aafJudge i s f (shift i)
        (d, if d.streams.listeners[i].filled.length > before then some i else none)

/-- A CRF base frequency is the system rate or the base rate of its family (R211). -/
def crfBaseOk (r : Fin 6) (hz : Nat) : Bool :=
  hz == rateHz r || hz == (if rateIs441 r then 44100 else 48000)

/-- The timestamps of two frames in a row run at the base frequency within ±300 ppm (Table 6.1): `n` timestamps of
`interval` base periods each lie between them. -/
def crfRate (hz interval n : Nat) (t u : Nat) : Bool :=
  let nominal : Int := n * interval * 10 ^ 9
  ((((u : Int) - t) * hz - nominal).natAbs : Int) * 10 ^ 6 ≤ 300 * nominal

/-- A received CRF frame (R211): a frame of another kind counts in FORMAT_MISMATCH, a valid one
feeds its Keystone slot, and a timestamp-uncertain one is a loss of it (Table 6.1). -/
def crfFrame (d : Dev) (f : CrfFrame) : Dev :=
  match d.listenerOf f.port f.streamId with
  | none => d.streamUnknown f.port
  | some i =>
    match d.streams.listeners[i].setup with
    | none => d
    | some s =>
      if d.streams.listeners[i].state = .idle then d
      else if ¬ s.crf ∨ f.type ≠ 1 ∨ f.pull ≠ 0 ∨ ¬ crfBaseOk d.ks.rate f.baseHz ∨ f.interval = 0 ∨
          f.stamps.length < 1 ∨ 16 < f.stamps.length then d.formatMismatch i
      else
        let slot := slotOf s
        let d := (d.modListener i fun l => { l with mismatchRun := 0, toldFormat := false }).modCounts i fun c =>
          { c with accepted := wrapInc 32 c.accepted,
                   tsUncertain := if f.tu then wrapInc 32 c.tsUncertain else c.tsUncertain }
        if f.tu then d.crfLost slot
        else
          (d.modStreams fun e => { e with
            crfFrames := upd e.crfFrames slot (· + 1)
            crfLast := upd e.crfLast slot fun _ => f.stamps.head?.map fun t => (t, f.stamps.length)
            crfRateOk := upd e.crfRateOk slot fun _ => match e.crfLast[slot], f.stamps.head? with
              | some (t, n), some u => crfRate f.baseHz f.interval n t u
              | _, _ => false }).modKs fun k =>
            { k with refs := upd k.refs (if s.slotB then 4 else 3) fun r => { r with present := true } }

/-! ### The readout (R214, R215, R232) -/

/-- A position the listener has had to play is unfilled, as the readout has found (R215). -/
def gapAt (l : Listener) (pos : Int) : Bool :=
  l.inspected.any (pos ≤ ·) && l.playFrom.any (· ≤ pos) && (filledAt l pos).isNone

/-- The fade about a gap at a position: the 4 samples before it fade to zero, the first 4 after
it fade in (R215). In 2^-30. (DEDUCED, log 89) -/
def gapFade (l : Listener) (pos : Int) : Int :=
  let ahead := (List.range 4).find? fun (k : Nat) => gapAt l (pos + 1 + k)
  let behind := (List.range 4).find? fun (k : Nat) => gapAt l (pos - 1 - k)
  match ahead, behind with
  | some k, _ => raisedCos k 4
  | none, some k => raisedCos (k + 1) 4
  | none, none => 2 ^ 30

/-- The value of one channel at the readout now, after the interpolator, the gap fades and the ramp (R214, R215,
R222): the sample itself where its presentation time is within 31.25 ps, and the interpolator's value elsewhere. -/
def listenerSample (d : Dev) (i : Fin 16) (ch : Nat) : Int :=
  let l := d.streams.listeners[i]
  let t := d.nowPs + l.skew
  let v (p : Int) : Int := ((((filledAt l p).map fun (x : FilledPos) => x.words).getD []).getD ch 0).toInt
  if l.state = .playing ∨ l.state = .stopping then
    match d.posAt l t with
    | none => 0
    | some p =>
      match filledAt l p with
      | none => 0
      | some x =>
        let after := t - x.due
        let s := if after.natAbs ≤ 31 then v p
          else Config.interpolate [v (p - 1), v p, v (p + 1), v (p + 2)] after (laterPs d.fs l.rate 0 1)
        narrow (s * gapFade l p * l.gain) (2 ^ 36)
  else 0

/-- The readout inspects the positions that have come to now + L, in order: how many in a row are unfilled at the
end, and how many there were (R215). -/
def inspect (l : Listener) (done goal : Int) : Nat × Nat :=
  (List.range (goal - done).toNat).foldl (fun (r : Nat × Nat) (k : Nat) =>
    if (filledAt l (done + 1 + k)).isNone then (r.1 + 1, r.2 + 1) else (0, r.2)) (l.unfilledRun, 0)

/-- One sample boundary of a listener's readout: the positions that have come to now + L are inspected, unfilled
ones count as concealed while the stream is presented, positions long past are given up, the ramp moves, and at
the end of a ramp that a cause of WAITING began, WAITING is entered (R215, R222). -/
def listenerAdvance (d : Dev) (i : Fin 16) : Dev :=
  let l : Listener := d.streams.listeners[i]
  let moved (l : Listener) : Listener := { l with
    gain := if l.gain < l.target then l.gain + 1 else if l.target < l.gain then l.gain - 1 else l.gain
    startAt := d.startPending l.startAt }
  if l.state = .idle then d
  else
    let t := d.nowPs + l.skew
    let presented : Bool := l.state == .playing || l.state == .starved || l.state == .stopping
    let d : Dev := match d.posAt l (t + roundDiv (4 * 10 ^ 12) d.fs), d.posAt l t with
      | some goal, some here =>
        let done := l.inspected.getD (goal - 1)
        let seen := inspect l done goal
        d.modListener i fun (l : Listener) => { moved l with
          inspected := some (max done goal), filled := l.filled.filter fun p => here ≤ p.pos + 8,
          unfilledRun := if l.state = .playing then seen.1 else l.unfilledRun,
          counts := if presented then { l.counts with concealed := (l.counts.concealed + seen.2) % 2 ^ 32 } else l.counts }
      | _, _ => d.modListener i moved
    let l := d.streams.listeners[i]
    match l.leaving with
    | some reason => if l.gain = 0 then d.listenerWaiting i reason else d
    | none => d

/-! ### gPTP (R207–R209) -/

/-- Change one 802.1AS instance. -/
def modGptp (d : Dev) (p : Fin 3) (f : Gptp → Gptp) : Dev := { d with gptp := upd d.gptp p f }

/-- The code of a role (GPTP_STATUS). -/
def roleCode : GptpRole → Nat | .disabled => 0 | .slave => 1 | .none => 2

/-- Event GPTP_PORT (Table 8.11). -/
def gptpEvent (d : Dev) (p : Fin 3) : Dev :=
  d.push 0x0503 (at' 0 p.val ||| at' 2 (roleCode d.gptp[p].role) ||| bitW 4 d.gptp[p].asCapable)

/-- The Keystone entry of a port. -/
def portEntry (p : Fin 3) : Fin 8 := ⟨p.val, by omega⟩

/-- The instance runs: its port is UP and GPTP_EN is 1 (R208). -/
def gptpRuns (d : Dev) (p : Fin 3) : Bool := d.eth[p].link.state == .up && d.gptp[p].enable

/-- Change role or asCapable: a change is a loss of the port's reference (Table 6.1) and is pushed.
 (PRESUMED, log 90) -/
def gptpSet (d : Dev) (p : Fin 3) (role : GptpRole) (cap : Bool) : Dev :=
  let g := d.gptp[p]
  if g.role = role ∧ g.asCapable = cap then d
  else
    let d := (d.modGptp p fun g => { g with role := role, asCapable := cap }).gptpEvent p
    if g.role = .slave ∧ g.asCapable then d.refLose (portEntry p) false else d

/-- An 802.1AS message of the instance for its port's control queue. -/
def gptpSend (d : Dev) (p : Fin 3) (m : GptpSent) : Dev :=
  d.submit p ⟨.control, 72, none, 0x0180C200000E, 0x88F7, .gptp m⟩

/-- The time a message that started `ago` cc ago was received, in 2^-16 ns: its instant at the pins, refined by the
capture phase, less the PHY's receive latency (R209). -/
def receiptStamp (d : Dev) (p : Fin 3) (ago : Nat) : Int :=
  let l := d.eth[p].link
  stampOf ((d.cc : Int) - ago) l.phase.toNat - 65536 * l.rxLatency

/-- An event message of the instance has been launched, at a time in 2^-16 ns (R207, R209): a Pdelay_Req keeps it,
and a Pdelay_Resp carries it in the follow-up of the two-step responder. -/
def gptpLaunched (d : Dev) (p : Fin 3) (m : GptpSent) (at' : Int) : Dev :=
  match m with
  | .pdelayReq seq => d.modGptp p fun g => { g with reqSent := if g.pdelaySeq = seq then some at' else g.reqSent }
  | .pdelayResp seq _ => d.gptpSend p (.pdelayRespFollowUp seq at')
  | .pdelayRespFollowUp _ _ => d

/-- neighborPropDelay in ps from a complete exchange (R207): half of what the round trip, at the neighbour's rate,
exceeds the peer's residence by. (PRESUMED, log 90) -/
def propDelay (ratio sent received peerReceived peerSent : Int) : Int :=
  narrow (((10 ^ 12 + ratio) * (received - sent) - 10 ^ 12 * (peerSent - peerReceived)) * 1000) (2 * 10 ^ 12 * 65536)

/-- What a Sync tells the instance, whole or with its Follow_Up: the grandmaster's time at its receipt and the rate
ratio to it (R207). (PRESUMED, log 90) -/
def syncTaken (d : Dev) (p : Fin 3) (received : Int) (info : SyncInfo) : Dev :=
  d.modGptp p fun g => { g with
    syncRecv := none, lastSync := some (received, info.origin),
    gmRatio := narrow (info.scaledRate * 10 ^ 12) (2 ^ 41) + g.neighborRatio }

/-- A message interval that a request TLV names: −128 keeps it, 126 asks for the initial one, and any other is
taken as it is, 127 among them, which stops the messages. (PRESUMED, log 90) -/
def intervalOf (now initial asked : Int) : Int := if asked = -128 then now else if asked = 126 then initial else asked

/-- The initial logSyncInterval. (PRESUMED, log 90) -/
def initLogSync : Int := -3

/-- A received message updates the port's instance; one of another domain is discarded (R207–R209).
 (PRESUMED, log 90) -/
def gptpMessage (d : Dev) (p : Fin 3) (domain ago : Nat) (m : GptpMessage) : Dev :=
  if ¬ d.gptpRuns p ∨ domain ≠ 0 then d else
  let g := d.gptp[p]
  let received := d.receiptStamp p ago
  match m with
  | .announce gm steps =>
    if 255 ≤ steps then d
    else
      let changed := g.role == .slave && g.grandmaster != gm
      let d := d.modGptp p fun g => { g with grandmaster := gm, steps := steps }
      let d := if changed then d.refLose (portEntry p) false else d
      d.gptpSet p .slave g.asCapable
  | .sync li one =>
    let d := d.modGptp p fun g => { g with logSync := li, syncRecv := some received }
    match one with
    | some info => d.syncTaken p received info
    | none => d
  | .followUp info =>
    match g.syncRecv with
    | some t => d.syncTaken p t info
    | none => d
  | .pdelayReq seq => d.gptpSend p (.pdelayResp seq received)
  | .pdelayResp seq receipt =>
    if g.awaiting ∧ seq = g.pdelaySeq then d.modGptp p fun g => { g with respRecv := some (received, receipt) } else d
  | .pdelayRespFollowUp seq origin =>
    match g.reqSent, g.respRecv with
    | some sent, some (back, peer) =>
      if g.awaiting ∧ seq = g.pdelaySeq then
        let ratio := match g.exchange with
          | some before => Config.neighborRatio before (origin, back)
          | none => g.neighborRatio
        let delay := propDelay ratio sent back peer origin
        let d := d.modGptp p fun g => { g with
          delayPs := delay, neighborRatio := ratio, measuring := true, exchange := some (origin, back),
          awaiting := false, reqSent := none, respRecv := none, lostResponses := 0 }
        d.gptpSet p g.role (delay ≤ 1000 * g.delayThresh)
      else d
    | _, _ => d
  | .signaling pd sy =>
    d.modGptp p fun g => { g with
      logPdelay := intervalOf g.logPdelay g.initLogPdelay pd, logSync := intervalOf g.logSync initLogSync sy }

/-- syncReceiptTimeout expires: a reference loss (R208, Table 6.1). -/
def syncTimeout (d : Dev) (p : Fin 3) : Dev :=
  if d.gptpRuns p then d.refLose (portEntry p) false else d

/-- announceReceiptTimeout expires: the instance reports no role (R207, R208). -/
def announceTimeout (d : Dev) (p : Fin 3) : Dev :=
  if d.gptpRuns p then d.gptpSet p .none d.gptp[p].asCapable else d

/-- The peer-delay interval elapses and a Pdelay_Req is sent; too many lost responses end
asCapable (R208). An interval of 127 sends none. (PRESUMED, log 90) -/
def pdelaySend (d : Dev) (p : Fin 3) : Dev :=
  let g := d.gptp[p]
  if ¬ d.gptpRuns p ∨ g.logPdelay = 127 then d else
  let lost := if g.awaiting then satInc 255 g.lostResponses else g.lostResponses
  let d := (d.modGptp p fun g => { g with
    awaiting := true, lostResponses := lost, pdelaySeq := g.pdelaySeq + 1, reqSent := none, respRecv := none }).gptpSend p
      (.pdelayReq (g.pdelaySeq + 1))
  if lost > g.allowedLost then
    (d.modGptp p fun g => { g with measuring := false }).gptpSet p g.role false
  else d

/-- A port's instance is reset to its initial intervals at a departure from UP (R195, R208). -/
def gptpReset (d : Dev) (p : Fin 3) : Dev :=
  let g := d.gptp[p]
  let d := d.gptpSet p (if g.enable then .none else .disabled) false
  (d.modGptp p fun g => { g with
    measuring := false, awaiting := false, lostResponses := 0, gmRatio := 0, neighborRatio := 0, delayPs := 0,
    steps := 0, grandmaster := 0, logSync := initLogSync, logPdelay := g.initLogPdelay, reqSent := none,
    respRecv := none, exchange := none, syncRecv := none, lastSync := none }).refLose (portEntry p)
      (d.eth[p].link.state == .easing)

/-! ### Commands (R225, R226, R229) -/

/-- Give up what a listener's old set-up holds: its filter entry and its CRF slot (R189, R225). -/
def listenerRelease (d : Dev) (i : Fin 16) : Dev :=
  match d.streams.listeners[i].setup with
  | none => d
  | some s =>
    let d := if s.crf then d.crfLost (slotOf s) else d
    let d := d.freeFilter s.port (.listener i)
    d.modStreams fun e => { e with
      listeners := upd e.listeners i fun l => { l with setup := none },
      crfSlot := e.crfSlot.map fun h => if h = some i then none else h }

/-- LISTENER_SETUP (R225, R229, Table 8.8). -/
def cmdListenerSetup : CmdFn := fun _ req d =>
  let channels := req.fld 0x18 4 0
  let crf := req.bit 8 12
  withFin 16 (req.fld 8 3 0) 8 fun i => withFin 3 (req.fld 8 9 8) 8 fun p =>
    let s : ListenerSetup := {
      port := p, crf := crf, slotB := req.bit 8 16, autostart := req.bit 8 24,
      streamId := req.ident 0x0C, dest := req.octets 0x14, channels := channels,
      format := clampN 2 4 (req.fld 0x18 10 8), mttUs := clampN 500 20000 (req.fld 0x1C 15 0),
      rideMs := clampN 0 250 (req.fld 0x1C 31 16) }
    let slot := slotOf s
    let l := d.streams.listeners[i]
    if channels = 0 then badParam 0x18
    else if 16 < channels then .refuse .budget 7 []
    else if l.state ≠ .idle then refusedState 1
    else if l.group.isSome then refusedState 7
    else if (allFin 16).any (fun j => j != i && d.streams.listeners[j].setup.any fun t =>
        t.port == p && t.streamId == s.streamId) then refusedState 9
    else if crf ∧ d.streams.crfSlot[slot].any (· != i) then refusedState 10
    else match (d.listenerRelease i).takeFilter p s.dest (.listener i) with
      | none => refusedState 0xF1
      | some d => okayKey req (0x0500 + i.val) (d.modStreams fun e => { e with
          listeners := upd e.listeners i fun l => { l with
            setup := some s, counts := zeroCounts, rate := 0, lead := 0, leastLead := none, reason := 0 },
          crfSlot := if crf then upd e.crfSlot slot fun _ => some i else e.crfSlot })

/-- The default samples per frame of a class (R220). -/
def defaultSpf (fs : Nat) (classB : Bool) : Nat := if classB then fs / 4000 else fs / 8000

/-- TALKER_SETUP (R220, R225, Table 8.8). -/
def cmdTalkerSetup : CmdFn := fun _ req d =>
  let channels := req.fld 0x18 4 0
  let classB := req.bit 8 12
  withFin 3 (req.fld 8 9 8) 8 fun p => withFin 8 (req.fld 8 2 0) 8 fun i =>
    let spf := if req.fld 0x1C 23 16 = 0 then defaultSpf d.fs classB else req.fld 0x1C 23 16
    let s : TalkerSetup := {
      port := p, classB := classB, autostart := req.bit 8 24, streamId := req.ident 0x0C,
      dest := req.octets 0x14, channels := channels, format := clampN 2 4 (req.fld 0x18 10 8),
      presUs := clampN 500 20000 (req.fld 0x1C 15 0), spf := spf,
      vid := if req.fld 0x20 11 0 = 0 then 2 else req.fld 0x20 11 0,
      pcp := if req.bit 0x20 15 then req.fld 0x20 14 12 else if classB then 2 else 3 }
    if channels = 0 then badParam 0x18
    else if 16 < channels then .refuse .budget 7 []
    else if 64 < spf ∨ 1522 < talkerFrameLength s then badParam 0x1C
    else if d.streams.talkers[i].state ≠ .idle then refusedState 1
    else okayKey req (0x0510 + i.val) (d.modTalker i fun t => { t with
      setup := some s, framesSent := 0, linkDiscard := 0, tuSent := 0, seq := 0, reason := 0 })

/-- STREAM_START (R224, R229). -/
def cmdStreamStart : CmdFn := fun _ req d => d.streamStart (req.bit 8 8) (req.fld 8 3 0) (req.time 0x0C)

/-- STREAM_STOP (R224, R229). -/
def cmdStreamStop : CmdFn := fun _ req d => d.streamStop (req.bit 8 8) (req.fld 8 3 0) (req.time 0x0C)

/-- STREAM_DELETE (R225, R226, R229). -/
def cmdStreamDelete : CmdFn := fun _ req d =>
  if req.bit 8 8 then withFin 8 (req.fld 8 3 0) 8 fun i =>
    let t := d.streams.talkers[i]
    if t.setup.isNone then refusedState 6
    else if t.state ≠ .idle then refusedState 1
    else okayRemove req (0x0510 + i.val) { (d.modTalker i fun t => { t with setup := none }) with
      lintel := { d.lintel with roles := upd d.lintel.roles i fun _ => none } }
  else withFin 16 (req.fld 8 3 0) 8 fun i =>
    let l := d.streams.listeners[i]
    if l.setup.isNone then refusedState 6
    else if l.group.isSome then refusedState 7
    else if l.state ≠ .idle then refusedState 1
    else okayRemove req (0x0500 + i.val) (d.listenerRelease i)

/-- A listener's Mortar region, (0, 0) where it has none. -/
def regionOf (d : Dev) (o : MortarOwner) : Nat × Nat :=
  match d.streams.mortar.find? fun a => a.owner == o with
  | some a => (a.first, a.count)
  | none => (0, 0)

/-- STREAM_STATUS (Table 8.9). -/
def cmdStreamStatus : CmdFn := fun _ req d =>
  if req.bit 8 8 then withFin 8 (req.fld 8 3 0) 8 fun i =>
    let t := d.streams.talkers[i]
    match t.setup with
    | none => refusedState 6
    | some s => reply [orW [at' 0 (streamCode t.state), at' 8 t.reason, bitW 16 (d.startPending t.startAt).isSome, bitW 17 t.stopAt.isSome],
        w32 t.framesSent, w32 t.linkDiscard, w32 t.tuSent, i32 (narrow (d.talkerBandwidth s) (1000 * spfUnit)),
        at' 0 (t.seq - 1).toNat ||| at' 8 s.spf] d
  else withFin 16 (req.fld 8 3 0) 8 fun i =>
    let l := d.streams.listeners[i]
    let c := l.counts
    let (g, n) := d.regionOf (.listener i)
    if l.setup.isNone then refusedState 6
    else reply [orW [at' 0 (streamCode l.state), at' 8 l.reason, bitW 16 (d.startPending l.startAt).isSome, bitW 17 l.stopAt.isSome],
      i32 l.rate, at' 0 g ||| at' 8 (min 255 n), i32 (l.lead / 1000), i32 (l.leastLead.getD 0 / 1000),
      w32 c.accepted, w32 c.late, w32 c.early, w32 c.duplicates, w32 c.overlaps, w32 c.seqGaps, w32 c.mismatch,
      w32 c.tsInvalid, w32 c.tsUncertain, w32 c.noTime, w32 c.concealed,
      at' 0 c.resync ||| at' 16 (min 0xFFFF c.discarded)] d

/-- PORT_STREAM_STATUS (Table 8.8). -/
def cmdPortStreamStatus : CmdFn := fun _ req d => withFin 3 (req.fld 8 1 0) 8 fun p =>
  reply [w32 (d.idleSlope p false), w32 (d.idleSlope p true), w32 d.streams.unknown[p]] d

/-- GPTP_SET (R208, Table 8.5, Table 8.8). -/
def cmdGptpSet : CmdFn := fun _ req d => withFin 3 (req.fld 8 1 0) 8 fun p =>
  let en := req.bit 8 8
  let stops := d.gptp[p].enable && !en
  let d := d.modGptp p fun g => { g with
    enable := en, delayThresh := req.fld 0x0C 15 0, allowedLost := clampN 1 255 (req.fld 0x0C 23 16),
    logPdelay := clampI (-3) 3 (fldS (req.word 0x10) 7 0), initLogPdelay := clampI (-3) 3 (fldS (req.word 0x10) 7 0),
    syncTimeout := clampN 2 255 (req.fld 0x10 15 8), announceTimeout := clampN 2 255 (req.fld 0x10 23 16) }
  let d := if stops then d.gptpReset p
    else if en ∧ d.gptp[p].role = .disabled then d.gptpSet p .none false else d
  okayKey req (0x0520 + p.val) d

/-- GPTP_STATUS (Table 8.8). -/
def cmdGptpStatus : CmdFn := fun _ req d => withFin 3 (req.fld 8 1 0) 8 fun p =>
  let g := d.gptp[p]
  reply ([orW [at' 0 (roleCode g.role), bitW 4 g.asCapable, bitW 5 g.measuring], i32 g.delayPs,
      i32 g.neighborRatio, i32 g.gmRatio] ++ identWords g.grandmaster ++
    [at' 0 g.steps ||| atS 23 16 g.logSync, at' 0 g.lostResponses]) d

/-- Streams with AUTOSTART are started once ACTIVE is entered and TIME_VALID allows (R226). (DEDUCED, log 91) -/
def streamAutostart (d : Dev) : Dev :=
  if ¬ (d.streams.autostart ∧ d.ks.timeValid) then d else
  let take (r : CmdResult) (d : Dev) : Dev := match r with | .done _ _ _ _ d' => d' | _ => d
  let d := d.modStreams fun s => { s with autostart := false }
  let d : Dev := (allFin 16).foldl (fun (d : Dev) (i : Fin 16) =>
    let l := d.streams.listeners[i]
    if l.state = .idle ∧ l.group.isNone ∧ l.setup.any (·.autostart) then take (d.startListeners [i] none) d else d) d
  (allFin 8).foldl (fun (d : Dev) (i : Fin 8) =>
    let t := d.streams.talkers[i]
    if t.state = .idle ∧ t.setup.any (·.autostart) then take (d.startTalker i none) d else d) d

end Dev
end Sys2Proof.Machine
end

