-- ==== Sys2Proof/Machine/Lintel.lean ====
section
/-! DEFINITION.
Lintel: the beacons, the judging of paths, the group state machine and its crossfades, the health
compare, the entry named to Keystone, and the Lintel commands (chapter 9). -/

namespace Sys2Proof.Machine

/-- CRC-16 of the beacon: polynomial 0x1021, initial value 0xFFFF, no reflection (R233). -/
def crc16 (bytes : List Byte) : U16 :=
  bytes.foldl (fun crc b =>
    (List.range 8).foldl (fun (c : U16) _ => if c.msb then (c <<< 1) ^^^ 0x1021 else c <<< 1)
      (crc ^^^ ((b.setWidth 16 : U16) <<< 8))) 0xFFFF

/-- What a 32-byte beacon payload says (Table 9.1). -/
structure Beacon where
  version : Byte
  flags : Byte
  tag : U16
  seq : U16
  streamId : U64
  timeBase : U64
  crcOk : Bool
  deriving DecidableEq, Repr

/-- Read a beacon payload; bytes after the 32nd are ignored (R233). (DEDUCED, log 96) -/
def parseBeacon (p : List Byte) : Beacon :=
  let n (off len : Nat) : Nat := beNat ((p.drop off).take len)
  { version := p.getD 0 0, flags := p.getD 1 0, tag := BitVec.ofNat 16 (n 2 2), seq := BitVec.ofNat 16 (n 4 2),
    streamId := BitVec.ofNat 64 (n 8 8), timeBase := BitVec.ofNat 64 (n 16 8),
    crcOk := 32 ≤ p.length && crc16 (p.take 30) == BitVec.ofNat 16 (n 30 2) }

/-- Write a beacon payload with its CRC (Table 9.1, R248). (DESIGN CHOICE, log 86) -/
def buildBeacon (flags : Byte) (tag seq : U16) (streamSeq : Byte) (streamId timeBase : U64) : List Byte :=
  let body := [1, flags] ++ natBe 2 tag.toNat ++ natBe 2 seq.toNat ++ [streamSeq, 0] ++
    natBe 8 streamId.toNat ++ natBe 8 timeBase.toNat ++ List.replicate 6 0
  body ++ natBe 2 (crc16 body).toNat

/-- The code of a group state (Table 9.6). -/
def groupCode : GroupState → Nat
  | .primary => 0 | .overlapOut => 1 | .standby => 2 | .overlapBack => 3 | .bothLost => 4 | .stopped => 7

/-- The code of a health result. -/
def healthCode : Health → Nat | .unknown => 0 | .good => 1 | .suspect => 2 | .failed => 3

namespace Dev

/-- Change one group. -/
def modGroup (d : Dev) (g : Fin 8) (f : Group → Group) : Dev :=
  { d with lintel := { d.lintel with groups := upd d.lintel.groups g f } }

/-- Change the counters of one group. -/
def modGroupCounts (d : Dev) (g : Fin 8) (f : GroupCounts → GroupCounts) : Dev :=
  d.modGroup g fun x => { x with counts := f x.counts }

/-- The listener of a path of a group. -/
def pathListener (s : GroupSetup) (path : Fin 2) : Fin 16 := if path = 0 then s.primary else s.standby

/-- The port of a path of a group: that of its listener. -/
def pathPort (d : Dev) (s : GroupSetup) (path : Fin 2) : Fin 3 :=
  (d.streams.listeners[pathListener s path].setup.map (·.port)).getD 0

/-- The index of a role's beacons on a path. -/
def beaconIdx (role path : Fin 2) : Fin 4 := ⟨2 * role.val + path.val, by omega⟩

/-- The group is started. -/
def Group.started (x : Group) : Bool := x.state != .stopped

/-! ### Beacons (R235) -/

/-- A beacon received on a group's beacon address (R235). (DEDUCED, log 96) -/
def lintelBeacon (d : Dev) (g : Fin 8) (port : Fin 3) (payload : List Byte) : Dev :=
  match d.lintel.groups[g].setup with
  | none => d
  | some s =>
    let b := parseBeacon payload
    let role : Fin 2 := if b.flags.getLsbD 0 then 1 else 0
    let path : Fin 2 := if b.flags.getLsbD 1 then 1 else 0
    let idOk := d.streams.listeners[pathListener s role].setup.any fun l => l.streamId == b.streamId
    let fits := b.version == 1 && b.crcOk && b.tag == s.tag && idOk
    let pathOk := d.pathPort s path == port
    if fits && pathOk then
      d.modGroup g fun x =>
        let old := x.beacons[beaconIdx role path]
        let gap := old.lastSeq.any (· + 1 != b.seq)
        { x with
          beacons := upd x.beacons (beaconIdx role path) fun o => { o with
            heard := true, missed := 0, streaming := b.flags.getLsbD 2, plannedStop := b.flags.getLsbD 3,
            timeBase := b.timeBase, lastSeq := some b.seq, accepted := wrapInc 16 o.accepted },
          said := x.said.set role (some (b.flags.getLsbD 2, b.flags.getLsbD 3)),
          counts := if gap then { x.counts with seqGaps := wrapInc 16 x.counts.seqGaps } else x.counts }
    else
      (d.modGroupCounts g fun c => { c with beaconBad := wrapInc 16 c.beaconBad }).raiseBit
        Reg.LINTEL_IRQ_MISC (if fits then 0 else 4)

/-! ### Judging the paths (R236–R238, R245) -/

/-- An accepted frame of a path's stream has arrived within HB_TIMEOUT ms, or within that many nominal frame
intervals if longer (R236). -/
def frameRecent (d : Dev) (g : Fin 8) (s : GroupSetup) (path : Fin 2) : Bool :=
  d.lintel.groups[g].frameAt[path].any fun t =>
    2 * (d.cc - t) * d.fs ≤
      s.hbTimeout * max (1000000 * d.fs) (1000000000 * d.streams.listeners[pathListener s path].frameLen)

/-- A path is usable at a tick (R236). -/
def pathUsable (d : Dev) (g : Fin 8) (s : GroupSetup) (path : Fin 2) : Bool :=
  let x := d.lintel.groups[g]
  let b := x.beacons[beaconIdx path path]
  d.eth[d.pathPort s path].link.state == .up &&
  d.streams.listeners[pathListener s path].state == .playing &&
  d.frameRecent g s path &&
  (s.noBeacon || (b.missed < s.hbTimeout && b.streaming && !b.plannedStop)) &&
  x.correction[path].natAbs ≤ 100000000000

/-- The cause of a path's loss: the first of R237 that applies. (DEDUCED, log 94) -/
def lossCause (d : Dev) (g : Fin 8) (s : GroupSetup) (path : Fin 2) : Nat :=
  let x := d.lintel.groups[g]
  let own := x.beacons[beaconIdx path path]
  let other := x.beacons[beaconIdx path (1 - path)]
  let port := d.eth[d.pathPort s path].link.state
  let l := d.streams.listeners[pathListener s path]
  if port = .easing then 2
  else if port ≠ .up then 1
  else if x.said[path].any (fun b => !b.1 || b.2) then 6
  else if l.state = .waiting ∧ l.reason = 6 then 7
  else if ¬ s.noBeacon ∧ own.missed ≥ s.hbTimeout ∧ other.missed ≥ s.hbTimeout then 4
  else if ¬ s.noBeacon ∧ own.missed ≥ s.hbTimeout then 3
  else 5

/-- Both listeners wait with reason TIME or RESYNC: no evaluation (R238). -/
def groupWaits (d : Dev) (s : GroupSetup) : Bool :=
  [s.primary, s.standby].all fun i =>
    let l := d.streams.listeners[i]
    l.state == .waiting && (l.reason == 4 || l.reason == 5)

/-- Judge one path at a tick: usability, the cause of a loss, event LINTEL_PATH (R236, R237, R252).
 (DEDUCED, log 94) -/
def judgePath (d : Dev) (g : Fin 8) (s : GroupSetup) (path : Fin 2) : Dev :=
  let was := d.lintel.groups[g].usable[path]
  let is := d.pathUsable g s path
  let d' := d.modGroup g fun x => { x with usable := x.usable.set path is }
  if was = is then d'
  else if is then d'.push 0x0602 (orW [at' 0 g.val, at' 4 path.val, at' 5 path.val])
  else
    let c := d.lossCause g s path
    (d'.modGroup g fun x => { x with cause := c }).push 0x0602
      (orW [at' 0 g.val, at' 4 path.val, at' 5 path.val, at' 8 c, bitW 12 true])

/-- Count the beacons missed since the tick before (R236). -/
def beaconTick (d : Dev) (g : Fin 8) : Dev :=
  d.modGroup g fun x => { x with
    beacons := x.beacons.map fun b => { b with missed := if b.heard then 0 else b.missed + 1, heard := false } }

/-- The time-base correction of the two listeners (R245): nonzero identities that differ set
TB_DIFF, the path whose entry is not selected takes the filtered offset of its entry, except while a phase
move toward a newly selected entry shifts both, and a correction beyond ±1 ms is TB_FAR. `offsets` holds, per port, local media time less its entry's time, in ns.
 (DEDUCED, log 93) -/
def timeBaseTick (d : Dev) (g : Fin 8) (s : GroupSetup) (offsets : List Int) : Dev :=
  let x := d.lintel.groups[g]
  let a := x.beacons[beaconIdx 0 0].timeBase
  let b := x.beacons[beaconIdx 1 1].timeBase
  let diff := a != 0 && b != 0 && a != b
  let corr (path : Fin 2) : Int :=
    let p := d.pathPort s path
    if ¬ diff then 0
    else if d.lintel.glide ≠ 0 then x.correction[path]
    else if d.ks.selected = portEntry p then 0
    else
      let goal := 1000 * offsets.getD p.val 0
      toward x.correction[path] goal (Config.filterStep x.correction[path] goal)
  let far (path : Fin 2) : Bool := diff && (corr path).natAbs > 1000000000
  let newFar := (far 0 && !x.tbFar[(0 : Fin 2)]) || (far 1 && !x.tbFar[(1 : Fin 2)])
  (d.modGroup g fun x => { x with
    tbDiff := diff, correction := Vector.ofFn corr, tbFar := Vector.ofFn far }).raiseIf newFar Reg.LINTEL_IRQ_MISC 3

/-- Local media time moves by `ps`: what of it belongs to the move toward a newly selected entry goes out of that
listener's correction and into the other's (R245). (DEDUCED, log 93) -/
def lintelShift (d : Dev) (ps : Int) : Dev :=
  let left := d.lintel.glide
  let part := if left ≥ 0 then clampI 0 left ps else clampI left 0 ps
  let d : Dev := { d with lintel := { d.lintel with glide := left - part } }
  (allFin 8).foldl (fun d g =>
    if d.lintel.groups[g].tbDiff then
      d.modGroup g fun x => { x with correction := x.correction.map (· + part) } else d) d

/-! ### The crossfade (R240, R241) -/

/-- A sample count of a fade that runs: those presented since its first, that one not counted. -/
def fadeDone (d : Dev) (f : Fade) : Nat := min f.length ((d.nowPs - f.start) * d.fs / 10 ^ 12).toNat

/-- The fade's last sample has been presented (R240). -/
def fadeOver (d : Dev) (f : Fade) : Bool := (d.nowPs - f.start) * d.fs ≥ f.length * 10 ^ 12

/-- The gains of the arriving and the leaving path of a fade, in 2^-30 (R240, R241): complements of one another,
but that a cut takes the leaving path to 0 at once. -/
def fadeGains (d : Dev) (f : Fade) : Int × Int :=
  let n := d.fadeDone f
  let c := if n ≥ f.length then 2 ^ 30 else raisedCos n f.length
  (f.arriving + narrow ((2 ^ 30 - f.arriving) * c) (2 ^ 30),
   if d.nowPs < f.start then f.leaving else if f.cut then 0 else f.leaving - narrow (f.leaving * c) (2 ^ 30))

/-- The gains of the path in use or arriving and of the other, before the overall gain. -/
def groupMix (d : Dev) (x : Group) : Int × Int :=
  match x.fade with
  | some f => d.fadeGains f
  | none => x.mix

/-- The overall gain of a group, in 2^-30 (Table 9.3). -/
def groupLevel (x : Group) : Int := narrow (x.levelFrom * (64 - x.levelDone) + x.levelTo * x.levelDone) 64

/-- The gains g_p and g_s of a group before its overall gain, in 2^-30 (R232). -/
def groupGains (d : Dev) (x : Group) : Int × Int := if x.inUse = 0 then d.groupMix x else (d.groupMix x).swap

/-- A ramp of the overall gain over 64 samples begins from a level (Table 9.3). -/
def rampLevel (x : Group) (start goal : Int) : Group := { x with levelFrom := start, levelTo := goal, levelDone := 0 }

/-- The group's output ramps from its present level to zero; the two paths keep the gains they have reached
(Table 9.3, Table 9.5). -/
def fadeToZero (d : Dev) (x : Group) : Group :=
  { rampLevel x (groupLevel x) 0 with fade := none, mix := d.groupMix x }

/-- Positions of a listener filled without a gap from one onward. -/
def filledRunFrom (l : Listener) (pos : Int) : Nat :=
  ((List.range 16384).takeWhile fun (k : Nat) => (filledAt l (pos + k)).isSome).length

/-- S of a fade decided now: now + L, in ps (R215, R240). -/
def fadeStartPs (d : Dev) : Int := d.nowPs + roundDiv (4 * 10 ^ 12) d.fs

/-- H − S in ps: what a listener's region still holds from S on without a gap (R240). -/
def heldPs (d : Dev) (i : Fin 16) : Int :=
  let l : Listener := d.streams.listeners[i]
  let s := d.fadeStartPs
  match d.posAt l (s + l.skew) with
  | none => 0
  | some p =>
    match filledRunFrom l p with
    | 0 => 0
    | n + 1 => match filledAt l (p + n) with
      | none => 0
      | some x => max 0 (laterPs d.fs l.rate x.due 1 - l.skew - s)

/-- O_eff of a fade that leaves a path, in ps (R240). -/
def overlapPs (d : Dev) (g : Fin 8) (s : GroupSetup) (leaving : Fin 2) : Int :=
  let full : Int := s.overlap * 10 ^ 8
  if d.lintel.groups[g].usable[leaving] then full else min full (d.heldPs (pathListener s leaving))

/-- A group changes state: event LINTEL_STATE and its interrupt flag (Tables 9.7 and 9.11). -/
def groupEnter (d : Dev) (g : Fin 8) (st : GroupState) (bySwitch cut short quiet : Bool) : Dev :=
  let x := d.lintel.groups[g]
  let old := x.state
  if old = st then d else
  let d := d.modGroup g fun x => { x with
    state := st, msInState := 0, revertMs := 0, hold := x.hold && st != .bothLost && st != .stopped }
  let d := match st with
    | .overlapOut => (d.raiseBit Reg.LINTEL_IRQ_STATUS g.val).modGroupCounts g fun c => { c with switchOut := wrapInc 16 c.switchOut }
    | .standby => if old = GroupState.bothLost then
        (d.raiseBit Reg.LINTEL_IRQ_STATUS g.val).modGroupCounts g fun c => { c with switchOut := wrapInc 16 c.switchOut } else d
    | .overlapBack => (d.raiseBit Reg.LINTEL_IRQ_STATUS (8 + g.val)).modGroupCounts g fun c => { c with returns := wrapInc 16 c.returns }
    | .primary => if old = GroupState.bothLost then
        (d.raiseBit Reg.LINTEL_IRQ_STATUS (8 + g.val)).modGroupCounts g fun c => { c with returns := wrapInc 16 c.returns } else d
    | .bothLost => if quiet then d else
        (d.raiseBit Reg.LINTEL_IRQ_STATUS (16 + g.val)).modGroupCounts g fun c => { c with bothLost := wrapInc 16 c.bothLost }
    | .stopped => d
  d.push 0x0601 (orW [at' 0 g.val, at' 4 (groupCode st), at' 8 (groupCode old), at' 12 x.cause,
    bitW 16 bySwitch, bitW 17 cut, bitW 18 short])

/-- Start a fade toward a path (R240), or reverse the one that runs (R241). -/
def startFade (d : Dev) (g : Fin 8) (s : GroupSetup) (toStandby bySwitch : Bool) : Dev :=
  let x := d.lintel.groups[g]
  let st : GroupState := if toStandby then .overlapOut else .overlapBack
  let who : Fin 2 := if toStandby then 1 else 0
  match x.fade with
  | some f =>
    let (a, b) := d.fadeGains f
    let n := f.length - d.fadeDone f
    let d := (d.modGroup g fun x => { x with
      inUse := who, lastFade := n,
      fade := some ⟨max d.nowPs f.start, n, b, a, false, toStandby⟩ }).modGroupCounts g fun c =>
        { c with reversed := wrapInc 16 c.reversed }
    (d.raiseBit Reg.LINTEL_IRQ_MISC 5).groupEnter g st bySwitch false false false
  | none =>
    let o := d.overlapPs g s (1 - who)
    let n := (roundDiv (o * d.fs) (10 ^ 12)).toNat
    let cut : Bool := n < 4
    let short : Bool := o < s.overlap * 10 ^ 8
    let d := (d.modGroup g fun x => { x with
      inUse := who, lastFade := n, blockSpoiled := true,
      fade := some ⟨d.fadeStartPs, if cut then 4 else n, 0, 2 ^ 30, cut, toStandby⟩ }).modGroupCounts g fun c =>
        { c with cut := if cut then wrapInc 16 c.cut else c.cut,
                 short := if short then wrapInc 16 c.short else c.short }
    ((d.raiseIf cut Reg.LINTEL_IRQ_MISC 2).raiseIf short Reg.LINTEL_IRQ_MISC 1).groupEnter g st bySwitch cut short false

/-- The fade ends: the arriving path's gain is full (Table 9.2, Table 9.3). -/
def endFade (d : Dev) (g : Fin 8) : Dev :=
  let x := d.lintel.groups[g]
  match x.fade with
  | none => d
  | some _ =>
    let d := d.modGroup g fun x => { x with fade := none, mix := (2 ^ 30, 0) }
    match x.state with
    | .overlapOut => d.groupEnter g .standby false false false false
    | .overlapBack => d.groupEnter g .primary false false false false
    | _ => d

/-- Enter BOTH_LOST: the output ramps from its present level to zero over 64 samples (Table 9.3). -/
def enterBothLost (d : Dev) (g : Fin 8) : Dev :=
  (d.modGroup g d.fadeToZero).groupEnter g .bothLost false false false false

/-- Leave BOTH_LOST for a path, whose output ramps from zero over 64 samples (Table 9.3). -/
def leaveBothLost (d : Dev) (g : Fin 8) (path : Fin 2) : Dev :=
  (d.modGroup g fun x => { rampLevel x 0 (2 ^ 30) with fade := none, mix := (2 ^ 30, 0), inUse := path }).groupEnter g
    (if path = 0 then .primary else .standby) false false false false

/-- The automatic transition of a group at a tick: the upper row of Table 9.2 that applies (R239). -/
def groupStep (d : Dev) (g : Fin 8) (s : GroupSetup) : Dev :=
  let x := d.lintel.groups[g]
  let p := x.usable[(0 : Fin 2)]
  let b := x.usable[(1 : Fin 2)]
  let ended := x.fade.any d.fadeOver
  let revert := s.revertive && !x.hold && x.revertMs ≥ 100 * s.revertHold
  match x.state with
  | .primary => if ¬ p ∧ b then d.startFade g s true false else if ¬ p ∧ ¬ b then d.enterBothLost g else d
  | .overlapOut =>
    if ¬ p ∧ ¬ b then d.enterBothLost g
    else if ¬ b ∧ p then d.startFade g s false false
    else if ended then d.endFade g else d
  | .standby =>
    if ¬ b ∧ p then d.startFade g s false false
    else if ¬ p ∧ ¬ b then d.enterBothLost g
    else if p ∧ revert then d.startFade g s false false else d
  | .overlapBack =>
    if ¬ p ∧ ¬ b then d.enterBothLost g
    else if ¬ p ∧ b then d.startFade g s true false
    else if ended then d.endFade g else d
  | .bothLost => if p then d.leaveBothLost g 0 else if b then d.leaveBothLost g 1 else d
  | .stopped => d

/-- REVERT_HOLD runs in STANDBY while the primary is usable (R243), and the time in the state. -/
def groupTimers (d : Dev) (g : Fin 8) : Dev :=
  d.modGroup g fun x => { x with
    msInState := satInc 0xFFFFFFFF x.msInState,
    revertMs := if x.state = .standby ∧ x.usable[(0 : Fin 2)] then x.revertMs + 1 else 0 }

/-- One group at a tick. While both listeners wait with reason TIME or RESYNC only a fade that runs ends (R238,
Table 9.5); a group that is not started is not judged. -/
def groupTick (d : Dev) (offsets : List Int) (g : Fin 8) : Dev :=
  match d.lintel.groups[g].setup with
  | none => d
  | some s =>
    let d := (d.beaconTick g).timeBaseTick g s offsets
    let x := d.lintel.groups[g]
    if x.state = .stopped then d
    else if d.groupWaits s then
      let d := d.modGroup g fun x => { x with blockSpoiled := true, msInState := satInc 0xFFFFFFFF x.msInState }
      if x.fade.any d.fadeOver then d.endFade g else d
    else
      let d := d.groupTimers g
      ((d.judgePath g s 0).judgePath g s 1).groupStep g s

/-- The group with CLOCK_GROUP set, if any (R244). -/
def clockGroup (d : Dev) : Option (Fin 8) :=
  findIdx? fun g : Fin 8 => d.lintel.groups[g].setup.any (·.clockGroup)

/-- The entry named to Keystone (R244). -/
def namedEntry (d : Dev) : Option (Fin 8) :=
  d.clockGroup.bind fun g =>
    let x := d.lintel.groups[g]
    x.setup.bind fun s =>
      let name (path : Fin 2) : Option (Fin 8) :=
        if x.tbFar[path] then none else some (portEntry (d.pathPort s path))
      match x.state with
      | .primary | .overlapBack => name 0
      | .standby | .overlapOut => name 1
      | .bothLost | .stopped => none

/-- Name an entry to Keystone; a change sets PREF_CHANGED (R244, Table 6.5). -/
def nameEntry (d : Dev) : Dev :=
  let n := d.namedEntry
  ({ d with lintel := { d.lintel with named := n } } : Dev).raiseIf (n != d.lintel.named) Reg.CLK_IRQ_STATUS 11

/-! ### Beacons sent (R248) -/

/-- The time base a beacon of the endpoint carries (R248). -/
def ownTimeBase (d : Dev) : U64 :=
  if h : d.ks.selected.val < 3 then
    if d.ks.timeValid then d.gptp[(⟨d.ks.selected.val, h⟩ : Fin 3)].grandmaster else 0
  else 0

/-- Send the beacon of a talker's role on both path ports (R248). -/
def sendBeacons (d : Dev) (t : Fin 8) : Dev :=
  match d.lintel.roles[t], d.streams.talkers[t].setup with
  | some r, some s =>
    let x := d.streams.talkers[t]
    let flags (path : Bool) : Byte := orW [bitW 0 r.standby, bitW 1 path, bitW 2 (x.state == .sending),
      bitW 3 (x.state == .stopping), bitW 4 (!d.ks.timeValid)] |>.setWidth 8
    let body (path : Bool) (seq : U16) := buildBeacon (flags path) r.tag seq (x.seq - 1) s.streamId d.ownTimeBase
    let frame (path : Bool) (seq : U16) : TxFrame := ⟨.control, 64, none, r.dest, 0x88B5, .beacon (body path seq)⟩
    let d : Dev := { d with lintel := { d.lintel with
      roles := d.lintel.roles.set t (some { r with seqA := r.seqA + 1, seqB := r.seqB + 1 }) } }
    (d.submit r.portA (frame false r.seqA)).submit r.portB (frame true r.seqB)
  | _, _ => d

/-- A Lintel tick (R236, R239, R244, R248). -/
def lintelTick (d : Dev) (offsets : List Int) : Dev :=
  let d := (allFin 8).foldl (fun d g => d.groupTick offsets g) d
  (allFin 8).foldl sendBeacons d.nameEntry

/-- REVERT_HOLD has run: the group returns under revertive operation (R243), unless it waits under R238. -/
def revertExpire (d : Dev) (g : Fin 8) : Dev :=
  let x := d.lintel.groups[g]
  match x.setup with
  | none => d
  | some s =>
    if x.state = .standby ∧ x.usable[(0 : Fin 2)] ∧ s.revertive ∧ ¬ x.hold ∧ ¬ d.groupWaits s then
      (d.startFade g s false false).nameEntry else d

/-- A fade's last sample is presented (R240). -/
def fadeEnd (d : Dev) (g : Fin 8) : Dev :=
  if d.lintel.groups[g].fade.any d.fadeOver then (d.endFade g).nameEntry else d

/-- One sample boundary of a group's overall gain (Table 9.3). -/
def groupAdvance (d : Dev) (g : Fin 8) : Dev :=
  d.modGroup g fun x => { x with levelDone := min 64 (x.levelDone + 1) }

/-- The output of a group's channel now (R232). -/
def groupSample (d : Dev) (g : Fin 8) (ch : Nat) : Int :=
  let x := d.lintel.groups[g]
  match x.setup with
  | none => 0
  | some s =>
    let (gp, gs) := d.groupGains x
    narrow (groupLevel x * (gp * d.listenerSample s.primary ch + gs * d.listenerSample s.standby ch)) (2 ^ 60)

/-! ### Health compare (R247) -/

/-- A channel matches: E_diff / E_use is at most the threshold, or the difference's RMS is below
−90 dBFS over 1024 positions. The comparison of decibels is made on tenth powers. -/
def channelMatches (thr : Nat) (e : Nat × Nat) : Bool :=
  e.2 ^ 10 * 10 ^ thr ≤ e.1 ^ 10 || 2 * 10 ^ 9 * e.2 < 1024 * 2 ^ 62

/-- 10 × log10(E_diff / E_use), the whole decibels below or at it, within a signed byte. -/
def ratioDb (e : Nat × Nat) : Int :=
  if e.1 = 0 ∨ e.2 = 0 then Config.healthDb e.2 e.1
  else ((List.range 255).foldl (fun (best : Int) (k : Nat) =>
    let dB : Int := (k : Int) - 127
    let holds := if dB ≥ 0 then e.2 ^ 10 ≥ 10 ^ dB.natAbs * e.1 ^ 10 else e.2 ^ 10 * 10 ^ dB.natAbs ≥ e.1 ^ 10
    if holds then max best dB else best) (-128))

/-- The worst channel of a block and its ratio. -/
def worstOf (l : List (Nat × Nat)) : Nat × Int :=
  ((List.range l.length).foldl (fun (b : Nat × Option Int) k =>
    let r := ratioDb (l.getD k (0, 0))
    match b.2 with
    | none => (k, some r)
    | some v => if v < r then (k, some r) else b) (0, none)).map id (·.getD 0)

/-- A block of 1024 positions ends (R247). `energies` holds E_use and E_diff of each channel.
 (DESIGN CHOICE, log 95) -/
def healthBlock (d : Dev) (g : Fin 8) (concealed : Bool) (energies : List (Nat × Nat)) : Dev :=
  let x := d.lintel.groups[g]
  match x.setup with
  | none => d
  | some s =>
    if x.blockSpoiled ∨ (concealed ∧ (x.state = .primary ∨ x.state = .standby)) then
      (d.modGroup g fun x => { x with blockSpoiled := false }).modGroupCounts g fun c =>
        { c with skipped := wrapInc 32 c.skipped }
    else if (x.state = .primary ∨ x.state = .standby) ∧ d.streams.listeners[s.primary].state = .playing ∧
        d.streams.listeners[s.standby].state = .playing then
      let mask := (bitsW 16 fun k => k < energies.length && !channelMatches s.threshold (energies.getD k (0, 0))).toNat
      let good := mask == 0
      let hits := if good then x.matchRun + 1 else 0
      let misses := if good then 0 else x.missRun + 1
      let h : Health :=
        if good then (if x.health = .unknown ∨ hits ≥ s.failCount then .good else x.health)
        else if misses ≥ s.failCount then .failed else .suspect
      let (w, db) := worstOf energies
      let d := (d.modGroup g fun x => { x with
          health := h, matchRun := hits, missRun := misses, healthMask := mask, worstChannel := w,
          worstDb := db }).modGroupCounts g fun c =>
        { c with compared := wrapInc 16 c.compared, mismatched := if good then c.mismatched else wrapInc 16 c.mismatched }
      if (x.health = .failed) ≠ (h = .failed) then
        (d.raiseBit Reg.LINTEL_IRQ_STATUS (24 + g.val)).push 0x0603
          (orW [at' 0 g.val, at' 4 (healthCode h), at' 16 mask])
      else d
    else d

/-! ### Commands (R249, R255) -/

/-- Free what a group holds: its filter entries and its hold on the listeners (R249). -/
def groupRelease (d : Dev) (g : Fin 8) : Dev :=
  match d.lintel.groups[g].setup with
  | none => d
  | some s =>
    let d := (d.freeFilter (d.pathPort s 0) (.group g)).freeFilter (d.pathPort s 1) (.group g)
    let d := d.modGroup g fun x => { x with setup := none, usable := Vector.replicate 2 false }
    let free (l : Listener) : Listener := { l with group := none }
    (d.modListener s.primary free).modListener s.standby free

/-- LINTEL_GROUP_SETUP (R249, R255). -/
def cmdGroupSetup : CmdFn := fun _ req d => withFin 8 (req.fld 8 2 0) 8 fun g =>
  withFin 16 (req.fld 8 11 8) 8 fun a => withFin 16 (req.fld 8 19 16) 8 fun b =>
    let s : GroupSetup := {
      primary := a, standby := b, revertive := req.bit 8 24, clockGroup := req.bit 8 25,
      noBeacon := req.bit 8 26, autostart := req.bit 8 27, tag := BitVec.ofNat 16 (req.fld 0x0C 15 0),
      overlap := clampN 5 80 (req.fld 0x0C 22 16), hbTimeout := clampN 2 15 (req.fld 0x0C 27 24),
      dest := req.octets 0x10, revertHold := clampN 1 600 (req.fld 0x14 9 0),
      threshold := clampN 20 100 (req.fld 0x18 6 0), failCount := clampN 1 255 (req.fld 0x18 15 8) }
    let la := d.streams.listeners[a]
    let lb := d.streams.listeners[b]
    let foreign (l : Listener) : Bool := l.group.any (· != g)
    match la.setup, lb.setup with
    | some sa, some sb =>
      if d.lintel.groups[g].state ≠ .stopped ∨ la.state ≠ .idle ∨ lb.state ≠ .idle then refusedState 1
      else if sa.crf ∨ sb.crf then refusedState 11
      else if sa.port = sb.port then refusedState 12
      else if sa.channels ≠ sb.channels then refusedState 13
      else if foreign la ∨ foreign lb then refusedState 14
      else if s.clockGroup ∧ d.clockGroup.any (· != g) then refusedState 15
      else match ((d.groupRelease g).takeFilter sa.port s.dest (.group g)).bind fun d =>
          d.takeFilter sb.port s.dest (.group g) with
        | none => refusedState 0xF1
        | some d =>
          let join (l : Listener) : Listener := { l with group := some g }
          okayKey req (0x0600 + g.val)
            (((d.modGroup g fun _ => idleGroup (some s)).modListener a join).modListener b join)
    | _, _ => if d.lintel.groups[g].state ≠ .stopped then refusedState 1 else refusedState 6

/-- A group starts: both listeners with one start time, and BOTH_LOST at once (R249). -/
def groupStart (d : Dev) (g : Fin 8) (time : Option Nat) : CmdResult :=
  let x := d.lintel.groups[g]
  match x.setup with
  | none => refusedState 6
  | some s =>
    let busy := x.state ≠ .stopped ∨ d.streams.listeners[s.primary].state ≠ .idle ∨
      d.streams.listeners[s.standby].state ≠ .idle
    if busy then refusedState 1
    else if time.isSome && !d.ks.timeValid then refusedState 5
    else match d.startListeners [s.primary, s.standby] time with
      | .done acc det pay item d =>
        .done acc det pay item ((d.modGroup g fun x => { idleGroup (some s) with counts := x.counts }).groupEnter g
          .bothLost false false false true)
      | r => r

/-- A group stops: the output ramps to zero from the gains reached, and the group is not started any more
(R249, Table 9.5). -/
def groupHalt (d : Dev) (g : Fin 8) : Dev :=
  ((d.modGroup g fun x => { d.fadeToZero x with usable := Vector.replicate 2 false }).groupEnter g .stopped
    false false false false).nameEntry

/-- LINTEL_GROUP_START (R249, R255). -/
def cmdGroupStart : CmdFn := fun _ req d => withFin 8 (req.fld 8 2 0) 8 fun g => d.groupStart g (req.time 0x0C)

/-- LINTEL_GROUP_STOP (R224, R249, R255). -/
def cmdGroupStop : CmdFn := fun _ req d => withFin 8 (req.fld 8 2 0) 8 fun g =>
  let x := d.lintel.groups[g]
  match x.setup with
  | none => refusedState 6
  | some s =>
    let time := req.time 0x0C
    let l := d.streams.listeners[s.primary]
    if x.state = .stopped then refusedState 2
    else match d.stopRefusal l.state l.startAt time with
      | some k => refusedState k
      | none =>
        match time.filter fun t => d.now < t with
        | some t =>
          let set (l : Listener) : Listener := { l with stopAt := some t }
          okay ((d.modListener s.primary set).modListener s.standby set)
        | none => okay (((d.groupHalt g).stopListener s.primary 0).stopListener s.standby 0)

/-- LINTEL_GROUP_DELETE (R249, R255). -/
def cmdGroupDelete : CmdFn := fun _ req d => withFin 8 (req.fld 8 2 0) 8 fun g =>
  let x := d.lintel.groups[g]
  if x.setup.isNone then refusedState 6
  else if x.state ≠ .stopped then refusedState 1
  else okayRemove req (0x0600 + g.val) (d.groupRelease g).nameEntry

/-- LINTEL_SWITCH (R241, R243, R255). While the group waits under R238 no listener is PLAYING and no target is
usable. (DEDUCED, log 94) -/
def cmdLintelSwitch : CmdFn := fun _ req d => withFin 8 (req.fld 8 2 0) 8 fun g =>
  let x := d.lintel.groups[g]
  let toStandby := req.bit 8 8
  let target : Fin 2 := if toStandby then 1 else 0
  match x.setup with
  | none => refusedState 3
  | some s =>
    if x.state = .stopped ∨ x.state = .bothLost then refusedState 3
    else
      let d := d.modGroup g fun x => { x with hold := req.bit 8 9 }
      if x.inUse = target then .done false 1 [] [] d
      else if ¬ x.usable[target] ∨ d.groupWaits s then refusedState 2
      else okay (d.startFade g s toStandby true).nameEntry

/-- LINTEL_GROUP_STATUS (Table 9.10). -/
def cmdGroupStatus : CmdFn := fun _ req d => withFin 8 (req.fld 8 2 0) 8 fun g =>
  let x := d.lintel.groups[g]
  let c := x.counts
  let two (a b : Nat) : Word := at' 0 (a % 65536) ||| at' 16 (b % 65536)
  let bc (i : Fin 4) : Nat := x.beacons[i].accepted
  let left := (x.setup.map fun s => if x.state = .standby then (100 * s.revertHold - x.revertMs + 99) / 100 else 0).getD 0
  let corr := if x.correction[(0 : Fin 2)] ≠ 0 then x.correction[(0 : Fin 2)] else x.correction[(1 : Fin 2)]
  reply [orW [at' 0 (groupCode x.state), at' 8 x.cause, bitW 16 x.usable[(0 : Fin 2)], bitW 17 x.usable[(1 : Fin 2)],
      at' 24 (healthCode x.health), bitW 28 x.hold, bitW 29 x.tbDiff, bitW 30 (x.tbFar[(0 : Fin 2)] || x.tbFar[(1 : Fin 2)])],
    w32 x.msInState, two c.switchOut c.returns, two c.bothLost c.cut, two c.short c.reversed, two x.lastFade left,
    two (bc 0) (bc 1), two (bc 2) (bc 3), two c.beaconBad c.seqGaps, i32 (corr / 1000), two c.compared c.mismatched,
    w32 c.skipped] d

/-- LINTEL_HEALTH (Table 9.10). -/
def cmdLintelHealth : CmdFn := fun _ req d => withFin 8 (req.fld 8 2 0) 8 fun g =>
  let x := d.lintel.groups[g]
  reply [at' 0 x.healthMask ||| at' 16 (healthCode x.health), at' 0 x.worstChannel ||| atS 15 8 x.worstDb,
    w32 (match x.health with | .unknown => 0 | .good => x.matchRun | .suspect | .failed => x.missRun)] d

/-- LINTEL_TALKER_SET (R248, R255). -/
def cmdLintelTalkerSet : CmdFn := fun _ req d => withFin 8 (req.fld 8 2 0) 8 fun t =>
  withFin 3 (req.fld 0x0C 17 16) 0x0C fun pa => withFin 3 (req.fld 0x0C 19 18) 0x0C fun pb =>
    match d.streams.talkers[t].setup with
    | none => refusedState 6
    | some s =>
      let standby := req.bit 8 8
      if pa = pb then refusedState 12
      else if s.port ≠ (if standby then pb else pa) then refusedState 16
      else
        let r : Option TalkerRole := if req.bit 8 16 then
          some ⟨standby, BitVec.ofNat 16 (req.fld 0x0C 15 0), pa, pb, req.octets 0x10, 0, 0⟩ else none
        okayKey req (0x0610 + t.val) { d with lintel := { d.lintel with roles := d.lintel.roles.set t r } }

/-- LINTEL_STATE_A or LINTEL_STATE_B: four groups from `first` (Table 9.6). -/
def lintelStateWord (d : Dev) (first : Nat) : Word :=
  orW ((List.range 4).map fun k =>
    match d.lintel.groups[first + k]? with
    | none => 0
    | some x => orW [at' (8 * k) (groupCode x.state), bitW (8 * k + 3) x.usable[(0 : Fin 2)],
        bitW (8 * k + 4) x.usable[(1 : Fin 2)], bitW (8 * k + 5) (x.health == .failed),
        bitW (8 * k + 6) x.tbDiff, bitW (8 * k + 7) x.hold])

/-- The computed part of a LINTEL register (R253, Tables 9.6 and 9.8). -/
def lintelRead (d : Dev) (a : Nat) : Word :=
  if a = Reg.LINTEL_STATE_A then d.lintelStateWord 0
  else if a = Reg.LINTEL_STATE_B then d.lintelStateWord 4
  else if a = Reg.LINTEL_PREF then
    orW [at' 0 (d.lintel.named.elim 0 Fin.val), bitW 3 d.lintel.named.isSome,
      at' 4 (d.clockGroup.elim 0 Fin.val), bitW 7 d.clockGroup.isSome]
  else 0

/-- Time-base correction of a listener's timestamps, in ns (R245). (DEDUCED, log 93) -/
def correctionOf (d : Dev) (i : Fin 16) : Int :=
  match d.streams.listeners[i].group with
  | none => 0
  | some g =>
    let x := d.lintel.groups[g]
    match x.setup with
    | none => 0
    | some s => (if s.primary = i then x.correction[(0 : Fin 2)] else x.correction[(1 : Fin 2)]) / 1000

/-- A frame of a grouped listener was taken: its path keeps the cycle (R236). -/
def frameHeard (d : Dev) (i : Fin 16) : Dev :=
  match d.streams.listeners[i].group with
  | none => d
  | some g => d.modGroup g fun x =>
    match x.setup with
    | none => x
    | some s => { x with frameAt := upd x.frameAt (if s.primary = i then 0 else 1) fun _ => some d.cc }

end Dev
end Sys2Proof.Machine
end

