-- ==== Sys2Proof/Machine/Ethernet.lean ====
section
/-! DEFINITION.
The Ethernet ports: capture, reception and its checks, transmission and pause, the port state
machine, rate easing, filters and addresses, the remote channel, and the port commands (chapter 7). -/

namespace Sys2Proof.Machine
namespace Dev

/-! ### Events and state changes (Tables 7.3, 7.16) -/

/-- The code of a port state (ETHn_STATUS.LINK_STATE). (DEDUCED, log 81; PRESUMED, log 78) -/
def linkCode : LinkState → Nat | .down => 0 | .training => 1 | .up => 2 | .easing => 3

/-- Event ETH_LINK (Table 7.16). -/
def linkEvent (d : Dev) (p : Fin 3) (old : LinkState) (planned : Bool) : Dev :=
  let l := d.eth[p].link
  d.push 0x0401 (orW [at' 0 p.val, at' 2 (linkCode l.state), at' 4 (linkCode old), at' 6 l.speed.val,
    bitW 8 planned, bitW 9 l.halfDuplex, bitW 10 l.phyAbsent])

/-- Event ETH_EASE (Table 7.16). -/
def easeEvent (d : Dev) (p : Fin 3) (up : Bool) (result : Nat) : Dev :=
  d.push 0x0402 (orW [at' 0 p.val, bitW 8 up, at' 9 result])

/-- A port enters a state; what the last poll showed stands for no link to come. (DEDUCED, log 81, 82) -/
def linkEnter (d : Dev) (p : Fin 3) (s : LinkState) (planned : Bool) : Dev :=
  let old := d.eth[p].link.state
  if old = s then d else
  (d.modLink p fun l => { l with
    state := s, since := d.cc, quietWindows := 0,
    phyUp := l.phyUp && s != .down && s != .training }).linkEvent p old planned

/-- The frames discarded at a departure from UP, one queue: counted, talkers included (R196). -/
def discardQueue (d : Dev) (p : Fin 3) (fs : List TxFrame) : Dev :=
  fs.foldl (fun d f => (d.count p (discardCounter f.queue)).talkerDiscard f.talker) d

/-- What every departure from UP does besides its own counts (R195, R196): the 802.1AS
instance is reset, class and control frames are discarded, best-effort frames are held. -/
def departUp (d : Dev) (p : Fin 3) : Dev :=
  let t := d.eth[p].traffic
  let d := (d.gptpReset p).discardQueue p
    (t.queues[(0 : Fin 4)] ++ t.queues[(1 : Fin 4)] ++ t.queues[(2 : Fin 4)])
  d.modTraffic p fun t => { t with
    queues := Vector.ofFn fun q => if q = 3 then t.queues[q] else [],
    holding := !t.queues[(3 : Fin 4)].isEmpty }

/-- The highest speed a port may take now: MAX_SPEED, and 100 Mbit/s with VDDIO_E at 3.3 V (R49). -/
def speedBound (d : Dev) (p : Fin 3) : Nat :=
  min (d.rfld (ethReg p Reg.ETH0_CTRL) 9 8) (if d.sup.ioeMode = 3 then 1 else 2)

/-- Enter TRAINING: the START script is to run, MAX_SPEED is taken (R193, Table 7.3). -/
def enterTraining (d : Dev) (p : Fin 3) : Dev :=
  (d.linkEnter p .training false).modLink p fun l => { l with
    runScript := some .start, maxSpeed := d.speedBound p }

/-- Link loss (R195): LINK_LOSS is set and counted, and TRAINING entered. -/
def linkLoss (d : Dev) (p : Fin 3) : Dev :=
  if d.eth[p].link.state = .up then
    (((d.ethFlag p 1).count p 32).enterTraining p).departUp p
  else d

/-- The port's queues are flushed at a disable (R203). -/
def flushQueues (d : Dev) (p : Fin 3) : Dev :=
  let t := d.eth[p].traffic
  let n := (t.queues[(0 : Fin 4)] ++ t.queues[(1 : Fin 4)] ++ t.queues[(2 : Fin 4)] ++ t.queues[(3 : Fin 4)]).length
  (d.countBy p 39 n).modTraffic p fun t => { t with queues := Vector.replicate 4 [], holding := false }

/-- A port leaves DOWN when ENABLE is 1 and no VDDIO_E fault holds (Table 7.3), in BOOT and ACTIVE: in QUIET
it waits for the exit (Configuration). -/
def leaveDown (d : Dev) (p : Fin 3) : Dev :=
  if d.eth[p].link.state = .down ∧ d.ethEnabled p ∧ ¬ d.sup.vddioFault ∧
      (d.power.state = .boot ∨ d.power.state = .active) then d.enterTraining p else d

/-- ENABLE was cleared: the frame on the wire completes, then the queues are flushed (R203). (DEDUCED, log 75) -/
def portDisable (d : Dev) (p : Fin 3) : Dev :=
  let d := d.setRbit (ethReg p Reg.ETH0_CTRL) 0 false
  if d.eth[p].link.state = .down then d
  else
    let d := d.modLink p fun l => { l with disabling := true }
    if d.eth[p].traffic.onWire.isNone then d.flushQueues p else d

/-- The disable is complete: PORT_IDLE, DOWN, and the answer of a waiting ETH_PORT_DISABLE in
the next pass (R203). A port enabled again meanwhile leaves DOWN at once. -/
def portIdle (d : Dev) (p : Fin 3) : Dev :=
  let l := d.eth[p].link
  if l.disabling ∧ d.eth[p].traffic.onWire.isNone then
    let d := (d.flushQueues p).ethFlag p 3
    let d := (d.modLink p fun l => { l with disabling := false, disableReply := none, runScript := none }).linkEnter p .down false
    let d := if l.state = .up then d.departUp p else d
    let d : Dev := match l.disableReply with
      | some (src, tag) => { d with mail := { d.mail with
          deferred := d.mail.deferred ++ [(src, ⟨0x0403, tag, 0, 0, false, []⟩)] } }
      | none => d
    d.leaveDown p
  else d

/-- A port forced DOWN by a VDDIO_E fault or QUIET entry (Table 7.3, Table 7.6). -/
def portForceDown (d : Dev) (p : Fin 3) (loss : Bool) : Dev :=
  let old := d.eth[p].link.state
  if old = .down then d
  else
    let d := if loss ∧ (old = .up ∨ old = .easing) then (d.ethFlag p 1).count p 32 else d
    let d := (d.linkEnter p .down false).modLink p fun l => { l with runScript := none }
    if old = .up then d.departUp p else d

/-! ### Capture and PHY polls (R183, R184, R192–R195) -/

/-- The port meets "link up" in TRAINING or EASING (R194, Table 7.3), at a speed it may take (R193). -/
def tryLinkUp (d : Dev) (p : Fin 3) : Dev :=
  let l := d.eth[p].link
  let ready := l.phyUp && l.locked && !l.phyAbsent && !l.disabling && l.phySpeed.val ≤ l.maxSpeed
  match l.state with
  | .training =>
    if ready then
      ((d.modLink p fun l => { l with speed := l.phySpeed, easedSince := false }).linkEnter p .up false).ethFlag p 0
        |>.modTraffic p fun t => { t with holding := false, credit := Vector.replicate 2 0 }
    else d
  | .easing =>
    if ready ∧ l.phySpeed.val = (if l.easeUp then 2 else 1) then
      let d := (d.modLink p fun l => { l with
        speed := l.phySpeed, eased := !l.easeUp, easedSince := !l.easeUp }).linkEnter p .up false
      let d := (d.ethFlag p 0).modTraffic p fun t => { t with holding := false, credit := Vector.replicate 2 0 }
      (d.count p (if l.easeUp then 35 else 34)).easeEvent p l.easeUp 1
    else d
  | _ => d

/-- The selector locks on RXC (R15, R183). -/
def captureLock (d : Dev) (p : Fin 3) (phase : BitVec 6) : Dev :=
  (d.modLink p fun l => { l with
    locked := true, phase := phase, sample := d.rfld (ethReg p Reg.ETH0_CTRL) 15 10 }).tryLinkUp p

/-- The capture is unlocked; the frame in progress is a fragment (R184). -/
def captureUnlock (d : Dev) (p : Fin 3) (frameInProgress : Bool) : Dev :=
  if d.eth[p].link.locked then
    let d := (d.modLink p fun l => { l with locked := false }).ethFlag p 6 |>.count p 36
    if frameInProgress then d.count p 12 else d
  else d

/-- The capture has been unlocked for 1 ms: link loss (R195). -/
def captureUnlockTimeout (d : Dev) (p : Fin 3) : Dev :=
  if d.eth[p].link.locked then d else d.linkLoss p

/-- The speed and the duplex a PHY's registers give (R192): from register 0, or, where it enables
auto-negotiation, the best mode both sides of registers 9 and 10, 4 and 5 have. (PRESUMED, log 78) -/
def phyMode (r : PhyReading) : Fin 3 × Bool :=
  if r.reg0.getLsbD 12 then
    let both (a b : U16) (i j : Nat) : Bool := a.getLsbD i && b.getLsbD j
    if both r.reg9 r.reg10 9 11 then (2, true)
    else if both r.reg9 r.reg10 8 10 then (2, false)
    else if both r.reg4 r.reg5 8 8 then (1, true)
    else if both r.reg4 r.reg5 7 7 then (1, false)
    else (0, both r.reg4 r.reg5 6 6)
  else (if r.reg0.getLsbD 6 then 2 else if r.reg0.getLsbD 13 then 1 else 0, r.reg0.getLsbD 8)

/-- The MDIO frames of a poll (R192): register 1, then those that give speed and duplex. -/
def pollFrames (phy : Nat) (r : PhyReading) : List MdioFrame :=
  let read (n : Nat) (w : U16) : MdioFrame := ⟨phy, n, false, w⟩
  [read 1 r.reg1, read 0 r.reg0] ++
    (if r.reg0.getLsbD 12 then [read 4 r.reg4, read 5 r.reg5, read 9 r.reg9, read 10 r.reg10] else [])

/-- A poll of the port's PHY (R192, R194, R195). (DEDUCED, log 81; PRESUMED, log 78) -/
def phyPoll (d : Dev) (p : Fin 3) (r : PhyReading) : Dev :=
  if ¬ d.ethEnabled p then d else
  let l := d.eth[p].link
  let gone := r.reg1 == 0xFFFF
  let polls := if gone then min 3 (l.absentPolls + 1) else 0
  let absent := polls ≥ 3
  let status := r.reg1.getLsbD 2
  let (speed, full) := phyMode r
  let half := status && !full && !gone
  let d := d.modLink p fun l => { l with
    reg1 := r.reg1, reg0 := r.reg0, absentPolls := polls, phyAbsent := absent,
    phyUp := status && full && !gone, phySpeed := speed, halfDuplex := half }
  let d : Dev := { d with remote := { d.remote with mdio := pollFrames (d.rfld (ethReg p Reg.ETH0_CTRL) 28 24) r } }
  let d := if half ∧ l.state = .training then d.ethFlag p 9 else d
  let d := if (absent ∧ ¬ l.phyAbsent) ∨ (half ∧ ¬ l.halfDuplex ∧ l.state = .training)
    then d.linkEvent p l.state false else d
  if status then d.tryLinkUp p else d.linkLoss p

/-- A script's write as Ouvoso makes it: it neither forces nor advertises a speed above MAX_SPEED (R193), by
the speed-select bits of register 0 and the abilities of registers 4 and 9. (PRESUMED, log 78) -/
def boundWrite (most register : Nat) (data : U16) : U16 :=
  if register = 0 then
    let asked := if data.getLsbD 6 then 2 else if data.getLsbD 13 then 1 else 0
    if asked ≤ most then data
    else (data &&& 0xDFBF) ||| (if most = 1 then 0x2000 else 0)
  else if register = 4 ∧ most < 1 then data &&& 0xFC7F
  else if register = 9 ∧ most < 2 then data &&& 0xFCFF
  else data

/-- A PHY script runs (R193): its MDIO writes, or the write of register 0 that replaces an
empty ease script. (PRESUMED, log 78) -/
def phyScript (d : Dev) (p : Fin 3) (k : PhyScript) : Dev :=
  let l := d.eth[p].link
  if l.runScript ≠ some k then d
  else
    let phy := d.rfld (ethReg p Reg.ETH0_CTRL) 28 24
    let own := l.scripts[(match k with | .start => 0 | .to100 => 1 | .to1000 => 2 : Fin 3)]
    let write (n : Nat) (w : Word) : MdioFrame := ⟨phy, n, true, boundWrite l.maxSpeed n (w.setWidth 16)⟩
    let speed : Word := if k = .to1000 then bitW 6 true else bitW 13 true
    let autoNeg := l.reg0.getLsbD 12
    let base := orW [speed, bitW 8 true, bitW 12 autoNeg]
    let frames := if own.isEmpty ∧ k ≠ .start then
        [write 0 base] ++ (if autoNeg then [write 0 (base ||| bitW 9 true)] else [])
      else own.map fun w => write (fld w 20 16) w
    { (d.modLink p fun l => { l with runScript := none }) with remote := { d.remote with mdio := frames } }

/-! ### Reception (R187–R191) -/

/-- The consumer of a frame, by EtherType (chapter 7). (DEDUCED, log 74) -/
def consumerOf (d : Dev) (p : Fin 3) (f : RxFrame) : Option Consumer :=
  if f.etherType = 0x22F0 then some .stream
  else if f.etherType = 0x88F7 then some .gptp
  else if f.etherType = 0x88B5 then some .lintel
  else if f.etherType = 0x88B6 ∧ d.rbit (ethReg p Reg.ETH0_CTRL) 5 ∧ f.dest = d.eth[p].mac then some .remote
  else none

/-- The counter that classifies a delivered frame by its consumer. (DEDUCED, log 74) -/
def consumerCounter : Consumer → Option (Fin 40)
  | .stream => some 5 | .gptp => some 6 | .lintel => some 7 | .remote => some 8 | .hearth => none

/-- A frame that passed every check is counted (R187, R205). -/
def countDelivered (d : Dev) (p : Fin 3) (f : RxFrame) : Dev :=
  ((d.countBy p 0 f.length).count p 1).count p
    (if f.dest = 0xFFFFFFFFFFFF then 4 else if f.dest.getLsbD 40 then 3 else 2)

/-- MAC control handles a delivered PAUSE (R197): every one is counted; one that is obeyed stops transmission
for its quanta. A port in DOWN receives none. (DEDUCED, log 83) -/
def pauseFrame (d : Dev) (p : Fin 3) (quanta : Nat) : Dev :=
  if d.eth[p].link.state = .down then d else
  let d := d.count p 9
  if d.rbit (ethReg p Reg.ETH0_CTRL) 2 then
    let t := d.eth[p].traffic
    let waiting := (t.queues[(0 : Fin 4)] ++ t.queues[(1 : Fin 4)] ++ t.queues[(2 : Fin 4)] ++ t.queues[(3 : Fin 4)]).length
    let d := if t.pauseQuanta = 0 ∧ quanta ≠ 0 then d.countBy p 30 waiting else d
    ((d.modTraffic p fun t => { t with pauseQuanta := quanta }).ethFlag p 10).countBy p 29 quanta
  else d

/-- The stop has run (R197). (DEDUCED, log 83) -/
def pauseExpire (d : Dev) (p : Fin 3) : Dev := d.modTraffic p fun t => { t with pauseQuanta := 0 }

/-- A frame that fails checks 4 to 6: counted, and kept by Ouvoso in flagged delivery (R190). (DEDUCED, log 77) -/
def badFrame (d : Dev) (p : Fin 3) (f : RxFrame) (k : Fin 40) : Dev :=
  let d := d.count p k
  if d.rbit (ethReg p Reg.ETH0_CTRL) 1 then
    let flags := (orW [bitW 0 (!f.fcsOk), bitW 1 f.rxEr, bitW 2 (f.length < 64), bitW 3 (f.length > 1522),
      bitW 4 (!f.lengthAgrees)]).toNat
    d.modTraffic p fun t => { t with
      badFrames := (⟨flags, min 1522 f.length, f.head.take 128⟩ :: t.badFrames).take 4 }
  else d

/-- Bits of line time a frame takes, preamble and interframe gap included (R199). -/
def lineBits (length : Nat) : Nat := 8 * (length + 20)

/-- The checks of Table 7.2, for a frame the FIFO held whole. -/
def receiveChecks (d : Dev) (p : Fin 3) (f : RxFrame) : Dev :=
  let e := d.eth[p]
  let lengthField := 46 ≤ f.etherType.toNat ∧ f.etherType.toNat ≤ 1500
  if ¬ e.link.locked ∨ ¬ f.complete ∨ f.departed then d.count p 12
  else if f.length < 64 ∧ ¬ f.fcsOk then d.count p 12
  else if ¬ d.destMatches p f.dest then d.count p 15
  else if ¬ f.fcsOk then d.badFrame p f 10
  else if f.rxEr then d.badFrame p f 11
  else if f.length < 64 then d.badFrame p f 13
  else if 1522 < f.length then d.badFrame p f 14
  else if lengthField ∧ ¬ f.lengthAgrees then d.badFrame p f 38
  else if e.traffic.rxRing.length ≥ e.traffic.rxSize then (d.count p 16).ethFlag p 4
  else if d.rxCells + cellsOf f.length > 576 then d.count p 16
  else if f.cells.any d.arb.spoiled.contains then d.count p 19
  else if f.etherType = 0x8808 then
    if f.macOpcode = 1 then d.countDelivered p f else d.count p 18
  else match d.consumerOf p f with
    | none => d.count p 18
    | some c =>
      let d := d.countDelivered p f
      let d := match consumerCounter c with
        | some k => d.count p k
        | none => d
      d.modTraffic p fun t => { t with rxRing := t.rxRing ++ [⟨c, f.cells, f.vid⟩] }

/-- A frame ends at the receiver of a port (R187): one that was being received as the port departed from UP
is a fragment (R195), and a port in DOWN receives nothing more. (DEDUCED, log 76, 77) -/
def ethReceive (d : Dev) (p : Fin 3) (f : RxFrame) : Dev :=
  if d.eth[p].link.state = .down ∧ ¬ f.departed then d
  else
    let d := if d.eth[p].link.state = .up then
      d.modTraffic p fun t => { t with rxBits := t.rxBits + lineBits f.length } else d
    let d := if f.fifoOverflow then d.count p 17 else d.receiveChecks p f
    { d with arb := { d.arb with spoiled := d.arb.spoiled.filter fun c => !f.cells.contains c } }

/-! ### Double-bit errors in the packet buffer (R36) -/

/-- A transmit cell is lost: the frame that holds it is discarded. Which of the waiting frames holds a cell is
a free value. (DESIGN CHOICE, log 27) -/
def txSpoil (d : Dev) : Dev :=
  let waiting : List (Fin 3 × Fin 4 × Nat) := (allFin 3).flatMap fun p => (allFin 4).flatMap fun q =>
    (List.range d.eth[p].traffic.queues[q].length).map fun j => (p, q, j)
  let (i, d) := d.fresh
  match waiting[Config.spoiledFrame i % waiting.length]? with
  | none => d
  | some (p, q, j) => (d.modTraffic p fun t => { t with queues := upd t.queues q (·.eraseIdx j) }).count p 19

/-- A double-bit error in a packet cell discards its frame, counted in RX_ECC_DROP (R36, R187): one already in
a ring at once, one still being received at its end. -/
def cellSpoil (d : Dev) (c : Nat) : Dev :=
  if c < 576 then
    match findIdx? fun p : Fin 3 => d.eth[p].traffic.rxRing.any fun x => x.cells.contains c with
    | some p => (d.modTraffic p fun t => { t with rxRing := t.rxRing.filter fun x => !x.cells.contains c }).count p 19
    | none => { d with arb := { d.arb with spoiled := c :: d.arb.spoiled } }
  else d.txSpoil

/-! ### Release -/

/-- A consumer releases the oldest receive descriptor (R191, R201). -/
def rxRelease (d : Dev) (p : Fin 3) : Dev := d.modTraffic p fun t => { t with rxRing := t.rxRing.drop 1 }

/-! ### Transmission (R185, R186, R196, R200) -/

/-- The queue served next: strict priority, classes A and B only at a credit of 0 or more (R186, R221).
 (PRESUMED, log 79) -/
def nextQueue (t : PortTraffic) : Option (Fin 4) :=
  findIdx? fun q : Fin 4 => !t.queues[q].isEmpty &&
    (if q = 1 then t.credit[(0 : Fin 2)] ≥ 0 else if q = 2 then t.credit[(1 : Fin 2)] ≥ 0 else true)

/-- The time at which the first nibble after the delimiter of a frame that starts now leaves the PHY (R209):
after 64 bit times, at the TXC edge of TX_CLK_DELAY, and the PHY's transmit latency, in units of 2^-16 ns. -/
def launchStamp (d : Dev) (p : Fin 3) : Int :=
  let l := d.eth[p].link
  stampOf (d.cc + 32 * 10 ^ (2 - l.speed.val)) (d.rfld (ethReg p Reg.ETH0_CTRL) 22 16) + 65536 * l.txLatency

/-- A frame starts on the wire (R186), and an 802.1AS event message takes its time (R209). -/
def txStart (d : Dev) (p : Fin 3) : Dev :=
  let e := d.eth[p]
  if e.link.state = .up ∧ ¬ e.link.disabling ∧ e.traffic.onWire.isNone ∧ e.traffic.pauseQuanta = 0 then
    match nextQueue e.traffic with
    | none => d
    | some q =>
      let f := e.traffic.queues[q].head?
      let at' := d.launchStamp p
      let d := d.modTraffic p fun t => { t with
        onWire := f, queues := upd t.queues q (·.drop 1),
        wireSource := e.mac, txDelay := d.rfld (ethReg p Reg.ETH0_CTRL) 22 16 }
      match f.map TxFrame.body with
      | some (TxBody.gptp m) => d.gptpLaunched p m at'
      | _ => d
  else d

/-- The class counter of a transmitted frame. -/
def txCounter : TxQueue → Fin 40 | .control => 24 | .classA => 22 | .classB => 23 | .bestEffort => 25

/-- The frame on the wire has left (R186, R203, R205). -/
def txDone (d : Dev) (p : Fin 3) : Dev :=
  match d.eth[p].traffic.onWire with
  | none => d
  | some f =>
    let d := (((d.countBy p 20 f.length).count p 21).count p (txCounter f.queue)).modTraffic p fun t =>
      { t with onWire := none, txBits := t.txBits + lineBits f.length }
    if d.eth[p].link.disabling then d.flushQueues p else d

/-- The hold time ends with the port not UP: held frames are flushed (R196). -/
def linkHoldExpire (d : Dev) (p : Fin 3) : Dev :=
  let e := d.eth[p]
  if e.link.state ≠ .up ∧ e.traffic.holding then
    (d.countBy p 27 e.traffic.queues[(3 : Fin 4)].length).modTraffic p fun t =>
      { t with queues := upd t.queues 3 (fun _ => []), holding := false }
  else d

/-! ### Rate easing (R33, R199, R202) -/

/-- The path of a group a listener is. -/
def pathOf (s : GroupSetup) (i : Fin 16) : Fin 2 := if s.primary = i then 0 else 1

/-- R33 allows a port to go down for easing, on the state as it stands now (Tables 1.6 and 7.6). -/
def easePermitted (d : Dev) (p : Fin 3) : Bool :=
  (allFin 16).all fun i =>
    let l := d.streams.listeners[i]
    match l.setup with
    | none => true
    | some s =>
      if s.port ≠ p ∨ ¬ isStarted l.state then true
      else
        let other : Bool := match l.group with
          | none => false
          | some g => match d.lintel.groups[g].setup with
            | none => false
            | some gs =>
              let o := 1 - pathOf gs i
              d.lintel.groups[g].state != .stopped && d.pathUsable g gs o && d.pathPort gs o != p
        other || s.rideMs ≥ d.rfld (ethReg p Reg.ETH0_RETRAIN) 9 0

/-- An ease starts: a planned down, EASING, its script to run (R195, R199). -/
def easeStart (d : Dev) (p : Fin 3) (up : Bool) : Dev :=
  let d := (d.ethFlag p 2).count p 33
  let d := (d.linkEnter p .easing true).modLink p fun l => { l with
    easeUp := up, easeWithheld := false, easeTold := false,
    runScript := some (if up then .to1000 else .to100) }
  (d.departUp p).easeEvent p up 0

/-- A decision to ease is taken or withheld (R199). -/
def easeDecide (d : Dev) (p : Fin 3) (up : Bool) : Dev :=
  let withhold (result : Nat) : Dev :=
    let told := d.eth[p].link.easeTold
    let d := d.modLink p fun l => { l with easeWithheld := true, easeTold := true }
    if told then d else d.easeEvent p up result
  if (allFin 3).any (fun q => q != p && d.eth[q].link.state == .easing) then d
  else if ¬ d.easePermitted p then withhold 2
  else if d.sup.nvwInhibit then withhold 3
  else d.easeStart p up

/-- The utilisation of a port over a window of 10 ms, in 0.1 % of its speed, to the nearest (R199). (DEDUCED, log 82) -/
def utilOf (d : Dev) (p : Fin 3) : Nat :=
  let e := d.eth[p]
  let kbps := 10000 * 10 ^ e.link.speed.val
  (200 * max e.traffic.rxBits e.traffic.txBits + kbps) / (2 * kbps)

/-- A 10 ms utilisation window ends on one port: it is measured with EASE_EN at 1 in UP, and may bring an ease
decision (R199). (DEDUCED, log 82) -/
def utilPort (d : Dev) (p : Fin 3) : Dev :=
  let e := ethReg p Reg.ETH0_EASE
  let low := d.rfld e 7 0
  let high := 5 * d.rfld e 15 8
  let measured := d.eth[p].link.state == .up && d.rbit (ethReg p Reg.ETH0_CTRL) 4
  let util := d.utilOf p
  let d := d.modLink p fun l => { l with
    util := if measured then min 1000 util else l.util
    quietWindows := if measured ∧ 10 * util < min (10 * low) high then l.quietWindows + 1 else 0 }
  let d := d.modTraffic p fun t => { t with rxBits := 0, txBits := 0 }
  let l := d.eth[p].link
  if ¬ measured ∨ l.disabling then d
  else if l.speed = 2 ∧ l.quietWindows ≥ 100 * d.rfld e 23 16 then d.easeDecide p false
  else if l.speed = 1 ∧ l.easedSince ∧ util > high then d.easeDecide p true
  else d

/-- A utilisation window ends on the three ports, the lowest number first (R199). -/
def utilWindow (d : Dev) : Dev := (allFin 3).foldl utilPort d

/-- EASING has not reached link up in time (R202). -/
def easeFail (d : Dev) (p : Fin 3) : Dev :=
  let l := d.eth[p].link
  if l.state = .easing then
    let d := (((d.ethFlag p 7).ethFlag p 1).count p 32).setRbit (ethReg p Reg.ETH0_CTRL) 4 false
    (d.enterTraining p).easeEvent p l.easeUp 4
  else d

/-! ### Addresses and filters (R189, R200) -/

/-- A write of ETHn_MAC_HI commits the staged address. -/
def macHiWrite (d : Dev) (p : Fin 3) (w : Word) : Dev :=
  let d := d.setRfld (ethReg p Reg.ETH0_MAC_HI) 15 0 (fld w 15 0)
  d.modPort p fun e => { e with
    mac := BitVec.ofNat 48 (fld w 15 0 * 2 ^ 32 + (d.reg (ethReg p Reg.ETH0_MAC_LO)).toNat) }

/-- A write of a filter half by the host: an entry of Ouvoso is not changed, FILT_OWNED is set;
otherwise half-written exclusion applies (R189, R200). -/
def filtWrite (d : Dev) (p : Fin 3) (high : Bool) (w : Word) : Dev :=
  match d.eth[p].filters[d.rfld (ethReg p Reg.ETH0_FILT_SEL) 2 0]? with
  | none => d
  | some f =>
    if Filter.owned f then d.ethFlag p 8
    else
      let f' : Filter :=
        if high then
          let valid := w.getLsbD 16
          let f := { f with hi := w.setWidth 16, valid := valid }
          if ¬ valid then { f with loHalf := false, hiHalf := false }
          else if f.loHalf then { f with loHalf := false, hiHalf := false } else { f with hiHalf := true }
        else
          let f := { f with lo := w }
          if f.hiHalf then { f with loHalf := false, hiHalf := false } else { f with loHalf := true }
      d.modPort p fun e => { e with
        filters := e.filters.setIfInBounds (d.rfld (ethReg p Reg.ETH0_FILT_SEL) 2 0) f' }

/-! ### The remote-controller channel (R198) -/

/-- The length on the wire of a remote answer (Table 7.4), padded to 64 bytes. -/
def remoteLength (payload : Nat) : Nat := max 64 (14 + 4 + payload + 4)

/-- A remote answer leaves for the requester through the best-effort queue (R198): FLAGS, SEQ, and the
response header and payload. (DEDUCED, log 85) -/
def remoteSend (d : Dev) (p : Fin 3) (dest : BitVec 48) (seq : U16) (r : Response) : Dev :=
  let bytes := wordBytes r.words
  d.submit p ⟨.bestEffort, remoteLength bytes.length, none, dest, 0x88B6, .remote 1 seq bytes⟩

/-- The cached answer to a repeated request. (DEDUCED, log 84) -/
def remoteCached (d : Dev) (source : BitVec 48) (seq : U16) : Option RemoteCache :=
  d.remote.cache.find? fun c => c.source == source && c.seq == seq

/-- A remote request arrives (R198). (DEDUCED, log 84) -/
def remoteRequest (d : Dev) (p : Fin 3) (f : RemoteFrame) : Dev :=
  if ¬ d.rbit (ethReg p Reg.ETH0_CTRL) 5 then d
  else if f.version ≠ 1 ∨ ¬ d.remote.allow.contains f.source then d.count p 37
  else match d.remoteCached f.source f.seq with
    | some c => d.remoteSend p f.source f.seq c.response
    | none =>
      if d.remote.waiting.length ≥ 4 then d.count p 37
      else { d with remote := { d.remote with
        waiting := d.remote.waiting ++ [⟨p, f.source, f.seq, ⟨f.opcode, f.request⟩⟩] } }

/-! ### Registers (R204) -/

/-- ENABLE, EASE_EN and the rest of ETHn_CTRL as a new word is stored. -/
def ethCtrlStore (d : Dev) (p : Fin 3) (w : Word) : Dev :=
  let was := d.ethEnabled p
  let d := (d.setReg (ethReg p Reg.ETH0_CTRL) w).modLink p fun l => { l with easeTold := false }
  if was ∧ ¬ w.getLsbD 0 then d.portDisable p else d.leaveDown p

/-- Clamp the ranged fields of an ETH word, by its offset in the port block (R11, Table 7.5). (DEDUCED, log 80) -/
def ethClamp (p : Fin 3) (off : Nat) (w : Word) : Word :=
  if off = 0x00 then
    setFld (setFld w 9 8 (min 2 (fld w 9 8))) 22 16 (min 64 (fld w 22 16))
  else if off = 0x38 then
    setFld (setFld (setFld (setFld w 7 0 (clampN 10 200 (fld w 7 0))) 15 8 (clampN 40 180 (fld w 15 8)))
      23 16 (clampN 1 255 (fld w 23 16))) 31 24 (clampN 0 250 (fld w 31 24))
  else if off = 0x3C then
    let w := setFld w 9 0 (clampN 10 1000 (fld w 9 0))
    if p = 0 then setFld w 23 16 (clampN 10 255 (fld w 23 16)) else w
  else w

/-- ETHn_STATUS (Table 7.8). -/
def ethStatus (d : Dev) (p : Fin 3) : Word :=
  let e := d.eth[p]
  let l := e.link
  orW [at' 0 (linkCode l.state), at' 2 l.speed.val, bitW 4 l.locked,
    bitW 5 (l.state == .down && (PortTraffic.txFrames e.traffic).isEmpty),
    bitW 6 (e.traffic.pauseQuanta != 0), bitW 7 e.traffic.holding,
    bitW 8 ((allFin 8).any fun i => Filter.excluded e.filters[i]), bitW 9 l.phyAbsent,
    bitW 10 l.easeWithheld, bitW 11 l.eased, at' 16 l.phase.toNat, at' 22 (l.util % 1024)]

/-- HALF_RANGE: some half-range flag is set with its enable (R204). -/
def halfRange (d : Dev) (p : Fin 3) : Bool :=
  (d.reg (ethReg p Reg.ETH0_HALF_LO) &&& d.reg (ethReg p Reg.ETH0_HALF_EN_LO)) != 0 ||
  (d.reg (ethReg p Reg.ETH0_HALF_HI) &&& d.reg (ethReg p Reg.ETH0_HALF_EN_HI)) != 0

/-- The computed part of an ETH register, by its offset in the port block (R204). -/
def ethRead (d : Dev) (p : Fin 3) (off : Nat) : Word :=
  let e := d.eth[p]
  let f := e.filters[d.rfld (ethReg p Reg.ETH0_FILT_SEL) 2 0]?
  if off = 0x04 then d.ethStatus p
  else if off = 0x08 then bitW 11 (d.halfRange p)
  else if off = 0x1C then f.elim 0 (·.lo)
  else if off = 0x20 then f.elim 0 fun f =>
    orW [f.hi.setWidth 32, bitW 16 f.valid, bitW 17 (Filter.owned f), bitW 18 (Filter.excluded f)]
  else if off = 0x34 then at' 0 e.traffic.rxSize ||| at' 16 e.traffic.txSize
  else 0

/-- The ETHn source of Table 4.9. -/
def ethIrq (d : Dev) (p : Fin 3) : Bool :=
  ((d.reg (ethReg p Reg.ETH0_IRQ_STATUS) ||| bitW 11 (d.halfRange p)) &&&
    d.reg (ethReg p Reg.ETH0_IRQ_ENABLE)) != 0

/-! ### Commands (R206, Table 7.15) -/

/-- ETH_PORT_STATUS. -/
def cmdPortStatus : CmdFn := fun _ req d => withFin 3 (req.fld 8 1 0) 8 fun p =>
  let e := d.eth[p]
  reply [d.ethStatus p, e.link.reg1.setWidth 32 ||| (e.link.reg0.setWidth 32 <<< 16),
    w32 (min 0xFFFFFFFF ((d.cc - e.link.since) / 500000)), w32 e.traffic.counters[(32 : Fin 40)], w32 e.traffic.counters[(33 : Fin 40)],
    at' 0 e.traffic.rxRing.length ||| at' 16 (PortTraffic.txFrames e.traffic).length] d

/-- ETH_PORT_SETUP. -/
def cmdPortSetup : CmdFn := fun _ req d => withFin 3 (req.fld 8 1 0) 8 fun p =>
  let ctrl := d.reg (ethReg p Reg.ETH0_CTRL)
  let e := d.eth[p]
  let w := ethClamp p 0 (orW [at' 0 (req.fld 8 24 24), at' 1 (req.fld 8 16 16), at' 2 (req.fld 8 17 17),
    at' 3 (req.fld 8 18 18), ctrl &&& bitW 4 true, at' 5 (req.fld 8 19 19), at' 8 (req.fld 8 9 8),
    at' 10 (req.fld 0x0C 21 16), at' 16 (req.fld 0x0C 14 8), at' 24 (req.fld 0x0C 4 0)])
  let rx := clampN 16 256 (req.fld 0x10 8 0)
  let tx := clampN 16 256 (req.fld 0x10 24 16)
  let sum (size : PortTraffic → Nat) : Nat :=
    ((allFin 3).map fun q => if q = p then 0 else size d.eth[q].traffic).sum
  let fixed := maskOf 9 8 ||| maskOf 15 10 ||| maskOf 22 16 ||| maskOf 28 24
  let moves := (w &&& fixed) != (ctrl &&& fixed) || rx != e.traffic.rxSize || tx != e.traffic.txSize
  if fld w 9 8 = 2 ∧ d.sup.ioeMode = 3 then refusedState 1
  else if d.ethEnabled p ∧ moves then refusedState 2
  else if sum (·.rxSize) + rx > 256 then .refuse .budget 10 []
  else if sum (·.txSize) + tx > 256 then .refuse .budget 11 []
  else
    let d := d.modTraffic p fun t => { t with rxSize := rx, txSize := tx }
    let d := d.modLink p fun l => { l with rxLatency := req.fld 0x18 15 0, txLatency := req.fld 0x18 31 16 }
    let d := d.setRfld (ethReg p Reg.ETH0_EASE) 31 24 (clampN 0 500 (req.fld 0x14 9 0) / 2)
    okayKey req (0x0410 + p.val) (d.ethCtrlStore p w)

/-- ETH_PORT_DISABLE: answered once PORT_IDLE is set (R203). -/
def cmdPortDisable : CmdFn := fun src req d => withFin 3 (req.fld 8 1 0) 8 fun p =>
  if d.eth[p].link.state = .down then okay (d.portDisable p)
  else .later [] ((d.portDisable p).modLink p fun l => { l with disableReply := some (src, req.tag) })

/-- ETH_EASE_SET. -/
def cmdEaseSet : CmdFn := fun _ req d => withFin 3 (req.fld 8 1 0) 8 fun p =>
  let d := d.setRbit (ethReg p Reg.ETH0_CTRL) 4 (req.bit 8 8)
  let d := (d.modLink p fun l => { l with easeTold := false }).setReg (ethReg p Reg.ETH0_EASE) (ethClamp p 0x38 (req.word 0x0C))
  okayKey req (0x0420 + p.val) (d.setRfld (ethReg p Reg.ETH0_RETRAIN) 9 0 (clampN 10 1000 (req.fld 0x10 9 0)))

/-- ETH_MDIO; the data read comes from the PHY. -/
def cmdMdio (readBack : U16) : CmdFn := fun _ req d =>
  let write := req.bit 8 16
  let data : U16 := if write then BitVec.ofNat 16 (req.fld 0x0C 15 0) else readBack
  reply [data.setWidth 32] { d with remote := { d.remote with
    mdio := [⟨req.fld 8 4 0, req.fld 8 12 8, write, data⟩] } }

/-- ETH_PHY_SCRIPT. -/
def cmdPhyScript : CmdFn := fun _ req d => withFin 3 (req.fld 8 1 0) 8 fun p =>
  withFin 3 (req.fld 8 9 8) 8 fun k =>
    okayKey req (0x0430 + 4 * p.val + k.val) (d.modLink p fun l => { l with
      scripts := upd l.scripts k fun _ => (req.payload.drop 1).take ((req.length - 4) / 4) })

/-- ETH_REMOTE_SET: the allow list of the endpoint. -/
def cmdRemoteSet : CmdFn := fun _ req d =>
  let m := (req.word 8).toNat
  if m > 4 then badParam 8
  else okayKey req 0x0440 { d with remote := { d.remote with
    allow := (List.range m).map fun k =>
      BitVec.ofNat 48 (beNat ((wordBytes [req.word (0x0C + 8 * k), req.word (0x10 + 8 * k)]).take 6)) } }

/-- ETH_BAD_FRAMES. -/
def cmdBadFrames : CmdFn := fun _ req d => withFin 3 (req.fld 8 1 0) 8 fun p =>
  match d.eth[p].traffic.badFrames[req.fld 8 9 8]? with
  | none => reply (List.replicate 33 0) d
  | some b => reply ((at' 0 b.flags ||| at' 16 b.length) ::
      packWords (b.head ++ List.replicate (128 - b.head.length) 0)) d

end Dev
end Sys2Proof.Machine
end

