-- ==== Sys2Proof/Machine/Journal.lean ====
section
/-! DEFINITION.
The configuration journal as a set of items: replay, lookup, and the holding of new records
(R86–R88, R139). -/

namespace Sys2Proof.Machine

/-- One record applied to a list of items kept in ascending key order. -/
def putItem (l : List (Nat × List Word)) (key : Nat) (v : Option (List Word)) : List (Nat × List Word) :=
  let below := l.filter fun p => p.1 < key
  let above := l.filter fun p => key < p.1
  match v with
  | some w => below ++ (key, w) :: above
  | none => below ++ above

/-- The items of a bank: every record up to the first that is not valid, in order (R86). -/
def JBank.items (b : JBank) : List (Nat × List Word) :=
  (b.records.takeWhile (·.valid)).foldl (fun l r => putItem l r.item.key r.item.value) []

/-- The live bank. -/
def Journal.live (j : Journal) : JBank := if j.liveB then j.bankB else j.bankA

/-- The persisted items: those of the live bank, none where its header is not valid. -/
def Journal.items (j : Journal) : List (Nat × List Word) := if j.live.header then j.live.items else []

/-- The value of an item, with the records that wait counted. -/
def Journal.value (j : Journal) (key : Nat) : Option (List Word) :=
  ((j.programming.toList ++ j.pending).foldl (fun l i => putItem l i.key i.value) j.items).lookup key

/-- The bytes of the live bank that no record takes (JOURNAL_STATUS). (DESIGN CHOICE, log 23) -/
def Journal.bytesFree (j : Journal) : Nat :=
  32768 - Config.bankHeaderBytes - ((j.live.records.map fun r => Config.recordBytes (r.item.value.getD [])).sum)

/-- The live bank cannot take another record: it is full, or it ends in a record that replay stops at. A
bank with no record in it takes any one. (DESIGN CHOICE, log 23) -/
def Journal.full (j : Journal) (v : JItem) : Bool :=
  (!j.live.records.isEmpty && j.bytesFree < Config.recordBytes (v.value.getD [])) || j.live.records.any (!·.valid)

/-- JOURNAL_PENDING: the records R81 withheld that are not yet written (R88). (DEDUCED, log 34) -/
def Journal.heldCount (j : Journal) : Nat := j.held + (if j.progHeld then 1 else 0)

/-- Change one bank. -/
def Journal.modBank (j : Journal) (b : Bool) (f : JBank → JBank) : Journal :=
  if b then { j with bankB := f j.bankB } else { j with bankA := f j.bankA }

/-- The erase target of a bank. -/
def bankTarget (b : Bool) : EraseTarget := if b then .bankB else .bankA

namespace Dev

/-- Change the journal. -/
def modJournal (d : Dev) (f : Journal → Journal) : Dev := { d with journal := f d.journal }

/-- The hold-up estimate of R81 in whole µs, rounded down as Case 3.1 has it, from the last VBAT sample as
PWR_VBAT shows it, a saturated one among them, and the fields of PWR_HOLDUP. (DESIGN CHOICE, log 32) -/
def holdupEst (d : Dev) : Nat :=
  let vbat := d.rfld Reg.PWR_VBAT 15 0
  let drop := d.rfld Reg.PWR_HOLDUP 31 22
  let load := d.rfld Reg.PWR_HOLDUP 21 12
  let num := d.rfld Reg.PWR_HOLDUP 11 0 * (vbat - drop) * 10
  if vbat ≤ drop then 0
  else if load = 0 then (Config.holdupNoLoad num).toNat
  else min 65535 (num / load)

/-- R81 permits the start of a flash program: NV-write inhibit is not entered and
PWR_HOLDUP_EST.EST_US is at least 3200 µs. -/
def flashPermitted (d : Dev) : Bool := !d.sup.nvwInhibit && d.rfld Reg.PWR_HOLDUP_EST 15 0 ≥ 3200

/-- Where R81 withholds the program, every waiting record is pending under R88, and
JOURNAL_DEFERRED is set if one became so. (DEDUCED, log 34) -/
def journalWithhold (d : Dev) : Dev :=
  let n := d.journal.pending.length
  if d.flashPermitted ∨ n ≤ d.journal.held then d
  else (d.modJournal fun j => { j with held := n }).raiseBit Reg.PWR_IRQ_STATUS 9

/-- Records of changes that Ouvoso makes itself or a command makes, added to those waiting (R88, R139).
 (DEDUCED, log 34) -/
def journalAdd (d : Dev) (items : List JItem) : Dev :=
  (d.modJournal fun j => { j with pending := j.pending ++ items }).journalWithhold

/-- The bank compaction writes: the one not in use. -/
def otherBank (j : Journal) : JBank := if j.liveB then j.bankA else j.bankB

/-- R87, step 1: the erase of the bank not in use starts. (DEDUCED, log 33) -/
def otherErase (d : Dev) : Dev :=
  d.modJournal fun j => { j.modBank (!j.liveB) fun _ => { emptyBank with dirty := true } with
    copying := false, erasing := bankTarget (!j.liveB) :: j.erasing }

/-- Compaction starts with that erase (R87). (DEDUCED, log 33) -/
def compactStart (d : Dev) : Dev := (d.modJournal fun j => { j with compacting := true }).otherErase

/-- Compaction goes on: an erase that must be made again, where NV-write inhibit lets it start (R83), or its record
programs, where R81 does. (DEDUCED, log 33) -/
def compactNext (d : Dev) : Dev :=
  let j := d.journal
  if !j.compacting || j.copying || j.erasing.contains (bankTarget (!j.liveB)) then d
  else if (otherBank j).dirty then (if d.sup.nvwInhibit then d else d.otherErase)
  else if d.flashPermitted then d.modJournal fun j => { j with copying := true }
  else d

/-- A program of the journal is in progress, a record's or those of a compaction (R77). -/
def journalBusy (d : Dev) : Bool := d.journal.programming.isSome || (d.journal.copying && d.flashPermitted)

/-- The journal decides what it starts next, in ACTIVE and not during QUIET entry: a record program where R81
permits it (R81, R88), and the erases before it where NV-write inhibit is not entered (R83). With no valid bank
the first write creates bank A with generation 1, erased first if it was left part-erased (R92); a live bank
that cannot take the record is compacted first (R87). (DEDUCED, log 33) -/
def journalProgram (d : Dev) : Dev :=
  let j := d.journal
  if d.power.state ≠ .active ∨ d.power.quietEntry.isSome ∨ j.programming.isSome ∨ j.defaultsTags ≠ []
      ∨ j.erasing.contains .bankA ∨ j.erasing.contains .bankB then d
  else if j.compacting then d.compactNext
  else
    match j.pending with
    | [] => d
    | it :: rest =>
      let start (j : Journal) : Journal :=
        { j with programming := some it, pending := rest, progHeld := j.held > 0, held := j.held - 1 }
      if ¬ j.live.header ∧ j.bankA.dirty then
        (if d.sup.nvwInhibit then d else d.modJournal fun j => { j with erasing := .bankA :: j.erasing })
      else if j.live.header ∧ j.full it then (if d.sup.nvwInhibit then d else d.compactStart)
      else if ¬ d.flashPermitted then d
      else if j.live.header then d.modJournal start
      else d.modJournal fun j =>
        start { j with liveB := false, bankA := { header := true, gen := 1, records := [], dirty := false } }

/-- A record program completes with its commit word (R86); the pending records are counted down
and JOURNAL_FLUSHED tells when the last is written. -/
def journalDone (d : Dev) : Dev :=
  match d.journal.programming with
  | none => d
  | some it =>
    let seq := d.journal.lastSeq + 1
    let told := d.journal.progHeld
    let n := d.journal.flushed + (if told then 1 else 0)
    let last := told && d.journal.held == 0
    let d := d.modJournal fun j =>
      { j.modBank j.liveB fun b => { b with records := b.records ++ [⟨seq, it, true⟩] } with
        lastSeq := seq, programming := none, progHeld := false, flushed := if last then 0 else n }
    d.pushIf last 0x0007 (w32 n)

/-- The records of a list of items, numbered from a sequence number. (DEDUCED, log 36) -/
def recordsFrom (seq : Nat) : List (Nat × List Word) → List JRecord
  | [] => []
  | (k, v) :: t => ⟨seq, ⟨k, some v⟩, true⟩ :: recordsFrom (seq + 1) t

/-- Compaction ends: the header of the other bank, with generation + 1, makes it live (R87). Its programs start
under R81. (DEDUCED, log 36) -/
def compactDone (d : Dev) : Dev :=
  let j := d.journal
  if ¬ j.copying ∨ ¬ d.flashPermitted then d
  else
    let rs := recordsFrom (j.lastSeq + 1) j.items
    let bank : JBank := { header := true, gen := j.live.gen + 1, records := rs, dirty := false }
    let d := d.modJournal fun j =>
      { j.modBank (!j.liveB) fun _ => bank with
        liveB := !j.liveB, lastSeq := j.lastSeq + rs.length, compacting := false, copying := false, compactTags := [] }
    j.compactTags.foldl (fun (d : Dev) tag => d.opDone 0x0103 0 tag) d

end Dev

/-- The slot an update writes: the one that is not running (R150). -/
def Flash.target (f : Flash) : EraseTarget := if f.runningB then .slotA else .slotB

/-- Change the slot that is not running. -/
def Flash.modTarget (f : Flash) (g : Slot → Slot) : Flash :=
  if f.runningB then { f with slotA := g f.slotA } else { f with slotB := g f.slotB }

/-- The running slot. -/
def Flash.running (f : Flash) : Slot := if f.runningB then f.slotB else f.slotA

/-- An erased slot. (DESIGN CHOICE, log 10) -/
def emptySlot : Slot :=
  { valid := false, seq := 0, trial := false, attempted := false, confirmed := false, image := [], digest := [],
    dirty := false }

namespace Dev

/-- An erase in progress completes (R83); compaction goes on in the bank it erased. The erase of an update's target
slot ends FWU_BEGIN (R152). -/
def eraseDone (d : Dev) (t : EraseTarget) : Dev :=
  if ¬ d.journal.erasing.contains t then d
  else
    let d := d.modJournal fun j => { j with erasing := j.erasing.erase t }
    match t with
    | .bankA => (d.modJournal fun j => { j with bankA := emptyBank }).compactNext
    | .bankB => (d.modJournal fun j => { j with bankB := emptyBank }).compactNext
    | _ =>
      let d : Dev := { d with flash :=
        if t = EraseTarget.slotA then { d.flash with slotA := emptySlot } else { d.flash with slotB := emptySlot } }
      match d.flash.session with
      | some x =>
        if t = d.flash.target ∧ ¬ x.erased then
          ({ d with flash := { d.flash with session := some { x with erased := true } } } : Dev).opDone 0x0201 0 x.tag
        else d
      | none => d

/-- Both banks are erased: JOURNAL_DEFAULTS ends. -/
def defaultsDone (d : Dev) : Dev :=
  let tags := d.journal.defaultsTags
  if tags = [] then d
  else
    let keep (t : EraseTarget) : Bool := t != .bankA && t != .bankB
    let d := d.modJournal fun j => { j with
      bankA := emptyBank, bankB := emptyBank, erasing := j.erasing.filter keep, defaultsTags := [] }
    tags.foldl (fun (d : Dev) tag => d.opDone 0x0104 0 tag) d

end Dev
end Sys2Proof.Machine
end

