-- ==== Sys2Proof/Machine/Mail.lean ====
section
/-! DEFINITION.
The mailboxes: doorbell, release, the writing of a response to its source, the event queue words,
and the words of Tables 5.9 to 5.12 (chapter 5). -/

namespace Sys2Proof.Machine

/-- Write a list of words into a window from its start; the words beyond them keep what they held.
 (DESIGN CHOICE, log 145) -/
def fillWindow (w : Vector Word 64) (l : List Word) : Vector Word 64 :=
  Vector.ofFn fun i => if h : i.val < l.length then l[i.val] else w[i]

namespace Dev

/-- Change one mailbox. -/
def modMb (d : Dev) (k : Fin 2) (f : Mailbox → Mailbox) : Dev :=
  { d with mail := { d.mail with mb := upd d.mail.mb k f } }

/-- Ouvoso writes the whole response and moves the mailbox from BUSY to READY (R129). -/
def respondMb (d : Dev) (k : Fin 2) (r : Response) : Dev :=
  d.modMb k fun m =>
    if m.state = .busy then { m with response := fillWindow m.response r.words, state := .ready, taken := false }
    else m

/-- Ouvoso answers a remote request and keeps the answer for a repetition (R198). -/
def respondRemote (d : Dev) (w : RemoteWaiting) (r : Response) : Dev :=
  let d := d.remoteSend w.port w.source w.seq r
  { d with remote := { d.remote with
      cache := ⟨w.source, w.seq, r⟩ :: d.remote.cache.filter fun c => c.source != w.source } }

/-- A response goes to its source: a mailbox, the tester, or the remote controller. -/
def respond (d : Dev) (src : Source) (r : Response) : Dev :=
  match src with
  | .mb0 => d.respondMb 0 r
  | .mb1 => d.respondMb 1 r
  | .tester => { d with mail := { d.mail with testerResponse := some r } }
  | .remote =>
    let d : Dev := { d with mail := { d.mail with remoteResponse := some r } }
    match d.remote.late.find? fun w => w.queued.opcode == r.opcode && w.queued.request.tag == r.tag with
    | none => d
    | some w => ({ d with remote := { d.remote with late := d.remote.late.erase w } } : Dev).respondRemote w r

/-- A response with status OK and a payload, written late; PENDING tells that the command's record was
withheld (R139). -/
def respondOk (d : Dev) (who : Source × Byte) (opcode : Nat) (payload : List Word) : Dev :=
  let pend := d.mail.latePending.contains who
  let d : Dev := { d with mail := { d.mail with latePending := d.mail.latePending.erase who } }
  d.respond who.1 ⟨opcode, who.2, 0, 0, pend, payload⟩

/-- A valid doorbell word for a mailbox's request (R127). -/
def doorbellValid (m : Mailbox) (w : Word) : Bool :=
  fld w 31 16 == 0x0DB0 && fld w 15 8 == 0 && fld w 7 0 == fld m.request[(0 : Fin 64)] 23 16

/-- A doorbell word is written (R127). -/
def doorbell (d : Dev) (k : Fin 2) (w : Word) : Dev :=
  d.modMb k fun m =>
    if doorbellValid m w then
      if m.state = .idle then { m with state := .busy, lastTag := w.setWidth 8 }
      else { m with refusedDoorbell := true }
    else { m with badDoorbell := true }

/-- A write into a request window at a word offset (R126–R128, R154): the doorbell word at 63
rings and is kept while the mailbox is not BUSY, word 62 is reserved, and any other word written while it
is BUSY, the doorbell word among them, sets WRITE_WHILE_BUSY. -/
def requestWrite (d : Dev) (k : Fin 2) (i : Fin 64) (w : Word) : Dev :=
  let m := d.mail.mb[k]
  if i = 62 then d
  else
    let d := d.modMb k fun m => if m.state = .busy then { m with writeWhileBusy := true }
      else { m with request := m.request.set i w }
    if i = 63 then d.doorbell k w else d

/-- A full read of MBn_RELEASE releases a READY mailbox (R130). A software reset that a RESET
command announced through it follows (R148). (DEDUCED, log 45) -/
def mbRelease (d : Dev) (k : Fin 2) (full : Bool) : Dev :=
  if full ∧ d.mail.mb[k].state = .ready then
    let d := d.modMb k fun m => { m with
      state := .idle, refusedDoorbell := false, badDoorbell := false, writeWhileBusy := false }
    if d.mail.resetDue.contains k then { d with power := { d.power with resetScheduled := true } } else d
  else d

/-- The code of a mailbox state. -/
def mbCode : MbState → Nat | .idle => 0 | .busy => 1 | .ready => 2

/-! ### The event queue words (R143, R144) -/

/-- The capture of EVQ_HEAD latches the entry at the head. -/
def evqHead (d : Dev) : Dev := { d with mail := { d.mail with latch := d.mail.queue.head? } }

/-- A full read of EVQ_ARG removes the latched entry and clears the latch. -/
def evqArg (d : Dev) (full : Bool) : Dev :=
  if full then
    { d with mail := { d.mail with
      queue := if d.mail.latch.isSome then d.mail.queue.drop 1 else d.mail.queue, latch := none } }
  else d

/-- A full read of EVQ_STATE clears OVF and LOST. -/
def evqState (d : Dev) (full : Bool) : Dev :=
  if full then { d with mail := { d.mail with ovf := false, lost := 0 } } else d

/-- The word of a response window of mailbox `k` at a word offset (R154). -/
def responseRead (d : Dev) (k : Fin 2) (i : Fin 64) : Word :=
  let m := d.mail.mb[k]
  if i = 62 then orW [at' 0 (mbCode m.state), bitW 2 m.refusedDoorbell, bitW 3 m.badDoorbell,
    bitW 4 m.writeWhileBusy, at' 8 m.lastTag.toNat]
  else if i = 63 then at' 0 (fld m.response[(0 : Fin 64)] 23 16) ||| at' 8 (mbCode m.state)
  else if i.val < 58 then m.response[i]
  else if k = 0 then 0
  else if i = 58 then orW [at' 0 d.mail.queue.length, bitW 8 d.mail.ovf, at' 16 d.mail.lost]
  else if i = 60 then
    match d.mail.latch with
    | some e => orW [e.code.setWidth 32, at' 16 e.seq.toNat, bitW 31 true]
    | none => 0
  else if i = 61 then d.mail.latch.elim 0 (·.arg)
  else 0

/-- The word of a request window. -/
def requestRead (d : Dev) (k : Fin 2) (i : Fin 64) : Word :=
  if i = 62 then 0 else d.mail.mb[k].request[i]

/-- The capture of a mailbox word: EVQ_HEAD latches at capture (R143). -/
def windowCapture (d : Dev) (k : Fin 2) (i : Fin 64) : Dev :=
  if k = 1 ∧ i = 60 then d.evqHead else d

/-- The read side effects of a mailbox word shifted out in full (R102, R130, R143). -/
def windowReadDone (d : Dev) (k : Fin 2) (i : Fin 64) : Dev :=
  if i = 63 then d.mbRelease k true
  else if k = 1 ∧ i = 61 then d.evqArg true
  else if k = 1 ∧ i = 58 then d.evqState true
  else d

end Dev
end Sys2Proof.Machine
end

