-- ==== Sys2Proof/Machine/Reboot.lean ====
section
/-! DEFINITION.
What any reset does to the endpoint: every register and block to its reset value, but for what
outlasts a reset (Tables 3.2 and 0.4, R68, R86, R93, R123, R147). -/

namespace Sys2Proof.Machine

/-- The bits of PWR_RESET_CAUSE, one per source (Table 3.10). -/
inductive Cause where | powerOn | pin | pllLoss | watchdog | deviceFault | software
  deriving DecidableEq, Repr

/-- The bit of a cause. -/
def Cause.bit : Cause → Nat
  | .powerOn => 0 | .pin => 1 | .pllLoss => 2 | .watchdog => 3 | .deviceFault => 4 | .software => 5

/-- A reset from this source clears the RWS flags (Table 3.2). -/
def Cause.clearsRws : Cause → Bool
  | .powerOn | .pin => true
  | _ => false

/-- The journal after a reset: a record being programmed is torn, a bank half written or half
erased is erased before reuse, pending records are lost (R86, R88, R91). (DEDUCED, log 36, 43) -/
def Journal.afterReset (j : Journal) : Journal :=
  let torn := match j.programming with
    | some it => j.modBank j.liveB fun b => { b with records := b.records ++ [JRecord.mk (j.lastSeq + 1) it false] }
    | none => j
  let half (b : Bool) (k : JBank) : JBank :=
    if j.erasing.contains (bankTarget b) ∨ (j.compacting ∧ b = !j.liveB) then { emptyBank with dirty := true } else k
  { resetJournal with
    bankA := half false torn.bankA, bankB := half true torn.bankB, liveB := j.liveB, lastSeq := j.lastSeq }

/-- A slot of the flash after a reset: a slot being erased, or written in a session, is not valid (R93).
 (DEDUCED, log 43) -/
def Slot.afterReset (s : Slot) (erasing written : Bool) : Slot :=
  { s with valid := s.valid && !erasing && !written, dirty := s.dirty || erasing }

/-- The flash after a reset: no update session is open (R147). (DEDUCED, log 43) -/
def Flash.afterReset (f : Flash) (j : Journal) : Flash :=
  { f with
    slotA := f.slotA.afterReset (j.erasing.contains .slotA) (f.session.isSome && f.runningB)
    slotB := f.slotB.afterReset (j.erasing.contains .slotB) (f.session.isSome && !f.runningB)
    runningB := false, session := none }

namespace Dev

/-- A reset source is asserted: the endpoint is in OFF with its reset values. PWR_RESET_CAUSE
records the source, beside any other that holds the same reset. (DEDUCED, log 42, 43; DESIGN CHOICE, log 11) -/
def resetDev (d : Dev) (c : Cause) : Dev :=
  let old := if d.power.state = .off then d.reg Reg.PWR_RESET_CAUSE else 0
  let keep (r : Dev) (a : Nat) : Dev := if c.clearsRws then r else r.setReg a (d.reg a)
  let r := { Dev.initial with
    power := { resetPower with
      state := .off, porAsserted := d.power.porAsserted, rstLow := d.power.rstLow, pllLost := d.power.pllLost }
    flash := d.flash.afterReset d.journal
    journal := d.journal.afterReset
    meas := { resetMeas with store := d.meas.store, cycle := d.meas.cycle }
    tap := d.tap
    freeIdx := d.freeIdx }
  let r := keep (keep r Reg.SYS_FAULT) Reg.PWR_STICKY
  r.setReg Reg.PWR_RESET_CAUSE (old ||| bitW c.bit true)

/-- A rail falls below its falling threshold (R67): the power-on reset is asserted, and holds the
test access port in reset (R398). -/
def powerOnReset (d : Dev) : Dev :=
  let r := d.resetDev .powerOn
  { r with power := { r.power with porAsserted := true }, tap := resetTap }

/-- The release 1 ms after power-good, if every rail stayed above its falling threshold (R67). -/
def powerOnRelease (d : Dev) (held : Bool) : Dev :=
  if d.power.porAsserted ∧ held then { d with power := { d.power with porAsserted := false } } else d

/-- RST_N has been low for at least 1 µs (R68). -/
def pinReset (d : Dev) : Dev :=
  let r := d.resetDev .pin
  { r with power := { r.power with rstLow := true } }

/-- RST_N rises (R69). -/
def pinRelease (d : Dev) : Dev := { d with power := { d.power with rstLow := false } }

/-- The core PLL loses lock: the endpoint is held in reset until lock returns (R37). -/
def pllLoss (d : Dev) : Dev :=
  let r := d.resetDev .pllLoss
  { r with power := { r.power with pllLost := true } }

/-- Hearth has not served its watchdog within 200 ms (Table 3.2); the watchdog is suspended while
Hearth's clock is stopped (R77, R78), and nothing runs in OFF. (DEDUCED, log 44) -/
def watchdogExpiry (d : Dev) : Dev :=
  if d.power.state = .off ∨ (d.power.state = .quiet ∧ ¬ d.power.quietPass) then d else d.resetDev .watchdog

/-- A scheduled software reset takes effect: its delay is over, or 10 ms have passed since the
response to RESET became READY (R90, R148). (DEDUCED, log 45) -/
def softwareReset (d : Dev) : Dev :=
  let due := d.mail.resetDue.any fun k => d.mail.mb[k].state == .ready
  if d.power.resetScheduled || due then d.resetDev .software else d

/-- A double-bit error in a descriptor or an Ouvoso table: a device fault (R36, R123). -/
def deviceFault (d : Dev) (word : U16) : Dev :=
  let d := d.push 0x0001 (word.setWidth 32)
  let d := d.setReg Reg.SYS_FAULT (bitW 0 true ||| at' 16 word.toNat)
  d.resetDev .deviceFault

end Dev
end Sys2Proof.Machine
end

