-- ==== Sys2Proof/Machine/Route.lean ====
section
/-! DEFINITION.
The TDM ports, the routing matrix, the output chain of every destination and the routing commands
(chapter 10). -/

namespace Sys2Proof.Machine

/-! ### Frames and configurations (R257) -/

/-- Slots of a code. -/
def slotCount (c : TdmCfg) : Nat := 2 ^ (c.slots + 1)
/-- Slot width in bits. -/
def slotWidth (c : TdmCfg) : Nat := 16 + 8 * c.width

/-- The FB code: FB is 32 × 2^code, the smallest power of two not below slots × width (R257). -/
def fbCode (c : TdmCfg) : Nat :=
  ((List.range 5).find? fun k => slotCount c * slotWidth c ≤ 32 * 2 ^ k).getD 4

/-- FB of a configuration. -/
def frameBits (c : TdmCfg) : Nat := 32 * 2 ^ fbCode c

/-- The TDMn_CTRL word of a configuration. -/
def TdmCfg.ctrl (c : TdmCfg) : Word :=
  orW [bitW 0 c.enable, at' 1 c.format, at' 4 c.width, at' 8 c.slots, bitW 12 c.bclkInv,
    bitW 13 c.fsyncInv, at' 16 c.sdiDelay]

/-- The index of a slot in a port's tables. -/
def SlotRef.index (s : SlotRef) : Fin 32 := ⟨16 * s.line.val + s.slot.val, by omega⟩

/-- A slot is enabled in a mask of a configuration; an enable beyond the slot count names no slot. -/
def slotOn (c : TdmCfg) (mask : Word) (line : Fin 2) (slot : Fin 16) : Bool :=
  slot.val < slotCount c && mask.getLsbD (16 * line.val + slot.val)

/-- The slots a mask enables. -/
def slotsOn (c : TdmCfg) (mask : Word) : Nat :=
  ((List.range 32).filter fun k => k % 16 < slotCount c && mask.getLsbD k).length

/-- The code of a port state. -/
def tdmCode : TdmState → Nat | .off => 0 | .running => 1 | .stopping => 2

/-- Saturate at 32 bits. -/
def sat32 (x : Int) : Int := clampI (-2147483648) 2147483647 x

/-! ### The lines of a frame (R257, R258, Table 10.1) -/

/-- The data delay of a format. -/
def dataDelay (c : TdmCfg) : Nat := if c.format = 0 ∨ c.format = 2 then 1 else 0

/-- The bit position at which a slot begins. -/
def slotStart (c : TdmCfg) (slot : Nat) : Nat :=
  (if c.format < 2 then slot * frameBits c / 2 else slot * slotWidth c) + dataDelay c

/-- The FSYNC level at a bit position, inverted by FSYNC_INV. -/
def fsyncBit (c : TdmCfg) (b : Nat) : Bool :=
  (if c.format = 0 then decide (frameBits c ≤ 2 * b) else if c.format = 1 then decide (2 * b < frameBits c)
    else if c.format = 2 then b == 0 else decide (b < slotWidth c)) != c.fsyncInv

/-- The bit of a line's data at a bit position counted from the start of the frame: a slot's code, most
significant bit first; low where no slot stands. FB is the bit position 0 of the next frame. -/
def dataBit (c : TdmCfg) (codes : Fin 16 → Int) (b : Nat) : Bool :=
  (allFin 16).any fun s =>
    s.val < slotCount c && slotStart c s.val ≤ b && b < slotStart c s.val + slotWidth c &&
      (codes s).testBit (slotWidth c - 1 - (b - slotStart c s.val))

/-- The SDO level of a line at a bit position: at position 0 also the last data bit of the frame before. -/
def sdoBit (t : TdmPort) (line : Fin 2) (b : Nat) : Bool :=
  (b == 0 && t.carry[line]) || dataBit t.active (fun s => t.sdo[SlotRef.index ⟨0, line, s⟩]) b

/-- The sample of an input slot, left-justified in 32 bits with the low bits zero, from the bits of its line by
bit position (R258). -/
def inSlot (c : TdmCfg) (bits : List Bool) (slot : Nat) : Word :=
  bitsW 32 fun k => decide (31 - k < slotWidth c) && bits.getD (slotStart c slot + (31 - k)) false

/-- A sample rounded to nearest and saturated at a slot width (R258). -/
def slotValue (width : Nat) (x : Int) : Int := clampI (-(2 ^ (width - 1))) (2 ^ (width - 1) - 1) (nearest x (2 ^ (32 - width)))

namespace Dev

/-- Change one TDM port. -/
def modTdm (d : Dev) (p : Fin 4) (f : TdmPort → TdmPort) : Dev := { d with tdm := upd d.tdm p f }
/-- Change the matrix. -/
def modRoute (d : Dev) (f : Route → Route) : Dev := { d with route := f d.route }
/-- Change one destination. -/
def modDest (d : Dev) (k : Fin 64) (f : Dest → Dest) : Dev :=
  d.modRoute fun r => { r with dests := upd r.dests k f }
/-- Change the sense slots of a speaker. -/
def modSense (d : Dev) (k : Fin 16) (f : Sense → Sense) : Dev :=
  d.modRoute fun r => { r with sense := upd r.sense k f }

/-- The address of a TDM register of port `p` from that of port 0. -/
def tdmReg (p : Fin 4) (a : Nat) : Nat := a + 0x20 * p.val
/-- Set a flag of TDMn_IRQ_STATUS. -/
def tdmFlag (d : Dev) (p : Fin 4) (i : Nat) : Dev := d.raiseBit (tdmReg p Reg.TDM0_IRQ_STATUS) i

/-! ### Port states and commit (R260–R262) -/

/-- A port changes state: event TDM_PORT (Table 10.13). (DEDUCED, log 97) -/
def tdmEnter (d : Dev) (p : Fin 4) (s : TdmState) : Dev :=
  let old := d.tdm[p].state
  if old = s then d
  else (d.modTdm p fun t => { t with state := s }).push 0x0701
    (orW [at' 0 p.val, at' 4 (tdmCode s), at' 8 (tdmCode old)])

/-- The check of R265 restarts for the speakers of a port (Table 10.7). -/
def senseRestart (d : Dev) (p : Fin 4) : Dev :=
  let again (s : Sense) : Sense :=
    if s.bind.any (·.port == p) then { s with lastTag := none, same := 0, advanced := 0 } else s
  d.modRoute fun r => { r with sense := r.sense.map again }

/-- The slot codes that a port sends in the frame that starts: of every destination bound to a slot of it that is
enabled (R258, R267). -/
def frameCodes (d : Dev) (p : Fin 4) (c : TdmCfg) : Vector Int 32 :=
  Vector.ofFn fun k : Fin 32 =>
    (d.route.dests.toList.map fun x => match x.kind with
      | .slot s =>
        if s.port = p ∧ s.index = k ∧ slotOn c c.outEn s.line s.slot then slotValue (slotWidth c) x.out else 0
      | _ => 0).sum

/-- The staged values take effect: COMMIT_DONE (R260). The frame that starts at the boundary is in the new
configuration. -/
def tdmTake (d : Dev) (p : Fin 4) : Dev :=
  let t := d.tdm[p]
  let width := t.staged.width != t.active.width
  let d := (d.modTdm p fun t => { t with
    active := t.staged, pending := false, sdo := if t.state = .off then t.sdo else d.frameCodes p t.staged }).tdmFlag p 0
  if width then d.senseRestart p else d

/-- A port enters RUNNING, and its first frame starts (R261). -/
def tdmRun (d : Dev) (p : Fin 4) : Dev :=
  (d.modTdm p fun t => { t with
    frames := 0, sdo := d.frameCodes p t.active, carry := Vector.replicate 2 false }).tdmEnter p .running

/-- A commit takes effect at a frame boundary of the port, or at a grid point if it is OFF (R260). -/
def tdmApply (d : Dev) (p : Fin 4) : Dev :=
  let t := d.tdm[p]
  if ¬ t.pending ∨ t.quiet then d
  else match t.state with
    | .off => if t.staged.enable then (d.tdmTake p).tdmRun p else d.tdmTake p
    | .running => d.tdmTake p
    | .stopping => d

/-- A commit is made (R260, R262): one with ENABLE 0 stops a running port at its next boundary. -/
def tdmCommit (d : Dev) (p : Fin 4) : Dev :=
  let d := d.modTdm p fun t => { t with pending := true }
  let t := d.tdm[p]
  if t.state = .running ∧ ¬ t.staged.enable then d.tdmEnter p .stopping else d

/-- The frame in progress ends on a stopping port: its pins go low, OFF, STOPPED (R262). -/
def tdmStopped (d : Dev) (p : Fin 4) : Dev :=
  let t := d.tdm[p]
  if t.state = .stopping then
    let d := if t.pending ∧ ¬ t.quiet ∧ ¬ t.staged.enable then d.tdmTake p else d
    let d := (d.modTdm p fun t => { t with
      sdo := Vector.replicate 32 0, sdi := Vector.replicate 32 0, carry := Vector.replicate 2 false,
      replies := [] }).tdmEnter p .off
    t.replies.foldl (fun d who => d.respondOk who 0x0702 []) (d.tdmFlag p 1)
  else d

/-- QUIET entry stops a running port (R262). -/
def tdmQuiet (d : Dev) (p : Fin 4) : Dev :=
  let d := d.modTdm p fun t => { t with quiet := true }
  if d.tdm[p].state = .running then d.tdmEnter p .stopping else d

/-- Exit from QUIET: a pending commit applies (Table 10.7), and a port with ENABLE 1 in effect then runs from the
first grid point (R262). -/
def tdmWake (d : Dev) (p : Fin 4) : Dev :=
  let d := d.modTdm p fun t => { t with quiet := false }
  if d.tdm[p].pending ∧ d.tdm[p].state = .off then d.tdmTake p else d

/-- A grid point: a port that QUIET stopped and that has ENABLE 1 in effect enters RUNNING (R262). -/
def tdmResume (d : Dev) (p : Fin 4) : Dev :=
  let t := d.tdm[p]
  if t.state = .off ∧ t.active.enable ∧ ¬ t.quiet ∧ ¬ t.pending then d.tdmRun p else d

/-- OUT_UNDERRUN (R280). -/
def tdmUnderrun (d : Dev) (p : Fin 4) : Dev :=
  (d.modTdm p fun t => { t with underruns := satInc 0xFFFF t.underruns }).tdmFlag p 2

/-- IN_OVERRUN (R280). -/
def tdmOverrun (d : Dev) (p : Fin 4) : Dev :=
  (d.modTdm p fun t => { t with overruns := satInc 0xFFFF t.overruns }).tdmFlag p 3

/-- Units of the enabled output or input slots of the staged configurations, that of port `p` being `c` (R27,
Table 1.4). (DEDUCED, log 98) -/
def tdmUnits (d : Dev) (p : Fin 4) (c : TdmCfg) (out : Bool) : Nat :=
  ((allFin 4).map fun q =>
    let c := if q = p then c else d.tdm[q].staged
    slotsOn c (if out then c.outEn else c.inEn) * rateUnits d.ks.rate).sum

/-- A TDM port is enabled (KS_SET_RATE). -/
def anyTdmEnabled (d : Dev) : Bool := (allFin 4).any fun p => d.tdm[p].active.enable || d.tdm[p].staged.enable

/-! ### Sense slots (R263–R265) -/

/-- SENSE_STALE of a tagged speaker (R265). -/
def senseStale (d : Dev) (k : Fin 16) : Dev :=
  let s := d.route.sense[k]
  match s.bind with
  | none => d
  | some b =>
    if b.tagged ∧ ¬ s.stale ∧ s.same ≥ 48 then
      ((d.modSense k fun s => { s with stale := true }).tdmFlag b.port 4).push 0x0702 (at' 0 k.val)
    else d

/-- The tag has advanced in 48 frames in a row (R265). -/
def senseRecovered (d : Dev) (k : Fin 16) : Dev :=
  let s := d.route.sense[k]
  if s.bind.any (·.tagged) ∧ s.stale ∧ s.advanced ≥ 48 then
    (d.modSense k fun s => { s with stale := false }).push 0x0702 (at' 0 k.val ||| bitW 8 true)
  else d

/-- One frame of a speaker's sense slots (R264, R265): its samples and flags, the runs of the tag, and the warning
and the temperature for the evaluation of R299. -/
def senseFrame (d : Dev) (k : Fin 16) : Dev :=
  match d.route.sense[k].bind with
  | none => d
  | some b =>
    let v := d.tdm[b.port].sdi[SlotRef.index ⟨b.port, b.line, b.voltage⟩]
    let i := d.tdm[b.port].sdi[SlotRef.index ⟨b.port, b.line, b.current⟩]
    if ¬ b.tagged then
      d.modSense k fun s => { s with voltage := v, current := i, overcurrent := false, clip := false }
    else
      let tag := fld v 3 0
      let running := d.tdm[b.port].state != .off
      let d := d.modSense k fun s => { s with
        voltage := v &&& 0xFFFFFF00, current := i &&& 0xFFFFFF00, overcurrent := v.getLsbD 4, clip := v.getLsbD 6 }
      if ¬ running then d
      else
        let d := d.modSense k fun s => { s with
          lastTag := some tag,
          same := if s.lastTag = some tag then s.same + 1 else 1,
          advanced := if s.lastTag = some ((tag + 15) % 16) then s.advanced + 1 else 0 }
        let sp := d.meas.speakers[k].setup
        if ¬ sp.enable then d
        else
          let t := fldS i 7 0
          { d with meas := { d.meas with amps := upd d.meas.amps sp.amp fun a => { a with
              warned := a.warned || v.getLsbD 5,
              maxTemp := if t = -128 then a.maxTemp else some (a.maxTemp.elim t (max t)) } } }

/-! ### Sources, pilot and test level (R266, R277, R289, R297) -/

/-- Frequency in Hz and level in dB below full scale of the pilot (Table 11.1). -/
def pilotOf (r : Fin 6) : Nat × Nat :=
  if r = 0 then (20500, 46) else if r = 1 then (21000, 42) else if r.val < 4 then (21000, 45) else (21000, 48)

/-- The pilot source is bound. -/
def pilotBound (d : Dev) : Bool := d.route.sources.any (· == .pilot)

/-- Crosspoints reserved for the pilot in each bank (R289). -/
def pilotCount (d : Dev) : Nat :=
  if d.meas.config.pilotEn ∧ d.pilotBound then (d.meas.speakers.toList.filter (·.setup.enable)).length else 0

/-- The pilot's sample. -/
def pilotSample (d : Dev) : Int :=
  narrow (sineOf d.route.pilotPhase d.fs * dbLin ((pilotOf d.ks.rate).2 * 10000000)) (2 ^ 30)

/-- A speaker's pilot crosspoint is reserved and lies on this destination (R289). -/
def pilotOn (d : Dev) (k : Fin 64) : Bool :=
  d.meas.config.pilotEn && d.pilotBound && d.meas.speakers.any fun s => s.setup.enable && s.setup.dest == k

/-- Both banks, and one that waits for its swap, have room for the crosspoints the pilot reserves (R28, R270). -/
def pilotFits (d : Dev) : Bool :=
  let fits (n : Nat) : Bool := n + d.pilotCount ≤ 256
  fits d.route.staged.length && fits (d.route.active.filter (·.gain != 0)).length &&
    d.route.commit.all fun c => fits c.1.length

/-- The pilot crosspoint's gain `t` ns into its slot (Table 11.2), in 2^-30. -/
def slotEnvelope (t : Nat) : Int :=
  if t < 1000000 then raisedCos t 1000000
  else if t < 14500000 then 2 ^ 30
  else if t < 15500000 then 2 ^ 30 - raisedCos (t - 14500000) 1000000
  else 0

/-- The level of a DC-resistance test `t` ns into its sequence (Table 11.5), of 2^30. -/
def dcEnvelope (t : Nat) : Int :=
  if t < 10000000 then raisedCos t 10000000
  else if t < 50000000 then 2 ^ 30
  else if t < 70000000 then 2 ^ 30 - 2 * raisedCos (t - 50000000) 20000000
  else if t < 110000000 then -(2 ^ 30)
  else if t < 120000000 then raisedCos (t - 110000000) 10000000 - 2 ^ 30
  else 0

/-- Time in ns since a cc. -/
def nsSince (d : Dev) (cc : Nat) : Nat := 2 * (d.cc - cc)

/-- The level now of a test, its abort's ramp to 0 over 10 ms included (R298), in 2^-30. -/
def dcLevelNow (d : Dev) (x : DcDrive) : Int :=
  match x.abort with
  | none => dcEnvelope (d.nsSince x.start)
  | some (level, t0) =>
    if d.nsSince t0 < 10000000 then narrow (level * (2 ^ 30 - raisedCos (d.nsSince t0) 10000000)) (2 ^ 30) else 0

/-- The test whose level the stages carry: none once the ramp of an abort has ended. -/
def driving (d : Dev) : Option DcDrive :=
  d.meas.drive.filter fun x => x.abort.all fun a => d.nsSince a.2 < 10000000

/-- The pilot slot now, of 15.625 ms of local media time (R290). -/
def slotNumber (d : Dev) : Nat := d.now / 15625000

/-- The pilot crosspoint's gain of a destination now (R289, R290, R311), in 2^-30. -/
def pilotGain (d : Dev) (k : Fin 64) : Int :=
  let slot := d.slotNumber % 16
  let own := match d.meas.speakers[slot]? with
    | none => 0
    | some s =>
      let testing := d.driving.any fun x => x.speaker.val == slot
      if s.setup.enable ∧ s.setup.dest = k ∧ d.meas.config.pilotEn ∧ d.pilotBound ∧ ¬ testing ∧
        d.power.state = .active then slotEnvelope (d.now % 15625000) else 0
  match d.meas.rampOut with
  | some (dest, level, t0) =>
    if dest = k ∧ d.nsSince t0 < 1000000 then narrow (level * (2 ^ 30 - raisedCos (d.nsSince t0) 1000000)) (2 ^ 30)
    else own
  | none => own

/-- What stage 6 adds to a destination: the pilot, or the level of its speaker's test. -/
def stageSix (d : Dev) (k : Fin 64) : Int :=
  match d.driving with
  | some x =>
    if d.meas.speakers[x.speaker].setup.dest = k then
      narrow (dbLin (d.meas.config.dcLevel * 10000000) * d.dcLevelNow x) (2 ^ 29)
    else narrow (d.pilotSample * d.pilotGain k) (2 ^ 30)
  | none => narrow (d.pilotSample * d.pilotGain k) (2 ^ 30)

/-- A tone's amplitude of a level code, in 2^-30 (R277). -/
def toneAmp (level : Nat) : Int := if level = 255 then 0 else dbLin (level * 5000000)

/-- A tone's amplitude now: a change of level moves over 64 samples. -/
def Tone.amp (t : Tone) : Int :=
  narrow (t.levelFrom * (64 - t.levelDone) + toneAmp t.level * t.levelDone) 64

/-- A tone's sample. -/
def toneSample (d : Dev) (t : Tone) : Int := narrow (sineOf t.phase (10 * d.fs) * Tone.amp t) (2 ^ 30)

/-- A tone moves by one sample; a change of frequency takes effect at a zero crossing (R277). -/
def Tone.advance (t : Tone) (fs : Nat) : Tone :=
  let next := t.phase + t.freq
  let crosses := t.freq = 0 ∨ next ≥ 10 * fs ∨ (t.phase < 5 * fs ∧ next ≥ 5 * fs)
  { t with phase := next % (10 * fs), freq := if crosses then t.newFreq else t.freq,
           levelDone := min 64 (t.levelDone + 1) }

/-- The sample of a source in this period (R266): a listener that has joined a Lintel group plays through the
group alone (R232). -/
def sourceSample (d : Dev) (k : SourceKind) : Int :=
  match k with
  | .unbound => 0
  | .listener i c => if d.streams.listeners[i].group.isSome then 0 else d.listenerSample i c.val
  | .group g c => d.groupSample g c.val
  | .slot s => if d.tdm[s.port].state = .off then 0 else d.tdm[s.port].sdi[s.index].toInt
  | .tone t => d.toneSample d.route.tones[t]
  | .pilot => 0

/-! ### The destination chain (R267–R274) -/

/-- The gain of an active crosspoint now times `len` (R269). -/
def ActiveXp.scaled (x : ActiveXp) (done len : Nat) : Int :=
  x.start * ((len : Int) - done) + x.gain * done

/-- A destination is muted: by command, supply mute, or its amplifier's fault (R84, R141, R273). -/
def destMuted (d : Dev) (x : Dest) : Bool :=
  x.muted || x.held || d.sup.supplyMute || x.amp.any fun a => d.meas.amps[a].demand

/-- The foldback demanded of a destination in 10^-7 dB: the lower of its amplifier's and the
die's target (R299). -/
def foldDemand (d : Dev) (x : Dest) : Nat :=
  1000000 * max d.meas.die.target (x.amp.elim 0 fun a => d.meas.amps[a].fold.target)

/-- The foldback after one sample: 1 dB per 10 ms down, 1 dB per 100 ms up (R272). -/
def foldStep (fs now goal : Nat) : Nat :=
  if now < goal then min goal (now + 1000000000 / fs) else max goal (now - 100000000 / fs)

/-- The gain that would hold a sample at LIM_THRESH, in 2^-30, of a sample that exceeds it (R271). -/
def limitGoal (thresh : Nat) (sample : Int) : Option Int :=
  let level := dbFactor (thresh * 5000000)
  if level < (sample.natAbs : Int) * 2 ^ 31 then some (narrow level (2 * sample.natAbs)) else none

/-- The limiter gain after a sample (R271): it falls toward the gain that would hold a sample beyond the threshold,
and recovers toward unity; unity while it is off. (DEDUCED, log 105) -/
def limitStep (fs : Nat) (x : Dest) (sample : Int) : Int :=
  let free := Config.limiterGain x.limiter sample x.thresh x.attack x.release fs
  if x.thresh = 127 then 2 ^ 30
  else match limitGoal x.thresh sample with
    | some goal => if goal < x.limiter then toward x.limiter goal free else toward x.limiter (2 ^ 30) free
    | none => toward x.limiter (2 ^ 30) free

/-- The mute gain's place on its curve after one sample, and the curve's length: a RAMP_LEN is taken at an end of
the curve (R273). (DEDUCED, log 105) -/
def muteNext (x : Dest) (down : Bool) : Nat × Nat :=
  let (step, len) := if x.muteStep = 0 then (0, x.rampLen) else if x.muteLen ≤ x.muteStep then (x.rampLen, x.rampLen)
    else (x.muteStep, x.muteLen)
  (if down then step - 1 else min len (step + 1), len)

/-- One destination's sample of a period (Table 10.5), from the matrix sum's numerator over `den`
and what stage 6 adds; the flag says that a sample saturated in stages 1 or 2. (DEDUCED, log 99) -/
def destChain (d : Dev) (x : Dest) (sum : Int) (den : Nat) (six : Int) : Dest × Bool :=
  let a := narrow sum den
  let s1 := sat32 a
  let gainDone := min x.gainLen (x.gainDone + 1)
  let g := x.gainFrom * ((x.gainLen : Int) - gainDone) + x.gainTo * gainDone
  let b := narrow (s1 * g) (x.gainLen * 2 ^ 22)
  let s2 := sat32 b
  let line := s2 :: x.line
  let s3 := line.getLast?.getD s2
  let lim := limitStep d.fs x s3
  let s4 := sat32 (narrow (s3 * lim) (2 ^ 30))
  let fold := foldStep d.fs x.foldback (d.foldDemand x)
  let s5 := sat32 (narrow (s4 * dbLin fold) (2 ^ 30))
  let s6 := sat32 (s5 + six)
  let (step, len) := muteNext x (d.destMuted x || x.newDelay.isSome)
  let s7 := narrow (s6 * raisedCos step len) (2 ^ 30)
  let clips := (if a = s1 then 0 else 1) + (if b = s2 then 0 else 1)
  let loud := dbFactor (d.meas.config.quietLevel * 10000000) ≤ (s1.natAbs : Int) * 2 ^ 31
  ({ x with gainDone := gainDone, line := line.take x.delay, limiter := lim, foldback := fold,
            muteStep := step, muteLen := len, clip := (x.clip + clips) % 2 ^ 32, out := s7, sum := s1,
            loudAt := if loud then d.cc else x.loudAt }, clips ≠ 0)

/-! ### The frame boundary (R256) -/

/-- The gain an active crosspoint has reached. -/
def reached (r : Route) (x : ActiveXp) : Int :=
  if r.rampLen = 0 then x.gain else narrow (ActiveXp.scaled x r.rampDone r.rampLen) r.rampLen

/-- The staged bank becomes active (R269): every gain that differs ramps from the gain reached. -/
def swapBank (r : Route) (bank : List Xp) (ramp : Nat) : Route :=
  let old := r.active.map fun x => { x with start := reached r x, gain := 0 }
  let kept := old.filter fun x => x.start != 0 || bank.any fun y => y.src == x.src && y.dst == x.dst
  let merge (l : List ActiveXp) (y : Xp) : List ActiveXp :=
    if l.any fun x => x.src == y.src && x.dst == y.dst then
      l.map fun x => if x.src = y.src ∧ x.dst = y.dst then { x with gain := y.gain } else x
    else l ++ [⟨y.src, y.dst, 0, y.gain⟩]
  { r with active := bank.foldl merge kept, rampLen := ramp, rampDone := 0, commit := none }

/-- The swap of a pending commit at the boundary, its event and its answers (R269, R284). -/
def routeSwap (d : Dev) : Dev :=
  match d.route.commit with
  | none => d
  | some (bank, ramp) =>
    let n := bank.length + d.pilotCount
    let replies := d.route.replies
    let d := (d.modRoute fun r => { swapBank r bank ramp with replies := [] }).push 0x0703 (w32 n)
    replies.foldl (fun d who => d.respondOk who 0x0707 [w32 n]) d

/-- One sample of the commit ramp; crosspoints that have faded out are gone at its end. (DEDUCED, log 99) -/
def rampTick (r : Route) : Route :=
  let done := min r.rampLen (r.rampDone + 1)
  { r with rampDone := done,
           active := if done = r.rampLen then r.active.filter (·.gain != 0) else r.active }

/-- The input slots of the frame that ended on a running port are delivered (R258, R262). -/
def takeInputs (d : Dev) (sdi : List (List Bool)) (p : Fin 4) : Dev :=
  let t := d.tdm[p]
  if t.state = .off then d
  else d.modTdm p fun t => { t with
    sdi := Vector.ofFn fun k : Fin 32 =>
      let line : Fin 2 := if k.val < 16 then 0 else 1
      let slot : Fin 16 := ⟨k.val % 16, Nat.mod_lt _ (by decide)⟩
      if slotOn t.active t.active.inEn line slot then
        inSlot t.active (sdi.getD (2 * p.val + line.val) []) slot.val
      else 0 }

/-- Every destination is computed once (R267). -/
def destsTick (d : Dev) (samples : List Int) : Dev :=
  let len := max 1 d.route.rampLen
  let done := if d.route.rampLen = 0 then 1 else d.route.rampDone
  (allFin 64).foldl (fun (d' : Dev) (k : Fin 64) =>
    let x := d.route.dests[k]
    if x.kind = DestKind.unbound then d'
    else
      let sum := (d.route.active.map fun y =>
        if y.dst = k then ActiveXp.scaled y done len * samples.getD y.src.val 0 else 0).sum
      let (x', clipped) := d.destChain x sum (len * 2 ^ 22) (d.stageSix k)
      let d' := d'.modDest k fun _ => x'
      match x.kind with
      | .slot s => if clipped then d'.tdmFlag s.port 5 else d'
      | _ => d') d

/-- A frame starts on a running port; the last bit of the one before may fall in it (R257). -/
def frameStart (d : Dev) (p : Fin 4) : Dev :=
  let t := d.tdm[p]
  if t.state = .running then
    d.modTdm p fun t => { t with
      frames := wrapInc 16 t.frames, sdo := d.frameCodes p t.active
      carry := Vector.ofFn fun line : Fin 2 => sdoBit t line (frameBits t.active) }
  else d

/-- The samples of a talker's channels in this period (R267, R219). -/
def talkerTick (d : Dev) (i : Fin 8) : Dev :=
  match d.streams.talkers[i].setup with
  | none => d
  | some s => d.talkerGather i ((List.range s.channels).map fun c =>
      i32 (d.route.dests.toList.map fun x => match x.kind with
        | .talker j k => if j = i ∧ k.val = c then x.out else 0
        | _ => 0).sum)

/-- A weighted sample added to a sum in phase and in quadrature, at a phase of a turn, in 2^-31. -/
def demodulate (sum : Int × Int) (sample : Int) (weight : Int) (phase turn : Nat) : Int × Int :=
  (sum.1 + sample * weight * sineOf (4 * phase + turn) (4 * turn), sum.2 - sample * weight * sineOf phase turn)

/-- The frequency of a sum of R291: the pilot's, and 500 Hz below and above it. -/
def demodHz (d : Dev) (j : Nat) : Nat :=
  let f := (pilotOf d.ks.rate).1
  if j = 0 then f else if j = 1 then f - 500 else f + 500

/-- One frame of the pilot slot in progress, for its speaker (R290–R293): what rejects the slot, and in the
integration window of Table 11.2 a sample under a Hann window. (DEDUCED, log 106) -/
def watchFrame (d : Dev) : Dev :=
  let n := d.slotNumber
  let k : Fin 16 := ⟨n % 16, Nat.mod_lt _ (by decide)⟩
  let t := d.now % 15625000
  let sp := d.meas.speakers[k].setup
  let x := d.route.dests[sp.dest]
  let s := d.route.sense[k]
  if ¬ sp.enable then d
  else
    let w := if d.meas.watch[k].number = n then d.meas.watch[k] else freshWatch n
    let w := { w with
      muted := w.muted || decide (x.muteStep < x.muteLen), fault := w.fault || d.meas.amps[sp.amp].demand,
      dcTest := w.dcTest || d.meas.dcTest.any (fun t => t.started && t.queue.head? == some k),
      stale := w.stale || s.stale, clip := w.clip || s.clip, overcurrent := w.overcurrent || s.overcurrent,
      noPilot := w.noPilot || !d.meas.config.pilotEn || !d.pilotBound }
    let sums (l : Vector (Int × Int) 3) (sample : Int) (weight : Int) : Vector (Int × Int) 3 :=
      Vector.ofFn fun j : Fin 3 => demodulate l[j] sample weight (w.samples * d.demodHz j.val % d.fs) d.fs
    let w := if 1500000 ≤ t ∧ t < 14500000 then
        let weight := if t < 8000000 then raisedCos (t - 1500000) 6500000 else raisedCos (14500000 - t) 6500000
        { w with samples := w.samples + 1, weight := w.weight + weight,
                 voltage := sums w.voltage s.voltage.toInt weight, current := sums w.current s.current.toInt weight }
      else w
    { d with meas := { d.meas with watch := d.meas.watch.set k w } }

/-- One frame of the DC-resistance test in progress (Table 11.5): a sample at its positive or negative level. -/
def dcFrame (d : Dev) : Dev :=
  let add (m : DcMean) (s : Sense) : DcMean :=
    ⟨m.samples + 1, m.voltage + s.voltage.toInt, m.current + s.current.toInt⟩
  { d with meas := { d.meas with drive := d.meas.drive.map fun x =>
      let t := d.nsSince x.start
      let s := d.route.sense[x.speaker]
      if x.abort.isSome then x
      else if 30000000 ≤ t ∧ t < 50000000 then { x with plus := add x.plus s }
      else if 90000000 ≤ t ∧ t < 110000000 then { x with minus := add x.minus s }
      else x } }

/-- A grid point (R256): inputs, the bank swap, every destination, the outputs, the talkers, the
readout of the Mortar, the sense slots, the measurement and the generators. -/
def frameBoundary (d : Dev) (sdi : List (List Bool)) : Dev :=
  let d := (allFin 4).foldl (fun (d : Dev) (p : Fin 4) => d.takeInputs sdi p) d
  let d := d.routeSwap
  let d := d.modRoute rampTick
  let samples := d.route.sources.toList.map d.sourceSample
  let d := d.destsTick samples
  let d := (allFin 4).foldl frameStart d
  let d := (allFin 4).foldl tdmResume d
  let d := (allFin 8).foldl talkerTick d
  let d := (allFin 16).foldl listenerAdvance d
  let d := (allFin 8).foldl groupAdvance d
  let d := (allFin 16).foldl senseFrame d
  let d := d.watchFrame.dcFrame
  let d := d.modRoute fun r => { r with
    tones := r.tones.map fun t => Tone.advance t d.fs,
    pilotPhase := (r.pilotPhase + (pilotOf d.ks.rate).1) % d.fs }
  (d.modStreams fun s => { s with edge := d.now }).modKs fun k => { k with frameGrid := k.grid }

/-! ### Delay changes (R275, R276) -/

/-- Granules of a delay line (R275). -/
def delayGranules (n : Nat) : Nat := (n + 255) / 256

/-- The granules of a destination's delay line given up for those of a new one (R275, R276, Table 10.7): they are
its own from the command on. (DEDUCED, log 103) -/
def placeDelay (d : Dev) (k : Fin 64) (n : Nat) : Option Dev :=
  let d := d.release (.delay k)
  if n = 0 then some d else d.allocate (.delay k) true (delayGranules n)

/-- A destination's line is of a new length, and clear (R276). -/
def clearLine (d : Dev) (k : Fin 64) (n : Nat) : Dev :=
  d.modDest k fun x => { x with delay := n, newDelay := none, line := List.replicate n 0 }

/-- The mute ramp before a delay change has ended: the new line is cleared, and the ramp up starts (R276).
(DEDUCED, log 103) -/
def delayRampEnd (d : Dev) (k : Fin 64) : Dev :=
  match d.route.dests[k].newDelay with
  | none => d
  | some n => if d.route.dests[k].muteStep ≠ 0 then d else d.clearLine k n

/-- A Mortar word met a double-bit error (R36): a sample of the line or of the region that holds its granule plays
as zero. Which of them is a free value. (DESIGN CHOICE, log 27) -/
def mortarSpoil (d : Dev) (word : Nat) : Dev :=
  match d.streams.mortar.find? fun a => a.first ≤ word / 128 && word / 128 < a.first + a.count with
  | none => d
  | some a =>
    let (i, d) := d.fresh
    let at' := Config.spoiledSample i
    match a.owner with
    | .listener j => d.modListener j fun l =>
      let n := l.filled.length
      { l with filled := l.filled.modify (at' % n) fun p =>
          { p with words := p.words.set (at' / n % p.words.length) 0 } }
    | .delay k => d.modDest k fun x => { x with line := x.line.set (at' % x.line.length) 0 }

/-- The longest delay at the system rate (Table 1.4). -/
def maxDelay (d : Dev) : Nat := 960 * rateUnits d.ks.rate

/-! ### Bindings and commands (R278, R279, R284–R286, Table 10.12) -/

/-- A slot named in a payload word: port 1:0, line 4, slot 11:8. -/
def slotRef (w : Word) : SlotRef :=
  ⟨⟨fld w 1 0 % 4, Nat.mod_lt _ (by decide)⟩, ⟨fld w 4 4 % 2, Nat.mod_lt _ (by decide)⟩,
   ⟨fld w 11 8 % 16, Nat.mod_lt _ (by decide)⟩⟩

/-- A slot enabled in a port's staged configuration. -/
def slotStaged (d : Dev) (s : SlotRef) (out : Bool) : Bool :=
  let c := d.tdm[s.port].staged
  slotOn c (if out then c.outEn else c.inEn) s.line s.slot

/-- Every slot of a port bound to a destination, a source or a speaker stays enabled (R278). -/
def slotsKept (d : Dev) (p : Fin 4) (c : TdmCfg) : Bool :=
  (d.route.dests.all fun x => match x.kind with
    | .slot s => s.port != p || slotOn c c.outEn s.line s.slot
    | _ => true) &&
  (d.route.sources.all fun x => match x with
    | .slot s => s.port != p || slotOn c c.inEn s.line s.slot
    | _ => true) &&
  (d.route.sense.all fun x => match x.bind with
    | some b => b.port != p || (slotOn c c.inEn b.line b.voltage && slotOn c c.inEn b.line b.current)
    | none => true)

/-- TDM_PORT_SET (R260, R278). -/
def cmdTdmSet : CmdFn := fun _ req d => withFin 4 (req.fld 8 1 0) 8 fun p =>
  let c : TdmCfg := {
    enable := req.bit 8 8, format := req.fld 8 17 16, width := req.fld 8 21 20, slots := req.fld 8 25 24,
    bclkInv := req.bit 8 28, fsyncInv := req.bit 8 29, sdiDelay := req.fld 0x14 5 0,
    outEn := req.word 0x0C, inEn := req.word 0x10 }
  if c.width = 3 then badParam 8
  else if c.format < 2 ∧ c.slots ≠ 0 then refusedState 23
  else if frameBits c * d.fs > 512 * (if rateIs441 d.ks.rate then 44100 else 48000) then refusedState 24
  else if ¬ d.slotsKept p c then refusedState 17
  else if d.tdmUnits p c true > 64 then .refuse .budget 1 []
  else if d.tdmUnits p c false > 64 then .refuse .budget 2 []
  else okayKey req (0x0700 + p.val) ((d.modTdm p fun t => { t with staged := c }).tdmCommit p)

/-- TDM_PORT_DISABLE: answered once STOPPED is set (R262, R284). (DEDUCED, log 100) -/
def cmdTdmDisable : CmdFn := fun src req d => withFin 4 (req.fld 8 1 0) 8 fun p =>
  let running := d.tdm[p].state != .off
  let d := (d.modTdm p fun t => { t with staged := { t.staged with enable := false } }).tdmCommit p
  if running then .later [] (d.modTdm p fun t => { t with replies := t.replies ++ [(src, req.tag)] }) else okay d

/-- TDMn_STATUS (Table 10.9). -/
def tdmStatus (d : Dev) (p : Fin 4) : Word :=
  let t := d.tdm[p]
  orW [at' 0 (tdmCode t.state), bitW 2 (t.staged != t.active), at' 4 (fbCode t.active), at' 16 t.frames]

/-- TDMn_ERR_COUNT. -/
def tdmErr (d : Dev) (p : Fin 4) : Word := at' 0 d.tdm[p].underruns ||| at' 16 d.tdm[p].overruns

/-- TDM_PORT_STATUS. -/
def cmdTdmStatus : CmdFn := fun _ req d => withFin 4 (req.fld 8 1 0) 8 fun p =>
  let c := d.tdm[p].active
  reply [c.ctrl, c.outEn, c.inEn, d.tdmStatus p, d.tdmErr p,
    bitsW 16 fun k => (d.route.sense[k]?).any (·.stale)] d

/-- Crosspoints of a bank on a source or a destination, those of the pilot among them (R270, R289). -/
def hasXp (d : Dev) (src : Option (Fin 64)) (dst : Option (Fin 64)) : Bool :=
  let hit (s e : Fin 64) : Bool := src == some s || dst == some e
  (src.any fun k => d.route.sources[k] == .pilot && d.pilotCount != 0) || dst.any d.pilotOn ||
  d.route.staged.any (fun x => hit x.src x.dst) ||
  d.route.active.any (fun x => x.gain != 0 && hit x.src x.dst) ||
  d.route.commit.any fun c => c.1.any fun x => hit x.src x.dst

/-- A source binding as one word of the journal (R286). -/
def sourceWord : SourceKind → Word
  | .unbound => 0
  | .listener i c => orW [at' 0 1, at' 8 i.val, at' 16 c.val]
  | .group g c => orW [at' 0 2, at' 8 g.val, at' 16 c.val]
  | .slot s => orW [at' 0 3, at' 8 s.port.val, at' 12 s.line.val, at' 16 s.slot.val]
  | .tone t => orW [at' 0 4, at' 8 t.val]
  | .pilot => at' 0 5

/-- A whole number reduced to a range of indices. -/
def finMod (n v : Nat) (h : 0 < n) : Fin n := ⟨v % n, Nat.mod_lt _ h⟩

/-- The binding a word of the journal holds. -/
def wordSource (w : Word) : SourceKind :=
  let a := fld w 11 8
  let c : Fin 16 := finMod 16 (fld w 19 16) (by decide)
  match fld w 7 0 with
  | 1 => .listener (finMod 16 a (by decide)) c
  | 2 => .group (finMod 8 a (by decide)) c
  | 3 => .slot ⟨finMod 4 a (by decide), finMod 2 (fld w 12 12) (by decide), c⟩
  | 4 => .tone (finMod 2 a (by decide))
  | 5 => .pilot
  | _ => .unbound

/-- The source kind a ROUTE_SOURCE_BIND names, `none` for a kind not listed. -/
def reqSource (req : Request) : Option SourceKind :=
  let w := req.word 0x0C
  let c : Fin 16 := finMod 16 (fld w 19 16) (by decide)
  match req.fld 8 10 8 with
  | 0 => some .unbound
  | 1 => some (.listener (finMod 16 (fld w 3 0) (by decide)) c)
  | 2 => some (.group (finMod 8 (fld w 2 0) (by decide)) c)
  | 3 => some (.slot (slotRef w))
  | 4 => some (.tone (finMod 2 (fld w 0 0) (by decide)))
  | 5 => some .pilot
  | _ => none

/-- ROUTE_SOURCE_BIND (R266, R279). -/
def cmdSourceBind : CmdFn := fun _ req d => withFin 64 (req.fld 8 5 0) 8 fun k =>
  match reqSource req with
  | none => badParam 8
  | some s =>
    let grouped := match s with
      | .listener i _ => d.streams.listeners[i].group.isSome
      | _ => false
    let off := match s with
      | .slot x => !d.slotStaged x false
      | _ => false
    let second := s == .pilot && (allFin 64).any fun j => j != k && d.route.sources[j] == .pilot
    if d.route.sources[k] ≠ s ∧ d.hasXp (some k) none then refusedState 17
    else if grouped then refusedState 7
    else if off then refusedState 21
    else if second then refusedState 26
    else if s = .pilot ∧ ¬ (d.modRoute fun r => { r with sources := r.sources.set k s }).pilotFits then
      .refuse .budget 8 []
    else
      let d := d.modRoute fun r => { r with sources := r.sources.set k s }
      let h := k.val / 32
      let words := ((d.route.sources.toList.drop (32 * h)).take 32).map sourceWord
      .done false 0 [] (if req.persist then [⟨0x0724 + h, some words⟩] else []) d

/-- The journal item of a destination: the binding's words and the gain (R286). -/
def destItem (req : Request) (k : Fin 64) (d : Dev) : List JItem :=
  let x := d.route.dests[k]
  if req.persist then [⟨0x0740 + k.val, some (x.words ++ [i32 x.gainTo])⟩] else []

/-- ROUTE_DEST_BIND (R266, R271, R276, R279). (DEDUCED, log 102, 104, 105) -/
def cmdDestBind : CmdFn := fun _ req d => withFin 64 (req.fld 8 5 0) 8 fun k =>
  let w := req.word 0x0C
  let kind? : Option DestKind := match req.fld 8 10 8 with
    | 0 => some .unbound
    | 1 => some (.slot (slotRef w))
    | 2 => some (.talker (finMod 8 (fld w 2 0) (by decide)) (finMod 16 (fld w 19 16) (by decide)))
    | _ => none
  let amp? : Option (Fin 4) := if h : req.fld 8 14 12 < 4 then some ⟨_, h⟩ else none
  let x := d.route.dests[k]
  match kind? with
  | none => badParam 8
  | some kind =>
    let off := match kind with
      | .slot s => !d.slotStaged s true
      | _ => false
    let taken := match kind with
      | .slot s => (allFin 64).any fun j => j != k && d.route.dests[j].kind == DestKind.slot s
      | _ => false
    let delay := if kind = DestKind.unbound then 0 else req.fld 0x10 11 0
    let ramp := clampN 16 1024 (req.fld 0x10 26 16)
    if off then refusedState 21
    else if taken then refusedState 18
    else if x.kind ≠ kind ∧ d.hasXp none (some k) then refusedState 17
    else if delay > d.maxDelay then .refuse .budget 9 []
    else
      -- A bound destination ramps to zero before its line is changed; an unbound one plays nothing.
      let bound := x.kind ≠ DestKind.unbound
      let wait := bound ∧ kind ≠ DestKind.unbound
      match if delay = x.newDelay.getD x.delay then some d else d.placeDelay k delay with
      | none => .refuse .noSpace (min 255 (freeRun (d.release (.delay k)).streams true)) []
      | some d =>
        let d := if ¬ wait then d.clearLine k delay
          else if delay = x.newDelay.getD x.delay then d
          else d.modDest k fun x => { x with newDelay := some delay }
        let d := d.modDest k fun x =>
          let y : Dest := { x with
            kind := kind, words := req.payload.take 4, amp := amp?, rampLen := ramp,
            thresh := req.fld 0x14 6 0, attack := clampN 1 255 (req.fld 0x14 15 8),
            release := clampN 1 255 (req.fld 0x14 23 16) }
          if bound then y
          else { y with
            muteLen := ramp, muteStep := if d.destMuted y then 0 else ramp,
            gainFrom := x.gainTo, gainLen := ramp, gainDone := ramp, limiter := 2 ^ 30 }
        .done false 0 [] (destItem req k d) d

/-- A crosspoint set in a bank: a gain of zero is no crosspoint (R268). -/
def setXp (l : List Xp) (x : Xp) : List Xp :=
  let l := l.filter fun y => !(y.src == x.src && y.dst == x.dst)
  if x.gain = 0 then l else l ++ [x]

/-- ROUTE_XP_SET (R269, R270, R279). (DEDUCED, log 104) -/
def cmdXpSet : CmdFn := fun _ req d =>
  let k := (req.word 8).toNat
  let entries := (List.range k).map fun i =>
    let w := req.word (0x0C + 8 * i)
    let g := req.word (0x10 + 8 * i)
    (⟨finMod 64 (fld w 5 0) (by decide), finMod 64 (fld w 13 8) (by decide), fldS g 23 0⟩ : Xp)
  if k = 0 ∨ 29 < k then badParam 8
  else if entries.any fun x => d.route.sources[x.src] == .pilot then refusedState 20
  else
    let bank := entries.foldl setXp d.route.staged
    if bank.length + d.pilotCount > 256 then .refuse .budget 8 []
    else okay (d.modRoute fun r => { r with staged := bank })

/-- The crosspoints of one destination from one half of the sources, as journal words. -/
def xpWords (bank : List Xp) (key : Nat) : List Word :=
  (bank.filter fun x => x.dst.val == key / 2 && x.src.val / 32 == key % 2).map fun x =>
    at' 24 (x.src.val % 32) ||| atS 23 0 x.gain

/-- The journal items of a commit: the halves whose persisted value differs (R286). -/
def commitItems (d : Dev) (bank : List Xp) : List JItem :=
  (List.range 128).filterMap fun k =>
    let v := xpWords bank k
    let new := if v.isEmpty then none else some v
    if d.journal.value (0x0780 + k) = new then none else some ⟨0x0780 + k, new⟩

/-- ROUTE_COMMIT: the swap, its event and its answer come at the sample boundary (R269, R284). (DEDUCED, log 104) -/
def cmdCommit : CmdFn := fun src req d =>
  let ramp := clampN 0 1024 (req.fld 8 10 0)
  .later (if req.persist then d.commitItems d.route.staged else []) (d.modRoute fun r => { r with
    commit := some (r.staged, ramp), replies := r.replies ++ [(src, req.tag)] })

/-- A destination gain begins to ramp over RAMP_LEN from where it stands to a new value (R273). -/
def destGain (d : Dev) (k : Fin 64) (gain : Int) : Dev :=
  d.modDest k fun x => { x with
    gainFrom := narrow (x.gainFrom * ((x.gainLen : Int) - x.gainDone) + x.gainTo * x.gainDone) x.gainLen,
    gainTo := gain, gainLen := x.rampLen, gainDone := 0 }

/-- ROUTE_DEST_GAIN: reached over RAMP_LEN samples (R273, R285). -/
def cmdDestGain : CmdFn := fun _ req d => withFin 64 (req.fld 8 5 0) 8 fun k =>
  let d := d.destGain k (fldS (req.word 0x0C) 23 0)
  .done false 0 [] (destItem req k d) d

/-- Set or clear the commanded mute of the destinations of a mask (R274). -/
def routeMute (d : Dev) (lo hi : Word) (mute : Bool) : Dev :=
  d.modRoute fun r => { r with dests := Vector.ofFn fun k : Fin 64 =>
    let on := if k.val < 32 then lo.getLsbD k.val else hi.getLsbD (k.val - 32)
    if on then { r.dests[k] with muted := mute, held := r.dests[k].held && mute } else r.dests[k] }

/-- ROUTE_MUTE (R274, R285). -/
def cmdMute : CmdFn := fun _ req d => okay (d.routeMute (req.word 8) (req.word 0x0C) (req.bit 0x10 0))

/-- ROUTE_TONE_SET (R277). -/
def cmdToneSet : CmdFn := fun _ req d => withFin 2 (req.fld 8 0 0) 8 fun k =>
  let level := if req.fld 8 15 8 = 255 then 255 else min 240 (req.fld 8 15 8)
  okayKey req (0x0721 + k.val) (d.modRoute fun r => { r with tones := upd r.tones k fun t => { t with
    levelFrom := Tone.amp t, level := level, levelDone := 0,
    newFreq := clampN 100 (45 * d.fs / 10) (req.fld 0x0C 19 0) } })

/-- ROUTE_PARTITION (R275). -/
def cmdPartition : CmdFn := fun _ req d =>
  let p := clampN 0 256 (req.fld 8 8 0)
  if d.streams.mortar.any fun a => match a.owner with
    | .listener _ => 256 - p < a.first + a.count
    | .delay _ => false then refusedState 19
  else okayKey req 0x0720 (d.modStreams fun s => { s with partition := p })

/-- ROUTE_SENSE_BIND (R263, R264, R279). -/
def cmdSenseBind : CmdFn := fun _ req d => withFin 16 (req.fld 8 3 0) 8 fun k =>
  let w := req.word 0x0C
  let v := slotRef w
  let b : SenseBind := ⟨v.port, v.line, v.slot, finMod 16 (fld w 19 16) (by decide), req.bit 8 9⟩
  let set (s : Option SenseBind) : Dev := d.modSense k fun _ => { resetSense with bind := s }
  if ¬ req.bit 8 8 then okayKey req (0x0710 + k.val) (set none)
  else if b.voltage = b.current then refusedState 22
  else if ¬ d.slotStaged v false ∨ ¬ d.slotStaged { v with slot := b.current } false then refusedState 21
  else if b.tagged ∧ d.tdm[b.port].staged.width ≠ 2 then refusedState 25
  else okayKey req (0x0710 + k.val) (set (some b))

/-- The limiter's gain reduction in 0.1 dB, of a gain in 2^-30: the largest number of steps whose gain is not below
it, or where the gain lies between two steps the next one. (DESIGN CHOICE, log 15) -/
def reduction (gain : Int) : Nat :=
  let g := gain.toNat ^ 200
  let k := ((List.range 2048).find? fun k => 2 ^ 6000 < 10 ^ (k + 1) * g).getD 2048
  if 10 ^ k * g = 2 ^ 6000 then k else k + (if Config.roundUp gain (2 ^ 30) then 1 else 0)

/-- ROUTE_STATUS. -/
def cmdRouteStatus : CmdFn := fun _ req d => withFin 64 (req.fld 8 5 0) 8 fun k =>
  let x := d.route.dests[k]
  let kind := match x.kind with | .unbound => 0 | .slot _ => 1 | .talker _ _ => 2
  let fault := x.amp.any fun a => d.meas.amps[a].demand
  let pilot := if d.meas.config.pilotEn ∧ d.pilotBound then
    (d.meas.speakers.toList.filter fun s => s.setup.enable && s.setup.dest == k).length else 0
  let (g, n) := d.regionOf (.delay k)
  let red := reduction x.limiter
  reply [orW [at' 0 kind, at' 4 (x.amp.elim 7 Fin.val), bitW 8 x.muted, bitW 9 (d.destMuted x),
      bitW 10 d.sup.supplyMute, bitW 11 fault,
      bitW 12 (x.muteStep != (if d.destMuted x || x.newDelay.isSome then 0 else x.muteLen))],
    atS 23 0 x.gainTo, at' 0 (red % 65536) ||| at' 16 (x.foldback / 1000000), w32 x.clip,
    at' 0 g ||| at' 8 n,
    at' 0 ((d.route.active.filter fun y => y.dst == k && y.gain != 0).length + pilot) |||
      at' 8 ((d.route.staged.filter fun y => y.dst == k).length + pilot)] d

/-- The computed part of a TDM register, by its offset in the port block (R283). -/
def tdmRead (d : Dev) (p : Fin 4) (off : Nat) : Word :=
  let t := d.tdm[p]
  if off = 0x00 then t.staged.ctrl
  else if off = 0x04 then t.staged.outEn
  else if off = 0x08 then t.staged.inEn
  else if off = 0x0C then bitW 1 t.pending
  else if off = 0x10 then d.tdmStatus p
  else if off = 0x14 then d.tdmErr p
  else 0

/-- The TDM source of Table 4.9. -/
def tdmIrq (d : Dev) : Bool :=
  (allFin 4).any fun p => (d.reg (tdmReg p Reg.TDM0_IRQ_STATUS) &&& d.reg (tdmReg p Reg.TDM0_IRQ_ENABLE)) != 0

end Dev
end Sys2Proof.Machine
end

