-- ==== Sys2Proof/Machine/Arb.lean ====
section
/-! DEFINITION.
The arbiter of the audio RAM, the SECDED events, and the host debug port (R18–R25, R36, R113,
R122, R123, R125). -/

namespace Sys2Proof.Machine

/-- The longest burst of a requester (Table 1.3, R23). -/
def maxBurst (n : Fin 8) : Nat := [16, 16, 16, 16, 8, 4, 16, 1].getD n.val 16

/-- The TDM engine's requester number (Table 1.3). -/
def tdmRequester : Fin 8 := 4

namespace Dev

/-- Change the arbiter. -/
def modArb (d : Dev) (f : Arbiter → Arbiter) : Dev := { d with arb := f d.arb }

/-- A requester asks for a burst, `ago` cc before this one, if it does not wait already. -/
def arbRequest (d : Dev) (n : Fin 8) (beats ago : Nat) : Dev :=
  d.modArb fun a => { a with waiting := upd a.waiting n fun w =>
    if w.isSome then w else some ⟨max 1 (min beats (maxBurst n)), ago, ago ≥ 4096⟩ }

/-- The priority of a requester: ARB_PRIO.REQn, 0 highest (R20). -/
def arbPrio (d : Dev) (n : Fin 8) : Nat := d.rfld Reg.ARB_PRIO (4 * n.val + 2) (4 * n.val)

/-- The requesters among a list that have the highest priority of the list. -/
def arbHighest (d : Dev) (l : List (Fin 8)) : List (Fin 8) :=
  let p := (l.map d.arbPrio).foldl min 8
  l.filter fun n => d.arbPrio n == p

/-- The first of a list in round-robin order from the pointer of their level (R21). -/
def arbRobin (d : Dev) (l : List (Fin 8)) : Option (Fin 8) :=
  match d.arbHighest l with
  | [] => none
  | n :: t =>
    let from' := d.arb.pointer[d.arbPrio n % 8]'(Nat.mod_lt _ (by decide))
    ((allFin 8).map (from' + ·)).find? (n :: t).contains

/-- The requesters that wait, and those of them that are aged (R25). -/
def arbWaiting (d : Dev) : List (Fin 8) := (allFin 8).filter fun n => d.arb.waiting[n].isSome

/-- The requesters that are aged (R25). -/
def arbAged (d : Dev) : List (Fin 8) :=
  (allFin 8).filter fun n => d.arb.waiting[n].elim false Waiting.aged

/-- The decision of one cc: the deadline, then the aged, then ARB_PRIO; the code tells which won
(R21, R24, R25). -/
def arbPick (d : Dev) : Option (Fin 8 × Nat) :=
  if d.arb.deadline && d.arb.waiting[tdmRequester].isSome then some (tdmRequester, 0)
  else
    match d.arbRobin d.arbAged with
    | some n => some (n, 1)
    | none => (d.arbRobin d.arbWaiting).map fun n => (n, 2)

/-- ARB_WAIT_MAX of a requester takes a wait if it is longer, saturating (Table 4.24). -/
def waitMax (d : Dev) (n : Fin 8) (wait : Nat) : Dev :=
  let a := Reg.ARB_WAIT_MAX_A + 4 * (n.val / 2)
  let lo := 16 * (n.val % 2)
  d.setRfld a (lo + 15) lo (max (d.rfld a (lo + 15) lo) (min wait 0xFFFF))

/-- A waiting requester has waited some cc more; at 4096 it is aged (R25). -/
def Waiting.age (w : Waiting) (n : Nat) : Waiting :=
  { w with waited := w.waited + n, aged := w.aged || w.waited + n ≥ 4096 }

/-- Time passes for everyone who waits (R25). -/
def arbElapse (d : Dev) (n : Nat) : Dev :=
  d.modArb fun a => { a with waiting := a.waiting.map (Option.map (Waiting.age · n)) }

/-- The burst of the decision is granted: its first beat occupies the next cc (R21, R23). -/
def arbGrantTo (d : Dev) (n : Fin 8) (won : Nat) : Dev :=
  match d.arb.waiting[n] with
  | none => d
  | some w =>
    let level : Fin 8 := ⟨d.arbPrio n % 8, Nat.mod_lt _ (by decide)⟩
    let d := d.waitMax n (w.waited + 1)
    let d := if won = 0 then d.setReg Reg.ARB_DEADLINE_COUNT (d.reg Reg.ARB_DEADLINE_COUNT + 1)
      else if won = 1 then d.setReg Reg.ARB_AGED_COUNT (d.reg Reg.ARB_AGED_COUNT + 1) else d
    d.modArb fun a => { a with
      waiting := a.waiting.set n none, burst := some (n, w.beats), pointer := a.pointer.set level (n + 1) }

/-! ### SECDED events (R36, R122) -/

/-- A counter field of SYS_ECC, saturating. -/
def eccCount (d : Dev) (hi lo top : Nat) : Dev :=
  d.setRfld Reg.SYS_ECC hi lo (satInc top (d.rfld Reg.SYS_ECC hi lo))

/-- SYS_ECC_LAST takes an event. -/
def eccLast (d : Dev) (word : U16) (kind : Nat) : Dev :=
  d.setReg Reg.SYS_ECC_LAST (word.setWidth 32 ||| at' 16 kind)

/-- A word is written: its check bits are those of the new value, so that it holds no error (R113). -/
def ramWritten (d : Dev) (word : U16) : Dev :=
  d.modArb fun a => { a with faulty := a.faulty.filter (· != word) }

/-- Hearth sees the interrupt of a single-bit error (R122): a word reported in two successive interrupts
is rewritten with its corrected value. Every report is taken as an interrupt. (DEDUCED, log 136) -/
def eccScrub (d : Dev) (word : U16) : Dev :=
  if d.arb.scrub = some word then (d.ramWritten word).modArb fun a => { a with scrub := none }
  else d.modArb fun a => { a with
    scrub := some word, faulty := if a.faulty.contains word then a.faulty else word :: a.faulty }

/-- One SECDED event (R36, Table 1.2): a single-bit error is corrected and counted; a double-bit error is
told by the region of its word, and zeroes the sample that stands there, discards the frame of the cell,
or is a device fault. (PRESUMED, log 28) -/
def eccEvent (d : Dev) : EccEvent → Dev
  | .single w => ((d.eccCount 15 0 0xFFFF).raiseBit Reg.SYS_IRQ_STATUS 18).eccScrub w
  | .double w =>
    if w.toNat < 32768 then ((d.eccCount 23 16 0xFF).raiseBit Reg.SYS_IRQ_STATUS 19).mortarSpoil w.toNat
    else if w.toNat < 61440 then
      ((d.eccCount 31 24 0xFF).raiseBit Reg.SYS_IRQ_STATUS 19).cellSpoil ((w.toNat - 32768) / 32)
    else d.deviceFault w

/-- The word of an event. -/
def eccWord : EccEvent → U16
  | .single w | .double w => w

/-- KIND of an event, `none` for one that SYS_ECC_LAST does not record (Table 4.18). -/
def eccKind : EccEvent → Option Nat
  | .single _ => some 1
  | .double w => if w.toNat < 32768 then some 2 else if w.toNat < 61440 then some 3 else none

/-- SYS_ECC_LAST after the events of one cc: it records the one at the lowest word index (Table 4.11). -/
def eccRecord (d : Dev) (l : List EccEvent) : Dev :=
  match l.filter fun e => (eccKind e).isSome with
  | [] => d
  | e :: t =>
    let first := t.foldl (fun m x => if (eccWord x).toNat < (eccWord m).toNat then x else m) e
    d.eccLast (eccWord first) ((eccKind first).getD 0)

/-- The events of one cc (R122, Table 4.11): all are counted; a device fault ends them, the endpoint being
in reset. -/
def eccCycle (d : Dev) (l : List EccEvent) : Dev :=
  l.foldl (fun (d : Dev) e => if d.power.state = .off then d else d.eccEvent e)
    (if d.power.state = .off then d else d.eccRecord l)

/-- The events of a burst, cc by cc. -/
def eccEvents (d : Dev) (l : List (List EccEvent)) : Dev := l.foldl eccCycle d

/-- The decision of one cc in which no burst runs on (R21). -/
def arbDecide (d : Dev) : Dev :=
  match d.arbPick with
  | some (n, won) => d.arbGrantTo n won
  | none => d

/-- The cc from the last decision to this one: the beats of the burst that runs to its last beat, or the
next cc where none runs (R21, R23). -/
def arbSpan (d : Dev) : Nat := d.arb.burst.elim 1 fun b => max 1 b.2

/-- The decision that ARB_GRANT is: the burst in progress reaches its last beat, the bursts requested
meanwhile and the TDM deadline flag are seen, and the next burst is chosen (R21–R25). A request was made
after the last decision. (DEDUCED, log 26) -/
def arbChoose (d : Dev) (i : ArbInput) : Dev :=
  let span := d.arbSpan
  let d := d.arbElapse span
  let d := i.requests.foldl (fun (d : Dev) r => d.arbRequest r.requester r.beats (min r.ago (span - 1))) d
  (d.modArb fun a => { a with deadline := i.tdmFill < 64, burst := none }).arbDecide

/-- The words that the beats of the burst just granted write, at most one a beat (R19, R23); the beat of
the debug port is told by DBG_BEAT_DONE. (DESIGN CHOICE, log 8) -/
def grantWrites (d : Dev) (i : ArbInput) : List (U16 × U64) :=
  match d.arb.burst with
  | some (n, beats) => if n = 7 then [] else i.writes.take beats
  | none => []

/-- One grant (R21–R25) and what the beats of the granted burst write and meet. The arbiter has no clock
in OFF and QUIET (R77). -/
def arbGrant (d : Dev) (i : ArbInput) : Dev :=
  if d.power.state = .off ∨ d.power.state = .quiet then d
  else
    let d := d.arbChoose i
    ((d.grantWrites i).foldl (fun (d : Dev) w => d.ramWritten w.1) d).eccEvents i.ecc

/-- The audio RAM after the beats of the burst that ARB_GRANT grants (R19). -/
def arbBeats (d : Dev) (i : ArbInput) (ram : List Host.Cell) : List Host.Cell :=
  if d.power.state = .off ∨ d.power.state = .quiet then ram
  else ((d.arbChoose i).grantWrites i).foldl (fun m w => writeWord64 m w.1 w.2) ram

/-- A requester has waited 4096 cc (R25). -/
def requestAged (d : Dev) (n : Fin 8) : Dev :=
  d.modArb fun a => { a with waiting := upd a.waiting n (Option.map fun w =>
    { w with waited := max 4096 w.waited, aged := true }) }

/-- One cc of the arbiter: a cc of every wait; a beat of the burst in progress, or, in its last beat and
where none runs, a decision (R21). -/
def arbTick (d : Dev) : Dev :=
  let d := d.arbElapse 1
  match d.arb.burst with
  | some (n, b + 2) => d.modArb fun a => { a with burst := some (n, b + 1) }
  | _ => (d.modArb fun a => { a with burst := none }).arbDecide

/-- A write of 1 to ARB_CTRL.STATS_CLEAR (Table 4.25). -/
def statsClear (d : Dev) : Dev :=
  [Reg.ARB_WAIT_MAX_A, Reg.ARB_WAIT_MAX_B, Reg.ARB_WAIT_MAX_C, Reg.ARB_WAIT_MAX_D, Reg.ARB_DEADLINE_COUNT,
    Reg.ARB_AGED_COUNT].foldl (fun (d : Dev) a => d.setReg a 0) d

/-- A write of 1 to SYS_ECC_LAST.CLEAR (Table 4.18). -/
def eccClear (d : Dev) : Dev := (d.setReg Reg.SYS_ECC 0).setReg Reg.SYS_ECC_LAST 0

/-- ARB_STATUS (Table 4.23). -/
def arbStatus (d : Dev) : Word :=
  orW [d.arb.burst.elim 0 fun b => at' 0 b.1.val, bitW 3 d.arb.burst.isSome, bitW 4 d.arb.deadline,
    (bitsW 8 fun n => d.arbAged.any (·.val == n)) <<< 8]

/-! ### The host debug port (R113) -/

/-- A write to a debug register while BUSY is ignored and sets COLLIDE. -/
def dbgCollide (d : Dev) : Dev := d.raiseBit Reg.SYS_DBG_STATUS 1

/-- SYS_DBG_ADDR is written: WORD and AUTO_INC, and with READ a beat is requested. -/
def dbgAddr (d : Dev) (word : U16) (autoInc read : Bool) : Dev :=
  if d.host.dbg.isSome then d.dbgCollide
  else
    let d := d.setReg Reg.SYS_DBG_ADDR (word.setWidth 32 ||| bitW 17 autoInc)
    if read then ({ d with host := { d.host with dbg := some (.read word) } } : Dev).arbRequest 7 1 0 else d

/-- SYS_DBG_DATA_LO is written: staged. -/
def dbgLo (d : Dev) (w : Word) : Dev :=
  if d.host.dbg.isSome then d.dbgCollide else d.setReg Reg.SYS_DBG_DATA_LO w

/-- SYS_DBG_DATA_HI is written: the commit of a write beat. -/
def dbgHi (d : Dev) (w : Word) : Dev :=
  if d.host.dbg.isSome then d.dbgCollide
  else
    let d := d.setReg Reg.SYS_DBG_DATA_HI w
    let data : U64 := w.setWidth 64 <<< 32 ||| (d.reg Reg.SYS_DBG_DATA_LO).setWidth 64
    let word := (d.reg Reg.SYS_DBG_ADDR).setWidth 16
    ({ d with host := { d.host with dbg := some (.write word data) } } : Dev).arbRequest 7 1 0

/-- The debug beat completes on the audio RAM: BUSY clears and, with AUTO_INC, WORD increases,
wrapping. (DESIGN CHOICE, log 8) -/
def dbgDone (d : Dev) (ram : List Host.Cell) : Dev × List Host.Cell :=
  let finish (d : Dev) : Dev :=
    let w := d.reg Reg.SYS_DBG_ADDR
    let d := if w.getLsbD 17 then d.setReg Reg.SYS_DBG_ADDR ((w.setWidth 16 + 1).setWidth 32 ||| bitW 17 true) else d
    { d with host := { d.host with dbg := none }, arb := { d.arb with waiting := d.arb.waiting.set 7 none } }
  if d.power.state = .off ∨ d.power.state = .quiet then (d, ram)
  else match d.host.dbg with
  | none => (d, ram)
  | some (.read word) =>
    let v := readWord64 ram word
    (finish ((d.setReg Reg.SYS_DBG_DATA_LO (v.setWidth 32)).setReg Reg.SYS_DBG_DATA_HI ((v >>> 32).setWidth 32)), ram)
  | some (.write word data) => (finish (d.ramWritten word), writeWord64 ram word data)

end Dev
end Sys2Proof.Machine
end

