-- ==== Sys2Proof/Machine/KsCmd.lean ====
section
/-! DEFINITION.
The clock commands (R181, Tables 6.10 and 6.11). -/

namespace Sys2Proof.Machine

/-- The high 16 bits of a 48-bit two's complement value. -/
def hi48 (v : Int) : Word := at' 0 (v / 2 ^ 32 % 2 ^ 16).toNat

/-- KS_STATUS. -/
def cmdKsStatus : CmdFn := fun _ _ d =>
  let k := d.ks
  let r (a : Nat) : Word := d.clkRead d.namedEntry a
  reply [r Reg.CLK_STATUS, r Reg.CLK_FREQ_NOW, r Reg.CLK_HOLD_FREQ, r Reg.CLK_PHASE_ERR, i32 k.remain, hi48 k.remain,
    w32 (min k.msInState 0xFFFFFFFF), w32 k.switches] d

/-- KS_SET_RATE. (DEDUCED, log 72) -/
def cmdKsSetRate : CmdFn := fun _ req d =>
  if h : req.fld 8 2 0 < 6 then
    if d.anyStreamStarted || d.anyTdmEnabled then refusedState 1
    else okayKey req 0x0301 (d.setRate ⟨req.fld 8 2 0, h⟩)
  else badParam 8

/-- The staged word of a reference entry from its two bytes, ENABLE of entry 7 being fixed. -/
def tableWord (req : Request) (n : Nat) : Word :=
  let b := (req.word (8 + 4 * (n / 2))) >>> (16 * (n % 2))
  orW [at' 0 (fld b 3 0), bitW 4 (b.getLsbD 4 && n != 7), at' 8 (fld b 15 8)]

/-- KS_SET_TABLE: the eight staged words and CLK_CTRL bits 0 and 2, then the commit. -/
def cmdKsSetTable : CmdFn := fun _ req d =>
  let d := (List.range 8).foldl
    (fun (d : Dev) n => d.setReg (Reg.CLK_REF_0 + 4 * n) (Dev.clkClamp (Reg.CLK_REF_0 + 4 * n) (tableWord req n))) d
  let d := (d.setRbit Reg.CLK_CTRL 0 (req.bit 0x18 0)).setRbit Reg.CLK_CTRL 2 (req.bit 0x18 2)
  okayKey req 0x0302 (d.clkWritten Reg.CLK_REF_COMMIT 1)

/-- KS_SET_LOOP: CLK_LOOP, CLK_SLOPE and CLK_HOLD. -/
def cmdKsSetLoop : CmdFn := fun _ req d =>
  let put (d : Dev) (a off : Nat) : Dev :=
    let w := req.word off &&& (regInfo a).elim 0 (·.rw)
    (d.setReg a (Dev.clkClamp a w)).clkWritten a w
  okayKey req 0x0303 (put (put (put d Reg.CLK_LOOP 8) Reg.CLK_SLOPE 0x0C) Reg.CLK_HOLD 0x10)

/-- KS_PHASE_STEP. (DEDUCED, log 70) -/
def cmdKsPhaseStep : CmdFn := fun _ req d =>
  let d := d.phaseStep (req.word 8).toInt
  reply [i32 d.ks.remain, hi48 d.ks.remain] d

/-- KS_STEER: CLK_DCO_ADJ before CLK_CTRL.STEER. (DEDUCED, log 71) -/
def cmdKsSteer : CmdFn := fun _ req d =>
  let d := (d.setReg Reg.CLK_DCO_ADJ (Dev.clkClamp Reg.CLK_DCO_ADJ (req.word 0x0C))).steerAdjust
  okay (d.setRbit Reg.CLK_CTRL 1 (req.bit 8 0))

end Sys2Proof.Machine
end

