-- ==== Sys2Proof/Machine/Meas.lean ====
section
/-! DEFINITION.
Speaker measurement, the DC-resistance test, thermal foldback, amplifier faults and mute lines, the
I2C scripts, the monitors and the DTCs (chapter 11). -/

namespace Sys2Proof.Machine
namespace Dev

/-- Change measurement and amplifiers. -/
def modMeas (d : Dev) (f : Meas → Meas) : Dev := { d with meas := f d.meas }
/-- Change one speaker. -/
def modSpeaker (d : Dev) (k : Fin 16) (f : Speaker → Speaker) : Dev :=
  d.modMeas fun m => { m with speakers := upd m.speakers k f }
/-- Change one amplifier. -/
def modAmp (d : Dev) (k : Fin 4) (f : Amp → Amp) : Dev :=
  d.modMeas fun m => { m with amps := upd m.amps k f }
/-- Change one I2C bus. -/
def modBus (d : Dev) (b : Fin 2) (f : Bus → Bus) : Dev :=
  d.modMeas fun m => { m with buses := upd m.buses b f }

/-! ### DTCs (R308–R310) -/

/-- The DTCs of the endpoint (Table 11.8), in ascending order. -/
def dtcCodes : List Nat :=
  ((List.range 16).flatMap fun k => [1, 2, 3, 4, 5, 6, 0x11, 0x12, 0x15].map fun n => 0xC10000 + 256 * k + n) ++
  ((List.range 4).flatMap fun k => [1, 2, 3, 4].map fun n => 0xC20000 + 256 * k + n) ++
  [1, 2, 3, 4, 5].map fun n => 0xC30000 + n

/-- A DTC as it stands when nothing has been tested: both testNotCompleted bits set (R309). -/
def freshDtc (code : Nat) : Dtc := ⟨code, 0x50, 0, 0, 0, 0, 0, 0, 0⟩

/-- The status in RAM of a DTC. -/
def dtcOf (d : Dev) (code : Nat) : Dtc := (d.meas.dtcs.find? (·.code == code)).getD (freshDtc code)

/-- Keep a DTC's status in RAM, in ascending order of code. -/
def putDtc (l : List Dtc) (x : Dtc) : List Dtc :=
  l.filter (·.code < x.code) ++ x :: l.filter fun y => x.code < y.code

/-- testFailed of a DTC. -/
def dtcFailed (d : Dev) (code : Nat) : Bool := (d.dtcOf code).status.getLsbD 0

/-- Event MEAS_DTC (Table 11.13). -/
def dtcEvent (d : Dev) (x : Dtc) : Dev :=
  d.push 0x0801 (orW [at' 0 x.code, bitW 24 (x.status.getLsbD 0), bitW 25 (x.status.getLsbD 3)])

/-- A change waits to be programmed, merged per DTC (R310). -/
def dtcUnsaved (d : Dev) (code : Nat) : Dev :=
  d.modMeas fun m => { m with unsaved := if m.unsaved.contains code then m.unsaved else m.unsaved ++ [code] }

/-- The higher die temperature, in 0.25 °C. -/
def dieTemp (d : Dev) : Int := max d.sup.dieA d.sup.dieB

/-- A DTC is qualified (R309). One that already has testFailed set is not qualified again. (DEDUCED, log 107) -/
def qualify (d : Dev) (code : Nat) (value : Int) : Dev :=
  let x := d.dtcOf code
  if x.status.getLsbD 0 then d
  else
    let x : Dtc := { x with
      status := (x.status &&& 0x80) ||| 0x2F, occurrences := min 0xFFFF (x.occurrences + 1), aging := 0,
      first := if x.occurrences = 0 then d.meas.cycle else x.first, last := d.meas.cycle,
      value := value, vbat := d.rfld Reg.PWR_VBAT 15 0, die := narrow d.dieTemp 2 }
    ((d.modMeas fun m => { m with dtcs := putDtc m.dtcs x }).dtcUnsaved code).dtcEvent x

/-- A test completed without qualifying: the two testNotCompleted bits are cleared (R309). (DEDUCED, log 107) -/
def testDone (d : Dev) (code : Nat) : Dev :=
  let x := d.dtcOf code
  if x.status &&& 0x50 = 0 then d
  else d.modMeas fun m => { m with dtcs := putDtc m.dtcs { x with status := x.status &&& 0xAF } }

/-- A test is cleared by its passes: testFailed ends, and the two testNotCompleted bits are cleared (R294,
R309). -/
def testPassed (d : Dev) (code : Nat) : Dev :=
  let x := d.dtcOf code
  let y : Dtc := { x with status := x.status &&& 0xAE }
  if y.status = x.status then d
  else
    let d := d.modMeas fun m => { m with dtcs := putDtc m.dtcs y }
    if x.status.getLsbD 0 then d.dtcEvent y else d

/-- A DTC that follows a condition: qualified while it holds, cleared when it ends. -/
def dtcFollow (d : Dev) (code : Nat) (failed : Bool) (value : Int) : Dev :=
  if failed then d.qualify code value else d.testPassed code

/-- A record taken into the store (R310): one of the same DTC is replaced, a DTC that was
cleared loses its record, and a full store gives up a record. -/
def storeRecord (store : List Dtc) (code : Nat) (x : Option Dtc) : List Dtc :=
  match x with
  | none => store.filter (·.code != code)
  | some x =>
    if store.any (·.code == code) then store.map fun y => if y.code = code then x else y
    else if store.length < 48 then store ++ [x]
    else
      let idle := store.filter fun y => !y.status.getLsbD 3
      let oldest := idle.foldl (fun (b : Option Dtc) y => match b with
        | none => some y
        | some z => if y.last < z.last then some y else b) none
      let victim := (oldest.orElse fun _ => store.head?).map (·.code)
      store.filter (fun y => some y.code != victim) ++ [x]

/-- The records a bank of the store holds (R86, R310). -/
def bankDtcs (b : DtcBank) : List Dtc := b.records.foldl (fun l r => storeRecord l r.1 r.2) []

/-- The live bank of the store. -/
def liveDtcs (s : DtcStore) : DtcBank := if s.liveB then s.bankB else s.bankA

/-- The records of the store: none while neither bank has a valid header (R92, R312). -/
def storeDtcs (s : DtcStore) : List Dtc := if (liveDtcs s).header then bankDtcs (liveDtcs s) else []

/-- The words of a stored record (MEAS_DTC_READ). -/
def dtcWords (x : Dtc) : List Word :=
  [at' 0 x.code ||| at' 24 x.status.toNat, at' 0 x.occurrences ||| at' 16 x.aging, at' 0 (x.first % 65536),
   at' 0 (x.last % 65536), i32 x.value, at' 0 x.vbat ||| atS 31 16 x.die]

/-- The bytes a record takes in a bank of 16 KB (R310). (DESIGN CHOICE, log 23) -/
def dtcBytes (r : Nat × Option Dtc) : Nat := Config.recordBytes (r.2.elim [] dtcWords)

/-- A record programmed into the live bank: bank A with generation 1 where no bank is valid, and where the live
bank cannot take it into the other one, erased and written with the records held, which its header then makes
live with generation + 1 (R87, R92, R310). (DEDUCED, log 33) -/
def storeProgram (s : DtcStore) (r : Nat × Option Dtc) : DtcStore :=
  let b := liveDtcs s
  let add (b : DtcBank) : DtcBank := { b with records := b.records ++ [r] }
  let put (s : DtcStore) (toB : Bool) (b : DtcBank) : DtcStore :=
    if toB then { s with bankB := b, liveB := true } else { s with bankA := b, liveB := false }
  if ¬ b.header then put s false ⟨true, 1, [r]⟩
  else if b.records ≠ [] ∧ 16384 < Config.bankHeaderBytes + (b.records.map dtcBytes).sum + dtcBytes r then
    put s (!s.liveB) (add ⟨true, b.gen + 1, (bankDtcs b).map fun x => (x.code, some x)⟩)
  else put s s.liveB (add b)

/-- Clear a DTC: its status and its record are as if nothing had been tested (R309, R310). -/
def dtcClear (d : Dev) (code : Nat) : Dev :=
  if d.meas.dtcs.any (·.code == code) ∨ (storeDtcs d.meas.store).any (·.code == code) then
    (d.modMeas fun m => { m with dtcs := m.dtcs.filter (·.code != code) }).dtcUnsaved code
  else d

/-- The start of an operation cycle applies the updates of the last one's end (R309): pendingDTC ends after a cycle
in which the test completed and did not fail, and 40 such cycles in a row erase a confirmed DTC. The recoveries of
R300 are counted anew. -/
def cycleStart (d : Dev) : Dev :=
  let clean (x : Dtc) : Bool := !x.status.getLsbD 6 && !x.status.getLsbD 1
  let aged (x : Dtc) : Nat := if clean x && x.status.getLsbD 3 then x.aging + 1 else 0
  let step (x : Dtc) : Dtc :=
    let s := (if clean x then x.status &&& 0xFB else x.status) &&& 0xFD ||| 0x40
    if aged x ≥ 40 then { freshDtc x.code with status := s &&& 0xF7 } else { x with status := s, aging := aged x }
  let erased := d.meas.dtcs.filter fun x => aged x ≥ 40
  let d := d.modMeas fun m => { m with
    dtcs := m.dtcs.map step, cycle := m.cycle + 1, amps := m.amps.map fun a => { a with recoveries := 0 } }
  erased.foldl (fun d x => d.dtcUnsaved x.code) d

/-- A DTC status change is programmed into the store, where R81 permits (R310). -/
def dtcStoreWrite (d : Dev) : Dev :=
  match d.meas.unsaved with
  | [] => d
  | code :: rest =>
    if d.flashPermitted ∧ d.power.state = .active then
      let x := (d.meas.dtcs.find? (·.code == code)).filter fun x => x.occurrences != 0
      d.modMeas fun m => { m with store := storeProgram m.store (code, x), unsaved := rest }
    else d

/-! ### Pilot slots (R290–R295) -/

/-- The DTC of a speaker's fault number. -/
def speakerDtc (k : Fin 16) (n : Nat) : Nat := 0xC10000 + 256 * k.val + n

/-- The largest whole number whose square does not exceed a number. -/
def isqrt (n : Nat) : Nat :=
  (List.range (n.log2 / 2 + 1)).foldr (fun b r => if (r + 2 ^ b) * (r + 2 ^ b) ≤ n then r + 2 ^ b else r) 0

/-- The square of the magnitude of a demodulated sum. -/
def levelSq (s : Int × Int) : Nat := s.1.natAbs * s.1.natAbs + s.2.natAbs * s.2.natAbs

/-- A level stands less than 20 dB above the mean of its two neighbours, or is zero: of the squares of the three
magnitudes (R291, R292). (DEDUCED, log 106) -/
def notAbove (s : Vector (Int × Int) 3) : Bool :=
  let a := levelSq s[1]
  let b := levelSq s[2]
  let x : Int := (levelSq s[0] : Int) - 25 * (a + b)
  levelSq s[0] == 0 || x < 0 || x * x < 2500 * a * b

/-- A level stands below −100 dBFS, of the weight of its samples (R292). -/
def belowFloor (s : Vector (Int × Int) 3) (weight : Int) : Bool :=
  weight == 0 || 40000000000 * (levelSq s[0] : Int) < (weight * 2 ^ 62) ^ 2

/-- |Z| in mΩ (R291): 0xFFFF where the current does not stand 20 dB above its neighbours. -/
def impedance (s : SpeakerSetup) (w : SlotWatch) : Nat :=
  if notAbove w.current ∨ s.ifs = 0 then 0xFFFF
  else
    let num := levelSq w.voltage[0] * (10000 * s.vfs) ^ 2
    let den := levelSq w.current[0] * s.ifs ^ 2
    let z := isqrt (num / den)
    min 65534 (if z * z * den = num then z else z + (if Config.roundUp num den then 1 else 0))

/-- A phase in 0.1° within half a turn. -/
def wrapPhase (p : Int) : Int := (p + 1800) % 3600 - 1800

/-- The angle of a vector in 0.1°: where it is none of these, one of its two neighbours. (DESIGN CHOICE, log 15) -/
def angleOf (x y : Int) : Int :=
  let excess (k : Nat) : Int := x.natAbs * sineOf k 3600 - y.natAbs * sineOf (900 - k) 3600
  let k := ((List.range 900).filter fun k => excess (k + 1) ≤ 0).length
  let a : Int := if excess k = 0 then k else k + (if Config.roundUp (excess k) 3600 then 1 else 0)
  let a := if x < 0 then 1800 - a else a
  wrapPhase (if y < 0 then -a else a)

/-- The phase of V̂ / Î in 0.1°, corrected for SKEW, 10 ns each, at the pilot frequency (R288, R291). -/
def slotPhase (freq : Nat) (s : SpeakerSetup) (w : SlotWatch) : Int :=
  let (v, i) := (w.voltage[0], w.current[0])
  wrapPhase (angleOf (v.1 * i.1 + v.2 * i.2) (v.2 * i.1 - v.1 * i.2) - narrow (36 * (freq : Int) * s.skew) 1000000)

/-- The reason a slot is rejected (Table 11.3), 0 for none. -/
def rejection (d : Dev) (k : Fin 16) : Nat :=
  let w := d.meas.watch[k]
  let tagged := d.route.sense[k].bind.any (·.tagged)
  if w.muted then 1
  else if w.fault then 2
  else if w.dcTest then 3
  else if w.stale ∨ (¬ tagged ∧ belowFloor w.voltage w.weight ∧ belowFloor w.current w.weight) then 4
  else if w.clip then 5
  else if notAbove w.voltage then 6
  else if w.noPilot then 7
  else 0

/-- The tests of Table 11.4 on a measurement: for each, whether it runs and whether it fails. -/
def slotTests (x : Speaker) (z : Nat) (phase : Int) (ovr : Bool) : List (Bool × Bool) :=
  let s := x.setup
  let base := x.baseline.getD (0, 0)
  let held := x.baseline.isSome
  let rise : Bool := z * 100 > base.1 * s.rise
  let diff := (z : Int) - base.1
  let drift : Bool := diff.natAbs * 100 > base.1 * s.driftPct || (wrapPhase (phase - base.2)).natAbs > 10 * s.driftDeg
  [(true, z < 10 * s.shortOhm || ovr), (true, z > 10 * s.openOhm || z == 0xFFFF),
   (held && s.load == 1, rise), (held && s.load == 2, rise), (held, drift)]

/-- A learn of the speaker ends without a result: OP_DONE, REFUSED_STATE (R295). -/
def learnRefused (d : Dev) (k : Fin 16) : Dev :=
  match d.meas.speakers[k].learn with
  | none => d
  | some l => (d.modSpeaker k fun x => { x with learn := none }).opDone 0x0804 0x22 l.tag

/-- A DTC of a speaker is qualified: a learn of that speaker ends (R295, R311). -/
def speakerQualify (d : Dev) (k : Fin 16) (n : Nat) (value : Int) : Dev :=
  if d.dtcFailed (speakerDtc k n) then d else (d.qualify (speakerDtc k n) value).learnRefused k

/-- One test counts a failure or a pass (R294). -/
def countTest (d : Dev) (k : Fin 16) (j : Fin 5) (failed : Bool) (value : Int) : Dev :=
  let d := d.modSpeaker k fun x => { x with runs := upd x.runs j fun t =>
    if failed then ⟨t.fails + 1, 0⟩ else ⟨0, t.passes + 1⟩ }
  let x := d.meas.speakers[k]
  let need := if j = 4 then 40 else x.setup.failN
  let code := speakerDtc k (j.val + 1)
  if failed ∧ x.runs[j].fails ≥ need then d.speakerQualify k (j.val + 1) value
  else if ¬ failed ∧ x.runs[j].passes ≥ x.setup.passN then d.testPassed code
  else d.testDone code

/-- The tests in order: passes up to the first that fails (R293). -/
def runTests (d : Dev) (k : Fin 16) (value : Int) : List (Fin 5 × Bool × Bool) → Dev
  | [] => d
  | (j, runs, fails) :: t =>
    if ¬ runs then d.runTests k value t
    else if fails then d.countTest k j true value
    else (d.countTest k j false value).runTests k value t

/-- A measurement is accepted: its result is kept, a learn takes it, and the tests run on it (R291–R295). -/
def slotAccept (d : Dev) (k : Fin 16) : Dev :=
  let x := d.meas.speakers[k]
  let w := d.meas.watch[k]
  let z := impedance x.setup w
  let phase := slotPhase (pilotOf d.ks.rate).1 x.setup w
  let d := d.modSpeaker k fun x => { x with
    lastZ := z, lastPhase := phase, accepted := wrapInc 16 x.accepted, staleRun := 0,
    acceptRun := x.acceptRun + 1,
    learn := x.learn.map fun l => if l.count < 16 then
      { l with sumZ := l.sumZ + z, sumPhase := l.sumPhase + phase, count := l.count + 1 } else l }
  let d := if x.acceptRun + 1 ≥ 8 then d.testPassed (speakerDtc k 6) else d.testDone (speakerDtc k 6)
  let tests := slotTests x z phase w.overcurrent
  d.runTests k z ((allFin 5).map fun j => (j, tests.getD j.val (false, false)))

/-- A measurement is rejected, which counts neither way (R292); four rejections in a row for want of sense data
qualify the DTC of R294. -/
def slotReject (d : Dev) (k : Fin 16) (why : Nat) : Dev :=
  let x := d.meas.speakers[k]
  let d := d.modSpeaker k fun x => { x with
    lastReject := why, rejected := wrapInc 16 x.rejected,
    staleRun := if why = 4 then x.staleRun + 1 else x.staleRun,
    acceptRun := if why = 4 then 0 else x.acceptRun }
  if why ≠ 4 then d
  else if x.staleRun + 1 ≥ 4 then d.speakerQualify k 6 0
  else d.testDone (speakerDtc k 6)

/-- A pilot slot ends with a rejection or a result (R291–R295), from what its frames gave. -/
def slotEnd (d : Dev) (k : Fin 16) : Dev :=
  if ¬ d.meas.speakers[k].setup.enable then d
  else
    let why := d.rejection k
    let d := if why ≠ 0 then d.slotReject k why else d.slotAccept k
    d.modMeas fun m => { m with watch := m.watch.set k (freshWatch 0) }

/-- A baseline's journal value: MEAS_BASELINE, mode 1, with what is held (R313). -/
def baselineItem (k : Fin 16) (x : Speaker) : JItem :=
  ⟨0x0820 + k.val, some [at' 0 k.val ||| at' 8 1,
    at' 0 (x.baseline.elim 0 (·.1)) ||| atS 31 16 (x.baseline.elim 0 (·.2)), at' 0 (x.dcBaseline.getD 0)]⟩

/-- 16 accepted measurements complete a learn (R295). -/
def learnDone (d : Dev) (k : Fin 16) : Dev :=
  match d.meas.speakers[k].learn with
  | none => d
  | some l =>
    if l.count < 16 then d
    else
      let d := d.modSpeaker k fun x => { x with
        learn := none, baseline := some ((narrow l.sumZ 16).toNat, narrow l.sumPhase 16) }
      let d := if l.persist then d.journalAdd [baselineItem k d.meas.speakers[k]] else d
      d.opDone 0x0804 0 l.tag

/-- 10 s have passed without 16 measurements (R295). -/
def learnTimeout (d : Dev) (k : Fin 16) : Dev :=
  if d.meas.speakers[k].learn.any (·.count < 16) then d.learnRefused k else d

/-! ### The DC-resistance test (R296–R298) -/

/-- The speaker at the head is done, and the next is taken: its 10 s begin; OP_DONE follows the last
(MEAS_DC_TEST). -/
def dcNext (d : Dev) (k : Fin 16) (outcome : Nat) : Dev :=
  match d.meas.dcTest with
  | none => d
  | some t =>
    let d := d.modSpeaker k fun x => { x with dcOutcome := outcome }
    let rest := t.queue.drop 1
    if rest.isEmpty then (d.modMeas fun m => { m with dcTest := none }).opDone 0x0805 0 t.tag
    else d.modMeas fun m => { m with dcTest := some { t with queue := rest, started := false } }

/-- The test stands at a speaker, started or waiting. -/
def dcAt (d : Dev) (k : Fin 16) (started : Bool) : Bool :=
  d.meas.dcTest.any fun t => t.queue.head? == some k && t.started == started

/-- The speaker's destination has its mute gain at unity, and its stage-1 sum has stayed below QUIET_LEVEL for
500 ms (R296). -/
def dcQuiet (d : Dev) (k : Fin 16) : Bool :=
  let x := d.route.dests[d.meas.speakers[k].setup.dest]
  decide (x.muteLen ≤ x.muteStep) && decide (x.loudAt + 250000000 ≤ d.cc)

/-- The speaker has been quiet for 500 ms: its sequence starts, after its pilot slot (R296, R311) and the ramp of
an abort before it (R298). -/
def dcStart (d : Dev) (k : Fin 16) : Dev :=
  if d.dcAt k false ∧ d.dcQuiet k ∧ d.slotNumber % 16 ≠ k.val ∧ d.driving = none ∧ ¬ d.sup.nvwInhibit then
    d.modMeas fun m => { m with
      dcTest := m.dcTest.map fun t => { t with started := true }
      drive := some ⟨k, d.cc, ⟨0, 0, 0⟩, ⟨0, 0, 0⟩, none⟩ }
  else d

/-- The speaker has not become quiet within 10 s (R296). -/
def dcNotQuiet (d : Dev) (k : Fin 16) : Dev := if d.dcAt k false then d.dcNext k 6 else d

/-- R_dc in mΩ, from the means at the two levels (R297). -/
def dcResistance (s : SpeakerSetup) (x : DcDrive) : Nat :=
  let dv := x.plus.voltage * x.minus.samples - x.minus.voltage * x.plus.samples
  let di := (x.plus.current * x.minus.samples - x.minus.current * x.plus.samples) * s.ifs
  if di = 0 then Config.openResistance dv
  else (narrow ((if di > 0 then 1 else -1) * dv * 10000 * s.vfs) di.natAbs).toNat

/-- A DC test of a speaker qualifies or clears its DTC (R298); a qualification ends a learn (R311). -/
def dcFollow (d : Dev) (k : Fin 16) (n : Nat) (failed : Bool) (z : Nat) : Dev :=
  if failed then d.speakerQualify k n z else d.testPassed (speakerDtc k n)

/-- The sequence of Table 11.5 has run to its end: one result qualifies or clears each DC test (R298). -/
def dcDone (d : Dev) (k : Fin 16) : Dev :=
  match d.meas.drive with
  | none => d
  | some y =>
    if ¬ d.dcAt k true ∨ y.abort.isSome ∨ d.nsSince y.start < 120000000 then d
    else
      let x := d.meas.speakers[k]
      let z := dcResistance x.setup y
      let short : Bool := z < 10 * x.setup.dcShort
      let open' : Bool := z > 10 * x.setup.dcOpen
      let drift : Bool := x.dcBaseline.any fun b => ((z : Int) - b).natAbs * 100 > b * x.setup.dcDriftPct
      let d := d.modMeas fun m => { m with drive := none }
      let d := d.modSpeaker k fun x => { x with rdc := z }
      let d := (d.dcFollow k 0x11 short z).dcFollow k 0x12 open' z
      let d := if x.dcBaseline.isSome then d.dcFollow k 0x15 drift z else d
      d.dcNext k (if short then 2 else if open' then 3 else if drift then 4 else 1)

/-- A cause of R298 holds for the speaker under test. -/
def dcCause (d : Dev) (k : Fin 16) (c : DcAbort) : Bool :=
  let sp := d.meas.speakers[k].setup
  let x := d.route.dests[sp.dest]
  match c with
  | .notQuiet => decide (dbFactor ((d.meas.config.quietLevel - 20) * 10000000) < (x.sum.natAbs : Int) * 2 ^ 31)
  | .muted => decide (x.muteStep < x.muteLen)
  | .fault => d.meas.amps[sp.amp].demand
  | .supply => d.sup.nvwInhibit

/-- The outcome code of an abort (MEAS_RESULT). -/
def abortCode : DcAbort → Nat | .supply => 5 | .notQuiet => 6 | .muted => 7 | .fault => 8

/-- A test is aborted: its level ramps to 0 over 10 ms and the next speaker is taken (R298). -/
def dcAbort (d : Dev) (k : Fin 16) (c : DcAbort) : Dev :=
  if d.dcAt k true ∧ d.dcCause k c then
    let d := d.modMeas fun m => { m with
      drive := m.drive.map fun x => { x with abort := some (d.dcLevelNow x, d.cc) } }
    d.dcNext k (abortCode c)
  else d

/-- NV-write inhibit is entered: the test in progress is aborted, and the speakers still to be tested, which the
inhibit keeps from a test, read SUPPLY (R91, R296). (DEDUCED, log 110) -/
def dcSupply (d : Dev) : Dev :=
  match d.meas.dcTest with
  | none => d
  | some t => t.queue.foldl (fun (d : Dev) k => if d.dcAt k true then d.dcAbort k .supply else d.dcNext k 5) d

/-- Pilot slots and DC tests stop at QUIET entry (chapter 11, Configuration). -/
def measQuiet (d : Dev) : Dev :=
  let d' := d.modMeas fun m => { m with dcTest := none, drive := none, rampOut := none }
  match d.meas.dcTest with
  | some t => d'.opDone 0x0805 0x22 t.tag
  | none => d'

/-! ### Thermal foldback (R299) -/

/-- A target after an evaluation: lowered at once, raised only 2 °C below the temperature that
last lowered it. `demand` and `temp` are the present demand, in 0.1 dB, and temperature. (DEDUCED, log 114) -/
def foldNext (f : Foldback) (demand : Nat) (temp : Option Int) : Foldback :=
  if demand > f.target then ⟨demand, temp.getD f.temp⟩
  else if demand < f.target ∧ temp.all (· + 8 ≤ f.temp) then { f with target := demand }
  else f

/-- The demand, in 0.1 dB within 0 to 24 dB (R272), of a slope in 0.1 dB/°C above a start in °C at a
temperature in 0.25 °C. -/
def foldDemandOf (slope start : Nat) (temp : Int) : Nat :=
  (clampI 0 240 (narrow (slope * (temp - 4 * start)) 4)).toNat

/-- Event FOLDBACK (Table 11.13). -/
def foldEvent (d : Dev) (amp : Nat) (die : Bool) (target : Nat) : Dev :=
  d.push 0x0804 (orW [at' 0 amp, bitW 4 die, at' 8 target])

/-- The amplifier of any enabled tagged speaker. -/
def hasTagged (d : Dev) (k : Fin 4) : Bool :=
  (allFin 16).any fun j => d.meas.speakers[j].setup.enable && d.meas.speakers[j].setup.amp == k &&
    d.route.sense[j].bind.any (·.tagged)

/-- One amplifier's target at the 10 ms evaluation. -/
def foldAmp (d : Dev) (k : Fin 4) : Dev :=
  let a := d.meas.amps[k]
  let c := d.meas.config
  let temp : Option Int := a.maxTemp.map (4 * ·)
  let byTemp := temp.elim 0 (foldDemandOf c.ampSlope c.ampStart)
  let demand := if a.warned then max byTemp c.warnFold else byTemp
  let f := if d.hasTagged k then foldNext a.fold demand temp else { a.fold with target := 0 }
  let d := d.modAmp k fun a => { a with
    fold := f, maxTemp := none, warned := false, temp := a.maxTemp, warning := a.warned }
  if f.target = a.fold.target then d else d.foldEvent k.val false f.target

/-- The 10 ms evaluation of every target. (DEDUCED, log 114) -/
def foldEval (d : Dev) : Dev :=
  let d := (allFin 4).foldl foldAmp d
  let c := d.meas.config
  let old := d.meas.die
  let f := foldNext old (foldDemandOf c.dieSlope c.dieStart d.dieTemp) (some d.dieTemp)
  let d := d.modMeas fun m => { m with die := f }
  if f.target = old.target then d else d.foldEvent 0 true f.target

/-- A target has stood at −24 dB for 10 s, or above it for 10 s (R299). -/
def foldLimit (d : Dev) (o : FoldOwner) : Dev :=
  match o with
  | .amp k =>
    let f := d.meas.amps[k].fold
    d.dtcFollow (0xC20004 + 256 * k.val) (f.target == 240) f.temp
  | .die => d.dtcFollow 0xC30001 (d.meas.die.target == 240) d.meas.die.temp

/-! ### I2C jobs and scripts (R302, R304) -/

/-- The index of a script kind. -/
def kindIx : ScriptKind → Fin 3 | .start => 0 | .fault => 1 | .user => 2

/-- The script of an amplifier. -/
def scriptOf (d : Dev) (k : Fin 4) (kind : ScriptKind) : Option Script := d.meas.amps[k].scripts[kindIx kind]

/-- A step that needs no transfer: a delay, or a wait for the fault line while it is high. -/
def stepIdle (d : Dev) (k : Fin 4) (s : ScriptStep) : Bool := s.op == 2 || (s.op == 3 && !d.meas.amps[k].faultLow)

/-- The steps of a script. -/
def scriptSteps (d : Dev) (k : Fin 4) (kind : ScriptKind) : List ScriptStep := ((d.scriptOf k kind).map (·.steps)).getD []

/-- The job in progress on a bus passes over the steps that need no transfer, and the bus waits out their delays,
1 ms of 500 000 cc each; a script with no step left has ended (R304). -/
def settleBus (d : Dev) (b : Fin 2) : Dev :=
  d.modBus b fun x => match x.jobs with
    | .script k kind step fails none reply :: t =>
      let steps := d.scriptSteps k kind
      let idle := (steps.drop step).takeWhile (d.stepIdle k)
      let next := step + idle.length
      let ended := if next ≥ steps.length then some true else none
      let wait := 500000 * (idle.map (·.delayMs)).sum
      { x with
        jobs := .script k kind next fails ended reply :: t,
        delayEnd := if wait = 0 then x.delayEnd else max x.delayEnd d.cc + wait }
    | _ => x

/-- A job joins its bus. -/
def addJob (d : Dev) (b : Fin 2) (j : BusJob) : Dev :=
  let first := d.meas.buses[b].jobs.isEmpty
  let d := d.modBus b fun x => { x with jobs := x.jobs ++ [j] }
  if first then d.settleBus b else d

/-- Request a script, if there is one. A stuck bus is tried again by START and FAULT scripts alone (R312): a USER
script on it has failed. (DEDUCED, log 108) -/
def requestScript (d : Dev) (k : Fin 4) (kind : ScriptKind) (reply : Option Byte) : Dev :=
  match d.scriptOf k kind with
  | none => d
  | some s =>
    let failed := if d.meas.buses[s.bus].stuck ∧ kind = .user then some false else none
    d.addJob s.bus (.script k kind 0 0 failed reply)

/-- The START scripts are requested in amplifier order (R302, R304). (DEDUCED, log 108) -/
def requestStarts (d : Dev) : Dev := (allFin 4).foldl (fun d k => d.requestScript k .start none) d

/-- A script of an amplifier runs or waits. -/
def scriptBusy (d : Dev) (k : Fin 4) (only : Option ScriptKind) : Bool :=
  d.meas.buses.any fun b => b.jobs.any fun j => match j with
    | .script a kind _ _ _ _ => a == k && only.all (· == kind)
    | .transfer _ _ _ _ _ => false

/-- A fault aborts the script of an amplifier that is running (R300); one that waits for its bus waits on. -/
def abortScripts (d : Dev) (k : Fin 4) : Dev :=
  (allFin 2).foldl (fun (d : Dev) b => match d.meas.buses[b].jobs with
    | .script a _ _ _ _ reply :: t =>
      if a = k then
        let d := (d.modBus b fun x => { x with jobs := t, retrying := false, delayEnd := d.cc }).settleBus b
        match reply with
        | some tag => d.opDone 0x080A 0x22 tag
        | none => d
      else d
    | _ => d) d

/-- Answer an AMP_I2C transfer. -/
def i2cAnswer (d : Dev) (who : Source × Byte) (r : I2cResult) : Dev :=
  let word (l : List Byte) : Word := w32 (beNat (l ++ List.replicate (4 - l.length) 0))
  match r with
  | .ack l => d.respondOk who 0x080C [word (l.take 4), word ((l.drop 4).take 4)]
  | .nack => d.respond who.1 ⟨0x080C, who.2, 0x22, 35, false, []⟩
  | .stuck => d.respond who.1 ⟨0x080C, who.2, 0x22, 36, false, []⟩

/-- The DTC of a stuck bus. -/
def busDtc (b : Fin 2) : Nat := 0xC30004 + b.val

/-- The transfer that a bus carries for the job in progress: the address, the bytes written with the register first,
and the count of bytes read after a repeated START (R302, R304, Table 11.12). -/
def busTransfer (d : Dev) (b : Fin 2) : Option (Nat × List Byte × Nat) :=
  let bus := d.meas.buses[b]
  if bus.retrying ∨ d.cc < bus.delayEnd then none
  else match bus.jobs with
    | .script k kind step _ none _ :: _ =>
      match d.scriptOf k kind, (d.scriptSteps k kind)[step]? with
      | some s, some x =>
        if x.op = 0 then some (s.address, BitVec.ofNat 8 x.register :: (natBe 4 x.data.toNat).take x.bytes, 0)
        else if x.op = 1 then some (s.address, [BitVec.ofNat 8 x.register], 1)
        else none
      | _, _ => none
    | .transfer address _ write count _ :: _ => some (address, write, count)
    | _ => none

/-- A script's step after the end of its transfer (R304): the job, whether it is retried, and the delay after the
step in ms. -/
def stepAfter (d : Dev) (k : Fin 4) (kind : ScriptKind) (step fails : Nat) (reply : Option Byte)
    (r : I2cResult) : BusJob × Bool × Nat :=
  let s := (d.scriptSteps k kind)[step]?
  let failed : BusJob × Bool × Nat := (.script k kind step 0 (some false) reply, false, 0)
  match r with
  | .ack l =>
    let ok := s.all fun s => s.op != 1 || (l.getD 0 0).toNat &&& fld s.data 15 8 == fld s.data 7 0
    if ok then (.script k kind (step + 1) 0 none reply, false, s.elim 0 (·.delayMs)) else failed
  | .nack => if fails ≥ 2 then failed else (.script k kind step (fails + 1) none reply, true, 0)
  | .stuck => failed

/-- A bus whose SDA stays low after the 9 pulses and the STOP is stuck: its scripts fail, and its transfers are
answered so (R304). -/
def busStuck (d : Dev) (b : Fin 2) : Dev :=
  let jobs := d.meas.buses[b].jobs
  let left := jobs.filterMap fun j => match j with
    | .script k kind step _ ended reply => some (.script k kind step 0 (some (ended.getD false)) reply)
    | .transfer _ _ _ _ _ => none
  let d := (d.modBus b fun x => { x with stuck := true, retrying := false, jobs := left }).qualify (busDtc b) 0
  jobs.foldl (fun (d : Dev) j => match j with
    | .transfer _ _ _ _ reply => d.i2cAnswer reply .stuck
    | _ => d) d

/-- An I2C transfer ends (R302, R304). -/
def i2cDone (d : Dev) (b : Fin 2) (r : I2cResult) : Dev :=
  if (d.busTransfer b).isNone then d
  else if r = .stuck then d.busStuck b
  else
    let d := (d.modBus b fun x => { x with stuck := false }).testPassed (busDtc b)
    match d.meas.buses[b].jobs with
    | .script k kind step fails none reply :: t =>
      let (j, retry, wait) := d.stepAfter k kind step fails reply r
      (d.modBus b fun x => { x with jobs := j :: t, retrying := retry, delayEnd := d.cc + 500000 * wait }).settleBus b
    | .transfer _ _ _ _ reply :: t =>
      ((d.modBus b fun x => { x with jobs := t }).settleBus b).i2cAnswer reply r
    | _ => d

/-- 1 ms after a failure the step is retried (R304). -/
def i2cRetry (d : Dev) (b : Fin 2) : Dev := d.modBus b fun x => { x with retrying := false }

/-- Clock stretching has lasted 10 ms: the transfer fails (R302). -/
def i2cStretch (d : Dev) (b : Fin 2) : Dev := d.i2cDone b .nack

/-! ### Amplifier faults and mute lines (R300, R301, R65) -/

/-- Event AMP_FAULT (Table 11.13). -/
def ampEvent (d : Dev) (k : Fin 4) (asserted script : Bool) : Dev :=
  d.push 0x0802 (orW [at' 0 k.val, bitW 8 asserted, bitW 9 d.meas.amps[k].latched, bitW 10 script])

/-- Event SAFETY_MUTE of an amplifier (Table 5.6). -/
def safetyEvent (d : Dev) (k : Fin 4) (entry : Bool) : Dev :=
  d.push 0x0008 (bitW k.val true ||| bitW 31 entry)

/-- AMP_FAULT_Nk goes low after its debounce (R300). -/
def faultAssert (d : Dev) (k : Fin 4) : Dev :=
  let a := d.meas.amps[k]
  let d := (d.modAmp k fun a => { a with faultLow := true }).abortScripts k
  if a.demand then d
  else
    let latch := a.recoveries ≥ d.meas.config.retries
    let d := d.modAmp k fun a => { a with demand := true, latched := a.latched || latch }
    let d := d.qualify (0xC20001 + 256 * k.val) 0
    let d := if latch then d.qualify (0xC20002 + 256 * k.val) 0 else d
    (d.ampEvent k true false).safetyEvent k true

/-- The fault line is high again. -/
def faultRelease (d : Dev) (k : Fin 4) : Dev :=
  ((d.modAmp k fun a => { a with faultLow := false, highAt := d.cc }).settleBus 0).settleBus 1

/-- The fault line has been high for FAULT_HOLD, 10 ms of 5 000 000 cc each (R300). -/
def faultHeld (d : Dev) (k : Fin 4) : Bool :=
  let a := d.meas.amps[k]
  !a.faultLow && decide (a.highAt + 5000000 * d.meas.config.faultHold ≤ d.cc)

/-- A fault demand ends. -/
def demandEnd (d : Dev) (k : Fin 4) (script : Bool) : Dev :=
  let d := d.modAmp k fun a => { a with demand := false, recoveries := a.recoveries + 1 }
  ((d.testPassed (0xC20001 + 256 * k.val)).ampEvent k false script).safetyEvent k false

/-- The line has been high for FAULT_HOLD: the FAULT script runs, or the demand ends (R300). -/
def faultHoldExpire (d : Dev) (k : Fin 4) : Dev :=
  let a := d.meas.amps[k]
  if a.demand ∧ d.faultHeld k ∧ ¬ a.latched ∧ ¬ d.scriptBusy k (some .fault) then
    if (d.scriptOf k .fault).isSome then d.requestScript k .fault none else d.demandEnd k false
  else d

/-- The commanded state of a mute line: under a supply mute it is recorded, for its end (R85, R301). -/
def ampCommand (d : Dev) (k : Fin 4) (muted : Bool) : Dev :=
  d.modAmp k fun a => if d.sup.supplyMute then { a with recorded := some muted } else { a with muted := muted }

/-- Event AMP_SCRIPT (Table 11.13). -/
def scriptEvent (d : Dev) (k : Fin 4) (kind : ScriptKind) (failed : Bool) (step : Nat) : Dev :=
  d.push 0x0803 (orW [at' 0 k.val, at' 8 (kindIx kind).val, bitW 12 failed, at' 16 step])

/-- What the end of a script does (R300, R301, R304). (DEDUCED, log 109) -/
def scriptEnd (d : Dev) (k : Fin 4) (kind : ScriptKind) (step : Nat) (ok : Bool) (reply : Option Byte) : Dev :=
  let code := 0xC20003 + 256 * k.val
  let d := if ok then
      match kind with
      | .start =>
        let d := d.testPassed code
        if d.meas.amps[k].autoRelease then d.ampCommand k false else d
      | .fault => if d.meas.amps[k].demand ∧ ¬ d.meas.amps[k].latched then (d.testPassed code).demandEnd k true
          else d.testPassed code
      | .user => d
    else
      let d := (d.qualify code 0).scriptEvent k kind true step
      if kind = .user then d else d.ampCommand k true
  match reply with
  | some tag => d.opDone 0x080A (if ok then 0 else 0x22) tag
  | none => d

/-- A script of an amplifier that has ended completes; its bus takes the next job (R302, R304). (DEDUCED, log 109) -/
def scriptDone (d : Dev) (k : Fin 4) : Dev :=
  let ended (b : Fin 2) : Bool := match d.meas.buses[b].jobs with
    | .script a _ _ _ (some _) _ :: _ => a == k
    | _ => false
  match findIdx? fun b : Fin 2 => ended b && decide (d.meas.buses[b].delayEnd ≤ d.cc) with
  | none => d
  | some b => match d.meas.buses[b].jobs with
    | .script _ kind step _ (some ok) reply :: t =>
      ((d.modBus b fun x => { x with jobs := t }).settleBus b).scriptEnd k kind step ok reply
    | _ => d

/-- The level AMP_MUTE_Nk is driven to (R44, R301). Under a supply mute it stays what it was until the ramp of R84
has ended, and is then low. (DESIGN CHOICE, log 31) -/
def muteLine (d : Dev) (k : Fin 4) : Bool :=
  let a := d.meas.amps[k]
  d.power.state == .active && !a.muted && !a.demand && !d.sup.muteLinesLow &&
    !d.scriptBusy k (some .start) && !d.scriptBusy k (some .fault)

/-! ### Monitors (R306, R307) -/

/-- Die sensors have differed by more than 8 °C for 1 s (R306). -/
def dieDisagree (d : Dev) : Dev :=
  if d.power.state = .active ∧ (d.sup.dieA - d.sup.dieB).natAbs > 32 then
    d.qualify 0xC30003 (max d.sup.dieA d.sup.dieB) else d

/-- The source voltage AMON reads, in 10 mV. -/
def amonSource (d : Dev) : Nat := (narrow (d.sup.amon * d.meas.config.amonRatio) 1000).toNat

/-- AMON is watched and outside its limits (R307). -/
def amonOutside (d : Dev) : Bool :=
  let c := d.meas.config
  let mv := d.sup.amon * c.amonRatio
  c.amonRatio != 0 && (mv < 1000 * c.amonLow || mv > 1000 * c.amonHigh)

/-- AMON has read outside its limits for 100 ms. -/
def amonOut (d : Dev) : Dev := if d.amonOutside then d.qualify 0xC30002 d.amonSource else d

/-- AMON has been back inside for 1 s. -/
def amonBack (d : Dev) : Dev :=
  if d.meas.config.amonRatio ≠ 0 ∧ ¬ d.amonOutside then d.testPassed 0xC30002 else d

/-! ### Commands (R313, Table 11.12) -/

/-- A field of zero takes its default; others are clamped (R11, R313). (DEDUCED, log 106) -/
def dflt (v default lo hi : Nat) : Nat := if v = 0 then default else clampN lo hi v

/-- MEAS_SPEAKER_SET. (DEDUCED, log 106) -/
def cmdSpeakerSet : CmdFn := fun _ req d => withFin 16 (req.fld 8 3 0) 8 fun k =>
  withFin 4 (req.fld 8 13 12) 8 fun amp => withFin 64 (req.fld 8 29 24) 8 fun dest =>
    let s : SpeakerSetup := {
      enable := req.bit 8 8, amp := amp, load := min 2 (req.fld 8 17 16), dest := dest,
      vfs := req.fld 0x0C 15 0, ifs := req.fld 0x0C 31 16, skew := fldS (req.word 0x10) 15 0,
      shortOhm := dflt (req.fld 0x14 15 0) 100 10 65535, openOhm := dflt (req.fld 0x14 31 16) 4000 10 65535,
      rise := dflt (req.fld 0x18 7 0) 160 110 255, driftPct := dflt (req.fld 0x18 15 8) 25 5 90,
      driftDeg := dflt (req.fld 0x18 23 16) 20 5 90, failN := dflt (req.fld 0x18 27 24) 4 1 15,
      passN := dflt (req.fld 0x18 31 28) 8 1 15,
      dcShort := dflt (req.fld 0x1C 15 0) 50 10 65535, dcOpen := dflt (req.fld 0x1C 31 16) 4000 10 65535,
      dcDriftPct := dflt (req.fld 0x20 7 0) 15 5 90 }
    let x := d.meas.speakers[k]
    let slotKind : Bool := match d.route.dests[dest].kind with
      | .slot _ => true
      | _ => false
    let set := d.modSpeaker k fun x => { x with setup := s }
    if s.enable && !slotKind then refusedState 31
    else if s.enable ∧ ¬ set.pilotFits then .refuse .budget 8 []
    else
      let ramp := x.setup.enable ∧ ¬ s.enable ∧ d.slotNumber % 16 = k.val
      let out := (x.setup.dest, d.pilotGain x.setup.dest, d.cc)
      okayKey req (0x0800 + k.val) (if ramp then set.modMeas fun m => { m with rampOut := some out } else set)

/-- MEAS_CONFIG: PILOT_EN 1 is refused where a bank has no room for the crosspoints it reserves (R28, R289).
(DEDUCED, log 106) -/
def cmdMeasConfig : CmdFn := fun _ req d =>
  let e := d.modMeas fun m => { m with config := {
    pilotEn := req.bit 8 0, ampStart := dflt (req.fld 8 15 8) 110 60 150,
    ampSlope := dflt (req.fld 8 23 16) 10 1 50, warnFold := dflt (req.fld 8 31 24) 60 0 240,
    dieStart := dflt (req.fld 0x0C 7 0) 135 60 150, dieSlope := dflt (req.fld 0x0C 15 8) 15 1 50,
    faultHold := dflt (req.fld 0x0C 23 16) 10 1 255, retries := dflt (req.fld 0x0C 27 24) 3 0 15,
    amonRatio := req.fld 0x10 15 0, amonLow := req.fld 0x14 15 0, amonHigh := req.fld 0x14 31 16,
    dcLevel := dflt (req.fld 0x18 7 0) 34 20 60, quietLevel := dflt (req.fld 0x18 15 8) 60 40 90 } }
  if req.bit 8 0 ∧ ¬ e.pilotFits then .refuse .budget 8 [] else okayKey req 0x0810 e

/-- MEAS_RESULT. -/
def cmdMeasResult : CmdFn := fun _ req d => withFin 16 (req.fld 8 3 0) 8 fun k =>
  let x := d.meas.speakers[k]
  let mask := bitsW 5 fun j => d.dtcFailed (speakerDtc k (j + 1))
  reply [orW [bitW 0 x.setup.enable, bitW 1 x.baseline.isSome, bitW 2 x.dcBaseline.isSome,
      at' 8 x.lastReject, at' 16 mask.toNat],
    at' 0 x.lastZ ||| atS 31 16 x.lastPhase,
    at' 0 (x.baseline.elim 0 (·.1)) ||| atS 31 16 (x.baseline.elim 0 (·.2)),
    at' 0 x.accepted ||| at' 16 x.rejected, at' 0 (min 65535 x.rdc) ||| at' 16 x.dcOutcome,
    at' 0 (min 65535 (x.dcBaseline.getD 0))] d

/-- MEAS_BASELINE (R295). (DEDUCED, log 110) -/
def cmdBaseline : CmdFn := fun _ req d => withFin 16 (req.fld 8 3 0) 8 fun k =>
  let keep (d : Dev) : CmdResult :=
    .done false 0 [] (if req.persist then [baselineItem k d.meas.speakers[k]] else []) d
  match req.fld 8 9 8 with
  | 0 =>
    if (List.range 5).any fun j => d.dtcFailed (speakerDtc k (j + 1)) then refusedState 33
    else .done true 0 [] [] ((d.learnRefused k).modSpeaker k fun x => { x with
      learn := some ⟨0, 0, 0, req.tag, req.persist⟩ })
  | 1 =>
    let z := req.fld 0x0C 15 0
    let dc := req.fld 0x10 15 0
    keep (d.modSpeaker k fun x => { x with
      baseline := if z = 0 then x.baseline else some (z, fldS (req.word 0x0C) 31 16),
      dcBaseline := if dc = 0 then x.dcBaseline else some dc })
  | 2 => keep (d.modSpeaker k fun x => { x with
      dcBaseline := if x.dcOutcome = 0 then x.dcBaseline else some x.rdc })
  | _ => okayRemove req (0x0820 + k.val) (d.modSpeaker k fun x => { x with baseline := none, dcBaseline := none })

/-- MEAS_DC_TEST (R296). (DEDUCED, log 110) -/
def cmdDcTest : CmdFn := fun _ req d =>
  let ks := (allFin 16).filter fun k => (req.word 8).getLsbD k.val && d.meas.speakers[k].setup.enable
  if d.sup.nvwInhibit then .refuse .supplyInhibit 1 []
  else if d.meas.dcTest.isSome then refusedState 0
  else if ks.isEmpty then .done true 0 [] [] (d.opDone 0x0805 0 req.tag)
  else .done true 0 [] [] (d.modMeas fun m => { m with dcTest := some ⟨ks, false, req.tag⟩ })

/-- A temperature of an amplifier for MEAS_MONITORS, 0x80 for none. -/
def ampTempByte (a : Amp) : Nat := a.temp.elim 0x80 fun t => (t % 256).toNat

/-- MEAS_MONITORS. -/
def cmdMonitors : CmdFn := fun _ _ d =>
  let a := d.meas.amps
  let bits (f : Amp → Bool) : Nat := (bitsW 4 fun k => (a[k]?).any f).toNat
  let lines := (bitsW 4 fun k => if h : k < 4 then d.muteLine ⟨k, h⟩ else false).toNat
  let stuck := (bitsW 2 fun b => (d.meas.buses[b]?).any (·.stuck)).toNat
  let byAmp (f : Amp → Nat) : Word := orW ((allFin 4).map fun k => at' (8 * k.val) (f a[k] % 256))
  reply [atS 15 0 d.sup.dieA ||| atS 31 16 d.sup.dieB, at' 0 d.sup.amon ||| at' 16 (min 65535 d.amonSource),
    byAmp ampTempByte, orW [at' 0 (bits (·.warning)), at' 4 (bits (·.demand)), at' 8 (bits (·.latched)),
      at' 12 lines, at' 16 stuck], byAmp (·.fold.target), at' 0 d.meas.die.target] d

/-- MEAS_DTC_READ. -/
def cmdDtcRead : CmdFn := fun _ req d => withFin 48 (req.fld 8 5 0) 8 fun k =>
  reply (((storeDtcs d.meas.store)[k.val]?).elim (List.replicate 6 0) dtcWords) d

/-- MEAS_DTC_CLEAR. (DEDUCED, log 112) -/
def cmdDtcClear : CmdFn := fun _ req d =>
  let code := req.fld 8 23 0
  if d.sup.nvwInhibit then .refuse .supplyInhibit 1 []
  else if code = 0xFFFFFF then okay (dtcCodes.foldl dtcClear d)
  else if dtcCodes.contains code then okay (d.dtcClear code)
  else badParam 8

/-- A script kind of a payload code. -/
def scriptKind? : Nat → Option ScriptKind | 0 => some .start | 1 => some .fault | 2 => some .user | _ => none

/-- A step of AMP_SCRIPT_SET from its two words. -/
def stepOf (a b : Word) : ScriptStep := ⟨fld a 2 0, fld a 5 4 + 1, fld a 15 8, fld a 31 16, b⟩

/-- AMP_SCRIPT_SET (R304). -/
def cmdScriptSet : CmdFn := fun _ req d => withFin 4 (req.fld 8 1 0) 8 fun k =>
  match scriptKind? (req.fld 8 9 8) with
  | none => badParam 8
  | some kind =>
    let n := req.fld 0x0C 4 0
    let bus : Fin 2 := if req.bit 8 16 then 1 else 0
    let steps := (List.range n).map fun i => stepOf (req.word (0x10 + 8 * i)) (req.word (0x14 + 8 * i))
    if 24 < n then badParam 0x0C
    else if steps.any fun s => 3 < s.op then badParam 0x10
    else
      let s : Option Script := if n = 0 then none else some ⟨bus, req.fld 8 30 24, req.bit 0x0C 8, steps⟩
      let d := d.modAmp k fun a => { a with scripts := a.scripts.set (kindIx kind) s }
      let key := 0x0830 + 4 * k.val + (kindIx kind).val
      if n = 0 then okayRemove req key d else okayKey req key d

/-- AMP_SCRIPT_RUN (R304, R311). -/
def cmdScriptRun : CmdFn := fun _ req d => withFin 4 (req.fld 8 1 0) 8 fun k =>
  match scriptKind? (req.fld 8 9 8) with
  | none => badParam 8
  | some kind =>
    if (d.scriptOf k kind).isNone then refusedState 32
    else if d.scriptBusy k none then refusedState 30
    else .done true 0 [] [] (d.requestScript k kind (some req.tag))

/-- AMP_LINE on one amplifier of its mask (R300, R301). -/
def ampLine (req : Request) (d : Dev) (k : Fin 4) : Dev :=
  if ¬ req.bit 8 k.val then d
  else
    let clear := req.bit 8 (24 + k.val) && d.meas.amps[k].latched
    let d := (d.modAmp k fun a => { a with
      autoRelease := req.bit 8 (16 + k.val), latched := a.latched && !clear,
      recoveries := if clear then 0 else a.recoveries }).ampCommand k (req.bit 8 (8 + k.val))
    if clear then (d.testPassed (0xC20002 + 256 * k.val)).faultHoldExpire k else d

/-- AMP_LINE. AUTO_RELEASE alone is journaled (R313). -/
def cmdAmpLine : CmdFn := fun _ req d =>
  let items := (allFin 4).filterMap fun k =>
    if req.bit 8 k.val then some (⟨0x0840 + k.val, some [bitW 0 (req.bit 8 (16 + k.val))]⟩ : JItem) else none
  .done false 0 [] (if req.persist then items else []) ((allFin 4).foldl (ampLine req) d)

/-- AMP_I2C: answered when the transfer ends (R302). (DEDUCED, log 111) -/
def cmdAmpI2c : CmdFn := fun src req d =>
  let bus : Fin 2 := if req.bit 8 0 then 1 else 0
  let bytes := (req.payload.drop 1).flatMap fun w => natBe 4 w.toNat
  let rd := req.fld 8 19 16
  let wr := req.fld 8 27 24
  if 8 < rd ∨ 8 < wr ∨ bytes.length < wr then badParam 8
  else if d.meas.buses[bus].stuck then refusedState 36
  else .later [] (d.addJob bus (.transfer (req.fld 8 14 8) (req.bit 8 1) (bytes.take wr) rd (src, req.tag)))

end Dev
end Sys2Proof.Machine
end

