-- ==== Sys2Proof/Machine/Gpio.lean ====
section
/-! DEFINITION.
The general-purpose pins: functions, crossbar and multiplexer, pad drive and hold latch, debounce,
pin interrupts, locks, sleep states and the pin commands (chapter 13). -/

namespace Sys2Proof.Machine

/-- The function a mux code places on GP(16 + q) (Table 13.2). -/
def muxFn (code q : Nat) : Option (Fin 25) :=
  let f (n : Nat) : Option (Fin 25) := if h : n < 25 then some ⟨n, h⟩ else none
  match code with
  | 1 => f (q % 4) | 2 => f (4 + q % 4) | 3 => f (12 + q % 4) | 4 => f (16 + q % 4)
  | 5 => f (8 + 2 * (q / 2 % 2) + q % 2)
  | 6 => f 20 | 7 => f 21 | 8 => f 22 | 9 => f 23 | 10 => f 24
  | _ => none

/-- The function is an input or bidirectional (Table 13.1). -/
def fnInput (f : Fin 25) : Bool := f.val < 4 || (8 ≤ f.val && f.val < 16) || (20 ≤ f.val && f.val < 23)

/-- The function is an output or bidirectional. -/
def fnOutput (f : Fin 25) : Bool := (4 ≤ f.val && f.val < 12) || (16 ≤ f.val && f.val < 20) || 23 ≤ f.val

/-- An I2C line. -/
def fnI2c (f : Fin 25) : Bool := 8 ≤ f.val && f.val < 12

/-- The level an input function sees while no pin feeds it. -/
def fnIdle (f : Fin 25) : Bool := f.val < 4 || fnI2c f || f.val == 22

/-- The stored GPIO_PIN_CFG word after R11: PULL 3 is 2, SLEEP 6 and 7 are 5. -/
def clampPinCfg (w : Word) : Word :=
  let w := w &&& 0x373F77
  setFld (setFld w 1 0 (min 2 (fld w 1 0))) 18 16 (min 5 (fld w 18 16))

/-- Bits 37:0 of a pair of _LO and _HI words. -/
def pinBit (lo hi : Word) (p : Fin 37) : Bool :=
  if p.val < 32 then lo.getLsbD p.val else hi.getLsbD (p.val - 32)

/-- The first boundary cell of a general-purpose pin (R395). -/
def gpCell (p : Fin 37) : Nat :=
  if p.val < 12 then 3 * p.val else if p.val < 16 then 47 + 3 * (p.val - 12) else 118 + 3 * (p.val - 16)

namespace Dev

/-- Change the state of the pins. -/
def modGpio (d : Dev) (f : Gpio → Gpio) : Dev := { d with gpio := f d.gpio }

/-- Change one pin. -/
def modPin (d : Dev) (p : Fin 37) (f : GpioPin → GpioPin) : Dev :=
  d.modGpio fun g => { g with pins := upd g.pins p f }

/-- A bit of a _LO and _HI register pair at `lo`. -/
def pairBit (d : Dev) (lo : Nat) (p : Fin 37) : Bool := pinBit (d.reg lo) (d.reg (lo + 4)) p

/-- Hardware sets a bit of a _LO and _HI status pair. -/
def raisePair (d : Dev) (lo : Nat) (p : Fin 37) : Dev :=
  if p.val < 32 then d.raiseBit lo p.val else d.raiseBit (lo + 4) (p.val - 32)

/-- The bits of a property of the pins, GP0–GP31 and then GP32–GP36. -/
def pinWords (d : Dev) (f : GpioPin → Bool) : Word × Word :=
  let at' (i : Nat) : Bool := (d.gpio.pins[i]?.map f).getD false
  (bitsW 32 at', bitsW 5 fun i => at' (32 + i))

/-! ### Placement (R347–R351) -/

/-- The crossbar field of a function. -/
def xbarField (d : Dev) (f : Fin 25) : Nat := d.rfld (Reg.GPIO_XBAR_0 + 4 * (f.val / 4)) (8 * (f.val % 4) + 7) (8 * (f.val % 4))

/-- The crossbar pin a function is placed on, if EN is 1. -/
def xbarPin (d : Dev) (f : Fin 25) : Option (Fin 37) :=
  let v := d.xbarField f
  if 128 ≤ v then some ⟨v % 16, by omega⟩ else none

/-- The mux code of a pin, 0 for a crossbar pin. -/
def muxCode (d : Dev) (p : Fin 37) : Nat :=
  if p.val < 16 then 0
  else let q := p.val - 16; d.rfld (Reg.GPIO_MUX_0 + 4 * (q / 8)) (4 * (q % 8) + 3) (4 * (q % 8))

/-- The functions placed on a pin. -/
def pinFns (d : Dev) (p : Fin 37) : List (Fin 25) :=
  if p.val < 16 then (allFin 25).filter fun f => d.xbarPin f == some p
  else (muxFn (d.muxCode p) (p.val - 16)).toList

/-- The pins a function is placed on, the crossbar pin first and then the mux pins upward. -/
def fnPins (d : Dev) (f : Fin 25) : List (Fin 37) :=
  (d.xbarPin f).toList ++ (allFin 37).filter fun p => 16 ≤ p.val && muxFn (d.muxCode p) (p.val - 16) == some f

/-- The pin an input function takes its level from (R350). -/
def fnSource (d : Dev) (f : Fin 25) : Option (Fin 37) := if fnInput f then (d.fnPins f).head? else none

/-- The level an input function sees (R350, R356). -/
def fnLevel (d : Dev) (f : Fin 25) : Bool :=
  match d.gpio.source[f] with
  | some p => d.gpio.pins[p].filt
  | none => fnIdle f

/-- The GPIO driver of a pin is enabled. -/
def pinDir (d : Dev) (p : Fin 37) : Bool := d.pairBit Reg.GPIO_DIR_LO p

/-- A pin carries an AMP_MUTE_N function. -/
def mutePin (d : Dev) (p : Fin 37) : Bool := (d.pinFns p).any fun f => 4 ≤ f.val && f.val < 8

/-- The level of an output function. I2C lines are released between transfers. (DEDUCED, log 68, 128) -/
def fnOut (d : Dev) (f : Fin 25) : Bool :=
  let n := f.val
  if n < 8 then d.muteLine ⟨n % 4, by omega⟩
  else if n < 12 then true
  else if n < 20 then d.timers.ch[(⟨n % 4, by omega⟩ : Fin 4)].out
  else if n = 23 then d.ks.state == .track
  else d.clk.ppsOut && d.ks.timeValid

/-- The drivers of a pin: their level and whether each is open-drain (R349). -/
def pinDrivers (d : Dev) (p : Fin 37) : List (Bool × Bool) :=
  ((d.pinFns p).filter fnOutput).map (fun f => (d.fnOut f, fnI2c f))
    ++ (if d.pinDir p then [(d.pairBit Reg.GPIO_OUT_LO p, d.gpio.pins[p].cfg.getLsbD 2)] else [])

/-- What the configured drivers give the pad: the OR of their levels, `none` for an input or a
released open-drain pad (R349). -/
def driversOut (d : Dev) (p : Fin 37) : Option Bool :=
  let l := d.pinDrivers p
  let level := l.any (·.1)
  if l.isEmpty then none
  else if l.all (·.2) then (if level then none else some false)
  else some level

/-- What the sleep state gives the pad (Table 13.4). -/
def sleepOut (d : Dev) (p : Fin 37) : Option Bool :=
  match fld d.gpio.pins[p].cfg 18 16 with
  | 3 => some false
  | 4 => some true
  | 5 => d.gpio.pins[p].sleepLatch
  | _ => none

/-- The pins are taken by the boundary cells (R400). (DEDUCED, log 125) -/
def pinsTaken (d : Dev) : Bool := d.tap.ir == 0 || d.tap.ir == 4 || d.tap.ir == 5

/-- What the core gives a general-purpose pad: the states of Table 2.4, the sleep state, the hold latch, or the
drivers. `none`: not driven. (DEDUCED, log 46) -/
def coreDrive (d : Dev) (p : Fin 37) : Option Bool :=
  d.gpio.pins[p].hold.getD (match d.power.state with
  | .active | .quiet => if d.gpio.asleep then d.sleepOut p else d.driversOut p
  | _ => if 4 ≤ p.val ∧ p.val < 8 then some false else none)

/-- What drives a general-purpose pad: the boundary cells while they hold the pins, else the core (R400). -/
def padDrive (d : Dev) (p : Fin 37) : Option Bool :=
  if d.tap.ir = 5 then none
  else if d.pinsTaken then
    let c := gpCell p
    if d.tap.cells.getLsbD c then some (d.tap.cells.getLsbD (c + 1)) else none
  else d.coreDrive p

/-- The pull in force on a pin: 0 none, 1 down, 2 up; none on a pad driven push-pull (R360, R362). Up to the end of
BOOT it is that of Table 2.4 whatever the registers hold (R40, R365), and the boundary cells change none (R397). -/
def padPull (d : Dev) (p : Fin 37) : Nat :=
  let cfg := d.gpio.pins[p].cfg
  if d.power.state ≠ .active ∧ d.power.state ≠ .quiet then
    (if p.val < 4 then 2 else if p.val < 12 then 0 else 1)
  else if d.gpio.asleep ∧ fld cfg 18 16 < 3 then [1, 2, 0].getD (fld cfg 18 16) 0
  else if (d.pinFns p).any fnI2c then 0
  else if (d.coreDrive p).isSome ∧ (d.gpio.asleep ∨ (d.pinDrivers p).isEmpty ∨ ¬ (d.pinDrivers p).all (·.2)) then 0
  else fld cfg 1 0

/-! ### A change of drivers or selections (R351, R352) -/

/-- The pad drive is latched in the pins of a list for 2 cc, those already held keeping their latch. -/
def holdPins (d : Dev) (l : List (Fin 37)) : Dev :=
  l.foldl (fun (e : Dev) (p : Fin 37) => e.modPin p fun x =>
    { x with hold := some (x.hold.getD (d.padDrive p)), holdEnd := d.cc + 2 }) d

/-- The fault inputs that are high again, by their pin or for want of one (R300, R350). -/
def faultSettle (d : Dev) : Dev :=
  (allFin 4).foldl (fun (d : Dev) k =>
    if d.meas.amps[k].faultLow ∧ d.fnLevel ⟨k.val, by omega⟩ then d.faultRelease k else d) d

/-- Deselected inputs see their idle value or their new source at once; a source in its hold is
seen at the hold's end (R352). -/
def settleSources (d : Dev) : Dev :=
  let src := Vector.ofFn fun f : Fin 25 =>
    let want := d.fnSource f
    if want = d.gpio.source[f] then want
    else if want.any fun p => d.gpio.pins[p].hold.isSome then none else want
  (d.modGpio fun g => { g with source := src }).faultSettle

/-- A change of pin registers: `set` makes it and the pins of `l` pass through the hold latch. -/
def switchPins (d : Dev) (l : List (Fin 37)) (set : Dev → Dev) : Dev := (set (d.holdPins l)).settleSources

/-- Two or more functions are placed on the pin, the GPIO driver counted (R351). (DEDUCED, log 126) -/
def pinConflict (d : Dev) (p : Fin 37) : Bool := 2 ≤ (d.pinFns p).length + (if d.pinDir p then 1 else 0)

/-- An input function is selected by more than one pin (R351). (DEDUCED, log 126) -/
def anyInputMulti (d : Dev) : Bool := (allFin 25).any fun f => fnInput f && 2 ≤ (d.fnPins f).length

/-- The hold ends, 2 cc after the last change: the new drivers take the pad, inputs newly selected see it, and
conflicts are counted (R351, R352, Table 13.5). -/
def pinHoldEnd (d : Dev) (p : Fin 37) : Dev :=
  if d.gpio.pins[p].hold.isNone ∨ d.cc < d.gpio.pins[p].holdEnd then d
  else
    let was := d.gpio.pins[p].conflict
    let wasMulti := d.gpio.inputMulti
    let now := d.pinConflict p
    let multi := d.anyInputMulti
    let d := ((d.modPin p fun x => { x with hold := none, conflict := now }).modGpio fun g =>
      { g with inputMulti := multi }).settleSources
    let d := (d.raiseIf (now && !was) Reg.GPIO_MISC_STATUS 0).pushIf (now && !was) 0x0A01 (at' 0 p.val)
    (d.raiseIf (multi && !wasMulti) Reg.GPIO_MISC_STATUS 0).pushIf (multi && !wasMulti) 0x0A01 0x100

/-! ### Register writes (R348, R353, R358, R359, R364) -/

/-- A pin is locked. (DEDUCED, log 127) -/
def pinLocked (d : Dev) (p : Fin 37) : Bool := d.gpio.pins[p].locked

/-- The lowest pin of a mux or direction word: bit or field `i` of the word at `a`. -/
def pinOf (n : Nat) : Fin 37 := if h : n < 37 then ⟨n, h⟩ else 0

/-- A write of GPIO_DIR_LO or GPIO_DIR_HI: the bits of locked pins stay (R359). -/
def dirWrite (d : Dev) (high : Bool) (w : Word) : Dev :=
  let base := if high then 32 else 0
  let a := if high then Reg.GPIO_DIR_HI else Reg.GPIO_DIR_LO
  let n := if high then 5 else 32
  let old := d.reg a
  let changed := (List.range n).filter fun i => w.getLsbD i != old.getLsbD i
  let ok := changed.filter fun i => !d.pinLocked (pinOf (base + i))
  let new := ok.foldl (fun (x : Word) i => x ^^^ bitW i true) old
  (d.raiseIf (ok.length < changed.length) Reg.GPIO_MISC_STATUS 1).switchPins
    (ok.map fun i => pinOf (base + i)) fun d => d.setReg a new

/-- One mux field is written (R348, R359). -/
def muxField (d : Dev) (p : Fin 37) (code : Nat) : Dev :=
  let q := p.val - 16
  let a := Reg.GPIO_MUX_0 + 4 * (q / 8)
  if 11 ≤ code then d.raiseBit Reg.GPIO_MISC_STATUS 4
  else if code = d.muxCode p then d
  else if d.pinLocked p then d.raiseBit Reg.GPIO_MISC_STATUS 1
  else d.switchPins [p] fun d => d.setRfld a (4 * (q % 8) + 3) (4 * (q % 8)) code

/-- A write of GPIO_MUX_k. (DEDUCED, log 127) -/
def muxWrite (d : Dev) (k : Nat) (w : Word) : Dev :=
  (List.range (if k = 2 then 5 else 8)).foldl (fun (d : Dev) q =>
    d.muxField (pinOf (16 + 8 * k + q)) (fld w (4 * q + 3) (4 * q))) d

/-- A crossbar field may not change: it is enabled on a locked pin, or would be (R359). -/
def xbarBarred (d : Dev) (f : Fin 25) (v : Nat) : Bool :=
  (d.xbarPin f).any (fun p => d.pinLocked p) || (128 ≤ v && d.pinLocked (pinOf (v % 16)))

/-- One crossbar field is written (R347, R359). -/
def xbarSet (d : Dev) (f : Fin 25) (v : Nat) : Dev :=
  let a := Reg.GPIO_XBAR_0 + 4 * (f.val / 4)
  let lo := 8 * (f.val % 4)
  if v = d.xbarField f then d
  else if d.xbarBarred f v then d.raiseBit Reg.GPIO_MISC_STATUS 1
  else d.switchPins ((d.xbarPin f).toList ++ (if 128 ≤ v then [pinOf (v % 16)] else []))
    fun d => d.setRfld a (lo + 7) lo v

/-- A write of GPIO_XBAR_k. -/
def xbarWrite (d : Dev) (k : Nat) (w : Word) : Dev :=
  (List.range 4).foldl (fun (d : Dev) j =>
    if h : 4 * k + j < 25 then d.xbarSet ⟨4 * k + j, h⟩ (fld w (8 * j + 7) (8 * j) &&& 0x8F) else d) d

/-- The pin GPIO_PIN_SEL names. -/
def selectedPin (d : Dev) : Fin 37 := pinOf (d.rfld Reg.GPIO_PIN_SEL 5 0)

/-- A write of a pin's configuration: a new debounce code restarts the count (R356), and on a locked pin IRQ_EDGE alone is taken (R359). (DEDUCED, log 127) -/
def pinCfgWrite (d : Dev) (p : Fin 37) (w : Word) : Dev :=
  let new := clampPinCfg w
  let old := d.gpio.pins[p].cfg
  let since := if fld new 11 8 = fld old 11 8 then d.gpio.pins[p].since else d.cc + 1
  if d.pinLocked p then
    let keep := setFld old 13 12 (fld new 13 12)
    (d.raiseIf (keep != new) Reg.GPIO_MISC_STATUS 1).modPin p fun x => { x with cfg := keep }
  else d.modPin p fun x => { x with cfg := new, since := since }

/-- A write of GPIO_LOCK from one master (R358). (DEDUCED, log 127) -/
def lockWrite (d : Dev) (hearth : Bool) (w : Word) : Dev :=
  let set (s : LockSeq) (d : Dev) : Dev :=
    d.modGpio fun g => if hearth then { g with lockHearth := s } else { g with lockHost := s }
  let bad := (set .start d).raiseBit Reg.GPIO_MISC_STATUS 3
  if w = 0x4C4B then set .opened d
  else
    match if hearth then d.gpio.lockHearth else d.gpio.lockHost with
    | .start => bad
    | .opened => if h : w.toNat < 37 then set (.named ⟨w.toNat, h⟩) d else bad
    | .named p =>
      if w = 0xB4B4 then
        ((set .start d).modPin p fun x => { x with locked := true }).raiseBit Reg.GPIO_MISC_STATUS 2
      else bad

/-- The bits of the byte lanes a masked window writes (R353). -/
def laneMask (m : Nat) : Word := orW ((List.range 4).map fun k => if m.testBit k then at' (8 * k) 255 else 0)

/-- A write through the masked window of some lanes (R353). -/
def maskedWrite (d : Dev) (m : Nat) (w : Word) : Dev :=
  d.setReg Reg.GPIO_OUT_LO ((d.reg Reg.GPIO_OUT_LO &&& ~~~ laneMask m) ||| (w &&& laneMask m))

/-- The latch bit of a pin is set to a level. -/
def latchWrite (d : Dev) (p : Fin 37) (level : Bool) : Dev :=
  if p.val < 32 then d.setRbit Reg.GPIO_OUT_LO p.val level else d.setRbit Reg.GPIO_OUT_HI (p.val - 32) level

/-- A write of a GPIO word whose effect is not that of plain storage; `none` for plain words. -/
def gpioStore (d : Dev) (a : Nat) (w : Word) : Option Dev :=
  if a = Reg.GPIO_DIR_LO then some (d.dirWrite false w)
  else if a = Reg.GPIO_DIR_HI then some (d.dirWrite true w)
  else if a = Reg.GPIO_PIN_SEL then some (d.setReg a (w32 (min 36 (fld w 5 0))))
  else if a = Reg.GPIO_PIN_CFG then some (d.pinCfgWrite d.selectedPin w)
  else if a = Reg.GPIO_LOCK then some (d.lockWrite false w)
  else if Reg.GPIO_MUX_0 ≤ a ∧ a ≤ Reg.GPIO_MUX_2 then some (d.muxWrite ((a - Reg.GPIO_MUX_0) / 4) w)
  else if Reg.GPIO_XBAR_0 ≤ a ∧ a ≤ Reg.GPIO_XBAR_6 then some (d.xbarWrite ((a - Reg.GPIO_XBAR_0) / 4) w)
  else if 0x380 ≤ a ∧ a < 0x3C0 then some (d.maskedWrite ((a - 0x380) / 4) w)
  else none

/-- The words of the block that are computed; `none` for stored words. -/
def gpioRead (d : Dev) (a : Nat) : Option Word :=
  let two (f : GpioPin → Bool) : Word := if a % 8 = 0 then (d.pinWords f).1 else (d.pinWords f).2
  if a = Reg.GPIO_IN_LO ∨ a = Reg.GPIO_IN_HI then some (two (·.raw))
  else if a = Reg.GPIO_CONFLICT_LO then some (two (·.conflict))
  else if a = Reg.GPIO_CONFLICT_HI then some (two (·.conflict) ||| bitW 16 d.gpio.inputMulti)
  else if a = Reg.GPIO_LOCKED_LO ∨ a = Reg.GPIO_LOCKED_HI then some (two (·.locked))
  else if a = Reg.GPIO_PIN_CFG then
    let p := d.gpio.pins[d.selectedPin]
    some (p.cfg ||| bitW 24 p.locked)
  else if 0x380 ≤ a ∧ a < 0x3C0 then some (d.reg Reg.GPIO_OUT_LO)
  else none

/-- The GPIO source of Table 4.9 (R369). -/
def gpioIrq (d : Dev) : Bool :=
  d.reg Reg.GPIO_IRQ_STATUS_LO &&& d.reg Reg.GPIO_IRQ_EN_LO != 0
    || d.reg Reg.GPIO_IRQ_STATUS_HI &&& d.reg Reg.GPIO_IRQ_EN_HI != 0
    || d.reg Reg.GPIO_MISC_STATUS &&& d.reg Reg.GPIO_MISC_EN != 0

/-! ### Levels, debounce and interrupts (R355–R357) -/

/-- The time of a debounce code in cc (Table 13.3). -/
def debounceCc (code : Nat) : Nat :=
  5000 * [0, 1, 2, 5, 10, 20, 30, 50, 75, 100, 150, 200, 250, 300, 350, 400].getD code 0

/-- The filter's output takes the recognised level, once that has stood for the time of the code (R356): the
pin interrupt (R357), and a fault input that is high again (R300). -/
def debounceChange (d : Dev) (p : Fin 37) : Dev :=
  let x := d.gpio.pins[p]
  if x.filt = x.raw ∨ d.cc < x.since + debounceCc (fld x.cfg 11 8) then d
  else
    let edge := fld x.cfg 13 12
    let hit : Bool := if x.raw then edge % 2 == 1 else 2 ≤ edge
    let d := d.modPin p fun x => { x with filt := x.raw }
    (if hit then d.raisePair Reg.GPIO_IRQ_STATUS_LO p else d).faultSettle

/-- The level of a pad is recognised: a change starts the debounce count anew; with debounce code 0 the filter
follows (R355, R356). (DEDUCED, log 125) -/
def padLevel (d : Dev) (p : Fin 37) (level : Bool) : Dev :=
  let d := d.modPin p fun x => { x with raw := level, since := if level = x.raw then x.since else d.cc }
  if fld d.gpio.pins[p].cfg 11 8 = 0 then d.debounceChange p else d

/-- AMP_FAULT_Nk is low after its debounce, on a pin that carries the function (R300). -/
def faultPinAssert (d : Dev) (k : Fin 4) : Dev :=
  if (d.gpio.source[(⟨k.val, by omega⟩ : Fin 25)]).isSome ∧ !d.fnLevel ⟨k.val, by omega⟩ then d.faultAssert k else d

/-- The readback of a pin is the driven level of every mute line it carries (R65). -/
def muteAgrees (d : Dev) (p : Fin 37) : Bool :=
  (allFin 4).all fun k => !(d.pinFns p).contains ⟨4 + k.val, by omega⟩ || d.gpio.pins[p].raw == d.muteLine k

/-- The comparison of one pin that carries a mute line (R65). (DEDUCED, log 113) -/
def muteCheck (d : Dev) (p : Fin 37) : Dev :=
  let w := d.gpio.pins[p].watch
  if d.muteAgrees p then
    d.modPin p fun x => { x with watch := ⟨0, w.agree + 1, w.told && w.agree + 1 < 3⟩ }
  else
    (d.modPin p fun x => { x with watch := ⟨w.disagree + 1, 0, w.told || w.disagree + 1 ≥ 3⟩ }).pushIf
      (w.disagree + 1 ≥ 3 && !w.told) 0x0003 (at' 0 p.val)

/-- The comparisons of R65, in ACTIVE: every pin that carries a mute line. -/
def muteCheckAll (d : Dev) : Dev :=
  if d.power.state ≠ .active then d
  else (allFin 37).foldl (fun (d : Dev) p => if d.mutePin p then d.muteCheck p else d) d

/-! ### Sleep and wake (R360, R361) -/

/-- Step 3 of QUIET entry: the pins take their sleep states. -/
def pinsSleep (d : Dev) : Dev :=
  let pins := Vector.ofFn fun p : Fin 37 => { d.gpio.pins[p] with sleepLatch := d.padDrive p, hold := none }
  d.modGpio fun g => { g with pins := pins, asleep := true }

/-- Every pin passes through the hold latch: at exit from QUIET, and at release by the TAP (R360, R400). -/
def pinsRelease (d : Dev) : Dev :=
  let pins := Vector.ofFn fun p : Fin 37 => { d.gpio.pins[p] with hold := some (d.padDrive p), holdEnd := d.cc + 2 }
  (d.modGpio fun g => { g with pins := pins }).settleSources

/-- Exit from QUIET: every pin returns to its configured drivers through the hold latch (R360). -/
def pinsReturn (d : Dev) : Dev := d.pinsRelease.modGpio fun g => { g with asleep := false }

/-- The lowest pin that stands at its wake level. -/
def wakingPin (d : Dev) : Option (Fin 37) :=
  (allFin 37).find? fun p =>
    let x := d.gpio.pins[p]
    x.cfg.getLsbD 20 && x.filt == x.cfg.getLsbD 21

/-- The pin wake event is reported (R361). -/
def pinWake (d : Dev) (p : Fin 37) : Dev := (d.raiseBit Reg.GPIO_MISC_STATUS 5).push 0x0A02 (at' 0 p.val)

/-- Lock the pins of a mask (R358, R370). -/
def lockPins (d : Dev) (lo hi : Word) : Dev :=
  let pins := Vector.ofFn fun p : Fin 37 => { d.gpio.pins[p] with locked := d.gpio.pins[p].locked || pinBit lo hi p }
  (d.modGpio fun g => { g with pins := pins }).raiseIf (lo ||| hi != 0) Reg.GPIO_MISC_STATUS 2

end Dev

/-! ### Commands (R370) -/

def cmdGpioPinConfig : CmdFn := fun _ req d => withFin 37 (req.fld 8 5 0) 8 fun p =>
  let code := if p.val < 16 then d.muxCode p else req.fld 8 11 8
  let dir := req.bit 8 16
  let cfg := clampPinCfg (req.word 0x0C)
  let keep := setFld d.gpio.pins[p].cfg 13 12 (fld cfg 13 12)
  if 11 ≤ code then badParam 8
  else if d.pinLocked p ∧ (code ≠ d.muxCode p ∨ dir ≠ d.pinDir p ∨ keep ≠ cfg) then refusedState 50
  else
    let d := (d.latchWrite p (req.bit 8 17)).pinCfgWrite p cfg
    let d := if p.val < 16 then d else d.muxField p code
    let w := if p.val < 32 then d.reg Reg.GPIO_DIR_LO else d.reg Reg.GPIO_DIR_HI
    okayKey req (0x0A00 + p.val) (d.dirWrite (32 ≤ p.val) (setFld w (p.val % 32) (p.val % 32) (if dir then 1 else 0)))

def cmdGpioXbarSet : CmdFn := fun _ req d => withFin 25 (req.fld 8 4 0) 8 fun f =>
  let v := req.fld 8 11 8 + (if req.bit 8 16 then 128 else 0)
  if v ≠ d.xbarField f ∧ d.xbarBarred f v then refusedState 50
  else okayKey req (0x0A40 + f.val) (d.xbarSet f v)

/-- A GPIO_OUTPUT request sets a lockable parameter: its mask names a pin that carries a mute. -/
def outputLockable (d : Dev) (req : Request) : Bool :=
  (allFin 37).any fun p => pinBit (req.word 8) (req.word 0x0C) p && d.mutePin p

def cmdGpioOutput : CmdFn := fun _ req d =>
  let put (a : Nat) (mask value : Word) (d : Dev) : Dev :=
    d.setReg a ((d.reg a &&& ~~~ mask) ||| (value &&& mask))
  okay (put Reg.GPIO_OUT_HI (req.word 0x0C &&& 0x1F) (req.word 0x14) (put Reg.GPIO_OUT_LO (req.word 8) (req.word 0x10) d))

def cmdGpioRead : CmdFn := fun _ _ d =>
  let input := d.pinWords (·.raw)
  let clash := d.pinWords (·.conflict)
  reply [input.1, input.2, d.reg Reg.GPIO_OUT_LO, d.reg Reg.GPIO_OUT_HI, clash.1,
    clash.2 ||| bitW 16 d.gpio.inputMulti] d

def cmdGpioLockPin : CmdFn := fun _ req d =>
  let lo := req.word 8
  let hi := req.word 0x0C &&& 0x1F
  let old := (d.journal.value 0x0A60).getD []
  let items := if req.persist then [⟨0x0A60, some [old.getD 0 0 ||| lo, old.getD 1 0 ||| hi]⟩] else []
  let d := d.lockPins lo hi
  let locked := d.pinWords (·.locked)
  .done false 0 [locked.1, locked.2] items d

end Sys2Proof.Machine
end

