-- ==== Sys2Proof/Machine/Timers.lean ====
section
/-! DEFINITION.
The timer channels: counters, compare and output, capture queues, gated widths, and Keystone's
claim on TMR3 (chapter 14). -/

namespace Sys2Proof.Machine

/-- 2^48, one lap of a counter (R371). -/
def tmrLap : Nat := 2 ^ 48

/-- TMR_CTRL.ENABLE. -/
def TimerCh.enable (c : TimerCh) : Bool := c.ctrl.getLsbD 0
/-- TMR_CTRL.MODE. -/
def TimerCh.mode (c : TimerCh) : Nat := fld c.ctrl 2 1
/-- TMR_CTRL.PRESCALE + 1. -/
def TimerCh.tickCc (c : TimerCh) : Nat := fld c.ctrl 15 8 + 1

/-- The level of TMRn_OUT after a match (R375). -/
def TimerCh.matched (c : TimerCh) : Bool :=
  match fld c.ctrl 26 24 with
  | 0 => c.out
  | 1 => true
  | 2 => false
  | _ => !c.out

/-- The counter in the next clock cycle. -/
def TimerCh.next (c : TimerCh) : Nat := if c.enable ∧ c.period ≤ c.sub + 1 then (c.counter + 1) % tmrLap else c.counter

/-- The first advance falls PRESCALE + 1 cc from now (R371). -/
def TimerCh.restart (c : TimerCh) : TimerCh := { c with sub := 0, period := c.tickCc }

/-- TMR_CTRL.CLEAR (R371). -/
def TimerCh.clear (c : TimerCh) : TimerCh :=
  { c.restart with counter := 0, queue := [], gate := none, out := c.ctrl.getLsbD 27 }

/-- TMR_CTRL as stored after R11: MODE 3 is 2, OUT_MODE 4 to 7 is 3. -/
def clampTmrCtrl (w : Word) : Word :=
  let w := w &&& 0xFFFFF07
  setFld (setFld w 2 1 (min 2 (fld w 2 1))) 26 24 (min 3 (fld w 26 24))

namespace Dev

/-- Change one timer channel. -/
def modTmr (d : Dev) (n : Fin 4) (f : TimerCh → TimerCh) : Dev :=
  { d with timers := { d.timers with ch := upd d.timers.ch n f } }

/-- Hardware sets a channel's flag of TMR_IRQ_STATUS. -/
def tmrFlag (d : Dev) (n : Fin 4) (k : Nat) : Dev := d.raiseBit Reg.TMR_IRQ_STATUS (8 * n.val + k)

/-- The counters stand still in QUIET (R386). -/
def tmrRuns (d : Dev) : Bool := d.power.state != .quiet

/-- A match: MATCH is set and the output acts (R375). (DEDUCED, log 129) -/
def tmrMatch (d : Dev) (n : Fin 4) : Dev := (d.modTmr n fun c => { c with out := c.matched }).tmrFlag n 0

/-- The counter takes the value of an advance: a wrap is flagged, and a match unless a compare value
is half written or was loaded in the cc before (R371, R374). -/
def tmrSet (d : Dev) (n : Fin 4) (v : Nat) : Dev :=
  let fresh := d.timers.ch[n].loaded
  let d := d.modTmr n fun c => { c.restart with counter := v % tmrLap, loaded := false }
  let c := d.timers.ch[n]
  let d := if c.counter = 0 then d.tmrFlag n 7 else d
  if c.half.isNone ∧ ¬ fresh ∧ c.counter = c.cmp then d.tmrMatch n else d

/-- One clock cycle of one channel. -/
def tmrTick (d : Dev) (n : Fin 4) : Dev :=
  let c := d.timers.ch[n]
  if !c.enable then d.modTmr n fun c => { c with loaded := false }
  else if c.sub + 1 < c.period then d.modTmr n fun c => { c with sub := c.sub + 1, loaded := false }
  else d.tmrSet n (c.counter + 1)

/-- One clock cycle of the four channels. -/
def tmrTicks (d : Dev) : Dev := if d.tmrRuns then (allFin 4).foldl tmrTick d else d

/-- TIMER_MATCH: an advance reaches the compare value, before any wrap. (DEDUCED, log 129) -/
def timerMatch (d : Dev) (n : Fin 4) : Dev :=
  let c := d.timers.ch[n]
  if d.tmrRuns ∧ c.enable ∧ c.half.isNone ∧ c.counter < c.cmp ∧ ¬ (c.loaded ∧ c.next = c.cmp) then
    (d.modTmr n fun c => { c with loaded := false }).tmrSet n c.cmp
  else d

/-- TIMER_WRAP: the counter wraps, no match falling before. (DEDUCED, log 129) -/
def timerWrap (d : Dev) (n : Fin 4) : Dev :=
  let c := d.timers.ch[n]
  if d.tmrRuns ∧ c.enable ∧ (c.half.isSome ∨ c.cmp ≤ c.counter) then
    (d.modTmr n fun c => { c with loaded := c.loaded && c.next == 0 }).tmrSet n 0
  else d

/-! ### Capture and gate (R376–R378) -/

/-- A capture overflow; three of TMR3 within 1 s under Keystone's claim are a loss of entry 5 (R379, Table 6.1).
 (DEDUCED, log 129) -/
def captureOverflow (d : Dev) (n : Fin 4) : Dev :=
  let d := (d.modTmr n fun c => { c with ovfCount := satInc 255 c.ovfCount }).tmrFlag n 2
  if n = 3 ∧ d.timers.owned then
    let recent := (d.cc :: d.timers.overflows.filter fun c => d.cc ≤ c + 500000000).take 3
    let d : Dev := { d with timers := { d.timers with overflows := recent } }
    if recent.length = 3 then d.refLose 5 false else d
  else d

/-- A push into a capture queue (R377). (DEDUCED, log 129) -/
def capturePush (d : Dev) (n : Fin 4) (e : CaptureEntry) : Dev :=
  let d := d.tmrFlag n 1
  if d.timers.ch[n].queue.length < 8 then d.modTmr n fun c => { c with queue := c.queue ++ [e] }
  else d.captureOverflow n

/-- A change of the channel's input in MODE 1, if CAP_EDGE selects its direction (R376). (DEDUCED, log 129) -/
def timerCapture (d : Dev) (n : Fin 4) (falling : Bool) : Dev :=
  let c := d.timers.ch[n]
  if d.tmrRuns ∧ c.mode = 1 ∧ c.ctrl.getLsbD (if falling then 17 else 16) then
    d.capturePush n ⟨c.counter, falling, false⟩
  else d

/-- Gate events of one clock cycle in MODE 2 (Table 14.1). -/
def timerGate (d : Dev) (n : Fin 4) (start stop : Bool) : Dev :=
  let c := d.timers.ch[n]
  if !d.tmrRuns ∨ c.mode ≠ 2 then d
  else
    let run (v : Option Nat) (d : Dev) : Dev := d.modTmr n fun c => { c with gate := v }
    match c.gate, start, stop with
    | none, true, true => (d.capturePush n ⟨0, false, true⟩).tmrFlag n 3
    | none, true, false => run (some c.counter) d
    | none, false, true => d.tmrFlag n 4
    | some s, _, true =>
      run (if start then some c.counter else none)
        (d.capturePush n ⟨(c.counter + tmrLap - s) % tmrLap, false, true⟩)
    | _, _, false => d

/-! ### The window (R372–R374, R377, R379) -/

/-- The channel a master reaches: TMR_SEL for the host, its own selection for Hearth. -/
def tmrSel (d : Dev) (hearth : Option (Fin 4)) : Fin 4 :=
  hearth.getD ⟨d.rfld Reg.TMR_SEL 1 0 % 4, by omega⟩

/-- Hearth's selection follows what it last reached. -/
def tmrHearth (d : Dev) (hearth : Option (Fin 4)) : Dev :=
  hearth.elim d fun n => { d with timers := { d.timers with hearthSel := n } }

/-- The latches of a master: 0 the host's, 1 Hearth's. -/
def masterOf (hearth : Option (Fin 4)) : Fin 2 := if hearth.isSome then 1 else 0

/-- A write to a window register of a channel; a host write to an owned TMR3 is ignored (R379). -/
def tmrWrite (d : Dev) (hearth : Option (Fin 4)) (f : Fin 4 → Dev → Dev) : Dev :=
  let n := d.tmrSel hearth
  let d := d.tmrHearth hearth
  if hearth.isNone ∧ n = 3 ∧ d.timers.owned then d.tmrFlag 3 5 else f n d

/-- TMR_CTRL.CLEAR is written 1. -/
def tmrClear (d : Dev) (hearth : Option (Fin 4)) : Dev :=
  d.tmrWrite hearth fun n d => d.modTmr n TimerCh.clear

/-- A write of TMR_CTRL: at ENABLE 0 to 1 the output takes OUT_INIT (R375); CLEAR acts last. -/
def tmrCtrlWrite (d : Dev) (hearth : Option (Fin 4)) (w : Word) : Dev :=
  let start (c : TimerCh) : TimerCh :=
    let new : TimerCh := { c with ctrl := clampTmrCtrl w }
    let new := if new.enable ∧ !c.enable then { new.restart with out := w.getLsbD 27 } else new
    if w.getLsbD 28 then new.clear else new
  d.tmrWrite hearth fun n d => d.modTmr n start

/-- A write of one compare half: the value is in force from the next cc, and late where the counter then stands
at it or past it (R374). -/
def tmrCmpWrite (d : Dev) (hearth : Option (Fin 4)) (high : Bool) (w : Word) : Dev :=
  d.tmrWrite hearth fun n d =>
    let d := d.modTmr n fun c => if high then { c with cmpHi := w.setWidth 16 } else { c with cmpLo := w }
    let c := d.timers.ch[n]
    if c.half = some (!high) then
      let v := c.cmpHi.toNat * 2 ^ 32 + c.cmpLo.toNat
      let d := d.modTmr n fun c => { c with half := none, cmp := v, loaded := true }
      if (c.next + tmrLap - v) % tmrLap < 2 ^ 47 then d.tmrFlag n 6 else d
    else d.modTmr n fun c => { c with half := some high }

/-- The capture of TMR_COUNT_LO latches the high half for its master (R373). -/
def tmrCountLo (d : Dev) (hearth : Option (Fin 4)) : Dev :=
  let n := d.tmrSel hearth
  (d.tmrHearth hearth).modTmr n fun c =>
    { c with countHi := c.countHi.set (masterOf hearth) (BitVec.ofNat 16 (c.counter / 2 ^ 32)) }

/-- The channel is Keystone's and the master is the host. -/
def tmrBarred (d : Dev) (hearth : Option (Fin 4)) : Bool :=
  hearth.isNone && d.tmrSel hearth == 3 && d.timers.owned

/-- The capture of TMR_CAP_LO latches the entry at the head (R377). -/
def tmrCapLatch (d : Dev) (hearth : Option (Fin 4)) : Dev :=
  let n := d.tmrSel hearth
  let bar := d.tmrBarred hearth
  (d.tmrHearth hearth).modTmr n fun c =>
    { c with capture := c.capture.set (masterOf hearth) (if bar then none else c.queue.head?) }

/-- TMR_CAP_LO was shifted out in full: a latched entry is popped (R377, R102). -/
def tmrCapPop (d : Dev) (hearth : Option (Fin 4)) : Dev :=
  let n := d.tmrSel hearth
  if d.timers.ch[n].capture[masterOf hearth].isSome then d.modTmr n fun c => { c with queue := c.queue.drop 1 }
  else d

/-- A read of TMR_CAP_LO. -/
def tmrCapLo (d : Dev) (hearth : Option (Fin 4)) (full : Bool) : Dev :=
  let d := d.tmrCapLatch hearth
  if full then d.tmrCapPop hearth else d

/-- The words of the block that are computed or windowed, as the host reads them. -/
def tmrRead (d : Dev) (a : Nat) : Option Word :=
  let n := d.tmrSel none
  let c := d.timers.ch[n]
  let own : Bool := n == 3 && d.timers.owned
  if a = Reg.TMR_OWNER then some (bitW 3 d.timers.owned)
  else if a = Reg.TMR_CTRL then some c.ctrl
  else if a = Reg.TMR_COUNT_LO then some (w32 c.counter)
  else if a = Reg.TMR_COUNT_HI then some (c.countHi[(0 : Fin 2)].setWidth 32)
  else if a = Reg.TMR_CMP_LO then some c.cmpLo
  else if a = Reg.TMR_CMP_HI then some (c.cmpHi.setWidth 32)
  else if a = Reg.TMR_CAP_LO then some (if own then 0 else w32 ((c.capture[(0 : Fin 2)].map (·.value)).getD 0))
  else if a = Reg.TMR_CAP_HI then
    some (match c.capture[(0 : Fin 2)] with
      | none => 0
      | some e => orW [at' 0 (e.value / 2 ^ 32), bitW 28 e.falling, bitW 29 e.width, bitW 31 true])
  else if a = Reg.TMR_CH_STATUS then
    some (orW [at' 0 c.queue.length, bitW 4 c.gate.isSome, bitW 5 c.half.isSome, bitW 6 own, bitW 7 c.out,
      at' 8 c.ovfCount])
  else none

/-- The TMR source of Table 4.9 (R389). -/
def tmrIrq (d : Dev) : Bool := d.reg Reg.TMR_IRQ_STATUS &&& d.reg Reg.TMR_IRQ_ENABLE != 0

/-- Keystone's claim on TMR3 begins (R379). -/
def tmrClaim (d : Dev) : Dev :=
  let take (c : TimerCh) : TimerCh :=
    { c with ctrl := 0x10003, counter := 0, sub := 0, period := 1, queue := [], gate := none, out := false }
  if d.timers.owned then d
  else let e := d.modTmr 3 take; { e with timers := { e.timers with owned := true, overflows := [] } }

/-- Keystone's claim ends: TMR3 returns to its reset values (R379). -/
def tmrUnclaim (d : Dev) : Dev :=
  if d.timers.owned then
    let e := d.modTmr 3 fun _ => TimerCh.reset
    { e with timers := { e.timers with owned := false } }
  else d

end Dev
end Sys2Proof.Machine
end

