-- ==== Sys2Proof/Machine/Sched.lean ====
section
/-! DEFINITION.
The scheduler of actions on local media time (chapter 14). -/

namespace Sys2Proof.Machine

/-- The code of an entry's state (SCHED_STATUS). -/
def schedCode : SchedState → Nat
  | .free => 0 | .armed => 1 | .held => 2 | .done => 3 | .missed => 4 | .cancelled => 5 | .failed => 6

/-- An entry that waits: ARMED or HELD. -/
def SchedEntry.waits (e : SchedEntry) : Bool := e.state == .armed || e.state == .held

namespace Dev

/-- Change one entry. -/
def modSched (d : Dev) (e : Fin 32) (f : SchedEntry → SchedEntry) : Dev := { d with sched := upd d.sched e f }

/-- Event SCHED_ENTRY (Table 14.11). -/
def schedEvent (d : Dev) (e : Fin 32) : Dev :=
  let x := d.sched[e]
  d.push 0x0B01 (orW [at' 0 e.val, at' 8 (schedCode x.state), at' 16 x.reason, bitW 24 x.late, bitW 25 x.lateCancel])

/-- An entry leaves ARMED or HELD for good: its fields, its flags and its event. -/
def schedEnd (d : Dev) (e : Fin 32) (f : SchedEntry → SchedEntry) : Dev :=
  let d := (d.modSched e f).raiseBit Reg.SCHED_IRQ_STATUS e.val
  let x := d.sched[e]
  let d := d.raiseIf x.late Reg.SCHED_MISC_STATUS 0
  let d := d.raiseIf (x.state == .missed) Reg.SCHED_MISC_STATUS 1
  let d := d.raiseIf (x.state == .failed) Reg.SCHED_MISC_STATUS 2
  (d.raiseIf x.lateCancel Reg.SCHED_MISC_STATUS 3).schedEvent e

/-- An action sets a lockable parameter (R385). -/
def schedLockable (d : Dev) (action : Nat) (target : Word) : Bool :=
  match action with
  | 1 | 2 | 4 => true
  | 3 => if h : fld target 5 0 < 37 then d.mutePin ⟨fld target 5 0, h⟩ else false
  | _ => false

/-- The bound destinations of a mask. -/
def boundMask (d : Dev) (lo hi : Word) : Word × Word :=
  let bound (i : Nat) : Bool := (d.route.dests[i]?).any fun x => x.kind != DestKind.unbound
  (lo &&& bitsW 32 bound, hi &&& bitsW 32 fun i => bound (32 + i))

/-- The action of an entry applied: the device, or the reason of R384 with a refusal's DETAIL. -/
def schedAct (d : Dev) (x : SchedEntry) : Except (Nat × Nat) Dev :=
  let stream (stop : Bool) : Except (Nat × Nat) Dev :=
    let talker := x.target.getLsbD 8
    let k := fld x.target 3 0
    let set := if talker then (d.streams.talkers[k]?).any (·.setup.isSome) else (d.streams.listeners[k]?).any (·.setup.isSome)
    if !set then .error (3, 0)
    else match if stop then d.streamStop talker k (some x.time) else d.streamStart talker k (some x.time) with
      | .done _ _ _ _ e => .ok e
      | .refuse _ detail _ => .error (2, detail)
      | _ => .ok d
  let mute (on : Bool) : Except (Nat × Nat) Dev :=
    let m := d.boundMask x.target x.target2
    if m.1 = 0 ∧ m.2 = 0 then .error (3, 0) else .ok (d.routeMute m.1 m.2 on)
  if d.schedLockable x.action x.target ∧ 3 ≤ x.cls ∧ d.mail.lockHeld then .error (1, 0)
  else
    match x.action with
    | 1 => mute true
    | 2 => mute false
    | 3 => .ok (d.latchWrite (pinOf (fld x.target 5 0)) (x.target.getLsbD 8))
    | 4 =>
      let k : Fin 64 := ⟨fld x.target 5 0 % 64, by omega⟩
      if d.route.dests[k].kind = DestKind.unbound then .error (3, 0) else .ok (d.destGain k (fldS x.target2 23 0))
    | 5 => stream false
    | _ => stream true

/-- Local media time past an entry's time, in whole µs (R382). (DEDUCED, log 130) -/
def schedLateness (d : Dev) (e : Fin 32) : Nat := (d.ks.ns - d.sched[e].time) / 1000

/-- An entry acts, or is missed, with its lateness (Table 14.3). -/
def schedFire (d : Dev) (e : Fin 32) : Dev :=
  let x := d.sched[e]
  let l := d.schedLateness e
  if 1000 * x.lateLimit < l then d.schedEnd e fun x => { x with state := .missed, lateness := l }
  else
    match d.schedAct x with
    | .ok d => d.schedEnd e fun x => { x with state := .done, lateness := l, late := l != 0 }
    | .error (r, k) => d.schedEnd e fun x =>
        { x with state := .failed, lateness := l, late := l != 0, reason := r, detail := k }

/-- A waiting entry whose time local media time has reached: with TIME_VALID 1 it acts or is missed, and with
TIME_VALID 0 an ARMED one is held (R380, R381). (DEDUCED, log 130) -/
def schedReady (d : Dev) (e : Fin 32) : Dev :=
  let x := d.sched[e]
  if ¬ x.waits ∨ d.ks.ns < x.time ∨ d.power.state = .quiet then d
  else if d.ks.timeValid then d.schedFire e
  else if x.state = .held then d
  else ((d.modSched e fun x => { x with state := .held }).raiseBit Reg.SCHED_MISC_STATUS 5).schedEvent e

/-- The comparison of one cc: every waiting entry, in ascending number (R380). -/
def schedAll (d : Dev) : Dev := (allFin 32).foldl schedReady d

/-- TIME_VALID has returned: the HELD entries act with their lateness (R381). (DEDUCED, log 130) -/
def schedRelease (d : Dev) : Dev :=
  (allFin 32).foldl (fun (d : Dev) (e : Fin 32) => if d.sched[e].state = .held then d.schedReady e else d) d

/-- An entry is cancelled; in the cc in which it is ready, with LATE_CANCEL (R383). -/
def schedCancel (d : Dev) (e : Fin 32) : Dev :=
  let late : Bool := d.sched[e].state == .armed && d.sched[e].time ≤ d.ks.ns
  if d.sched[e].waits then d.schedEnd e fun x => { x with state := .cancelled, lateCancel := late } else d

/-- A waiting entry whose action is lockable. -/
def schedLocked (d : Dev) (e : Fin 32) : Bool :=
  let x := d.sched[e]
  x.waits && d.schedLockable x.action x.target

/-- A host write to SCHED_CANCEL (R383). -/
def schedCancelWrite (d : Dev) (w : Word) : Dev :=
  (allFin 32).foldl (fun (d : Dev) (e : Fin 32) =>
    if !w.getLsbD e.val then d
    else if d.mail.lockHeld ∧ d.schedLocked e then d.raiseBit Reg.SCHED_MISC_STATUS 4
    else d.schedCancel e) d

/-- The ARMED entry with the earliest time, the lower number between equals (SCHED_NEXT). -/
def schedNext (d : Dev) : Option (Fin 32) :=
  (allFin 32).foldl (fun (b : Option (Fin 32)) (e : Fin 32) =>
    if d.sched[e].state ≠ .armed then b
    else match b with
      | none => some e
      | some k => if d.sched[e].time < d.sched[k].time then some e else b) none

/-- The computed words of the block. -/
def schedRead (d : Dev) (a : Nat) : Option Word :=
  let mask (f : SchedEntry → Bool) : Word := bitsW 32 fun i => (d.sched[i]?).any f
  if a = Reg.SCHED_ARMED then some (mask (·.waits))
  else if a = Reg.SCHED_HELD then some (mask fun x => x.state == .held)
  else if a = Reg.SCHED_NEXT then
    some (match d.schedNext with | none => 0 | some e => at' 0 e.val ||| bitW 8 true)
  else none

/-- The SCHED source of Table 4.9 (R390). -/
def schedIrq (d : Dev) : Bool :=
  d.reg Reg.SCHED_IRQ_STATUS &&& d.reg Reg.SCHED_IRQ_ENABLE != 0
    || d.reg Reg.SCHED_MISC_STATUS &&& d.reg Reg.SCHED_MISC_EN != 0

/-! ### Commands (R385, R391) -/

/-- The stream of an entry is that of a DIR and an index. -/
def sameStream (x : SchedEntry) (target : Word) : Bool :=
  x.target.getLsbD 8 == target.getLsbD 8 && fld x.target 3 0 == fld target 3 0

/-- A STREAM_STOP before its start, or a STREAM_START after its stop (R385). -/
def schedOrderBad (d : Dev) (action : Nat) (target : Word) (time : Nat) : Bool :=
  let k := fld target 3 0
  let startAt := if target.getLsbD 8 then (d.streams.talkers[k]?).bind (·.startAt) else (d.streams.listeners[k]?).bind (·.startAt)
  let other (a : Nat) (bad : Nat → Bool) : Bool :=
    (allFin 32).any fun e =>
      let x := d.sched[e]
      x.waits && x.action == a && sameStream x target && bad x.time
  match action with
  | 6 => startAt.any (fun t => time ≤ t) || other 5 fun t => time ≤ t
  | 5 => other 6 fun t => t ≤ time
  | _ => false

/-- The stream of a stream action is in a Lintel group (R226). -/
def schedGrouped (d : Dev) (action : Nat) (target : Word) : Bool :=
  5 ≤ action && !target.getLsbD 8 && (d.streams.listeners[fld target 3 0]?).any (·.group.isSome)

/-- The authority class of a source for an action (Table 5.5). -/
def sourceClass (d : Dev) (src : Source) (lockable : Bool) : Nat :=
  match src with
  | .mb0 | .mb1 => 3
  | .tester => if lockable && d.mail.lockHeld then 2 else 4
  | .remote => 5

end Dev

/-- The target of SCHED_SET is in range (R391). -/
def schedTargetOk (action : Nat) (target : Word) : Bool :=
  match action with
  | 3 => fld target 5 0 ≤ 36
  | 5 | 6 => !target.getLsbD 8 || fld target 3 0 < 8
  | _ => true

/-- (DEDUCED, log 130) -/
def cmdSchedSet : CmdFn := fun src req d => withFin 32 (req.fld 8 4 0) 8 fun e =>
  let action := req.fld 8 11 8
  let target := req.word 0x18
  let time := ((req.word 0x0C).toNat + req.fld 0x10 15 0 * 2 ^ 32) * 1000000000 + (req.word 0x14).toNat
  let entry : SchedEntry := { SchedEntry.reset with
    state := .armed
    action := action
    lateLimit := req.fld 8 31 16
    time := time
    target := target
    target2 := req.word 0x1C
    cls := d.sourceClass src (d.schedLockable action target) }
  if action < 1 ∨ 6 < action then badParam 8
  else if !schedTargetOk action target then badParam 0x18
  else if d.sched[e].waits then refusedState 1
  else if !d.ks.timeValid then refusedState 5
  else if time ≤ d.ks.ns then refusedState 61
  else if d.schedGrouped action target then refusedState 7
  else if d.schedOrderBad action target time then refusedState 3
  else okay ((d.modSched e fun _ => entry).schedEvent e)

def cmdSchedCancel : CmdFn := fun src req d =>
  let w := req.word 8
  let named := (allFin 32).filter fun e => w.getLsbD e.val && d.sched[e].waits
  if d.mail.lockHeld ∧ src ≠ .tester ∧ named.any (d.schedLocked ·) then .refuse .busyAuthority 2 []
  else reply [orW (named.map fun e => bitW e.val true)] (named.foldl (fun (d : Dev) (e : Fin 32) => d.schedCancel e) d)

def cmdSchedStatus : CmdFn := fun _ req d => withFin 32 (req.fld 8 4 0) 8 fun e =>
  let x := d.sched[e]
  let sec := x.time / 1000000000
  reply [orW [at' 0 (schedCode x.state), at' 8 x.action, at' 16 x.reason, bitW 24 x.late, bitW 25 x.lateCancel,
      at' 28 x.cls], w32 sec, at' 0 (sec / 2 ^ 32), w32 (x.time % 1000000000), x.target, x.target2,
    w32 (min 4294967295 x.lateness), at' 0 (x.detail % 256)] d

end Sys2Proof.Machine
end

