-- ==== Sys2Proof/Machine/Can.lean ====
section
/-! DEFINITION.
The CAN FD controller: reception, transmission, fault confinement, INIT, and the ISO 15765-2
transport of the workshop tester, with the CAN commands (chapter 12). -/

namespace Sys2Proof.Machine

/-- The frame lengths a DLC encodes. -/
def dlcLengths : List Nat := [0, 1, 2, 3, 4, 5, 6, 7, 8, 12, 16, 20, 24, 32, 48, 64]

/-- The next frame length at or above a number of bytes. -/
def dlcLen (n : Nat) : Nat := (dlcLengths.find? fun l => n ≤ l).getD 64

/-- Bytes filled with 0xAA to the frame length that carries them (R330). -/
def canPad (fd : Bool) (l : List Byte) : List Byte :=
  l ++ List.replicate ((if fd then dlcLen l.length else 8) - l.length) 0xAA

/-- The code of a fault-confinement state (CAN_ERR.FC_STATE). -/
def fcCode : FcState → Nat | .active => 0 | .passive => 1 | .busOff => 2

/-- The code of an error (CAN_ERR.LAST_ERROR) and its counter of Table 12.13. -/
def canErrorCode : CanError → Nat × Fin 16
  | .stuff => (1, 5) | .form => (2, 6) | .ack => (3, 8) | .bit1 => (4, 4) | .bit0 => (5, 4) | .crc => (6, 7)

/-- Bus arbitration: the identifier field two frames are compared by, the lower winning (R320):
the base identifier, then base before extended, then the extension. -/
def arbKey (id : BitVec 29) (ide : Bool) : Nat :=
  if ide then id.toNat / 2 ^ 18 * 2 ^ 19 + 2 ^ 18 + id.toNat % 2 ^ 18 else id.toNat % 2048 * 2 ^ 19

/-- An identifier as an object keeps it: 11 bits where IDE is 0. (DEDUCED, log 118) -/
def canId (w : Word) (ide : Bool) : BitVec 29 := BitVec.ofNat 29 (if ide then fld w 28 0 else fld w 10 0)

/-- A nominal or data rate of at most 500 MHz / `least`: the bit time in quanta of 2 ns. -/
def bitTime (brp t1 t2 : Nat) : Nat := (brp + 1) * (1 + (t1 + 1) + (t2 + 1))

namespace Dev

/-- Change the CAN state. -/
def modCan (d : Dev) (f : Can → Can) : Dev := { d with can := f d.can }

/-- Change one message object. -/
def modObj (d : Dev) (n : Fin 32) (f : CanObj → CanObj) : Dev :=
  d.modCan fun c => { c with objs := upd c.objs n f }

/-- A counter of Table 12.13 counts, wrapping at 2^32 (R344). -/
def canCount (d : Dev) (k : Fin 16) : Dev :=
  d.modCan fun c => { c with counters := upd c.counters k (wrapInc 32) }

/-- CAN_ERR. -/
def canErrWord (d : Dev) : Word :=
  orW [at' 0 (d.can.tec % 512), at' 16 (d.can.recErr % 256), at' 24 (fcCode d.can.fc), at' 28 d.can.lastError]

/-- The bus is in use: the controller takes part in it. -/
def canOn (d : Dev) : Bool := !d.can.initAck && d.can.fc != .busOff

/-- CAN_STATUS. The rows move whole frames, so that RX_ACTIVE reads 0 between them.
 (DEDUCED, log 117; DESIGN CHOICE, log 20) -/
def canStatusWord (d : Dev) : Word :=
  orW [bitW 0 d.can.initAck, bitW 1 (d.canOn && d.can.sending.isNone), bitW 2 d.can.sending.isSome,
    at' 4 (if d.can.recovering then (Config.recoverySeen d.freeIdx).val else 0), bitW 12 d.can.alone,
    at' 13 d.can.uds.session, bitW 15 d.mail.lockHeld, bitW 16 d.can.uds.unlocked]

/-- CAN_TX_PENDING. -/
def canPendingWord (d : Dev) : Word := bitsW 32 fun i => (d.can.objs[i]?.map (·.pending)).getD false

/-- CAN_RX_NEW: the objects that hold an unread frame. -/
def canNewWord (d : Dev) : Word :=
  bitsW 32 fun i => ((d.can.objs[i]?.bind (·.held)).map (·.unread)).getD false

/-- The CAN source of Table 4.9. -/
def canIrq (d : Dev) : Bool := d.reg Reg.CAN_IRQ_STATUS &&& d.reg Reg.CAN_IRQ_ENABLE != 0

/-! ### Requests (R320, R321, R324) -/

/-- A request ends without success: TX_ABORTED is set and counts. (DEDUCED, log 116) -/
def canAbort (d : Dev) (n : Fin 32) : Dev :=
  ((d.modObj n fun o => { o with pending := false, aborting := false }).raiseBit
    Reg.CAN_IRQ_STATUS 6).canCount 12

/-- A transmit object's transmission is requested (R320): in BUS_OFF with ABORT_ON_BUSOFF it is
flushed at once (R324). (DEDUCED, log 116) -/
def canRequest (d : Dev) (n : Fin 32) : Dev :=
  if d.can.objs[n].transmit then
    if d.can.fc = .busOff ∧ d.rbit Reg.CAN_CTRL 5 then d.canAbort n
    else d.modObj n fun o => { o with pending := true, aborting := false }
  else d

/-- Object 2 takes the next frame the transport has to send, if it is free. -/
def testerKick (d : Dev) : Dev :=
  match d.can.out with
  | [] => d
  | f :: t =>
    if d.can.objs[(2 : Fin 32)].pending then d
    else
      let c := d.can.tester
      let load (o : CanObj) : CanObj :=
        { o with enable := true, transmit := true, ide := c.ide, fd := c.fd, brs := c.brs, id := c.response, data := f }
      ((d.modCan fun x => { x with out := t }).modObj 2 load).canRequest 2

/-- Frames of the transport join those that wait. -/
def testerQueue (d : Dev) (frames : List (List Byte)) : Dev :=
  (d.modCan fun c => { c with out := c.out ++ frames }).testerKick

/-- CAN_TX_REQ is written (Table 12.12): bits of transmit objects 4 to 31. -/
def canTxReq (d : Dev) (w : Word) : Dev :=
  (allFin 32).foldl (fun (d : Dev) (n : Fin 32) => if 4 ≤ n.val ∧ w.getLsbD n then d.canRequest n else d) d

/-- CAN_TX_ABORT is written: a frame on the bus completes (Table 12.8), another request ends. -/
def canTxAbort (d : Dev) (w : Word) : Dev :=
  (allFin 32).foldl (fun (d : Dev) (n : Fin 32) =>
    if 4 ≤ n.val ∧ w.getLsbD n then
      if d.can.sending = some n then d.modObj n fun o => { o with aborting := true }
      else d.modObj n fun o => { o with pending := false }
    else d) d

/-- Every pending request is flushed at entry to BUS_OFF (R324); the transport's frames that wait
go with that of object 2. (DEDUCED, log 119) -/
def canFlush (d : Dev) : Dev :=
  let d := d.modCan fun c => { c with out := [], tx := none }
  (allFin 32).foldl (fun (d : Dev) (n : Fin 32) => if d.can.objs[n].pending then d.canAbort n else d) d

/-! ### Fault confinement (R322–R325) -/

/-- The state that TEC and REC give (Table 12.3). BUS_OFF is left by recovery alone. -/
def fcNext (c : Can) : FcState :=
  if c.fc = .busOff then .busOff
  else if 255 < c.tec then .busOff
  else if 127 < c.tec ∨ 127 < c.recErr then .passive
  else .active

/-- A change of the fault-confinement state: its flag, its counter, event CAN_FC (R342). -/
def fcEnter (d : Dev) (s : FcState) (flag : Nat) (count : Option (Fin 16)) : Dev :=
  let old := d.can.fc
  let d := d.modCan fun c => { c with fc := s }
  let d := (count.elim d d.canCount).raiseBit Reg.CAN_IRQ_STATUS flag
  d.push 0x0901 (orW [at' 0 (fcCode s), at' 2 (fcCode old), at' 8 (d.can.tec % 512), at' 24 (d.can.recErr % 256)])

/-- The fault-confinement state follows the counters. -/
def fcFollow (d : Dev) : Dev :=
  let s := fcNext d.can
  if s = d.can.fc then d
  else
    match s with
    | .active => d.fcEnter .active 3 none
    | .passive => d.fcEnter .passive 0 (some 9)
    | .busOff =>
      let d := (d.fcEnter .busOff 1 (some 10)).modCan fun c => { c with recovering := d.rbit Reg.CAN_CTRL 3 }
      if d.rbit Reg.CAN_CTRL 5 then d.canFlush else d

/-- Recovery is started by the host or by CAN_SETUP (R325). -/
def canRecover (d : Dev) : Dev :=
  if d.can.fc = .busOff then d.modCan fun c => { c with recovering := true } else d

/-- 128 occurrences of 11 recessive bits: recovery ends, unless INIT suspends it (R325, R328). -/
def canRecovered (d : Dev) : Dev :=
  if d.can.fc = .busOff ∧ d.can.recovering ∧ !d.can.initAck then
    ((d.modCan fun c => { c with tec := 0, recErr := 0, recovering := false }).fcEnter .active 2 (some 11)).testerKick
  else d

/-! ### Transmission (R320, R321, R326, R327) -/

/-- The objects whose frame may be offered. (DEDUCED, log 116) -/
def canReady (d : Dev) : List (Fin 32) :=
  (allFin 32).filter fun n =>
    let o := d.can.objs[n]
    o.enable && o.transmit && o.pending && (!o.fd || d.rbit Reg.CAN_CTRL 1)

/-- The top-priority message (R320): the lowest in arbitration, and of equals the lowest object. (DEDUCED, log 116) -/
def canTop (d : Dev) : Option (Fin 32) :=
  d.canReady.foldl (fun (best : Option (Fin 32)) (n : Fin 32) =>
    match best with
    | none => some n
    | some b =>
      let key (k : Fin 32) : Nat := arbKey d.can.objs[k].id d.can.objs[k].ide
      if key n < key b then some n else best) none

/-- In ERROR_PASSIVE the node that has sent a frame waits 8 bit times after the intermission of 3 before it starts
another (R323). A quantum is 2 ns times BRP, which is BRP cc. (DEDUCED, log 117) -/
def canSuspend (d : Dev) : Dev :=
  let n (hi lo : Nat) : Nat := fld d.can.nbt hi lo
  if d.can.fc = .passive then
    d.modCan fun c => { c with suspendEnd := d.cc + 11 * bitTime (n 8 0) (n 16 9) (n 23 17) }
  else d

/-- A start of frame: the top-priority message is offered, the suspend transmission of R323 over. -/
def canTxStart (d : Dev) : Dev :=
  if d.canOn ∧ !d.rbit Reg.CAN_CTRL 0 ∧ !d.can.listen ∧ d.can.sending.isNone ∧ d.can.suspendEnd ≤ d.cc then
    d.modCan fun c => { c with sending := d.canTop }
  else d

/-- A transmission succeeds. -/
def canSent (d : Dev) (n : Fin 32) (delay : Option Nat) : Dev :=
  let o := d.can.objs[n]
  let d := d.canCount 0
  let d := if o.fd then d.canCount 2 else d
  let d := d.modObj n fun o => { o with pending := false, aborting := false }
  let brs := o.fd && o.brs && d.rbit Reg.CAN_CTRL 2 && d.can.dbt.getLsbD 23
  let upd (c : Can) : Can := { c with
    sending := none, tec := c.tec - 1, ackRun := 0, alone := false
    tdc := if brs then min 255 (delay.getD c.tdc) else c.tdc }
  let was := d.can.alone
  let d := (d.modCan upd).pushIf was 0x0902 0
  let d := if 4 ≤ n.val then
      (d.raiseBit Reg.CAN_IRQ_STATUS 4).raise Reg.CAN_TX_DONE (bitW n true) else d
  d.fcFollow.canSuspend.testerKick

/-- A transmission loses arbitration or ends in an error: the request ends under single-shot or
an abort, else it is retried. -/
def canUnsent (d : Dev) (n : Fin 32) : Dev :=
  let o := d.can.objs[n]
  let d := d.modCan fun c => { c with sending := none }
  if d.rbit Reg.CAN_CTRL 6 ∨ o.oneShot ∨ o.aborting then d.canAbort n else d

/-- TEC is left as it is by an error ISO 11898-1 exempts: an ACK error in ERROR_PASSIVE with no dominant bit during
the passive error flag (R326), and a stuff error in the arbitration. (PRESUMED, log 115) -/
def canExempt (d : Dev) (e : CanError) (told : Bool) : Bool :=
  told && (e == .stuff || (e == .ack && d.can.fc == .passive))

/-- A transmission attempt ends (R321). -/
def canTxComplete (d : Dev) (r : TxOutcome) : Dev :=
  match d.can.sending with
  | none => d
  | some n =>
    match r with
    | .success delay => d.canSent n delay
    | .lost => ((d.canCount 14).canUnsent n).testerKick
    | .failed e exempt =>
      let (code, k) := canErrorCode e
      let upd (c : Can) : Can := { c with
        lastError := code, tec := if d.canExempt e exempt then c.tec else c.tec + 8
        ackRun := if e = .ack then satInc 65535 c.ackRun else c.ackRun }
      (((d.canCount k).modCan upd).canUnsent n).fcFollow.canSuspend.testerKick

/-- 64 consecutive ACK errors: the node is alone (R327). -/
def canAlone (d : Dev) : Dev :=
  if 64 ≤ d.can.ackRun ∧ !d.can.alone then
    ((d.modCan fun c => { c with alone := true }).raiseBit Reg.CAN_IRQ_STATUS 8).push 0x0902 1
  else d

/-! ### INIT (R328, R329, R339) -/

/-- One waiting CAN_SETUP is applied in INIT, INIT written 0 if ENABLE, and the command answered. -/
def canSetupApply (d : Dev) (s : CanSetup) : Dev :=
  let d := (d.setReg Reg.CAN_NBT s.nbt).setReg Reg.CAN_DBT s.dbt
  let d := d.setReg Reg.CAN_CTRL ((s.ctrl &&& 0x1EE) ||| bitW 0 (!s.enable))
  d.canRecover.respondOk s.reply 0x0901 []

/-- INIT is entered: the controller leaves the bus. A CAN_SETUP that waits is applied. -/
def canInitEnter (d : Dev) : Dev :=
  if d.rbit Reg.CAN_CTRL 0 ∧ !d.can.initAck ∧ d.can.sending.isNone then
    let waiting := d.can.setup
    let d := (d.modCan fun c => { c with initAck := true, ackRun := 0, setup := [] }).raiseBit Reg.CAN_IRQ_STATUS 9
    waiting.foldl (fun (d : Dev) (s : CanSetup) => d.canSetupApply s) d
  else d

/-- INIT is left: the staged timing applies and the node joins the bus. It is not left in BOOT, but on entry to
ACTIVE (chapter 12, Configuration). -/
def canInitExit (d : Dev) : Dev :=
  if !d.rbit Reg.CAN_CTRL 0 ∧ d.can.initAck ∧ d.power.state ≠ .boot then
    let upd (c : Can) : Can := { c with
      initAck := false, nbt := d.reg Reg.CAN_NBT, dbt := d.reg Reg.CAN_DBT, listen := d.rbit Reg.CAN_CTRL 7 }
    d.modCan upd
  else d

/-! ### Transport (R330) -/

/-- The bytes of one frame of the transport. (PRESUMED, log 115) -/
def testerFrame (d : Dev) (l : List Byte) : List Byte := canPad d.can.tester.fd l

/-- The bytes a frame of the tester's transport carries. -/
def testerDl (d : Dev) : Nat := if d.can.tester.fd then d.can.tester.txDl else 8

/-- `k` consecutive frames of a segmented message, from a sequence number. -/
def consecutive (dl : Nat) : Nat → Nat → List Byte → List (List Byte)
  | 0, _, _ => []
  | k + 1, sn, rest =>
    if rest.isEmpty then []
    else (BitVec.ofNat 8 (0x20 + sn % 16) :: rest.take (dl - 1)) :: consecutive dl k (sn + 1) (rest.drop (dl - 1))

/-- A message of the diagnostic server is sent: in a single frame, or a first frame and, after
flow control, consecutive frames. (PRESUMED, log 115) -/
def testerSend (d : Dev) (bytes : List Byte) : Dev :=
  let dl := d.testerDl
  let n := bytes.length
  let d := d.modCan fun c => { c with uds := { c.uds with response := some bytes } }
  if n ≤ 7 then d.testerQueue [d.testerFrame (BitVec.ofNat 8 n :: bytes)]
  else if 8 < dl ∧ n ≤ dl - 2 then d.testerQueue [d.testerFrame (0 :: BitVec.ofNat 8 n :: bytes)]
  else
    let first := BitVec.ofNat 8 (0x10 + n / 256) :: BitVec.ofNat 8 n :: bytes.take (dl - 2)
    let d := d.modCan fun c => { c with tx := some ⟨bytes.drop (dl - 2), 1⟩ }
    d.testerQueue [d.testerFrame first]

/-- Flow control goes out: clear to send or overflow, BS 8, STmin 0. -/
def flowControl (d : Dev) (status : Byte) : Dev := d.testerQueue [d.testerFrame [status, 8, 0]]

/-- Flow control arrives for the message being sent: BS frames follow, all if BS is 0. -/
def flowReceived (d : Dev) (status bs : Nat) : Dev :=
  match d.can.tx with
  | none => d
  | some t =>
    match status with
    | 0 =>
      let dl := d.testerDl
      let k := if bs = 0 then 4096 else bs
      let rest := t.rest.drop (k * (dl - 1))
      let d := d.modCan fun c => { c with tx := if rest.isEmpty then none else some ⟨rest, (t.sn + k) % 16⟩ }
      d.testerQueue ((consecutive dl k t.sn t.rest).map d.testerFrame)
    | 1 => d
    | _ => d.modCan fun c => { c with tx := none }

/-- A consecutive frame of the request being received. -/
def consecutiveReceived (d : Dev) (sn : Nat) (bytes : List Byte) : Dev :=
  match d.can.rx with
  | none => d
  | some r =>
    if r.length ≤ r.bytes.length then d
    else if sn ≠ r.sn then d.modCan fun c => { c with rx := none }
    else
      let got := (r.bytes ++ bytes).take r.length
      let whole : Bool := got.length = r.length
      let next : IsoRx := { r with bytes := got, sn := (r.sn + 1) % 16, block := (r.block + 1) % 8 }
      let d := d.modCan fun c => { c with rx := some next }
      if !whole ∧ next.block = 0 then d.flowControl 0x30 else d

/-- A frame for the tester's transport: physical, or functional, where single frames alone count.
 (DEDUCED, log 119) -/
def testerFrameReceived (d : Dev) (functional : Bool) (l : List Byte) : Dev :=
  let b (i : Nat) : Nat := (l.getD i 0).toNat
  let take (n : Nat) (bytes : List Byte) : Dev :=
    d.modCan fun c => { c with rx := some ⟨n, bytes, 1, 0, functional⟩ }
  match b 0 / 16 with
  | 0 =>
    let long : Bool := 8 < l.length && b 0 = 0
    let n := if long then b 1 else b 0
    let room := if long then l.length - 2 else min 7 (l.length - 1)
    if n = 0 ∨ room < n ∨ (8 < l.length ∧ !long) then d
    else take n ((l.drop (if long then 2 else 1)).take n)
  | 1 =>
    let n := b 0 % 16 * 256 + b 1
    if functional ∨ l.length < 8 then d
    else if n = 0 then d.flowControl 0x32
    else if n < (if l.length = 8 then 8 else l.length - 1) then d
    else (take n (l.drop 2)).flowControl 0x30
  | 2 => if functional then d else d.consecutiveReceived (b 0 % 16) (l.drop 1)
  | 3 => if functional then d else d.flowReceived (b 0 % 16) (b 1)
  | _ => d

/-- A timeout of the transport: what was being received or sent is abandoned. (DEDUCED, log 119) -/
def isoTimeout (d : Dev) : Dev :=
  let busy : Bool := d.can.sending == some 2
  (d.modCan fun c => { c with rx := none, tx := none, out := [] }).modObj 2 fun o =>
    { o with pending := o.pending && busy, aborting := busy }

/-! ### Reception (R319) -/

/-- The tester's objects 0 and 1 take a frame: `true` for the functional one. -/
def testerTakes (d : Dev) (f : CanFrame) : Option Bool :=
  let t := d.can.tester
  if d.rbit Reg.CAN_CTRL 8 ∧ f.ide = t.ide ∧ (!f.fd ∨ t.fd) then
    if f.id = t.physical then some false else if f.id = t.functional then some true else none
  else none

/-- The receive object that takes a frame: the lowest that matches under its mask. -/
def canTaker (d : Dev) (f : CanFrame) : Option (Fin 32) :=
  (allFin 32).find? fun n =>
    let o := d.can.objs[n]
    4 ≤ n.val && o.enable && !o.transmit && o.ide == f.ide && (!f.fd || o.fd)
      && (o.id ^^^ f.id) &&& o.mask &&& (if f.ide then 0x1FFFFFFF else 0x7FF) == 0

/-- A frame is copied into a host's object. -/
def canDeliver (d : Dev) (n : Fin 32) (f : CanFrame) : Dev :=
  let unread := (d.can.objs[n].held.map (·.unread)).getD false
  let d := d.modObj n fun o => { o with held := some ⟨f, d.ks.nsec, true, unread⟩ }
  let d := d.raiseBit Reg.CAN_IRQ_STATUS 5
  if unread then (d.raiseBit Reg.CAN_IRQ_STATUS 7).canCount 13 else d.push 0x0903 (at' 0 n)

/-- REC after a frame received without error, as ISO 11898-1 prescribes. (DESIGN CHOICE, log 20; PRESUMED, log 115) -/
def recDown (d : Dev) : Dev :=
  if 127 < d.can.recErr then
    let (k, d) := d.fresh
    d.modCan fun c => { c with recErr := 119 + (Config.recStep k).val }
  else d.modCan fun c => { c with recErr := c.recErr - 1 }

/-- A frame is received that passes the checks of ISO 11898-1. A remote frame is never
delivered (Table 12.1). -/
def canReceive (d : Dev) (f : CanFrame) : Dev :=
  if !d.canOn ∨ d.can.sending.isSome ∨ (f.fd ∧ !d.rbit Reg.CAN_CTRL 1) then d
  else
    let d := (d.canCount 1).modCan fun c => { c with suspendEnd := d.cc }
    let d := if f.fd then d.canCount 3 else d
    let d := d.recDown.fcFollow
    if f.remote then d
    else
      match d.testerTakes f with
      | some functional => d.testerFrameReceived functional f.data
      | none => (d.canTaker f).elim d fun n => d.canDeliver n f

/-- A frame is received with an error: an error flag, and REC up by 1, and by 8 more where a
dominant bit follows the flag. (DEDUCED, log 117) -/
def canReceiveError (d : Dev) (e : CanError) (dominantAfter : Bool) : Dev :=
  if !d.canOn ∨ d.can.sending.isSome then d
  else
    let (code, k) := canErrorCode e
    let upd (c : Can) : Can := { c with
      lastError := code, recErr := min 255 (c.recErr + (if dominantAfter then 9 else 1)) }
    ((d.canCount k).modCan upd).fcFollow

/-! ### The diagnostic session's end (R332) -/

/-- Event UDS_SESSION (Table 12.16). -/
def pushSession (d : Dev) : Dev :=
  d.push 0x0904 (orW [at' 0 d.can.uds.session, bitW 8 d.can.uds.unlocked, bitW 9 d.mail.lockHeld])

/-- The session returns to default, security locks and the control lock is given back. -/
def sessionEnd (d : Dev) : Dev :=
  let u := d.can.uds
  if u.session ≠ 0 ∨ u.unlocked ∨ d.mail.lockHeld then
    let held := d.mail.lockHeld
    let d : Dev := { d with mail := { d.mail with lockHeld := false } }
    let d := d.modCan fun c => { c with uds := { c.uds with session := 0, unlocked := false, seed := none } }
    (d.pushIf held 0x0006 0).pushSession
  else d

/-- QUIET entry (R329, Table 12.8): the session ends and INIT is written 1. -/
def canQuiet (d : Dev) : Dev :=
  let d := d.sessionEnd
  (d.modCan fun c => { c with quietInit := d.rbit Reg.CAN_CTRL 0 }).setRbit Reg.CAN_CTRL 0 true

/-- Exit from QUIET: INIT is written 0 if it was 0 at entry (R329). -/
def canQuietExit (d : Dev) : Dev := if d.can.quietInit then d else d.setRbit Reg.CAN_CTRL 0 false

end Dev

/-! ### Commands (R339, R340, R345) -/

/-- The timing words CAN_SETUP accepts (R339 and the limits of chapter 12); the offset of the first
that fails. -/
def canTimingBad (nbt dbt : Word) : Option Nat :=
  let n (hi lo : Nat) : Nat := fld nbt hi lo
  let k (hi lo : Nat) : Nat := fld dbt hi lo
  if n 16 9 < 1 ∨ n 23 17 < 1 ∨ bitTime (n 8 0) (n 16 9) (n 23 17) < 500 ∨ n 23 17 < n 30 24 then some 8
  else if bitTime (k 4 0) (k 9 5) (k 13 10) < 100 ∨ k 13 10 < k 17 14 then some 0x0C
  else none

def cmdCanSetup : CmdFn := fun src req d =>
  match canTimingBad (req.word 8) (req.word 0x0C) with
  | some off => badParam off
  | none =>
    let s : CanSetup := {
      nbt := req.word 8 &&& 0x7FFFFFFF
      dbt := req.word 0x0C &&& 0xFF83FFFF
      ctrl := req.word 0x10
      enable := req.bit 0x10 16
      reply := (src, req.tag) }
    let items := if req.persist then [⟨0x0900, some req.payload⟩] else []
    if d.can.initAck then
      let d := (d.setReg Reg.CAN_NBT s.nbt).setReg Reg.CAN_DBT s.dbt
      .done false 0 [] items (d.setReg Reg.CAN_CTRL ((s.ctrl &&& 0x1EE) ||| bitW 0 (!s.enable))).canRecover
    else .later items ((d.modCan fun c => { c with setup := c.setup ++ [s] }).setRbit Reg.CAN_CTRL 0 true)

/-- A TX_DL of Table 12.2: the largest at or below the value, from 8 to 64. (DEDUCED, log 118) -/
def clampTxDl (n : Nat) : Nat := ((dlcLengths.filter fun l => 8 ≤ l && l ≤ n).getLast?).getD 8

def cmdCanTesterSet : CmdFn := fun _ req d =>
  let ide := req.bit 8 31
  let fd := req.bit 0x14 0
  let t : TesterCfg := {
    physical := canId (req.word 8) ide
    functional := canId (req.word 0x0C) ide
    response := canId (req.word 0x10) ide
    ide := ide
    fd := fd
    brs := req.bit 0x14 1
    txDl := if fd then clampTxDl (req.fld 0x14 15 8) else 8
    secret := if req.bit 0x14 24 then some (req.word 0x18) else none }
  if d.can.uds.session ≠ 0 then refusedState 40
  else if t.physical = t.functional ∨ t.physical = t.response ∨ t.functional = t.response then refusedState 41
  else okayKey req 0x0901 ((d.modCan fun c => { c with tester := t }).setRbit Reg.CAN_CTRL 8 (req.bit 0x14 16))

/-- An object of the host's, from its field in bits 4:0 of the first payload word. -/
def withObj (req : Request) (k : Fin 32 → CmdResult) : CmdResult :=
  withFin 32 (req.fld 8 4 0) 8 fun n => if n.val < 4 then badParam 8 else k n

/-- A data length an object's frame can carry. -/
def lengthOk (fd : Bool) (n : Nat) : Bool := dlcLengths.contains n && (fd || n ≤ 8)

/-- LENGTH of a request that carries data bytes after `base`, in whole words. (DEDUCED, log 118) -/
def dataLength (base n : Nat) : Nat := base + 4 * ((n + 3) / 4)

/-- (DEDUCED, log 116) -/
def cmdCanMoSet : CmdFn := fun _ req d => withObj req fun n =>
  let len := req.fld 8 22 16
  let ide := req.bit 8 10
  let set (o : CanObj) : CanObj := { o with
    enable := req.bit 8 8
    transmit := req.bit 8 9
    ide := ide
    fd := req.bit 8 11
    brs := req.bit 8 12
    oneShot := req.bit 8 13
    id := canId (req.word 0x0C) ide
    mask := BitVec.ofNat 29 (req.fld 0x10 28 0)
    data := (wordBytes (req.payload.drop 3)).take len }
  if !lengthOk (req.bit 8 11) len then badParam 8
  else if req.length ≠ dataLength 12 len then .refuse .badLength (dataLength 12 len / 4) []
  else if d.can.objs[n].pending then refusedState 42
  else okayKey req (0x0910 + n.val) (d.modObj n set)

def cmdCanMoSend : CmdFn := fun _ req d => withObj req fun n =>
  let len := req.fld 8 22 16
  let o := d.can.objs[n]
  if !o.transmit then refusedState 43
  else if !lengthOk o.fd len then badParam 8
  else if req.length ≠ dataLength 4 len then .refuse .badLength (dataLength 4 len / 4) []
  else okay ((d.modObj n fun o => { o with data := (wordBytes (req.payload.drop 1)).take len }).canRequest n)

/-- (DEDUCED, log 118) -/
def cmdCanMoRead : CmdFn := fun _ req d => withObj req fun n =>
  match d.can.objs[n].held with
  | none => reply [0, 0, 0] d
  | some h =>
    let f := h.frame
    let head := [orW [f.id.setWidth 32, bitW 29 f.ide, bitW 30 f.fd, bitW 31 f.brs],
      orW [at' 0 f.data.length, bitW 8 f.esi, bitW 9 h.unread, bitW 10 h.lost], w32 h.time]
    reply (head ++ packWords f.data)
      (d.modObj n fun o => { o with held := some { h with unread := false, lost := false } })

def cmdCanState : CmdFn := fun _ _ d =>
  reply [d.canErrWord, d.canStatusWord, w32 d.can.ackRun, w32 d.can.counters[(10 : Fin 16)]] d

end Sys2Proof.Machine
end

