-- ==== Sys2Proof/Machine/Tap.lean ====
section
/-! DEFINITION.
The test access port with its instructions and registers, the taking and release of the pins, and
the field self-tests (chapter 15). -/

namespace Sys2Proof.Machine

/-- The next state of the TAP controller at a rising TCK (IEEE 1149.1). -/
def TapState.next (s : TapState) (tms : Bool) : TapState :=
  match s, tms with
  | .reset, true => .reset
  | .reset, false => .idle
  | .idle, true => .selectDr
  | .idle, false => .idle
  | .selectDr, true => .selectIr
  | .selectDr, false => .captureDr
  | .captureDr, true => .exit1Dr
  | .captureDr, false => .shiftDr
  | .shiftDr, true => .exit1Dr
  | .shiftDr, false => .shiftDr
  | .exit1Dr, true => .updateDr
  | .exit1Dr, false => .pauseDr
  | .pauseDr, true => .exit2Dr
  | .pauseDr, false => .pauseDr
  | .exit2Dr, true => .updateDr
  | .exit2Dr, false => .shiftDr
  | .updateDr, true => .selectDr
  | .updateDr, false => .idle
  | .selectIr, true => .reset
  | .selectIr, false => .captureIr
  | .captureIr, true => .exit1Ir
  | .captureIr, false => .shiftIr
  | .shiftIr, true => .exit1Ir
  | .shiftIr, false => .shiftIr
  | .exit1Ir, true => .updateIr
  | .exit1Ir, false => .pauseIr
  | .pauseIr, true => .exit2Ir
  | .pauseIr, false => .pauseIr
  | .exit2Ir, true => .updateIr
  | .exit2Ir, false => .shiftIr
  | .updateIr, true => .selectDr
  | .updateIr, false => .idle

/-- The data registers an instruction selects (Table 15.1). -/
inductive TapReg where | boundary | ident | bypass
  deriving DecidableEq, Repr

/-- The data register of an instruction; a code the table does not list selects BYPASS (R393). -/
def tapReg (ir : BitVec 4) : TapReg :=
  if ir = 0 ∨ ir = 2 then .boundary else if ir = 1 then .ident else .bypass

/-- The device identification word (R394). -/
def idcode : Word := 0x4166474B

/-- One shift of a data register toward TDO. -/
def Tap.shift (t : Tap) (tdi : Bool) : Tap :=
  match tapReg t.ir with
  | .boundary => { t with boundary := t.boundary >>> 1 ||| (if tdi then 1#225 <<< 224 else 0) }
  | .ident => { t with ident := t.ident >>> 1 ||| bitW 31 tdi }
  | .bypass => { t with bypass := tdi }

/-- Capture-DR: the boundary cells take the levels they see. -/
def Tap.capture (t : Tap) (levels : BitVec 225) : Tap :=
  match tapReg t.ir with
  | .boundary => { t with boundary := levels }
  | .ident => { t with ident := idcode }
  | .bypass => { t with bypass := false }

/-- The bit of the selected register that is nearest TDO. -/
def Tap.dataOut (t : Tap) : Bool :=
  match tapReg t.ir with
  | .boundary => t.boundary.getLsbD 0
  | .ident => t.ident.getLsbD 0
  | .bypass => t.bypass

namespace Dev

/-- Change the TAP. -/
def modTap (d : Dev) (f : Tap → Tap) : Dev := { d with tap := f d.tap }

/-- An instruction takes effect: the pins are taken or released, and a Proof that runs stops and
starts over at release (R400). -/
def tapLoad (d : Dev) (ir : BitVec 4) : Dev :=
  let was := d.pinsTaken
  let back := d.pinsRelease
  let d' := d.modTap fun t => { t with ir := ir }
  if was && !d'.pinsTaken then back.modTap fun t => { t with ir := ir }
  else if !was && d'.pinsTaken then
    { d' with power := { d'.power with proofStopped := d.power.state == .proof } }
  else d'

/-- Test-Logic-Reset (R394, R398). -/
def tapReset (d : Dev) : Dev := (d.tapLoad 1).modTap fun t => { t with state := .reset, tdo := none }

/-- What Capture-IR loads (R393). -/
def irCapture (d : Dev) : BitVec 4 :=
  (if d.power.state == .off then 8 else 0) ||| (if d.power.state == .proofHold then 4 else 0) ||| 1

/-- A rising TCK: the capture or the shift of the present state, and the next state. -/
def tckRise (d : Dev) (tms tdi : Bool) (levels : BitVec 225) : Dev :=
  let cap := d.irCapture
  let act (t : Tap) : Tap :=
    match t.state with
    | .captureDr => t.capture levels
    | .shiftDr => t.shift tdi
    | .captureIr => { t with irShift := cap }
    | .shiftIr => { t with irShift := t.irShift >>> 1 ||| (if tdi then 8 else 0) }
    | _ => t
  let d := d.modTap fun t => { act t with state := t.state.next tms }
  if d.tap.state = .reset then d.tapReset else d

/-- A falling TCK: TDO changes, and an Update state takes effect (R392). -/
def tckFall (d : Dev) : Dev :=
  let out : Option Bool :=
    match d.tap.state with
    | .shiftIr => some (d.tap.irShift.getLsbD 0)
    | .shiftDr => some d.tap.dataOut
    | _ => none
  let d := d.modTap fun t => { t with tdo := out }
  match d.tap.state with
  | .updateIr => d.tapLoad d.tap.irShift
  | .updateDr => if tapReg d.tap.ir = .boundary then d.modTap fun t => { t with cells := t.boundary } else d
  | _ => d

/-- A TCK edge; a power-on reset holds the TAP in reset (R398). -/
def tckEdge (d : Dev) (rising tms tdi : Bool) (levels : BitVec 225) : Dev :=
  if d.power.porAsserted then d else if rising then d.tckRise tms tdi levels else d.tckFall

/-- An instruction loaded by an Update-IR. -/
def tapInstruction (d : Dev) (ir : BitVec 4) : Dev := if d.power.porAsserted then d else d.tapLoad ir

/-! ### Field self-tests (R402, R403) -/

/-- UPTIME_MS: CLK_CORE cycles since the end of reset, in ms. -/
def uptimeMs (d : Dev) : Nat := d.cc / 500000

/-- The tests of Table 15.5 that fail, from what they measure and from the readback of the mute pins.
 (DEDUCED, log 131) -/
def selfTestFails (d : Dev) (r : SelfTestReadings) : Byte :=
  let mute := (allFin 37).all fun p => !d.mutePin p || d.muteAgrees p
  let ok : List Bool := [r.romOk, r.runningOk, r.otherOk, d.flash.factoryOk, r.adcRefOk,
    (r.dieA - r.dieB).natAbs ≤ 32 && r.dieA < 600 && r.dieB < 600, mute && !d.pinsTaken, d.journal.live.header]
  (bitsW 8 fun i => !ok.getD i true).setWidth 8

/-- The run ends: its results and event OP_DONE. -/
def selfTestDone (d : Dev) (r : SelfTestReadings) : Dev :=
  match d.selfTest.run with
  | none => d
  | some (mask, tag) =>
    let failed := d.selfTestFails r &&& mask
    ({ d with selfTest := ⟨none, mask, failed, 2, d.uptimeMs⟩ } : Dev).opDone 0x0C01 0 tag

/-- QUIET entry stops a run, the completed tests kept (Table 15.3); its OP_DONE follows (R135, R402).
 (DEDUCED, log 132; DESIGN CHOICE, log 22) -/
def selfTestStop (d : Dev) : Dev :=
  match d.selfTest.run with
  | none => d
  | some (mask, tag) =>
    let (k, d) := d.fresh
    let v := Config.selfTestAt k
    let ran := v.setWidth 8 &&& mask
    ({ d with selfTest := ⟨none, ran, (v >>> 8).setWidth 8 &&& ran, 3, d.uptimeMs⟩ } : Dev).opDone 0x0C01 0 tag

end Dev

def cmdSelfTestRun : CmdFn := fun _ req d =>
  let m := (req.word 8).setWidth 8
  if d.selfTest.run.isSome then refusedState 70
  else .done true 0 [] [] { d with selfTest := { d.selfTest with
    run := some (if m = 0 then 0xFF else m, req.tag), state := 1 } }

def cmdSelfTestResult : CmdFn := fun _ _ d =>
  let s := d.selfTest
  reply [orW [s.ran.setWidth 32, at' 8 s.failed.toNat, at' 16 s.state], w32 s.uptime] d

end Sys2Proof.Machine
end

