-- ==== Sys2Proof/Machine/System.lean ====
section
/-! DEFINITION.
The words of the PWR block that are computed, and the system, journal and firmware-update commands
(chapters 3 and 5). -/

namespace Sys2Proof.Machine

/-- DEVICE_STATE (Table 3.9). OFF is never read. -/
def stateCode : DeviceState → Nat
  | .off => 0 | .proof => 1 | .proofHold => 2 | .boot => 3 | .active => 4 | .quiet => 5

/-- The authority class of a source outside the control lock (Table 5.5). -/
def classOf : Source → Nat | .mb0 | .mb1 => 3 | .tester => 4 | .remote => 5

namespace Dev

/-- The computed part of a PWR register (Tables 3.9 to 3.14). -/
def pwrRead (d : Dev) (a : Nat) : Word :=
  let s := d.sup
  if a = Reg.PWR_STATE then
    orW [at' 0 (stateCode d.power.state), at' 4 d.power.proofStep, bitW 8 d.flash.runningB]
  else if a = Reg.PWR_STATUS then
    orW [bitW 0 s.nvwInhibit, bitW 1 s.crank, bitW 2 s.supplyMute, bitW 3 s.loadDump, bitW 4 s.vddioFault,
      bitW 5 s.vbatOpen, bitW 6 (d.rfld Reg.PWR_HOLDUP_EST 15 0 ≥ 3200), at' 8 s.ioeMode,
      at' 12 (min 8 d.journal.heldCount)]
  else 0

/-- The holder of the update session: 0 none, else its class (Table 5.3). -/
def fwuHolder (d : Dev) : Nat := d.flash.session.elim 0 fun x => classOf x.holder

/-- The pad level of the pin that carries a function; a line on no pin shows `idle`. -/
def fnPad (d : Dev) (f : Fin 25) (idle : Bool) : Bool :=
  match (d.fnPins f).head? with
  | some p => d.gpio.pins[p].raw
  | none => idle

end Dev

/-! ### System commands (Table 5.8) -/

/-- STATUS. -/
def cmdStatus : CmdFn := fun _ _ d =>
  reply [orW [at' 0 (stateCode d.power.state), bitW 8 d.mail.lockHeld, at' 12 d.fwuHolder], w32 d.uptimeMs,
    at' 0 (min 8 d.journal.heldCount) ||| at' 8 d.mail.queue.length,
    at' 0 d.mail.lastRefusedOpcode ||| at' 16 d.mail.lastRefusedStatus] d

/-- The MAC addresses of the factory record, first octet first. -/
def macBytes : List Byte := (List.range 18).map fun i => Config.factoryMac (i / 6) (i % 6)

/-- IDENTITY (R149): in PROOF_HOLD the firmware words are zero, and what the factory record gives
is zero if it failed its CRC. -/
def cmdIdentity : CmdFn := fun _ _ d =>
  let hold := d.power.state == .proofHold
  let s := d.flash.running
  let fw (w : Word) : Word := if hold then 0 else w
  let record (l : List Byte) : List Byte := if d.flash.factoryOk then l else l.map fun _ => 0
  reply ([0x166400B0,
    fw (orW [0x02, at' 8 Config.fwMinor.toNat, at' 16 Config.fwPatch.toNat]), fw Config.fwBuild,
    fw (orW [bitW 0 d.flash.runningB, bitW 1 s.trial, bitW 2 s.confirmed, at' 16 s.seq]), Config.bootRomVersion]
    ++ packWords (record ((List.range 8).map Config.serial))
    ++ packWords (record macBytes)) d

/-- FAILURE_REPORT. (DESIGN CHOICE, log 25) -/
def cmdFailureReport : CmdFn := fun _ _ d =>
  let p := d.reg Reg.PWR_PROOF_RESULT
  let (i, d) := d.fresh
  let pad (first : Nat) (h : first ≤ 4) (idle : Nat → Bool) : Word :=
    orW ((allFin 4).map fun k => bitW k.val (d.fnPad ⟨first + k.val, by omega⟩ (idle k.val)))
  reply [orW [at' 0 (fld p 7 0), at' 8 d.power.proofStep, at' 24 (fld p 31 24)],
    orW [at' 0 (fld p 23 8), pad 0 (by omega) (fun _ => true) <<< 16,
      pad 4 (by omega) (fun k => Config.unplacedPad (4 * i + k)) <<< 20],
    d.reg Reg.PWR_RESET_CAUSE, d.reg Reg.PWR_RAILS_A, d.reg Reg.PWR_RAILS_B,
    orW [at' 0 (d.rfld Reg.PWR_VBAT 15 0), atS 15 0 (narrow d.dieTemp 2) <<< 16]] d

/-- RESET: the software reset follows the release of the response, or 10 ms (R148). DETAIL of BAD_PARAM is the
offset of the word that holds KIND and KEY. (DEDUCED, log 45; DESIGN CHOICE, log 141) -/
def cmdReset : CmdFn := fun src req d =>
  if req.fld 8 7 0 ≠ 1 ∨ req.fld 8 31 16 ≠ 0xA5C3 then badParam 8
  else okay (match src with
    | .mb0 => { d with mail := { d.mail with resetDue := 0 :: d.mail.resetDue } }
    | .mb1 => { d with mail := { d.mail with resetDue := 1 :: d.mail.resetDue } }
    | _ => { d with power := { d.power with resetScheduled := true } })

/-- Steps 1 and 2 of R77: once no program of the journal is in progress, the frames in progress on every port
complete, and what runs on a block whose clock will stop is ended. -/
def Dev.quietAdvance (d : Dev) : Dev :=
  if d.power.quietEntry.isNone ∨ d.power.quietBegun ∨ d.journalBusy then d
  else
    let d : Dev := { d with power := { d.power with quietBegun := true } }
    let d := (allFin 4).foldl (fun (d : Dev) p => d.tdmQuiet p) d
    (d.measQuiet.selfTestStop).canQuiet

/-- QUIET_ENTER: the response is written at the end of entry (R77). -/
def cmdQuietEnter : CmdFn := fun src req d =>
  if d.flash.session.isSome then refusedState 1
  else .later [] ({ d with power := { d.power with quietEntry := some (src, req.tag) } } : Dev).quietAdvance

/-- QUIET_EXIT: in QUIET the response follows once ACTIVE is reached. -/
def cmdQuietExit : CmdFn := fun src req d =>
  if d.power.state = .quiet then .later [] { d with power := { d.power with quietExit := some (src, req.tag) } }
  else .done false 1 [] [] d

/-- EVENT_MASK. No rule gives it a journal key: PERSIST makes no record. (DESIGN CHOICE, log 143) -/
def cmdEventMask : CmdFn := fun _ req d =>
  okay { d with mail := { d.mail with eventMask := req.word 8 &&& 0x1FFF } }

/-! ### Journal commands -/

/-- JOURNAL_STATUS. -/
def cmdJournalStatus : CmdFn := fun _ _ d =>
  let j := d.journal
  reply [orW [bitW 0 j.liveB, bitW 1 (d.rbit Reg.PWR_BOOT_STATUS 5), bitW 2 (d.rbit Reg.PWR_BOOT_STATUS 6)],
    at' 0 (j.live.gen % 65536) ||| at' 16 (min 8 j.heldCount), w32 j.bytesFree, w32 j.lastSeq] d

/-- The item JOURNAL_READ names: KEY itself, or the one with the smallest key above it. -/
def journalItem (d : Dev) (req : Request) : Option (Nat × List Word) :=
  let key := req.fld 8 15 0
  d.journal.items.find? fun p => if req.bit 8 16 then key < p.1 else p.1 == key

/-- JOURNAL_READ. (DEDUCED, log 60) -/
def cmdJournalRead : CmdFn := fun _ req d =>
  match journalItem d req with
  | some (k, v) => reply ((at' 0 k ||| at' 16 (4 * min 54 v.length)) :: v.take 54) d
  | none => reply [0xFFFF] d

/-- A pending record will replace the item JOURNAL_READ returns. -/
def readPending (d : Dev) (req : Request) : Bool :=
  match journalItem d req with
  | some (k, _) => (d.journal.programming.toList ++ d.journal.pending).any fun i => i.key == k
  | none => false

/-- JOURNAL_COMPACT. -/
def cmdJournalCompact : CmdFn := fun _ req d =>
  if d.sup.nvwInhibit then .refuse .supplyInhibit 1 []
  else
    let d := if d.journal.compacting then d else d.compactStart
    .done true 0 [] [] (d.modJournal fun j => { j with compactTags := j.compactTags ++ [req.tag] })

/-- JOURNAL_DEFAULTS: both banks are erased and the pending records discarded. A compaction that runs ends with
status REFUSED_STATE. (DESIGN CHOICE, log 37) -/
def cmdJournalDefaults : CmdFn := fun _ req d =>
  if req.word 8 ≠ 0x44460001 then badParam 8
  else if d.sup.nvwInhibit then .refuse .supplyInhibit 1 []
  else
    let e := d.journal.compactTags.foldl (fun (d : Dev) tag => d.opDone 0x0103 Status.refusedState.code tag) d
    .done true 0 [] [] (e.modJournal fun j => { j with
    pending := [], held := 0, programming := none, progHeld := false, flushed := 0
    compacting := false, compactTags := [], copying := false,
    erasing := .bankA :: .bankB :: j.erasing, defaultsTags := j.defaultsTags ++ [req.tag] })

/-! ### Firmware update (R150–R153) -/

/-- What R81 withholds a flash program by, as the DETAIL of SUPPLY_INHIBIT. (DEDUCED, log 41) -/
def programInhibit (d : Dev) : Option Nat :=
  if d.sup.nvwInhibit then some 1 else if d.flashPermitted then none else some 2

/-- The session, if this source holds it; else the refusal (R150). -/
def withSession (src : Source) (d : Dev) (k : FwuSession → CmdResult) : CmdResult :=
  match d.flash.session with
  | some x => if classOf x.holder = classOf src then k x else .refuse .session d.fwuHolder []
  | none => .refuse .session 0 []

/-- FWU_BEGIN (R151). (DEDUCED, log 41) -/
def cmdFwuBegin : CmdFn := fun src req d =>
  let len := (req.word 8).toNat
  let run := d.flash.running
  if len < 8 ∨ 458752 < len ∨ len % 8 ≠ 0 then badParam 8
  else if d.flash.session.isSome then .refuse .session d.fwuHolder []
  else if run.trial ∧ ¬ run.confirmed then refusedState 2
  else if d.sup.nvwInhibit then .refuse .supplyInhibit 1 []
  else
    let x : FwuSession := { holder := src, length := len, seq := req.fld 0x0C 15 0, digest := (req.payload.drop 2).take 8,
                            received := [], erased := false, tag := req.tag }
    let d := { d with flash := { d.flash.modTarget fun s => { s with valid := false } with session := some x } }
    .done true 0 [] [] (d.modJournal fun j => { j with erasing := d.flash.target :: j.erasing })

/-- FLASH_ERROR: a program that fails its verification. Whether one does is a free value of the cc.
 (DESIGN CHOICE, log 146) -/
def flashChecked (d : Dev) (k : CmdResult) : CmdResult := if Config.flashFails d.cc then .refuse .flashError 0 [] else k

/-- FWU_WRITE (R151, R152): the expected offset comes back. (DEDUCED, log 41) -/
def cmdFwuWrite : CmdFn := fun src req d => withSession src d fun x =>
  let at_ := 4 * x.received.length
  let n := req.length - 8
  if ¬ x.erased then refusedState 3
  else if (req.word 8).toNat ≠ at_ then .refuse .badParam 8 [w32 at_]
  else if at_ + n > x.length then badParam 0x10
  else match programInhibit d with
    | some why => .refuse .supplyInhibit why []
    | none =>
      let got := x.received ++ (req.payload.drop 2).take (n / 4)
      flashChecked d <| reply [w32 (4 * got.length)] { d with flash := { d.flash with session := some { x with received := got } } }

/-- FWU_FINISH (R152). (DEDUCED, log 41) -/
def cmdFwuFinish : CmdFn := fun src _ d => withSession src d fun x =>
  if 4 * x.received.length < x.length ∨ ¬ x.erased then refusedState 4
  else match programInhibit d with
    | some why => .refuse .supplyInhibit why []
    | none => flashChecked d <|
      let f := { d.flash with session := none }
      if Config.sha256 x.received = x.digest then
        okay { d with flash := f.modTarget fun _ => { emptySlot with
          valid := true, seq := x.seq, trial := true, image := x.received, digest := x.digest } }
      else .mismatch { d with flash := f.modTarget fun s => { s with valid := false } }

/-- FWU_CONFIRM (R153). (DEDUCED, log 41) -/
def cmdFwuConfirm : CmdFn := fun _ _ d =>
  if d.flash.running.confirmed ∧ ¬ d.sup.nvwInhibit then .done false 1 [] [] d
  else match programInhibit d with
    | some why => .refuse .supplyInhibit why []
    | none => flashChecked d <|
      let f := d.flash
      okay { d with flash := if f.runningB then { f with slotB := { f.slotB with confirmed := true } }
                             else { f with slotA := { f.slotA with confirmed := true } } }

/-- FWU_ABORT: the slot stays invalid; during the erase it ends FWU_BEGIN with status SESSION (R135).
 (DEDUCED, log 41) -/
def cmdFwuAbort : CmdFn := fun src _ d => withSession src d fun x =>
  let d : Dev := { d with flash := { d.flash with session := none } }
  okay (if x.erased then d else d.opDone 0x0201 Status.session.code x.tag)

end Sys2Proof.Machine
end

