-- ==== Sys2Proof/Machine/Cmds.lean ====
section
/-! DEFINITION.
The command set: for each opcode its sources, its lock, its length and its effect, as the command
tables of chapters 5 to 15 give them (R138). -/

namespace Sys2Proof.Machine

/-- The LENGTH a request of an opcode has: one number; a base and a number of units its payload
counts, up to a limit above which the count itself is at fault; or a base and any number of units
in a range. -/
inductive LenRule where
  | exact (n : Nat)
  | counted (base unit most : Nat) (count : Request → Nat)
  | range (base unit least most : Nat)

/-- The LENGTH a request must have, `none` where its opcode takes several. -/
def LenRule.expected (req : Request) : LenRule → Option Nat
  | .exact n => some n
  | .counted base unit most count => if count req ≤ most then some (base + unit * count req) else some req.length
  | .range _ _ _ _ => none

/-- The LENGTH of a request fits. -/
def LenRule.fits (req : Request) : LenRule → Bool
  | .range base unit least most =>
    base + unit * least ≤ req.length && req.length ≤ base + unit * most && (req.length - base) % unit == 0
  | r => (r.expected req).all (· == req.length)

/-- Which commands of an opcode set a lockable parameter (R142): none, all, those that drive a mute
pin (R370), those that arm a lockable action (R385). -/
inductive LockRule where | never | always | output | sched

/-- One row of a command table. Every command accepts the host. -/
structure CmdSpec where
  opcode : Nat
  tester : Bool
  remote : Bool
  lock : LockRule
  urgent : Bool
  length : LenRule
  run : CmdFn

/-- The number of units a request counts in its first word. -/
def remoteCount (req : Request) : Nat := (req.word 8).toNat

/-- The number of steps of AMP_SCRIPT_SET. -/
def stepCount (req : Request) : Nat := req.fld 0x0C 4 0

/-- ETH_MDIO in a pass: what the PHY answers is a free value. (DESIGN CHOICE, log 19) -/
def cmdMdioPass : CmdFn := fun src req d =>
  let (i, d) := d.fresh
  Dev.cmdMdio (Config.phyRegister i) src req d

/-- A command that meets scheduled actions of its cc: they act first, so the command stands (R274, R354,
Table 14.4). -/
def afterSched (f : CmdFn) : CmdFn := fun src req d => f src req d.schedAll

/-- The system commands (Table 5.8). -/
def sysCmds : List CmdSpec :=
  [ ⟨0x0001, true, true, .never, true, .exact 0, cmdStatus⟩,
    ⟨0x0002, true, true, .never, true, .exact 0, cmdIdentity⟩,
    ⟨0x0003, true, false, .never, true, .exact 0, cmdFailureReport⟩,
    ⟨0x0004, true, false, .never, true, .exact 4, cmdReset⟩,
    ⟨0x0005, false, false, .never, false, .exact 0, cmdQuietEnter⟩,
    ⟨0x0006, false, false, .never, false, .exact 0, cmdQuietExit⟩,
    ⟨0x0007, false, false, .never, false, .exact 4, cmdEventMask⟩ ]

/-- The journal commands (Table 5.8). -/
def journalCmds : List CmdSpec :=
  [ ⟨0x0101, true, false, .never, false, .exact 0, cmdJournalStatus⟩,
    ⟨0x0102, true, false, .never, false, .exact 4, cmdJournalRead⟩,
    ⟨0x0103, false, false, .never, false, .exact 0, cmdJournalCompact⟩,
    ⟨0x0104, false, false, .never, false, .exact 4, cmdJournalDefaults⟩ ]

/-- The firmware-update commands (Table 5.8). -/
def fwuCmds : List CmdSpec :=
  [ ⟨0x0201, true, false, .never, false, .exact 40, cmdFwuBegin⟩,
    ⟨0x0202, true, false, .never, false, .range 8 8 1 28, cmdFwuWrite⟩,
    ⟨0x0203, true, false, .never, false, .exact 0, cmdFwuFinish⟩,
    ⟨0x0204, true, false, .never, false, .exact 0, cmdFwuConfirm⟩,
    ⟨0x0205, true, false, .never, false, .exact 0, cmdFwuAbort⟩ ]

/-- The clock commands (Table 6.10). -/
def clkCmds : List CmdSpec :=
  [ ⟨0x0301, true, true, .never, true, .exact 0, cmdKsStatus⟩,
    ⟨0x0302, false, false, .never, false, .exact 4, cmdKsSetRate⟩,
    ⟨0x0303, false, false, .never, false, .exact 20, cmdKsSetTable⟩,
    ⟨0x0304, false, false, .never, false, .exact 12, cmdKsSetLoop⟩,
    ⟨0x0305, false, true, .never, true, .exact 4, cmdKsPhaseStep⟩,
    ⟨0x0306, false, true, .never, true, .exact 8, cmdKsSteer⟩ ]

/-- The port commands (chapter 7). -/
def ethCmds : List CmdSpec :=
  [ ⟨0x0401, true, true, .never, true, .exact 4, Dev.cmdPortStatus⟩,
    ⟨0x0402, false, false, .never, false, .exact 24, Dev.cmdPortSetup⟩,
    ⟨0x0403, false, false, .never, false, .exact 4, Dev.cmdPortDisable⟩,
    ⟨0x0404, false, false, .never, false, .exact 12, Dev.cmdEaseSet⟩,
    ⟨0x0405, true, false, .never, false, .exact 8, cmdMdioPass⟩,
    ⟨0x0406, false, false, .never, false, .range 4 4 0 16, Dev.cmdPhyScript⟩,
    ⟨0x0407, false, false, .never, false, .counted 4 8 4 remoteCount, Dev.cmdRemoteSet⟩,
    ⟨0x0408, true, false, .never, false, .exact 4, Dev.cmdBadFrames⟩ ]

/-- The stream and gPTP commands (chapter 8). -/
def streamCmds : List CmdSpec :=
  [ ⟨0x0501, false, false, .never, false, .exact 24, Dev.cmdListenerSetup⟩,
    ⟨0x0502, false, false, .never, false, .exact 28, Dev.cmdTalkerSetup⟩,
    ⟨0x0503, false, true, .never, true, .exact 16, Dev.cmdStreamStart⟩,
    ⟨0x0504, false, true, .never, true, .exact 16, Dev.cmdStreamStop⟩,
    ⟨0x0505, false, false, .never, false, .exact 4, Dev.cmdStreamDelete⟩,
    ⟨0x0506, true, true, .never, true, .exact 4, Dev.cmdStreamStatus⟩,
    ⟨0x0507, true, true, .never, false, .exact 4, Dev.cmdPortStreamStatus⟩,
    ⟨0x0508, false, false, .never, false, .exact 12, Dev.cmdGptpSet⟩,
    ⟨0x0509, true, true, .never, true, .exact 4, Dev.cmdGptpStatus⟩ ]

/-- The Lintel commands (chapter 9). -/
def lintelCmds : List CmdSpec :=
  [ ⟨0x0601, false, false, .never, false, .exact 20, Dev.cmdGroupSetup⟩,
    ⟨0x0602, false, true, .never, true, .exact 16, Dev.cmdGroupStart⟩,
    ⟨0x0603, false, true, .never, true, .exact 16, Dev.cmdGroupStop⟩,
    ⟨0x0604, false, false, .never, false, .exact 4, Dev.cmdGroupDelete⟩,
    ⟨0x0605, true, true, .never, true, .exact 4, Dev.cmdLintelSwitch⟩,
    ⟨0x0606, true, true, .never, true, .exact 4, Dev.cmdGroupStatus⟩,
    ⟨0x0607, true, false, .never, false, .exact 4, Dev.cmdLintelHealth⟩,
    ⟨0x0608, false, false, .never, false, .exact 16, Dev.cmdLintelTalkerSet⟩ ]

/-- The TDM and routing commands (chapter 10). -/
def routeCmds : List CmdSpec :=
  [ ⟨0x0701, false, false, .never, false, .exact 16, Dev.cmdTdmSet⟩,
    ⟨0x0702, false, false, .never, false, .exact 4, Dev.cmdTdmDisable⟩,
    ⟨0x0703, true, true, .never, true, .exact 4, Dev.cmdTdmStatus⟩,
    ⟨0x0704, false, false, .never, false, .exact 8, Dev.cmdSourceBind⟩,
    ⟨0x0705, false, false, .never, false, .exact 16, Dev.cmdDestBind⟩,
    ⟨0x0706, true, true, .always, false, .counted 4 8 29 remoteCount, Dev.cmdXpSet⟩,
    ⟨0x0707, true, true, .always, true, .exact 4, Dev.cmdCommit⟩,
    ⟨0x0708, true, true, .always, true, .exact 8, afterSched Dev.cmdDestGain⟩,
    ⟨0x0709, true, true, .always, true, .exact 12, afterSched Dev.cmdMute⟩,
    ⟨0x070A, true, false, .always, false, .exact 8, Dev.cmdToneSet⟩,
    ⟨0x070B, false, false, .never, false, .exact 4, Dev.cmdPartition⟩,
    ⟨0x070C, false, false, .never, false, .exact 8, Dev.cmdSenseBind⟩,
    ⟨0x070D, true, true, .never, true, .exact 4, Dev.cmdRouteStatus⟩ ]

/-- The measurement and amplifier commands (chapter 11). -/
def measCmds : List CmdSpec :=
  [ ⟨0x0801, false, false, .never, false, .exact 28, Dev.cmdSpeakerSet⟩,
    ⟨0x0802, false, false, .always, false, .exact 20, Dev.cmdMeasConfig⟩,
    ⟨0x0803, true, true, .never, true, .exact 4, Dev.cmdMeasResult⟩,
    ⟨0x0804, true, false, .never, false, .exact 12, Dev.cmdBaseline⟩,
    ⟨0x0805, true, false, .always, false, .exact 4, Dev.cmdDcTest⟩,
    ⟨0x0806, true, true, .never, true, .exact 0, Dev.cmdMonitors⟩,
    ⟨0x0807, true, false, .never, false, .exact 4, Dev.cmdDtcRead⟩,
    ⟨0x0808, true, false, .never, false, .exact 4, Dev.cmdDtcClear⟩,
    ⟨0x0809, false, false, .always, false, .counted 8 8 24 stepCount, Dev.cmdScriptSet⟩,
    ⟨0x080A, true, false, .always, false, .exact 4, Dev.cmdScriptRun⟩,
    ⟨0x080B, true, false, .always, true, .exact 4, Dev.cmdAmpLine⟩,
    ⟨0x080C, true, false, .always, false, .range 8 4 0 2, Dev.cmdAmpI2c⟩ ]

/-- The CAN commands (chapter 12). -/
def canCmds : List CmdSpec :=
  [ ⟨0x0901, false, false, .never, false, .exact 12, cmdCanSetup⟩,
    ⟨0x0902, false, false, .never, false, .exact 24, cmdCanTesterSet⟩,
    ⟨0x0903, false, false, .never, false, .range 12 4 0 16, cmdCanMoSet⟩,
    ⟨0x0904, false, false, .never, true, .range 4 4 0 16, cmdCanMoSend⟩,
    ⟨0x0905, false, false, .never, true, .exact 4, cmdCanMoRead⟩,
    ⟨0x0906, true, true, .never, true, .exact 0, cmdCanState⟩ ]

/-- The pin commands (chapter 13). -/
def gpioCmds : List CmdSpec :=
  [ ⟨0x0A01, false, false, .never, false, .exact 8, cmdGpioPinConfig⟩,
    ⟨0x0A02, false, false, .never, false, .exact 4, cmdGpioXbarSet⟩,
    ⟨0x0A03, true, false, .output, true, .exact 16, afterSched cmdGpioOutput⟩,
    ⟨0x0A04, true, true, .never, true, .exact 0, cmdGpioRead⟩,
    ⟨0x0A05, false, false, .never, false, .exact 8, cmdGpioLockPin⟩ ]

/-- The scheduler commands (chapter 14). -/
def schedCmds : List CmdSpec :=
  [ ⟨0x0B01, true, true, .sched, false, .exact 24, cmdSchedSet⟩,
    ⟨0x0B02, true, true, .never, true, .exact 4, cmdSchedCancel⟩,
    ⟨0x0B03, true, true, .never, true, .exact 4, cmdSchedStatus⟩ ]

/-- The self-test commands (Table 15.4). -/
def testCmds : List CmdSpec :=
  [ ⟨0x0C01, true, false, .never, false, .exact 4, cmdSelfTestRun⟩,
    ⟨0x0C02, true, false, .never, false, .exact 0, cmdSelfTestResult⟩ ]

/-- The whole command set. -/
def cmdTable : List CmdSpec :=
  sysCmds ++ journalCmds ++ fwuCmds ++ clkCmds ++ ethCmds ++ streamCmds ++ lintelCmds ++ routeCmds ++ measCmds
    ++ canCmds ++ gpioCmds ++ schedCmds ++ testCmds

/-- The row of an opcode. -/
def cmdSpec (opcode : Nat) : Option CmdSpec := cmdTable.find? fun c => c.opcode == opcode

/-- The source is in the Sources column. -/
def CmdSpec.takes (c : CmdSpec) : Source → Bool
  | .mb0 | .mb1 => true
  | .tester => c.tester
  | .remote => c.remote

/-- The request sets a lockable parameter. -/
def CmdSpec.lockable (c : CmdSpec) (d : Dev) (req : Request) : Bool :=
  match c.lock with
  | .never => false
  | .always => true
  | .output => outputLockable d req
  | .sched => d.schedLockable (req.fld 8 11 8) (req.word 0x18)

end Sys2Proof.Machine
end

