-- ==== Sys2Proof/Machine/Serve.lean ====
section
/-! DEFINITION.
The service of one Ouvoso command: the checks every command shares, its effect, its response and
its journal records (R132, R136, R138, R139, R142, R148). -/

namespace Sys2Proof.Machine

/-- Commands the boot ROM serves in PROOF_HOLD, and Hearth in a pass of QUIET (R136, R148). -/
def holdServes (opcode : Nat) : Bool := 1 ≤ opcode && opcode ≤ 4
/-- The commands a pass of QUIET serves (R136). -/
def quietServes (opcode : Nat) : Bool := (1 ≤ opcode && opcode ≤ 3) || opcode == 6

/-- What a command comes to: a refusal, or its row of the command set. -/
abbrev Checked := Except (Status × Nat) CmdSpec

/-- The checks before a command's own (Table 5.3), in the order of the model's choice. A command that a pass of QUIET refuses has DETAIL 0. (DEDUCED, log 57; DESIGN CHOICE, log 24, 56, 142) -/
def Dev.serveCheck (d : Dev) (src : Source) (opcode : Nat) (req : Request) : Checked :=
  if d.power.state = .proofHold ∧ ¬ holdServes opcode then .error (.refusedProofHold, 0)
  else if d.power.state = .quiet ∧ ¬ quietServes opcode then .error (.refusedState, 0)
  else match cmdSpec opcode with
    | none => .error (.badOpcode, 0)
    | some c =>
      if !c.takes src then .error (.refusedState, 0xFE)
      else if src = .mb1 ∧ ¬ c.urgent then .error (.notOnMb1, 0)
      else if !c.length.fits req then
        .error (.badLength, ((c.length.expected req).elim (Config.expectedWords opcode req.length) (· / 4)) % 256)
      else if d.mail.lockHeld ∧ src ≠ .tester ∧ c.lockable d req then .error (.busyAuthority, 2)
      else .ok c

/-- Ouvoso serves commands in this state. -/
def Dev.serving (d : Dev) : Bool :=
  d.power.state == .active || d.power.state == .proofHold || d.power.state == .quiet

namespace Dev

/-- A refusal: it has no effect but on LAST_REFUSED (STATUS). -/
def refused (d : Dev) (opcode : Nat) (tag : Byte) (status detail : Nat) (payload : List Word) : Dev × Option Response :=
  ({ d with mail := { d.mail with lastRefusedOpcode := opcode % 65536, lastRefusedStatus := status } },
   some ⟨opcode, tag, status, detail, false, payload⟩)

/-- The opcode and tag of a tester's command answered ACCEPTED are kept for its end (Table 12.6). -/
def noteAccepted (d : Dev) (src : Source) (accepted : Bool) (opcode : Nat) (tag : Byte) : Dev :=
  if accepted ∧ src = .tester then { d with mail := { d.mail with
    testerOps := (opcode, tag) :: d.mail.testerOps
    testerEnds := d.mail.testerEnds.filter fun e => e.1 != opcode } } else d

/-- The result of a command's effect turned into the device and its response. A change whose
record would be the ninth pending one is refused whole (R88, R139). (DEDUCED, log 34) -/
def settle (d : Dev) (src : Source) (opcode : Nat) (req : Request) (r : CmdResult) : Dev × Option Response :=
  let withheld (items : List JItem) : Bool := !items.isEmpty && !d.flashPermitted
  let ninth (items : List JItem) : Bool := withheld items &&
    8 < d.journal.pending.length + (if d.journal.progHeld then 1 else 0) + items.length
  let full : Dev × Option Response := (d.raiseBit Reg.PWR_STICKY 3).refused opcode req.tag Status.supplyInhibit.code 3 []
  match r with
  | .refuse st detail payload => d.refused opcode req.tag st.code detail payload
  | .mismatch d' => d'.refused opcode req.tag Status.digestMismatch.code 0 []
  | .later items d' =>
    if ninth items then full
    else
      let d' := d'.journalAdd items
      ({ d' with mail := { d'.mail with
          latePending := (if withheld items then [(src, req.tag)] else []) ++ d'.mail.latePending } }, none)
  | .done accepted detail payload items d' =>
    if ninth items then full
    else
      let pend := withheld items || (opcode == 0x0102 && readPending d req)
      ((d'.journalAdd items).noteAccepted src accepted opcode req.tag,
       some ⟨opcode, req.tag, if accepted then 1 else 0, detail, pend, payload⟩)

/-- One command served: the shared checks, then its effect. Nothing is served in OFF, PROOF and BOOT. -/
def serveWith (d : Dev) (src : Source) (opcode : Nat) (req : Request) (run : CmdSpec → CmdFn) : Dev × Option Response :=
  if !d.serving then (d, none)
  else match d.serveCheck src opcode req with
    | .error (st, detail) => d.refused opcode req.tag st.code detail []
    | .ok c => d.settle src opcode req (run c src req d)

/-- One command served by its row of the command set. -/
def serveCore (d : Dev) (src : Source) (opcode : Nat) (req : Request) : Dev × Option Response :=
  d.serveWith src opcode req CmdSpec.run

/-- A response, if there is one, goes to its source. -/
def answer (x : Dev × Option Response) (src : Source) : Dev :=
  match x.2 with
  | some r => x.1.respond src r
  | none => x.1

/-- One command served and answered. -/
def serve (d : Dev) (src : Source) (opcode : Nat) (req : Request) : Dev := answer (d.serveCore src opcode req) src

end Dev
end Sys2Proof.Machine
end

