-- ==== Sys2Proof/Machine/Uds.lean ====
section
/-! DEFINITION.
The diagnostic services of the tester (R331–R338, Tables 12.4 to 12.7). The message formats the
manual leaves to ISO 14229-1 are that standard's. -/

namespace Sys2Proof.Machine

/-- What a service comes to: a positive response, a negative response code, a response that
follows later, or none. -/
inductive UdsResult where
  | positive (bytes : List Byte) (dev : Dev)
  | negative (nrc : Nat) (dev : Dev)
  | later (dev : Dev)
  | silent (dev : Dev)

/-- A number as one byte. -/
def byte (n : Nat) : Byte := BitVec.ofNat 8 n

/-- Words as bytes, each most significant byte first (R334). -/
def wordsBe (l : List Word) : List Byte := l.flatMap fun w => natBe 4 w.toNat

/-- Bytes as words, each most significant byte first; a last part of a word is filled with zeros. -/
def beWords : List Byte → List Word
  | a :: b :: c :: d :: t => w32 (beNat [a, b, c, d]) :: beWords t
  | [a, b, c] => [w32 (beNat [a, b, c, 0])]
  | [a, b] => [w32 (beNat [a, b, 0, 0])]
  | [a] => [w32 (beNat [a, 0, 0, 0])]
  | [] => []

/-- One bit of the reflected CRC-32 of polynomial 0x04C1_1DB7. -/
def crc32Bit (c : Word) : Word := if c.getLsbD 0 then (c >>> 1) ^^^ 0xEDB88320 else c >>> 1

/-- One byte of it. -/
def crc32Byte (c : Word) (b : Byte) : Word :=
  (List.range 8).foldl (fun c _ => crc32Bit c) (c ^^^ b.setWidth 32)

/-- CRC-32 with reflected input and output, initial value and final XOR 0xFFFF_FFFF (R333). -/
def crc32 (l : List Byte) : Word := l.foldl crc32Byte 0xFFFFFFFF ^^^ 0xFFFFFFFF

/-- The key of a seed and a secret (R333). -/
def securityKey (seed secret : Word) : Word := crc32 (wordsBe [seed, secret])

/-- The negative response code of an Ouvoso status (Table 12.7); `fwu`: from a firmware-update command. -/
def statusNrc (fwu : Bool) (status detail : Nat) : Nat :=
  if status = 0x11 then 0x13
  else if status = 0x12 then 0x31
  else if status = 0x22 ∧ fwu ∧ (detail = 3 ∨ detail = 4) then 0x24
  else if status = 0x41 ∨ status = 0x42 then 0x72
  else if status = 0x7F then 0x10
  else 0x22

namespace Dev

/-- Change the diagnostic server. -/
def modUds (d : Dev) (f : Uds → Uds) : Dev := d.modCan fun c => { c with uds := f c.uds }

/-- The tester is in PROOF_HOLD's subset of services (R73). -/
def udsHold (d : Dev) : Bool := d.power.state == .proofHold

/-- A service that PROOF_HOLD does not serve, or of another session, or needing security while it
is locked (R332). Sessions: 0 default, 1 programming, 2 extended. (PRESUMED, log 120) -/
def udsGuard (d : Dev) (sessions : List Nat) (security : Bool) (k : UdsResult) : UdsResult :=
  if d.udsHold then .negative 0x11 d
  else if !sessions.contains d.can.uds.session then .negative 0x7F d
  else if security ∧ !d.can.uds.unlocked then .negative 0x33 d
  else k

/-- A tester command run for a routine or a service: positive with `bytes`, or the code of its status. -/
def udsCommand (d : Dev) (opcode : Nat) (payload : List Word) (bytes : List Byte) : UdsResult :=
  let req : Request := { tag := 0, persist := false, length := 4 * payload.length, payload := payload }
  match d.serveCore .tester opcode req with
  | (d, some r) =>
    if r.status < 0x10 then .positive bytes d else .negative (statusNrc (opcode / 256 == 2) r.status r.detail) d
  | (d, none) => .later d

/-- The response payload of a read command, as bytes. -/
def udsRead (d : Dev) (run : CmdFn) (payload : List Word) : List Byte :=
  let req : Request := { tag := 0, persist := false, length := 4 * payload.length, payload := payload }
  match run .tester req d with
  | .done _ _ out _ _ => wordsBe out
  | _ => []

/-! ### The services -/

/-- DiagnosticSessionControl: a change to the default session ends the session (R332). The
response carries P2server and P2*server. (DEDUCED, log 121) -/
def udsSession (d : Dev) (sub : Byte) : UdsResult :=
  let n := sub.toNat % 128
  if d.udsHold then .negative 0x11 d
  else if n = 0 ∨ 3 < n then .negative 0x12 d
  else
    let d := if n = 1 then d.sessionEnd
      else if d.can.uds.session = n - 1 then d
      else (d.modUds fun u => { u with session := n - 1 }).pushSession
    if 128 ≤ sub.toNat then .silent d else .positive [0x50, byte n, 0x00, 0x32, 0x01, 0xF4] d

/-- ECUReset: hardReset answers and then resets (R332). -/
def udsReset (d : Dev) (sub : Byte) : UdsResult :=
  if sub.toNat % 128 ≠ 1 then .negative 0x12 d
  else
    let d : Dev := { d with power := { d.power with resetScheduled := true } }
    if 128 ≤ sub.toNat then .silent d else .positive [0x51, 0x01] d

/-- ClearDiagnosticInformation: as MEAS_DTC_CLEAR (R335). -/
def udsClear (d : Dev) (group : BitVec 24) : UdsResult :=
  d.udsGuard [2] false (d.udsCommand 0x0808 [group.setWidth 32] [0x54])

/-- A DTC and its status as four bytes. -/
def dtcReply (code : Nat) (status : Byte) : List Byte := natBe 3 code ++ [status]

/-- The DTCs reported with their status: those of Table 11.8, in PROOF_HOLD the one of R336. -/
def dtcReport (d : Dev) : List (Nat × Byte) :=
  if d.udsHold then [(0xC38000 + d.rfld Reg.PWR_PROOF_RESULT 7 0, 0x09)]
  else dtcCodes.map fun c => (c, (d.dtcOf c).status &&& 0x7F)

/-- The DTCs whose status ANDed with a mask is not zero. -/
def dtcMatching (d : Dev) (mask : Byte) : List (Nat × Byte) := d.dtcReport.filter fun x => x.2 &&& mask != 0

/-- ReadDTCInformation 0x01. -/
def udsDtcCount (d : Dev) (mask : Byte) : UdsResult :=
  .positive ([0x59, 0x01, 0x7F, 0x01] ++ natBe 2 (d.dtcMatching mask).length) d

/-- ReadDTCInformation 0x02. -/
def udsDtcList (d : Dev) (mask : Byte) : UdsResult :=
  .positive ([0x59, 0x02, 0x7F] ++ (d.dtcMatching mask).flatMap fun x => dtcReply x.1 x.2) d

/-- ReadDTCInformation 0x06: a DTC with no record is returned with status 0x00 and no record; in
PROOF_HOLD its DTC without records (R335, R336). (DEDUCED, log 122) -/
def udsDtcExt (d : Dev) (code : BitVec 24) (record : Byte) : UdsResult :=
  let c := code.toNat
  let head : List Byte := [0x59, 0x06]
  if d.udsHold then
    .positive (head ++ dtcReply c (if d.dtcReport.any fun x => x.1 == c then 0x09 else 0x00)) d
  else if record ≠ 1 ∧ record ≠ 2 ∧ record ≠ 0xFF then .negative 0x31 d
  else
    let x := d.dtcOf c
    if ¬ (storeDtcs d.meas.store).any (·.code == c) then .positive (head ++ dtcReply c 0x00) d
    else
      let one : List Byte := if record = 2 then [] else [0x01, byte (min 255 x.occurrences)]
      let two : List Byte := if record = 1 then [] else [0x02, byte x.aging]
      .positive (head ++ dtcReply c (x.status &&& 0x7F) ++ one ++ two) d

/-- The DTC is one of a speaker enabled under R287, an amplifier or the 0xC3 group. -/
def dtcSupported (d : Dev) (code : Nat) : Bool :=
  code / 65536 != 0xC1 || (d.meas.speakers[code / 256 % 256]?).any fun x => x.setup.enable

/-- ReadDTCInformation 0x0A. -/
def udsDtcSupported (d : Dev) : UdsResult :=
  let l := if d.udsHold then d.dtcReport else d.dtcReport.filter fun x => d.dtcSupported x.1
  .positive ([0x59, 0x0A, 0x7F] ++ l.flatMap fun x => dtcReply x.1 x.2) d

/-- The content of a data identifier (Table 12.5), `none` where it is not listed. -/
def didBytes (d : Dev) (did : U16) : Option (List Byte) :=
  let n := did.toNat
  if n = 0xF187 then some [0x51, 0x45, 0x31, 0x36, 0x36, 0x34, 0x2D, 0x42, 0x30]
  else if n = 0xF18C then some ((List.range 8).map fun i => if d.flash.factoryOk then Config.serial i else 0)
  else if n = 0xFD00 then some (d.udsRead cmdStatus [])
  else if n = 0xFD01 then some (d.udsRead cmdIdentity [])
  else if n = 0xFD02 then some (d.udsRead cmdFailureReport [])
  else if d.udsHold then none
  else if n = 0xF180 then some (wordsBe [Config.bootRomVersion])
  else if n = 0xF189 then some [0x02, Config.fwMinor, Config.fwPatch]
  else if n = 0xFD20 then some (d.udsRead cmdMonitors [])
  else if 0xFD10 ≤ n ∧ n < 0xFD20 then some (d.udsRead cmdMeasResult [w32 (n - 0xFD10)])
  else none

/-- ReadDataByIdentifier: up to four identifiers. (DEDUCED, log 122) -/
def udsData (d : Dev) (ids : List U16) : UdsResult :=
  if ids = [] ∨ 4 < ids.length then .negative 0x13 d
  else match ids.mapM fun i => (d.didBytes i).map fun l => natBe 2 i.toNat ++ l with
    | some l => .positive (0x62 :: l.flatten) (d.fresh).2
    | none => .negative 0x31 d

/-- SecurityAccess requestSeed (R333): with no secret the level is unlocked at once.
 (DEDUCED, log 121; DESIGN CHOICE, log 21) -/
def udsSeed (d : Dev) : UdsResult := d.udsGuard [1, 2] false (
  if d.can.uds.delaying then .negative 0x37 d
  else match d.can.tester.secret with
    | none =>
      let d := if d.can.uds.unlocked then d else (d.modUds fun u => { u with unlocked := true }).pushSession
      .positive [0x67, 0x01, 0, 0, 0, 0] d
    | some _ =>
      let (i, d) := d.fresh
      let seed := w32 ((Config.seed i).val + 1)
      .positive ([0x67, 0x01] ++ wordsBe [seed]) (d.modUds fun u => { u with seed := some seed }))

/-- SecurityAccess sendKey (R333): the third wrong key in a row starts the delay. (DEDUCED, log 121) -/
def udsKey (d : Dev) (key : Word) : UdsResult := d.udsGuard [1, 2] false (
  match d.can.uds.seed, d.can.tester.secret with
  | some seed, some secret =>
    if key = securityKey seed secret then
      .positive [0x67, 0x02] (d.modUds fun u => { u with unlocked := true, wrong := 0, seed := none }).pushSession
    else
      let n := d.can.uds.wrong + 1
      let d := d.modUds fun u => { u with wrong := if n = 3 then 0 else n, delaying := n == 3, seed := none }
      .negative (if n = 3 then 0x36 else 0x35) d
  | _, _ => .negative 0x24 d)

/-! ### Routines (Table 12.6, R337) -/

/-- A request of routine 0xFE00 from its record: header and payload words (Table 5.2). (DEDUCED, log 123) -/
def recordRequest (l : List Byte) : Nat × Request :=
  let w := beWords l
  let h := w.getD 0 0
  (fld h 15 0, { tag := byte (fld h 23 16), persist := h.getLsbD 24, length := fld (w.getD 1 0) 7 0, payload := w.drop 2 })

/-- startRoutine 0xFE00: the command runs as a tester command; the response carries its response. -/
def runCommand (d : Dev) (l : List Byte) : UdsResult :=
  let (op, req) := recordRequest l
  if l.length < 8 ∨ l.length % 4 ≠ 0 ∨ l.length ≠ 8 + req.length then .negative 0x13 d
  else match d.serveCore .tester op req with
    | (d, some r) => .positive ([0x71, 0x01, 0xFE, 0x00] ++ wordsBe r.words) d
    | (d, none) => .later { d with mail := { d.mail with testerResponse := none } }

/-- The control lock is taken (R142). -/
def lockTake (d : Dev) : Dev :=
  if d.mail.lockHeld then d
  else (({ d with mail := { d.mail with lockHeld := true } } : Dev).push 0x0005 0).pushSession

/-- The control lock is given back. -/
def lockGive (d : Dev) : Dev :=
  if d.mail.lockHeld then (({ d with mail := { d.mail with lockHeld := false } } : Dev).push 0x0006 1).pushSession else d

/-- The sessions a routine may run in, `none` for a RID not listed. -/
def routineSession (rid : U16) : Option Nat :=
  if rid = 0xFE02 then some 1
  else if rid = 0xFE00 ∨ rid = 0xFE01 ∨ rid = 0xFE03 ∨ rid = 0xFE10 ∨ rid = 0xFE11 ∨ rid = 0xFE12 then some 2
  else none

/-- The checks every routine request shares. -/
def routineGuard (d : Dev) (rid : U16) (k : UdsResult) : UdsResult :=
  if d.udsHold then .negative 0x11 d
  else match routineSession rid with
    | none => .negative 0x31 d
    | some s => d.udsGuard [s] true k

/-- The positive response of a routine request. -/
def routineOk (sub : Byte) (rid : U16) (l : List Byte) : List Byte := [0x71, sub] ++ natBe 2 rid.toNat ++ l

/-- RoutineControl startRoutine. (DEDUCED, log 122, 123) -/
def routineStart (d : Dev) (rid : U16) (l : List Byte) : UdsResult := d.routineGuard rid (
  let ok := routineOk 0x01 rid []
  let n (i : Nat) : Nat := (l.getD i 0).toNat
  if rid = 0xFE00 then d.runCommand l
  else if rid = 0xFE01 then .positive ok d.lockTake
  else if rid = 0xFE02 then
    if l.length ≠ 38 then .negative 0x13 d
    else d.udsCommand 0x0201 ([w32 (beNat ((l.drop 2).take 4)), at' 0 (beNat (l.take 2))] ++ beWords (l.drop 6)) ok
  else if rid = 0xFE03 then d.udsCommand 0x0204 [] ok
  else if rid = 0xFE10 then
    if l.length ≠ 2 then .negative 0x13 d
    else (d.modUds fun u => { u with dcMask := beNat l }).udsCommand 0x0805 [w32 (beNat l)] ok
  else if rid = 0xFE11 then
    if l.length ≠ 1 then .negative 0x13 d
    else if 15 < n 0 then .negative 0x31 d
    else d.udsCommand 0x0804 [at' 0 (n 0), 0, 0] ok
  else
    if l.length ≠ 2 then .negative 0x13 d
    else if 3 < n 0 ∨ 3 < n 1 then .negative 0x31 d
    else d.udsCommand 0x080A [at' 0 (n 0) ||| at' 8 (n 1)] ok)

/-- RoutineControl stopRoutine. -/
def routineStop (d : Dev) (rid : U16) : UdsResult := d.routineGuard rid (
  if rid = 0xFE01 then .positive (routineOk 0x02 rid []) d.lockGive
  else if rid = 0xFE02 then d.udsCommand 0x0205 [] (routineOk 0x02 rid [])
  else .negative 0x12 d)

/-- The state of an operation the tester started: 0 running, 1 ended with OK, 2 otherwise. -/
def routineState (d : Dev) (opcode : Nat) : Option Nat :=
  if d.mail.testerOps.any fun o => o.1 == opcode then some 0
  else (d.mail.testerEnds.lookup opcode).map fun st => if st = 0 then 1 else 2

/-- RoutineControl requestRoutineResults; a routine never started is out of sequence. (DEDUCED, log 122) -/
def routineResults (d : Dev) (rid : U16) : UdsResult := d.routineGuard rid (
  let answer (l : List Byte) : UdsResult := .positive (routineOk 0x03 rid l) d
  let state (opcode : Nat) (more : List Byte) : UdsResult :=
    match d.routineState opcode with
    | some n => answer (byte n :: more)
    | none => .negative 0x24 d
  if rid = 0xFE00 then d.mail.testerDone.elim (.negative 0x24 d) fun w => answer (wordsBe [w])
  else if rid = 0xFE01 then answer [if d.mail.lockHeld then 1 else 0]
  else if rid = 0xFE02 then
    let failed := if d.routineState 0x0201 = some 2 then answer [2] else .negative 0x24 d
    match d.flash.session with
    | some x => if x.holder = .tester then answer [if x.erased then 1 else 0] else failed
    | none => failed
  else if rid = 0xFE10 then
    let ks := (List.range 16).filter fun k => d.can.uds.dcMask.testBit k
    let dc := ks.flatMap fun k => ((d.udsRead cmdMeasResult [w32 k]).drop 16).take 4
    match d.routineState 0x0805 with
    | some n => answer (byte (min 1 n) :: dc)
    | none => .negative 0x24 d
  else if rid = 0xFE11 then state 0x0804 []
  else if rid = 0xFE12 then state 0x080A []
  else .negative 0x12 d)

/-! ### Download (R338) -/

/-- RequestDownload: of an image whose update the tester prepared and whose slot is erased. (DEDUCED, log 122) -/
def udsDownload (d : Dev) (format alfid : Byte) (address size : Word) : UdsResult := d.udsGuard [1] true (
  match d.flash.session with
  | none => .negative 0x22 d
  | some x =>
    if x.holder ≠ .tester then .negative 0x22 d
    else if !x.erased then .negative 0x24 d
    else if format ≠ 0 ∨ alfid ≠ 0x44 ∨ address ≠ 0 ∨ size.toNat ≠ x.length then .negative 0x31 d
    else .positive [0x74, 0x20, 0x00, 0xE2] (d.modUds fun u => { u with download := true, counter := 0 }))

/-- TransferData: one block, written at the next expected offset. (DEDUCED, log 122) -/
def udsTransfer (d : Dev) (counter : Byte) (data : List Byte) : UdsResult := d.udsGuard [1] true (
  let u := d.can.uds
  if !u.download then .negative 0x24 d
  else
    let got := d.flash.session.elim 0 fun x => x.received.length
    if counter = u.counter ∧ got ≠ 0 then .positive [0x76, counter] d
    else if counter ≠ u.counter + 1 then .negative 0x73 d
    else if data.length < 8 ∨ 224 < data.length ∨ data.length % 8 ≠ 0 then .negative 0x13 d
    else match d.udsCommand 0x0202 ([w32 (4 * got), 0] ++ beWords data) [0x76, counter] with
      | .positive l d => .positive l (d.modUds fun u => { u with counter := counter })
      | r => r)

/-- RequestTransferExit: as FWU_FINISH. -/
def udsTransferExit (d : Dev) : UdsResult := d.udsGuard [1] true (
  if !d.can.uds.download then .negative 0x24 d
  else
    let ovr (d : Dev) : Dev := if d.flash.session.isNone then d.modUds fun u => { u with download := false } else d
    match d.udsCommand 0x0203 [] [0x77] with
    | .positive l d => .positive l (ovr d)
    | .negative n d => .negative n (ovr d)
    | r => r)

/-- TesterPresent. -/
def udsPresent (d : Dev) (sub : Byte) : UdsResult :=
  if d.udsHold then .negative 0x11 d
  else if sub.toNat % 128 ≠ 0 then .negative 0x12 d
  else if 128 ≤ sub.toNat then .silent d
  else .positive [0x7E, 0x00] d

/-! ### Requests and responses -/

/-- Negative codes a functional request is not answered with (ISO 14229-1). (PRESUMED, log 120) -/
def nrcHidden (functional : Bool) (nrc : Nat) : Bool := functional && [0x11, 0x12, 0x31, 0x7E, 0x7F].contains nrc

/-- The response of a service is sent; one that follows later is awaited. (PRESUMED, log 120) -/
def udsAnswer (sid : Byte) (functional : Bool) (r : UdsResult) : Dev :=
  match r with
  | .positive l d => d.testerSend l
  | .negative nrc d => if nrcHidden functional nrc then d else d.testerSend [0x7F, sid, byte nrc]
  | .later d => d.modUds fun u => { u with awaiting := some sid }
  | .silent d => d

/-- Ouvoso, or in PROOF_HOLD the boot ROM, serves the tester. -/
def udsServes (d : Dev) : Bool := d.power.state == .active || d.power.state == .proofHold

/-- One service performed and answered, as its row has it. (PRESUMED, log 115) -/
def udsRow (d : Dev) (sid : Byte) (f : Dev → UdsResult) : Dev := if d.udsServes then udsAnswer sid false (f d) else d

/-- A request with a sub-function: its code without the suppress bit, and, where the bit is set,
the positive response withheld. -/
def udsSub (sub : Byte) (k : Nat → UdsResult) : UdsResult :=
  match k (sub.toNat % 128) with
  | .positive l d => if 128 ≤ sub.toNat then .silent d else .positive l d
  | r => r

/-- The sub-functions of ReadDTCInformation. -/
def udsReadDtc (d : Dev) (sub : Byte) (rest : List Byte) : UdsResult :=
  let b (i : Nat) : Byte := rest.getD i 0
  let sized (n : Nat) (r : UdsResult) : UdsResult := if rest.length = n then r else .negative 0x13 d
  udsSub sub fun
    | 1 => sized 1 (d.udsDtcCount (b 0))
    | 2 => sized 1 (d.udsDtcList (b 0))
    | 6 => sized 4 (d.udsDtcExt (BitVec.ofNat 24 (beNat (rest.take 3))) (b 3))
    | 0x0A => sized 0 d.udsDtcSupported
    | _ => .negative 0x12 d

/-- The sub-functions of RoutineControl. -/
def udsRoutine (d : Dev) (sub : Byte) (rest : List Byte) : UdsResult :=
  let rid : U16 := BitVec.ofNat 16 (beNat (rest.take 2))
  if d.udsHold then .negative 0x11 d
  else if rest.length < 2 then .negative 0x13 d
  else udsSub sub fun
    | 1 => d.routineStart rid (rest.drop 2)
    | 2 => d.routineStop rid
    | 3 => d.routineResults rid
    | _ => .negative 0x12 d

/-- The identifiers of a ReadDataByIdentifier request. -/
def didList : List Byte → List U16
  | a :: b :: t => BitVec.ofNat 16 (beNat [a, b]) :: didList t
  | _ => []

/-- A request of the tester performed (Table 12.4). -/
def udsPerform (d : Dev) (sid : Byte) (rest : List Byte) : UdsResult :=
  let sub : Byte := rest.getD 0 0
  let sized (n : Nat) (r : UdsResult) : UdsResult := if rest.length = n then r else .negative 0x13 d
  match sid.toNat with
  | 0x10 => if d.udsHold then .negative 0x11 d else sized 1 (d.udsSession sub)
  | 0x11 => sized 1 (d.udsReset sub)
  | 0x14 => if d.udsHold then .negative 0x11 d else sized 3 (d.udsClear (BitVec.ofNat 24 (beNat rest)))
  | 0x19 => if rest.isEmpty then .negative 0x13 d else d.udsReadDtc sub (rest.drop 1)
  | 0x22 => if rest.length % 2 = 1 then .negative 0x13 d else d.udsData (didList rest)
  | 0x27 =>
    if d.udsHold then .negative 0x11 d
    else udsSub sub fun
      | 1 => sized 1 d.udsSeed
      | 2 => sized 5 (d.udsKey (w32 (beNat (rest.drop 1))))
      | _ => .negative 0x12 d
  | 0x31 => if d.udsHold then .negative 0x11 d else if rest.isEmpty then .negative 0x13 d else d.udsRoutine sub (rest.drop 1)
  | 0x34 =>
    if d.udsHold then .negative 0x11 d
    else if rest.length < 2 then .negative 0x13 d
    else if rest.length = 10 then
      d.udsDownload sub (rest.getD 1 0) (w32 (beNat ((rest.drop 2).take 4))) (w32 (beNat (rest.drop 6)))
    else d.udsGuard [1] true (.negative 0x31 d)
  | 0x36 => if d.udsHold then .negative 0x11 d else if rest.isEmpty then .negative 0x13 d else d.udsTransfer sub (rest.drop 1)
  | 0x37 => if d.udsHold then .negative 0x11 d else sized 0 d.udsTransferExit
  | 0x3E => if d.udsHold then .negative 0x11 d else sized 1 (d.udsPresent sub)
  | _ => .negative 0x11 d

/-- The tester's waiting request is served in a pass. -/
def udsPass (d : Dev) : Dev :=
  match d.can.uds.request with
  | some (sid :: rest, functional) =>
    udsAnswer sid functional ((d.modUds fun u => { u with request := none }).udsPerform sid rest)
  | _ => d.modUds fun u => { u with request := none }

/-- A late response of the tester's command has come: the diagnostic response goes out. -/
def udsFlush (d : Dev) : Dev :=
  match d.can.uds.awaiting, d.mail.testerResponse with
  | some _, some r =>
    (d.modUds fun u => { u with awaiting := none }).testerSend ([0x71, 0x01, 0xFE, 0x00] ++ wordsBe r.words)
  | _, _ => d

/-- The service the tester still waits for, by its SID. -/
def udsPending (d : Dev) : Option Byte :=
  match d.can.uds.request with
  | some (sid :: _, _) => some sid
  | _ => d.can.uds.awaiting

/-- A response not sent in time is preceded by NRC 0x78 (R332). -/
def udsWait (d : Dev) : Dev :=
  match d.udsPending with
  | some sid => if d.udsServes then d.testerSend [0x7F, sid, 0x78] else d
  | none => d

/-- TesterPresent with the suppress bit. -/
def isKeepAlive (l : List Byte) : Bool := l == [0x3E, 0x80]

/-- A request completes its transport and waits for a pass; one that meets another still being
served is answered busyRepeatRequest, but for TesterPresent with the suppress bit (R330, R331). -/
def udsComplete (d : Dev) : Dev :=
  match d.can.rx with
  | none => d
  | some r =>
    if r.bytes.length < r.length ∨ !d.udsServes then d
    else
      let d := d.modCan fun c => { c with rx := none }
      if d.udsPending.isNone then d.modUds fun u => { u with request := some (r.bytes, r.functional) }
      else if r.functional ∨ isKeepAlive r.bytes then d
      else d.testerSend [0x7F, r.bytes.getD 0 0, 0x21]

/-- S3server expires (R332); it does not run while a request is served (Table 12.8). (DEDUCED, log 124) -/
def s3Expire (d : Dev) : Dev := if d.can.uds.session = 0 ∨ d.udsPending.isSome then d else d.sessionEnd

/-- The delay after three wrong keys ends (R333). -/
def delayEnd (d : Dev) : Dev := d.modUds fun u => { u with delaying := false }

end Dev
end Sys2Proof.Machine
end

