-- ==== Sys2Proof/Machine/Pass.lean ====
section
/-! DEFINITION.
The service pass (R133, R136, R140, R142, R146): the commands that wait, their conflicts, and the
order in which they are applied. -/

namespace Sys2Proof.Machine

/-- The request in a mailbox's window as the doorbell committed it (R126, Table 5.2). (PRESUMED, log 6) -/
def Mailbox.decode (m : Mailbox) : Nat × Request :=
  let h := m.request[(0 : Fin 64)]
  let n := fld m.request[(1 : Fin 64)] 7 0
  (fld h 15 0, { tag := byte (fld h 23 16), persist := h.getLsbD 24, length := n,
                 payload := ((m.request.toList.drop 2).take 60).take ((n + 3) / 4) })

/-- A command taken up by a pass: from a mailbox, from the tester (with the command it carries, if
it is routine 0xFE00), from the remote controller. -/
inductive Job where
  | mailbox (k : Fin 2) (opcode : Nat) (req : Request)
  | tester (command : Option (Nat × Request))
  | remote (w : RemoteWaiting)

/-- The source of a job. -/
def Job.source : Job → Source
  | .mailbox k _ _ => if k = 0 then .mb0 else .mb1
  | .tester _ => .tester
  | .remote _ => .remote

/-- The Ouvoso command of a job. -/
def Job.command : Job → Option (Nat × Request)
  | .mailbox _ op req => some (op, req)
  | .tester c => c
  | .remote w => some (w.queued.opcode, w.queued.request)

/-- The bits of a mask, as indices from `base`. -/
def maskBits (base n : Nat) (w : Word) : List Nat :=
  ((List.range n).filter w.getLsbD).map (base + ·)

/-- The parameters and objects a command sets, by kind and index: what two commands of one pass
conflict over (R140). SCHED_CANCEL is none of them: it is applied before any SCHED_SET (Table 14.4).
 (DEDUCED, log 58) -/
def touches (opcode : Nat) (req : Request) : List (Nat × Nat) :=
  let on (kind : Nat) (l : List Nat) : List (Nat × Nat) := l.map fun i => (kind, i)
  let dests := maskBits 0 32 (req.word 8) ++ maskBits 32 32 (req.word 0x0C)
  match opcode with
  | 0x0306 => on 1 [0]
  | 0x0405 => if req.bit 8 16 then on 2 [32 * req.fld 8 4 0 + req.fld 8 12 8] else []
  | 0x0503 | 0x0504 | 0x0505 => on 3 [req.fld 8 3 0 + (if req.bit 8 8 then 16 else 0)]
  | 0x0602 | 0x0603 | 0x0604 => on 4 [req.fld 8 2 0]
  | 0x0605 => on 5 [req.fld 8 2 0]
  | 0x0706 => on 6 ((List.range (min 29 (remoteCount req))).map fun i => req.fld (0x0C + 8 * i) 13 0)
  | 0x0707 => on 7 [0]
  | 0x0708 => on 8 [req.fld 8 5 0]
  | 0x0709 => on 9 dests
  | 0x070A => on 10 [req.fld 8 0 0]
  | 0x0804 => on 11 [req.fld 8 3 0]
  | 0x0805 => on 15 (maskBits 0 16 (req.word 8))
  | 0x080A => on 16 [req.fld 8 1 0]
  | 0x080B => on 12 (maskBits 0 4 (req.word 8))
  | 0x0904 => on 17 [req.fld 8 4 0]
  | 0x0A01 => on 13 [req.fld 8 5 0]
  | 0x0A03 => on 13 (maskBits 0 32 (req.word 8) ++ maskBits 32 5 (req.word 0x0C))
  | 0x0B01 => on 14 [req.fld 8 4 0]
  | _ => []

/-- A command releases a resource: a stop, a delete or a Mortar release (R133). (DEDUCED, log 58) -/
def releases (opcode : Nat) (req : Request) : Bool :=
  [0x0504, 0x0505, 0x0603, 0x0604, 0x0702, 0x0B02].contains opcode ||
    (opcode == 0x0705 && (req.fld 8 10 8 == 0 || req.fld 0x10 11 0 == 0))

namespace Dev

/-- The tester's request starts or stops the control lock, with its sub-function. -/
def lockRequest (d : Dev) : Option Nat :=
  match d.can.uds.request with
  | some (0x31 :: sub :: 0xFE :: 0x01 :: _, _) =>
    if d.can.uds.session = 2 ∧ d.can.uds.unlocked then some (sub.toNat % 128) else none
  | _ => none

/-- The tester's request gives the lock back: routine 0xFE01 stopped, or the default session (R332). -/
def lockEnds (d : Dev) : Bool :=
  d.lockRequest == some 2 ||
    match d.can.uds.request with
    | some ([0x10, sub], _) => sub.toNat % 128 == 1
    | _ => false

/-- The Ouvoso command a routine request stands for: the one 0xFE00 carries, and those that 0xFE10 to 0xFE12
act as (Table 12.6, R337). -/
def routineCommand (rid : Byte) (l : List Byte) : Option (Nat × Request) :=
  let plain (op : Nat) (payload : List Word) : Option (Nat × Request) :=
    some (op, { tag := 0, persist := false, length := 4 * payload.length, payload := payload })
  let n (i : Nat) : Nat := (l.getD i 0).toNat
  match rid.toNat with
  | 0x00 =>
    let (op, req) := recordRequest l
    if 8 ≤ l.length ∧ l.length = 8 + req.length then some (op, req) else none
  | 0x10 => if l.length = 2 then plain 0x0805 [w32 (beNat l)] else none
  | 0x11 => if l.length = 1 ∧ n 0 < 16 then plain 0x0804 [at' 0 (n 0), 0, 0] else none
  | 0x12 => if l.length = 2 ∧ n 0 < 4 ∧ n 1 < 4 then plain 0x080A [at' 0 (n 0) ||| at' 8 (n 1)] else none
  | _ => none

/-- The Ouvoso command the tester's request stands for, if it may be run (R337). -/
def testerCommand (d : Dev) : Option (Nat × Request) :=
  match d.can.uds.request with
  | some (0x31 :: sub :: 0xFE :: rid :: l, _) =>
    if sub.toNat % 128 = 1 ∧ d.can.uds.session = 2 ∧ d.can.uds.unlocked then routineCommand rid l else none
  | _ => none

/-- The tester's request is routine 0xFE00, whose response carries the command's. -/
def testerCarries (d : Dev) : Bool :=
  match d.can.uds.request with
  | some (0x31 :: _ :: 0xFE :: 0x00 :: _, _) => true
  | _ => false

/-- What waits, in the order MB1, MB0, tester, remote controller (R133). Only the mailboxes are
served in QUIET. -/
def jobs (d : Dev) : List Job :=
  let mb (k : Fin 2) : List Job :=
    let m := d.mail.mb[k]
    if m.state = .busy ∧ !m.taken then [.mailbox k m.decode.1 m.decode.2] else []
  let tester : List Job := if d.can.uds.request.isSome ∧ d.udsServes then [.tester d.testerCommand] else []
  let remote : List Job := if d.power.state = .active then d.remote.waiting.map .remote else []
  mb 1 ++ mb 0 ++ tester ++ remote

/-- The authority class of a job in this pass (Table 5.5). -/
def jobClass (d : Dev) (j : Job) : Nat :=
  match j.command with
  | some (op, req) => d.sourceClass j.source ((cmdSpec op).any fun c => c.lockable d req)
  | none => d.sourceClass j.source false

/-- What a job sets, if its command passes the shared checks. -/
def jobTouches (d : Dev) (j : Job) : List (Nat × Nat) :=
  match j.command with
  | some (op, req) =>
    match d.serveCheck j.source op req with
    | .ok _ => touches op req
    | .error _ => []
  | none => []

/-- The class of the job that wins over the one at place `i` of the pass, if it conflicts with one
(R140): a higher class, and MB1 before MB0 at equal class. A job wins by what it sets, whatever becomes of
itself. (DEDUCED, log 58; DESIGN CHOICE, log 144) -/
def beatenBy (d : Dev) (l : List Job) (i : Nat) : Option Nat :=
  let mine := (l[i]?).elim [] d.jobTouches
  let cls (j : Nat) : Nat := (l[j]?).elim 9 d.jobClass
  let host (j : Nat) : Bool := (l[j]?).any fun x => x.source == .mb0 || x.source == .mb1
  let ovr (j : Nat) : Bool := cls j < cls i || (cls j == cls i && j < i && host j && host i)
  let meets (j : Nat) : Bool := (((l[j]?).elim [] d.jobTouches).any mine.contains)
  let winners := (List.range l.length).filter fun j => j != i && ovr j && meets j
  (winners.map cls).min?

/-- BUSY_AUTHORITY with the winner's class. -/
def beaten (d : Dev) (op : Nat) (req : Request) (cls : Nat) : Dev × Option Response :=
  d.refused op req.tag Status.busyAuthority.code cls []

/-- One job applied: its command, or its refusal where it was beaten; a remote request answered before is
answered so again (R198). (DEDUCED, log 59) -/
def runJob (d : Dev) (j : Job) (loses : Option Nat) : Dev :=
  let core (op : Nat) (req : Request) : Dev × Option Response :=
    match loses with
    | some cls => d.beaten op req cls
    | none => d.serveCore j.source op req
  match j with
  | .mailbox k op req =>
    match core op req with
    | (d, some r) => d.respondMb k r
    | (d, none) => d.modMb k fun m => { m with taken := true }
  | .tester c =>
    match c, loses with
    | some (op, req), some cls =>
      let carried := d.testerCarries
      let (d, r) := (d.modUds fun u => { u with request := none }).beaten op req cls
      udsAnswer 0x31 false (if carried then
          .positive ([0x71, 0x01, 0xFE, 0x00] ++ wordsBe (r.elim [] Response.words)) d
        else .negative (statusNrc false Status.busyAuthority.code cls) d)
    | _, _ => d.udsPass
  | .remote w =>
    match d.remoteCached w.source w.seq with
    | some c => d.remoteSend w.port w.source w.seq c.response
    | none =>
      if d.remote.late.any fun x => x.source == w.source && x.seq == w.seq then d
      else match core w.queued.opcode w.queued.request with
        | (d, some r) => d.respondRemote w r
        | (d, none) => { d with remote := { d.remote with late := d.remote.late ++ [w] } }

/-- A job's rank in the order of a pass: the taking of the control lock first, then releases, then
the rest, and the giving back of the lock last (R133, R142). -/
def jobRank (d : Dev) (j : Job) : Nat :=
  match j with
  | .tester none => if d.lockRequest = some 1 then 0 else if d.lockEnds then 3 else 2
  | j => if j.command.any fun c => releases c.1 c.2 then 1 else 2

/-- The responses that waited for this pass (R203). -/
def deferredReplies (d : Dev) : Dev :=
  let l := d.mail.deferred
  l.foldl (fun (d : Dev) x => d.respond x.1 x.2) { d with mail := { d.mail with deferred := [] } }

/-- One service pass. Conflicts are judged on the state at its start, with a lock the tester takes
in it in force. In QUIET it needs Hearth's clock, which stops again at its end unless QUIET_EXIT was served (R78).
 (DEDUCED, log 58) -/
def servicePass (d : Dev) : Dev :=
  if !d.serving || (d.power.state == .quiet && !d.power.quietPass) then d
  else
    let d := d.deferredReplies.udsFlush
    let l := d.jobs
    let judge : Dev := if d.lockRequest = some 1 then { d with mail := { d.mail with lockHeld := true } } else d
    let ranked := (List.range l.length).filterMap fun i =>
      (l[i]?).map fun j => (judge.jobRank j, j, judge.beatenBy l i)
    let d : Dev := { d with
      remote := if d.power.state = .active then { d.remote with waiting := [] } else d.remote }
    let run (d : Dev) (rank : Nat) : Dev :=
      (ranked.filter fun x => x.1 == rank).foldl (fun (d : Dev) x => d.runJob x.2.1 x.2.2) d
    let d := [0, 1, 2, 3].foldl run d
    { d with power := { d.power with quietPass := d.power.state == .quiet && d.power.quietExit.isSome } }

/-- A valid doorbell in QUIET restarts Hearth's clock for one pass (R78). -/
def quietPassStart (d : Dev) : Dev :=
  let waits (k : Fin 2) : Bool := d.mail.mb[k].state == .busy && !d.mail.mb[k].taken
  if d.power.state = .quiet ∧ (waits 0 || waits 1) then { d with power := { d.power with quietPass := true } } else d

end Dev
end Sys2Proof.Machine
end

