-- ==== Sys2Proof/Machine/Power.lean ====
section
/-! DEFINITION.
Proof, the boot from the image slots and the journal, the supply supervisor, and QUIET (chapter 3). -/

namespace Sys2Proof.Machine

/-! ### Proof (R50, R71, R72) -/

/-- The VDDIO_E window of the recommended operating conditions that holds a reading in mV, as
IOE_MODE codes it; 0 for none (R50). -/
def ioeWindow (mv : Nat) : Nat :=
  if 1710 ≤ mv ∧ mv ≤ 1890 then 1
  else if 2375 ≤ mv ∧ mv ≤ 2625 then 2
  else if 3135 ≤ mv ∧ mv ≤ 3465 then 3
  else 0

/-- The steps of Table 3.4 in order: for each failure its step, its code and its detail. The
flash's own contents decide the factory record and the image slots. -/
def proofFailures (r : ProofReadings) (f : Flash) : List (Bool × Nat × Nat × Nat) :=
  [ (r.vdd33 < 3000 || 3600 < r.vdd33, 1, 0x01, r.vdd33),
    (r.vddc < 1050 || 1150 < r.vddc, 1, 0x02, r.vddc),
    (r.vdda < 1710 || 1890 < r.vdda, 1, 0x03, r.vdda),
    (ioeWindow r.vddioE == 0, 1, 0x04, r.vddioE),
    (200 < r.pllError.natAbs, 2, 0x10, 0),
    (!r.romCrcOk, 3, 0x11, 0),
    (r.hearthRamFail.isSome, 4, 0x20, (r.hearthRamFail.getD 0) / 4),
    (r.audioRamFail.isSome, 5, 0x21, (r.audioRamFail.getD 0) / 4),
    (!r.regFileOk, 6, 0x22, 0),
    (!r.flashOk, 7, 0x32, 0),
    (!f.factoryOk, 7, 0x30, 0),
    (!f.slotA.valid && !f.slotB.valid, 7, 0x31, 0),
    (!r.dcoOk, 8, 0x40, 0),
    (!r.adcRefOk, 9, 0x50, 0),
    (16 < (r.dieA - r.dieB).natAbs, 9, 0x51, 0),
    (300 ≤ r.dieA || 300 ≤ r.dieB, 9, 0x52, 0),
    (r.mutePads != 0, 10, 0x60, 0) ]

/-- The first failure: its step, its code and its detail. -/
def proofFailure (r : ProofReadings) (f : Flash) : Option (Nat × Nat × Nat) :=
  ((proofFailures r f).find? (·.1)).map (·.2)

/-- A request as a journal item's value gives it. -/
def itemRequest (value : List Word) : Request :=
  { tag := 0, persist := false, length := 4 * value.length, payload := value }

/-- The command that applies a journal item again, by its key (the Commands sections of chapters 6
to 13). (DEDUCED, log 35) -/
def keyOpcode (key : Nat) : Option Nat :=
  let low := key % 256
  match key / 256 with
  | 0x03 => if 1 ≤ low ∧ low ≤ 3 then some (0x0301 + low) else none
  | 0x04 => match low / 16 with
    | 1 => some 0x0402
    | 2 => some 0x0404
    | 3 => some 0x0406
    | 4 => some 0x0407
    | _ => none
  | 0x05 => match low / 16 with
    | 0 => some 0x0501
    | 1 => some 0x0502
    | 2 => some 0x0508
    | _ => none
  | 0x06 => if low < 16 then some 0x0601 else some 0x0608
  | 0x07 =>
    if low < 4 then some 0x0701
    else if low / 16 = 1 then some 0x070C
    else if low = 0x20 then some 0x070B
    else if low = 0x21 ∨ low = 0x22 then some 0x070A
    else none
  | 0x08 => match low / 16 with
    | 0 => some 0x0801
    | 1 => some 0x0802
    | 2 => some 0x0804
    | 3 => some 0x0809
    | _ => none
  | 0x09 => if low = 0 then some 0x0901 else if low = 1 then some 0x0902 else some 0x0903
  | 0x0A => if low < 0x40 then some 0x0A01 else if low < 0x60 then some 0x0A02 else some 0x0A05
  | _ => none

namespace Dev

/-- A command's effect taken without its response; a refusal leaves the device as it is. -/
def effect (d : Dev) (r : CmdResult) : Dev :=
  match r with
  | .done _ _ _ _ d' => d'
  | .later _ d' => d'
  | .refuse _ _ _ => d
  | .mismatch d' => d'

/-- The bindings of 32 sources from an item's words (R286). -/
def replaySources (d : Dev) (base : Nat) (v : List Word) : Dev :=
  d.modRoute fun r => { r with sources := Vector.ofFn fun k : Fin 64 =>
    if base ≤ k.val ∧ k.val < base + 32 then wordSource (v.getD (k.val - base) 0) else r.sources[k] }

/-- A destination's binding and gain from an item's words (R286). -/
def replayDest (d : Dev) (k : Fin 64) (v : List Word) : Dev :=
  let d := d.effect (cmdDestBind .mb0 (itemRequest (v.take 4)) d)
  d.modDest k fun x => let g := fldS (v.getD 4 0) 23 0; { x with gainFrom := g, gainTo := g }

/-- The crosspoints of one destination from one half of the sources, in both banks (R286). -/
def replayXps (d : Dev) (n : Nat) (v : List Word) : Dev :=
  if h : n / 2 < 64 then
    let xs : List Xp := v.map fun w => ⟨finMod 64 (32 * (n % 2) + fld w 28 24) (by decide), ⟨n / 2, h⟩, fldS w 23 0⟩
    d.modRoute fun r => { r with
      staged := r.staged ++ xs, active := r.active ++ xs.map fun x => ⟨x.src, x.dst, x.gain, x.gain⟩ }
  else d

/-- One journal item applied (R76, R86). (DEDUCED, log 35) -/
def replayItem (d : Dev) (item : Nat × List Word) : Dev :=
  let (key, v) := item
  if key = 0x0724 then d.replaySources 0 v
  else if key = 0x0725 then d.replaySources 32 v
  else if h : 0x0740 ≤ key ∧ key < 0x0780 then d.replayDest ⟨key - 0x0740, by omega⟩ v
  else if 0x0780 ≤ key ∧ key < 0x0800 then d.replayXps (key - 0x0780) v
  else if h : 0x0840 ≤ key ∧ key < 0x0844 then
    d.modAmp ⟨key - 0x0840, by omega⟩ fun a => { a with autoRelease := (v.getD 0 0).getLsbD 0 }
  else match (keyOpcode key).bind cmdSpec with
    | some c => d.effect (c.run .mb0 (itemRequest v) d)
    | none => d

/-- The items in the order of replay: those of the pins first, their locks last, the others between
in ascending order (R365). -/
def replayOrder (l : List (Nat × List Word)) : List (Nat × List Word) :=
  let pins := l.filter fun p => p.1 / 256 == 0x0A && p.1 != 0x0A60
  let locks := l.filter fun p => p.1 == 0x0A60
  pins ++ (l.filter fun p => p.1 / 256 != 0x0A) ++ locks

/-- The live bank: the one with a valid header and the higher generation (R86). -/
def journalFind (j : Journal) : Journal :=
  { j with liveB := j.bankB.header && (!j.bankA.header || j.bankA.gen < j.bankB.gen) }

/-- PROOF can begin: no reset source holds (R69), and the pins are not the test access port's (R400),
whose release starts a stopped Proof over. -/
def proofReady (d : Dev) : Bool :=
  let p := d.power
  !d.pinsTaken && !p.porAsserted && !p.rstLow && (p.state == .off || (p.state == .proof && p.proofStopped))

/-- PROOF begins: the crystal and the PLL run (R69, R71). -/
def proofStart (d : Dev) : Dev :=
  if d.proofReady then
    { d with power := { d.power with state := .proof, pllLost := false, proofStep := 1, proofStopped := false }, cc := 0 }
  else d

/-- In PROOF_HOLD the boot ROM sets up CAN from the journal when the flash controller answers and
the live bank replays, and leaves INIT (chapter 12, Configuration). -/
def holdCan (d : Dev) (flashOk : Bool) : Dev :=
  let j := journalFind d.journal
  let use : Bool := flashOk && j.live.header
  let items := if use then j.items.filter fun p => p.1 == 0x0900 || p.1 == 0x0901 else []
  (items.foldl (fun (d : Dev) p => d.replayItem p) d).setRbit Reg.CAN_CTRL 0 false

/-- PROOF ends (R71): its result, and BOOT or PROOF_HOLD. -/
def proofComplete (d : Dev) (r : ProofReadings) : Dev :=
  if d.power.state ≠ .proof ∨ d.power.proofStopped ∨ d.pinsTaken then d
  else
    let fail := proofFailure r d.flash
    let d := d.setReg Reg.PWR_PROOF_RESULT (orW [at' 0 (fail.elim 0 fun f => f.2.1),
      at' 8 (fail.elim 0 fun f => f.2.2 % 65536), at' 24 (r.time % 256)])
    let d := (d.setReg Reg.PWR_RAILS_A (at' 0 r.vdd33 ||| at' 16 r.vddc)).setReg Reg.PWR_RAILS_B
      (at' 0 r.vddioE ||| at' 16 r.vdda)
    let measured := fail.all fun f => 9 < f.1
    let d : Dev := { d with sup := { d.sup with
      ioeMode := ioeWindow r.vddioE
      dieA := if measured then 2 * r.dieA else d.sup.dieA
      dieB := if measured then 2 * r.dieB else d.sup.dieB } }
    match fail with
    | none => { d with power := { d.power with state := .boot, proofStep := 10 } }
    | some (step, _, _) =>
      ({ d with power := { d.power with state := .proofHold, proofStep := step } } : Dev).holdCan r.flashOk

/-! ### Boot (R75, R76, R92) -/

/-- The slot is on offer for its one trial attempt (R75). -/
def Slot.onTrial (s : Slot) : Bool := s.valid && s.trial && !s.attempted && !s.confirmed

/-- The slot R75 runs, `true` for B: a trial slot if its marker may be programmed now, else the
valid confirmed slot with the higher sequence number, else the valid slot with the higher one. A
trial slot whose marker may not be programmed is absent. (DEDUCED, log 36, 38, 39; DESIGN CHOICE, log 135) -/
def bootSlot (f : Flash) (permitted : Bool) : Option Bool :=
  let pick (ok : Slot → Bool) : Option Bool :=
    if ok f.slotA ∧ ok f.slotB then some (decide (f.slotA.seq < f.slotB.seq))
    else if ok f.slotA then some false
    else if ok f.slotB then some true
    else none
  let trial := if permitted then pick Slot.onTrial else none
  (trial.orElse fun _ => pick fun s => s.valid && s.confirmed).orElse fun _ => pick fun s => s.valid && !Slot.onTrial s

/-- The boot ROM selects a slot and starts it (R75). (DEDUCED, log 38, 39, 40) -/
def bootStart (d : Dev) : Dev :=
  if d.power.state ≠ .boot ∨ d.power.slotStarted then d
  else match bootSlot d.flash d.flashPermitted with
    | none => d
    | some b =>
      let s := if b then d.flash.slotB else d.flash.slotA
      let other := if b then d.flash.slotA else d.flash.slotB
      let trial := Slot.onTrial s
      let mark (s : Slot) : Slot := { s with attempted := s.attempted || trial }
      let f := if b then { d.flash with slotB := mark d.flash.slotB } else { d.flash with slotA := mark d.flash.slotA }
      let d : Dev := { d with flash := { f with runningB := b }, power := { d.power with slotStarted := true } }
      d.setReg Reg.PWR_BOOT_STATUS (orW [bitW 0 d.flash.slotA.valid, bitW 1 d.flash.slotB.valid, bitW 2 trial,
        bitW 3 (other.valid && other.trial && !other.confirmed)])

/-- The addresses of the factory record go into the ports (chapter 7, Configuration). -/
def loadMacs (d : Dev) : Dev :=
  (allFin 3).foldl (fun (d : Dev) p =>
    let a : BitVec 48 := BitVec.ofNat 48 (beNat ((List.range 6).map fun i => Config.factoryMac p.val i))
    let d := d.modPort p fun e => { e with mac := a }
    (d.setReg (ethReg p Reg.ETH0_MAC_LO) (a.setWidth 32)).setReg (ethReg p Reg.ETH0_MAC_HI)
      ((a >>> 32).setWidth 32)) d

/-- The journal is found and recovered (R86, R92): its live bank, what PWR_BOOT_STATUS tells of it,
and the repetition of an interrupted erase, where NV-write inhibit lets it start (R83). -/
def journalBoot (d : Dev) : Dev :=
  let j := journalFind d.journal
  let torn := j.live.header && j.live.records.any (!·.valid)
  let none_ := !j.bankA.header && !j.bankB.header
  let dirty := (if j.bankA.dirty then [EraseTarget.bankA] else []) ++ (if j.bankB.dirty then [EraseTarget.bankB] else [])
  let last := (j.live.records.filter (·.valid)).getLast?.elim 0 (·.seq)
  let d := d.modJournal fun _ => { j with
    lastSeq := last, erasing := if d.sup.nvwInhibit then j.erasing else dirty ++ j.erasing }
  d.raise Reg.PWR_BOOT_STATUS (orW [bitW 4 j.liveB, bitW 5 torn, bitW 6 none_, bitW 7 (!dirty.isEmpty),
    at' 16 (j.live.gen % 65536)])

/-- Ouvoso reports itself running (R76, R92): the journal is replayed, the TDM ports start, and the
endpoint enters ACTIVE with its START scripts requested and its first operation cycle begun. -/
def bootComplete (d : Dev) : Dev :=
  if d.power.state ≠ .boot ∨ ¬ d.power.slotStarted then d
  else
    let d := d.loadMacs.journalBoot
    let d := d.modMeas fun m => { m with dtcs := (storeDtcs m.store).foldl putDtc m.dtcs }
    let d := (replayOrder d.journal.items).foldl (fun (d : Dev) p => d.replayItem p) d
    let d := (allFin 4).foldl (fun (d : Dev) p => d.tdmApply p) d
    let d : Dev := { d with power := { d.power with state := .active } }
    let d := d.raiseBit Reg.SYS_IRQ_STATUS 20
    let d := d.pushIf (d.rbit Reg.PWR_BOOT_STATUS 5) 0x0002 (at' 0 (d.rfld Reg.PWR_BOOT_STATUS 7 0))
    (d.cycleStart.requestStarts).modStreams fun s => { s with autostart := true }

/-! ### The supervisor (R80–R84, R94) -/

/-- A condition of Table 3.7 flips when two samples in a row are on the other side of it. (DESIGN CHOICE, log 30) -/
def twoSamples (held : Bool) (enter leave : Bool × Bool) : Bool :=
  if held then !(leave.1 && leave.2) else enter.1 && enter.2

/-- PWR_VBAT takes a reading, saturated above 18.0 V. -/
def vbatTake (d : Dev) (v : Nat) : Dev :=
  d.setReg Reg.PWR_VBAT (at' 0 v ||| at' 16 (min v (d.rfld Reg.PWR_VBAT 31 16)))

/-- NV-write inhibit, crank, load dump and supply mute follow two samples: each a pair, the present
one first. Both samples are judged by the thresholds that now stand, and the two tests of NV-write inhibit are joined
per sample (R80, R89, Table 3.7). (DESIGN CHOICE, log 30) -/
def supervise (d : Dev) (v w : Nat × Nat) : Dev :=
  let s := d.sup
  let nvw := d.rfld Reg.PWR_THRESH 15 0
  let crank := d.rfld Reg.PWR_THRESH 31 16
  let ld := d.rfld Reg.PWR_CTRL 31 16
  let both (f : Nat × Nat → Bool) : Bool × Bool := (f v, f w)
  let inhibit := twoSamples s.nvwInhibit (both fun x => x.1 < nvw || x.2 < 3050)
    (both fun x => nvw + 30 ≤ x.1 && 3100 ≤ x.2 && !s.vbatOpen)
  let cranks := twoSamples s.crank (both fun x => x.1 < crank) (both fun x => crank + 30 ≤ x.1)
  let dump := twoSamples s.loadDump (both fun x => ld < x.1) (both fun x => x.1 ≤ ld - 50)
  let mute := s.supplyMute || (v.2 < 3000 && w.2 < 3000)
  let d : Dev := { d with sup := { s with nvwInhibit := inhibit, crank := cranks, loadDump := dump, supplyMute := mute } }
  let d := d.raise Reg.PWR_IRQ_STATUS (orW [bitW 0 (inhibit && !s.nvwInhibit), bitW 1 (!inhibit && s.nvwInhibit),
    bitW 2 (cranks && !s.crank), bitW 3 (!cranks && s.crank), bitW 4 (mute && !s.supplyMute),
    bitW 6 (dump && !s.loadDump)])
  let d := d.raise Reg.PWR_STICKY (orW [bitW 0 (cranks && !s.crank), bitW 1 (mute && !s.supplyMute),
    bitW 2 (dump && !s.loadDump)])
  let d := if inhibit && !s.nvwInhibit then d.dcSupply else d
  d.pushIf (mute && !s.supplyMute) 0x0008 0x8000010F

/-- VDD33 below 2.90 V during a record program: the flag of R94, and the record is torn (Table 3.8). A compaction
whose programs it meets starts over with its erase. (DEDUCED, log 33) -/
def dipInWrite (d : Dev) (vdd33 : Nat) : Dev :=
  let j := d.journal
  if ¬ vdd33 < 2900 ∨ (j.programming.isNone ∧ ¬ j.copying) then d
  else
    let d := d.modJournal fun j => match j.programming with
      | some it => { j.modBank j.liveB fun b => { b with records := b.records ++ [JRecord.mk (j.lastSeq + 1) it false] } with
          programming := none, progHeld := false }
      | none => j
    let d := d.modJournal fun j =>
      if j.copying then { j.modBank (!j.liveB) fun _ => { emptyBank with dirty := true } with copying := false } else j
    d.raiseBit Reg.PWR_STICKY 4

/-- The supervisor samples: not in OFF and in PROOF, whose own steps measure (R80, R81). (DESIGN CHOICE, log 30) -/
def supervisorSample (d : Dev) (x : SupplySample) : Dev :=
  if d.power.state = .off ∨ d.power.state = .proof then d
  else
    let v := if 1800 < x.vbat then 0xFFFF else x.vbat
    let d := ((d.vbatTake v).setReg Reg.PWR_RAILS_A (at' 0 x.vdd33 ||| at' 16 x.vddc)).setReg Reg.PWR_RAILS_B
      (at' 0 x.vddioE ||| at' 16 x.vdda)
    let d := d.setRfld Reg.PWR_HOLDUP_EST 15 0 d.holdupEst
    let d := match d.sup.prev with
      | some w => d.supervise (v, x.vdd33) w
      | none => d
    let d : Dev := { d with sup := { d.sup with
      prev := some (v, x.vdd33), samples := min 2 (d.sup.samples + 1), dieA := x.dieA, dieB := x.dieB, amon := x.amon } }
    (d.dipInWrite x.vdd33).journalWithhold.quietAdvance

/-- The soft-mute ramp of supply mute has ended: the mute lines in use go low (R84). -/
def supplyRampEnd (d : Dev) : Dev :=
  if d.sup.supplyMute then { d with sup := { d.sup with muteLinesLow := true } } else d

/-- Supply mute is left (R84): with AUTO_UNMUTE 1 the mute lines take the levels last commanded, and with
AUTO_UNMUTE 0 the lines and the destinations stay muted until the host commands otherwise. (DESIGN CHOICE, log 31) -/
def supplyMuteExit (d : Dev) : Dev :=
  if ¬ d.sup.supplyMute ∨ d.rfld Reg.PWR_RAILS_A 15 0 < 3050 then d
  else
    let auto := d.rbit Reg.PWR_CTRL 0
    let d : Dev := { d with sup := { d.sup with supplyMute := false, muteLinesLow := false } }
    let d := (allFin 4).foldl (fun (d : Dev) k => d.modAmp k fun a =>
      { a with muted := if auto then a.recorded.getD a.muted else true, recorded := none }) d
    let d := if auto then d else d.modRoute fun r => { r with dests := r.dests.map fun x => { x with held := true } }
    (d.raiseBit Reg.PWR_IRQ_STATUS 5).push 0x0008 0x10F

/-- VDDIO_E as last sampled lies in the window Proof chose (R50). -/
def ioeInside (d : Dev) : Bool := ioeWindow (d.rfld Reg.PWR_RAILS_B 15 0) == d.sup.ioeMode

/-- VDDIO_E has been outside its window for 1 ms: every port is forced DOWN (R80). (DESIGN CHOICE, log 31) -/
def vddioEnter (d : Dev) : Dev :=
  if d.sup.vddioFault ∨ d.ioeInside then d
  else
    let d : Dev := { d with sup := { d.sup with vddioFault := true } }
    (allFin 3).foldl (fun (d : Dev) p => d.portForceDown p true) (d.raiseBit Reg.PWR_IRQ_STATUS 7)

/-- VDDIO_E has been back for 10 ms (R80). (DESIGN CHOICE, log 31) -/
def vddioExit (d : Dev) : Dev :=
  if ¬ d.sup.vddioFault ∨ ¬ d.ioeInside then d
  else
    let d : Dev := { d with sup := { d.sup with vddioFault := false } }
    (allFin 3).foldl (fun (d : Dev) p => d.leaveDown p) (d.raiseBit Reg.PWR_IRQ_STATUS 7)

/-- VBAT has read below 1.00 V for 1 s outside supply mute: NV-write inhibit is held (R80). (DESIGN CHOICE, log 31) -/
def vbatOpenEnter (d : Dev) : Dev :=
  if d.sup.vbatOpen ∨ d.sup.supplyMute ∨ d.sup.prev.all (fun x => 100 ≤ x.1) then d
  else
    let was := d.sup.nvwInhibit
    let d : Dev := { d with sup := { d.sup with vbatOpen := true, nvwInhibit := true } }
    let d := d.raise Reg.PWR_IRQ_STATUS (bitW 8 true ||| bitW 0 (!was))
    (if was then d else d.dcSupply).journalWithhold

/-- VBAT has read at or above 1.30 V for 1 s (R80). (DESIGN CHOICE, log 31) -/
def vbatOpenExit (d : Dev) : Dev :=
  if d.sup.vbatOpen ∧ d.sup.prev.any (fun x => 130 ≤ x.1) then { d with sup := { d.sup with vbatOpen := false } } else d

/-! ### QUIET (R77–R79) -/

/-- A wake returns the endpoint to ACTIVE (R79): the pins return, the TDM ports start at the next grid point, the
Ethernet ports start, Keystone leaves QUIET, started groups are in BOTH_LOST, CAN leaves INIT if it was out
of it, and a new operation cycle begins with the START scripts. -/
def wake (d : Dev) : Dev :=
  let reply := d.power.quietExit
  let valid := d.ks.timeValid
  let d : Dev := { d with power := { d.power with
    state := .active, quietEntry := none, quietBegun := false, quietExit := none, wakePending := false, quietPass := false } }
  let d := (allFin 4).foldl (fun (d : Dev) p => d.tdmWake p) d.pinsReturn
  let d := (allFin 3).foldl (fun (d : Dev) p => d.leaveDown p) d
  let d := d.ksQuietExit d.namedEntry
  let d := if valid ∧ ¬ d.ks.timeValid then d.timeLost else d
  let d := (allFin 8).foldl (fun (d : Dev) g => if Group.started d.lintel.groups[g] then d.enterBothLost g else d) d
  let d := d.nameEntry.canQuietExit.cycleStart.requestStarts
  match reply with
  | some who => d.respondOk who 0x0006 []
  | none => d

/-- A wake event (Table 3.3); one that comes during entry is served at its end (R91). (DEDUCED, log 47) -/
def wakeEvent (d : Dev) (e : WakeEvent) : Dev :=
  if d.power.state = .quiet then
    match e with
    | .quietExit => if d.power.quietExit.isSome then d.wake else d
    | .crx => d.wake
    | .pin => if d.power.wakePending then d.wake else match d.wakingPin with
      | some p => (d.pinWake p).wake
      | none => d
  else if d.power.quietEntry.isSome ∧ e = .crx then { d with power := { d.power with wakePending := true } }
  else d

/-- QUIET entry completes (R77): no program of the journal runs, every TDM port has stopped and CAN is in
INIT; the ports go DOWN, the pins take their sleep states and the response is posted. A wake that
came during entry, or a pin at its wake level, is served at once. (DEDUCED, log 47) -/
def quietComplete (d : Dev) : Dev :=
  match d.power.quietEntry with
  | none => d
  | some who =>
    let stopped := (allFin 4).all fun p => d.tdm[p].state == .off
    if d.power.state ≠ .active ∨ ¬ d.power.quietBegun ∨ d.journalBusy ∨ ¬ stopped ∨ ¬ d.can.initAck then d
    else
      let d := (allFin 3).foldl (fun (d : Dev) p => d.portForceDown p false) d
      let d := d.ksQuietSave.pinsSleep.respondOk who 0x0005 []
      let d : Dev := { d with power := { d.power with state := .quiet, quietEntry := none, quietBegun := false } }
      if d.power.wakePending then d.wake else d.wakeEvent .pin

end Dev
end Sys2Proof.Machine
end

