-- ==== Sys2Proof/Machine/Flags.lean ====
section
/-! DEFINITION.
The interrupt flags: the tree from the blocks' flags to SYS_IRQ_STATUS and HIRQ_N, and the SPI status
byte (chapter 4). -/

namespace Sys2Proof.Machine
namespace Dev

/-! ### The interrupt tree (R114, R115) -/

/-- Some flag of a status register is set with its enable bit. -/
def irqOn (d : Dev) (status enable : Nat) : Bool := d.reg status &&& d.reg enable != 0

/-- The LINTEL source of Table 4.9. -/
def lintelIrq (d : Dev) : Bool :=
  d.irqOn Reg.LINTEL_IRQ_STATUS Reg.LINTEL_IRQ_ENABLE || d.irqOn Reg.LINTEL_IRQ_MISC Reg.LINTEL_IRQ_MISC_EN

/-- SYS_IRQ_STATUS (Table 4.9): its own flags, and every other bit from its source. -/
def irqStatus (d : Dev) : Word :=
  orW [d.reg Reg.SYS_IRQ_STATUS, bitW 0 (d.irqOn Reg.PWR_IRQ_STATUS Reg.PWR_IRQ_ENABLE),
    bitW 1 (d.irqOn Reg.CLK_IRQ_STATUS Reg.CLK_IRQ_ENABLE), bitW 2 (d.ethIrq 0), bitW 3 (d.ethIrq 1),
    bitW 4 (d.ethIrq 2), bitW 5 d.tdmIrq, bitW 6 d.canIrq, bitW 7 d.tmrIrq, bitW 8 d.gpioIrq, bitW 9 d.schedIrq,
    bitW 10 d.lintelIrq, bitW 11 (d.mail.mb[(0 : Fin 2)].state == .ready),
    bitW 12 (d.mail.mb[(1 : Fin 2)].state == .ready), bitW 13 (!d.mail.queue.isEmpty),
    bitW 16 (d.rfld Reg.SYS_SPI_ERR 6 0 != 0), bitW 17 (d.rbit Reg.SYS_AUTH 0),
    bitW 21 (d.power.state == .proofHold)]

/-- HIRQ_N is asserted (R114). -/
def hirq (d : Dev) : Bool := d.irqStatus &&& d.reg Reg.SYS_IRQ_ENABLE != 0 || d.power.state == .proofHold

/-- The status byte (Table 4.3). -/
def statusByte (d : Dev) : Byte :=
  (orW [at' 0 (stateCode d.power.state), bitW 3 (d.rfld Reg.SYS_SPI_ERR 6 0 != 0), bitW 4 (!d.mail.queue.isEmpty),
    bitW 5 (d.mail.mb[(1 : Fin 2)].state == .ready), bitW 6 (d.mail.mb[(0 : Fin 2)].state == .ready),
    bitW 7 d.hirq]).setWidth 8

end Dev
end Sys2Proof.Machine
end

