-- ==== Sys2Proof/Machine/Spi.lean ====
section
/-! DEFINITION.
The host interface: the words of the register space as the host reads and writes them, the bit
aliases, the SPI transaction and the snapshot (chapter 4). -/

namespace Sys2Proof.Machine
namespace Dev

/-! ### Reads (R104–R108) -/

/-- The computed words of the CAN block (Tables 12.9 to 12.12). -/
def canRead (d : Dev) (a : Nat) : Word :=
  if a = Reg.CAN_STATUS then d.canStatusWord
  else if a = Reg.CAN_ERR then d.canErrWord
  else if a = Reg.CAN_TX_PENDING then d.canPendingWord
  else if a = Reg.CAN_RX_NEW then d.canNewWord
  else if a = Reg.CAN_TDC then at' 0 (d.can.tdc % 256)
  else if a = Reg.CAN_ACK_RUN then at' 0 (min 65535 d.can.ackRun)
  else 0

/-- The register word at an aligned address below 0x0400, as the host reads it. A word no chapter
lays out reads zero (R105). -/
def regWord (d : Dev) (a : Nat) : Word :=
  if (regInfo a).isNone then 0
  else if a = Reg.SYS_IRQ_STATUS then d.irqStatus
  else if a = Reg.SYS_DBG_STATUS then d.reg a ||| bitW 0 d.host.dbg.isSome
  else if a < 0x040 then d.reg a
  else if a < 0x080 then d.reg a ||| d.pwrRead a
  else if a < 0x100 then (d.reg a &&& (regInfo a).elim 0 fun r => r.rw ||| r.w1c) ||| d.clkRead d.namedEntry a
  else if h : a < 0x1C0 ∧ 0x100 ≤ a then
    d.reg a ||| d.ethRead ⟨(a - 0x100) / 0x40, by omega⟩ (a % 0x40)
  else if a = Reg.ARB_STATUS then d.arbStatus
  else if a < 0x200 then d.reg a
  else if h : a < 0x280 ∧ 0x200 ≤ a then
    d.reg a ||| d.tdmRead ⟨(a - 0x200) / 0x20, by omega⟩ (a % 0x20)
  else if a < 0x2C0 then d.reg a ||| d.canRead a
  else if a < 0x300 then (d.tmrRead a).getD (d.reg a)
  else if a < 0x3C0 then (d.gpioRead a).getD (d.reg a)
  else if a < 0x3E0 then (d.schedRead a).getD (d.reg a)
  else d.reg a ||| d.lintelRead a

/-- The mailbox and word offset of an address of the windows 0x0400–0x07FF (Table 4.4). -/
def windowOf (a : Nat) : Fin 2 × Fin 64 := (⟨a / 0x200 % 2, by omega⟩, ⟨a / 4 % 64, by omega⟩)

/-- An address of a request window. -/
def isRequest (a : Nat) : Bool := a / 0x100 % 2 == 0

/-- The register and the bit of an alias address (R107). -/
def aliasOf (a : Nat) : Nat × Nat := ((a - 0x8000) / 0x80 * 4, a / 4 % 32)

/-- The word at an aligned address of the register space, as the host reads it (Table 4.4). -/
def hostWord (d : Dev) (a : Nat) : Word :=
  if a < 0x400 then d.regWord a
  else if a < 0x800 then
    let (k, i) := windowOf a
    if isRequest a then d.requestRead k i else d.responseRead k i
  else if a < 0xC00 then d.host.snap[(a - 0x800) / 4]?.getD 0
  else if a < 0x8000 then 0
  else bitW 0 ((d.regWord (aliasOf a).1).getLsbD (aliasOf a).2)

/-- The latches the capture of a word takes (R102, R143, R180, R373, R377). (DEDUCED, log 51) -/
def hostCapture (d : Dev) (a : Nat) : Dev :=
  if a < 0x400 then
    if a = Reg.TMR_COUNT_LO then d.tmrCountLo none
    else if a = Reg.TMR_CAP_LO then d.tmrCapLatch none
    else d.clkCapture a
  else if a < 0x800 ∧ ¬ isRequest a then
    d.windowCapture (windowOf a).1 (windowOf a).2
  else d

/-- The side effects of a word shifted out in full (R102). (DEDUCED, log 51) -/
def hostReadDone (d : Dev) (a : Nat) : Dev :=
  if a = Reg.TMR_CAP_LO then d.tmrCapPop none
  else if 0x400 ≤ a ∧ a < 0x800 ∧ ¬ isRequest a then d.windowReadDone (windowOf a).1 (windowOf a).2
  else d

/-! ### Writes (R105, R106, R117–R119) -/

/-- A word is stored by the access codes of Table 0.4: RW bits take it, a 1 clears a W1C flag, a 0
clears an RWS flag, and every other bit stays. -/
def codeStore (d : Dev) (r : RegInfo) (w : Word) : Dev :=
  let old := d.reg r.addr
  d.setReg r.addr ((old &&& ~~~ (r.rw ||| (r.w1c &&& w) ||| (r.rws &&& ~~~ w))) ||| (w &&& r.rw))

/-- Clamp the ranged fields of a PWR word (R11, Tables 3.12 and 3.20 and the limits of chapter 3). -/
def pwrClamp (a : Nat) (w : Word) : Word :=
  if a = Reg.PWR_THRESH then
    let nvw := clampN 600 1200 (fld w 15 0)
    setFld (setFld w 15 0 nvw) 31 16 (min nvw (clampN 400 800 (fld w 31 16)))
  else if a = Reg.PWR_CTRL then setFld w 31 16 (clampN 1400 1750 (fld w 31 16))
  else w

/-- MIN_RESTART: VBAT_MIN takes the current reading (Table 3.12). -/
def minRestart (d : Dev) : Dev := d.setRfld Reg.PWR_VBAT 31 16 (d.rfld Reg.PWR_VBAT 15 0)

/-- Clamp the ranged fields of a CAN word (R11, limits of chapter 12): NTSEG1 and NTSEG2 are 2 at
least. (DEDUCED, log 118) -/
def canClamp (a : Nat) (w : Word) : Word :=
  if a = Reg.CAN_NBT then setFld (setFld w 16 9 (max 1 (fld w 16 9))) 23 17 (max 1 (fld w 23 17)) else w

/-- The register blocks SYS, PWR and CLK take a word. -/
def sysStore (d : Dev) (r : RegInfo) (w : Word) : Dev :=
  let a := r.addr
  if a = Reg.SYS_ECC_LAST then if w.getLsbD 31 then d.eccClear else d
  else if a = Reg.SYS_DBG_ADDR then d.dbgAddr (w.setWidth 16) (w.getLsbD 17) (w.getLsbD 16)
  else if a = Reg.SYS_DBG_DATA_LO then d.dbgLo w
  else if a = Reg.SYS_DBG_DATA_HI then d.dbgHi w
  else if a = Reg.PWR_RESET_REQ then
    if w = 0xA5C3 then { d with power := { d.power with resetScheduled := true } } else d
  else if a = Reg.PWR_CTRL then
    let d := d.codeStore r (pwrClamp a w)
    if w.getLsbD 1 then d.minRestart else d
  else if a = Reg.CLK_PLL then
    let d := d.codeStore r w
    if 18 ≤ fld w 4 0 ∧ fld w 4 0 ≤ 22 then d else d.pllLoss
  else if a < 0x80 then d.codeStore r (pwrClamp a w)
  else (d.codeStore r (clkClamp a w)).clkWritten a (clkClamp a w)

/-- A port block takes a word, by its offset. -/
def ethStore (d : Dev) (p : Fin 3) (off : Nat) (r : RegInfo) (w : Word) : Dev :=
  if off = 0x00 then d.ethCtrlStore p (ethClamp p 0 w &&& r.rw)
  else if off = 0x14 then d.macHiWrite p w
  else if off = 0x1C then d.filtWrite p false w
  else if off = 0x20 then d.filtWrite p true w
  else d.codeStore r (ethClamp p off w)

/-- The blocks CAN to LINTEL take a word; one to an output latch is applied after the scheduled actions of its cc
(R354). -/
def lateStore (d : Dev) (r : RegInfo) (w : Word) : Dev :=
  let a := r.addr
  if a = Reg.CAN_CTRL then
    let d := d.codeStore r w
    if w.getLsbD 4 then d.canRecover else d
  else if a = Reg.CAN_NBT then d.codeStore r (canClamp a w)
  else if a = Reg.CAN_TX_REQ then d.canTxReq w
  else if a = Reg.CAN_TX_ABORT then d.canTxAbort w
  else if a = Reg.TMR_CTRL then d.tmrCtrlWrite none w
  else if a = Reg.TMR_CMP_LO then d.tmrCmpWrite none false w
  else if a = Reg.TMR_CMP_HI then d.tmrCmpWrite none true w
  else if a = Reg.SCHED_CANCEL then d.schedCancelWrite w
  else if a = Reg.GPIO_OUT_LO ∨ a = Reg.GPIO_OUT_HI then d.schedAll.codeStore r w
  else (d.gpioStore a w).getD (d.codeStore r w)

/-- A register that a chapter lays out takes a word. -/
def regStore (d : Dev) (r : RegInfo) (w : Word) : Dev :=
  if r.addr < 0x100 then d.sysStore r w
  else if h : r.addr < 0x1C0 ∧ 0x100 ≤ r.addr then
    d.ethStore ⟨(r.addr - 0x100) / 0x40, by omega⟩ (r.addr % 0x40) r w
  else if r.addr = Reg.ARB_CTRL then if w.getLsbD 0 then d.statsClear else d
  else d.lateStore r w

/-- A word Hearth writes to a register: as the host's, but with Hearth's own timer window and lock
sequence (R117, R358, R372). (DEDUCED, log 53) -/
def hearthStore (d : Dev) (r : RegInfo) (w : Word) : Dev :=
  let n := some d.timers.hearthSel
  if r.addr = Reg.GPIO_LOCK then d.lockWrite true w
  else if r.addr = Reg.TMR_CTRL then d.tmrCtrlWrite n w
  else if r.addr = Reg.TMR_CMP_LO then d.tmrCmpWrite n false w
  else if r.addr = Reg.TMR_CMP_HI then d.tmrCmpWrite n true w
  else d.regStore r w

/-- A host write that sets a flag of SYS_SPI_ERR and LAST_ADDR (R105, R118). -/
def noteWrite (d : Dev) (flag a : Nat) : Dev :=
  (d.raiseBit Reg.SYS_SPI_ERR flag).setRfld Reg.SYS_SPI_ERR 31 16 a

/-- A reserved address (R105). -/
def isReserved (a : Nat) : Bool := (0xC00 ≤ a && a < 0x8000) || (a < 0x400 && (regInfo a).isNone)

/-- What PROOF_HOLD accepts (R73, R118): the reset request, the flags that feed SYS_IRQ_STATUS, and
the request windows. (DEDUCED, log 48) -/
def holdAccepts (a : Nat) : Bool :=
  [Reg.PWR_RESET_REQ, Reg.SYS_IRQ_STATUS, Reg.SYS_SPI_ERR, Reg.SYS_AUTH].contains a ||
    (0x400 ≤ a && a < 0x500) || (0x600 ≤ a && a < 0x700)

/-- A host write at an aligned address runs `act` unless the device state turns it away: the slave
answers in every state but OFF (R41), and PROOF_HOLD refuses all but the writes of R73. (DEDUCED, log 48, 49) -/
def hostGuard (d : Dev) (a : Nat) (act : Dev → Dev) : Dev :=
  if d.power.state = .off then d
  else if d.power.state = .proofHold ∧ ¬ holdAccepts (if a < 0x8000 then a else (aliasOf a).1) then
    let d := d.noteWrite 4 a
    if isReserved a then d.noteWrite 3 a else d
  else act d

/-- The word whose write leaves every bit of a register unchanged (R108): the RW bits as they
read, no flag cleared, no WO bit. (DEDUCED, log 52) -/
def keepWord (d : Dev) (r : RegInfo) : Word := (d.regWord r.addr &&& r.rw) ||| r.rws

/-- A write through an alias (Table 4.5). (DEDUCED, log 52) -/
def aliasStore (d : Dev) (r : RegInfo) (bit : Nat) (v : Bool) : Dev :=
  let w := d.keepWord r
  if r.rw.getLsbD bit then d.regStore r (setFld w bit bit (if v then 1 else 0))
  else if r.w1c.getLsbD bit then if v then d.regStore r (w ||| bitW bit true) else d
  else if r.rws.getLsbD bit then if v then d else d.regStore r (w &&& ~~~ bitW bit true)
  else if r.wo.getLsbD bit then d.regStore r (w ||| bitW bit v)
  else d

/-- The write of a word at an aligned address takes effect (R101, R105, R106, R108, R128). (DEDUCED, log 51) -/
def writeEffect (d : Dev) (a : Nat) (w : Word) : Dev :=
  if a < 0x400 then
    match regInfo a with
    | some r => d.regStore r w
    | none => d.noteWrite 3 a
  else if a < 0x800 then
    if isRequest a then d.requestWrite (windowOf a).1 (windowOf a).2 w else d
  else if a < 0xC00 then d
  else if a < 0x8000 then d.noteWrite 3 a
  else match regInfo (aliasOf a).1 with
    | some r => d.aliasStore r (aliasOf a).2 (w.getLsbD 0)
    | none => d

/-- The host writes a word at an aligned address. -/
def hostWrite (d : Dev) (a : Nat) (w : Word) : Dev := d.hostGuard a fun d => d.writeEffect a w

/-- The byte address with its two low bits taken as zero, and MISALIGN set where they are not
(R103). -/
def alignAddr (d : Dev) (a : U16) : Nat × Dev := (a.toNat / 4 * 4, d.raiseIf (a.toNat % 4 != 0) Reg.SYS_SPI_ERR 0)

/-- Hearth and the host have written one register in one cc (R117). -/
def noteConflict (d : Dev) (a : Nat) : Dev :=
  if d.rbit Reg.SYS_AUTH 0 then d.raiseBit Reg.SYS_AUTH 1
  else (d.raiseBit Reg.SYS_AUTH 0).setRfld Reg.SYS_AUTH 31 16 a

/-- The host writes a word, and Hearth, if `hearth` says so, writes the same register in the same
cc: Hearth's write is applied first (R117). A flag set by hardware in the same cc is a row that follows
this one. (DEDUCED, log 53; DESIGN CHOICE, log 137) -/
def registerWrite (d : Dev) (addr : U16) (w : Word) (hearth : Option Word) : Dev :=
  let (a, d) := d.alignAddr addr
  d.hostGuard a fun d =>
    match hearth, regInfo (if a < 0x8000 then a else (aliasOf a).1) with
    | some v, some r => ((d.hearthStore r v).writeEffect a w).noteConflict r.addr
    | _, _ => d.writeEffect a w

/-! ### Snapshot (R110–R112) -/

/-- The 32 low bits and the 16 high bits of a 48-bit count, as two words. -/
def split48 (n : Nat) : List Word := [w32 n, w32 (n / 2 ^ 32 % 2 ^ 16)]

/-- The snapshot words of a listener (Table 8.10). -/
def listenerWords (l : Listener) : List Word :=
  let c := l.counts
  [w32 c.accepted, at' 0 (min 65535 c.late) ||| at' 16 (min 65535 c.early),
    at' 0 (min 65535 c.seqGaps) ||| at' 16 (min 65535 c.duplicates), w32 c.concealed]

/-- The snapshot words of a talker (Table 8.10). -/
def talkerWords (t : Talker) : List Word :=
  [w32 t.framesSent, w32 t.linkDiscard, w32 t.tuSent,
    at' 0 (streamCode t.state) ||| at' 8 ((t.seq - 1).toNat)]

/-- The words of a snapshot group and the first holding register they take (Table 4.7). -/
def snapGroup (d : Dev) : Nat → Nat × List Word
  | 0 => (0, (d.eth[(0 : Fin 3)].traffic.counters.toList).map w32)
  | 1 => (40, (d.eth[(1 : Fin 3)].traffic.counters.toList).map w32)
  | 2 => (80, (d.eth[(2 : Fin 3)].traffic.counters.toList).map w32)
  | 3 => (128, d.can.counters.toList.map w32)
  | 4 => (144, d.timers.ch.toList.flatMap fun c => split48 c.counter)
  | 5 => (160, d.streams.listeners.toList.flatMap listenerWords)
  | 6 => (224, d.streams.talkers.toList.flatMap talkerWords)
  | _ => (0, [])

/-- Words copied into the holding registers from one index upward. -/
def snapPut (v : Vector Word 256) (i : Nat) : List Word → Vector Word 256
  | [] => v
  | w :: t => snapPut (v.setIfInBounds i w) (i + 1) t

/-- The snapshot header (Table 4.8). -/
def snapHeader (d : Dev) (mask : U16) : List Word :=
  [(d.host.snap[(120 : Fin 256)]) + 1,
    (mask &&& 0x807F).setWidth 32 ||| bitW 31 d.ks.timeValid,
    at' 0 (d.ks.sec / 2 ^ 32 % 2 ^ 16), w32 d.ks.sec, w32 d.ks.nsec] ++ split48 d.cc

/-- Words copied into the holding registers for the groups a mask selects (R110). -/
def snapWords (d : Dev) (mask : U16) : Vector Word 256 :=
  (List.range 7).foldl (fun (v : Vector Word 256) g =>
    if mask.getLsbD g then snapPut v (d.snapGroup g).1 (d.snapGroup g).2 else v) d.host.snap

/-- An event of a port counter in the copy cc is applied after the copy and the clear; a passage of half
range is judged on the count it met (R112, Table 4.11). -/
def countAfterCopy (before : Dev) (d : Dev) (e : Fin 3 × Fin 40) : Dev :=
  (d.count e.1 e.2).halfFlag e.1 e.2 (before.eth[e.1].traffic.counters[e.2] + 1 == 2 ^ 31)

/-- The SNAPSHOT copy: the selected groups and the header, then the clear of the selected Ethernet
counters, then the counter events of the copy cc (R110, R112). -/
def snapshotCopy (d : Dev) (mask : U16) (events : List (Fin 3 × Fin 40)) : Dev :=
  let clear (d : Dev) (p : Fin 3) : Dev :=
    if mask.getLsbD 15 ∧ mask.getLsbD p.val then
      d.modTraffic p fun t => { t with counters := Vector.replicate 40 0 }
    else d
  let copied : Dev := { d with host := { d.host with snap := snapPut (d.snapWords mask) 120 (d.snapHeader mask) } }
  events.foldl (countAfterCopy d) ((allFin 3).foldl clear copied)

/-! ### The SPI transaction (R97–R103, R120) -/

/-- Change the phase of the transaction. -/
def spiPhase (d : Dev) (p : SpiPhase) : Dev := { d with host := { d.host with phase := p } }

/-- What HMISO has shifted out. -/
def spiOut (d : Dev) (w : Word) : Dev := { d with host := { d.host with hmiso := w } }

/-- HCS_N falls (R97, R100). The slave does not answer in OFF (R41). -/
def spiStart (d : Dev) (hsckHigh : Bool) : Dev :=
  if d.power.state = .off then d
  else { d with host := { d.host with phase := .opcode, mode3 := hsckHigh, statusByte := d.statusByte, hmiso := 0 } }

/-- NOP (R99). -/
def spiNop (d : Dev) : Dev := if d.host.phase = .opcode then (d.spiOut 0).spiPhase .finished else d

/-- The address of the next data word: the header's, or that of the burst; `none` where no data
word of that direction can come (R98). -/
def spiAddr (d : Dev) (write : Bool) (header : Option U16) : Option (Nat × Dev) :=
  match header, d.host.phase with
  | some a, .opcode => some (d.alignAddr a)
  | none, .writing a => if write then some (a.toNat, d) else none
  | none, .reading a => if write then none else some (a.toNat, d)
  | _, _ => none

/-- The address after a data word, and WRAP where it returns to zero (R103). (DEDUCED, log 50) -/
def spiNext (d : Dev) (a : Nat) : U16 × Dev :=
  (BitVec.ofNat 16 (a + 4), d.raiseIf (a == 0xFFFC) Reg.SYS_SPI_ERR 6)

/-- A WRITE data word (R101). (DEDUCED, log 54) -/
def spiWrite (d : Dev) (header : Option U16) (w : Word) : Dev :=
  match d.spiAddr true header with
  | none => d
  | some (a, d) =>
    let (next, d) := ((d.hostWrite a w).spiOut 0).spiNext a
    -- A write that resets the endpoint ends the transaction with it (R63).
    if d.host.phase = .closed then d else d.spiPhase (.writing next)

/-- A READ data word (R102). (DEDUCED, log 54) -/
def spiRead (d : Dev) (header : Option U16) (full : Bool) : Dev :=
  match d.spiAddr false header with
  | none => d
  | some (a, d) =>
    let d := d.hostCapture a
    let d := d.spiOut (d.hostWord a)
    let (next, d) := (if full then d.hostReadDone a else d).spiNext a
    d.spiPhase (.reading next)

/-- SNAPSHOT with its mask in full (R110). -/
def spiSnapshot (d : Dev) (mask : U16) (events : List (Fin 3 × Fin 40)) : Dev :=
  if d.host.phase = .opcode then ((d.snapshotCopy mask events).spiOut 0).spiPhase .finished else d

/-- The opcodes of Table 4.2. -/
def spiOpcodes : List Byte := [0x00, 0x02, 0x03, 0x5C]

/-- An opcode that is not listed (R99). -/
def spiBadOpcode (d : Dev) (opcode : Byte) : Dev :=
  if d.host.phase = .opcode ∧ ¬ spiOpcodes.contains opcode then
    ((d.raiseBit Reg.SYS_SPI_ERR 2).spiOut 0).spiPhase .ignored
  else d

/-- HCS_N rises: an incomplete write word or mask is discarded with PARTIAL (R101, R110); the address of a
WRITE or READ that no complete data word followed is judged all the same (R103). (DESIGN CHOICE, log 55) -/
def spiEnd (d : Dev) (header : Option U16) (partialWord : Bool) : Dev :=
  let cut : Bool := match d.host.phase with
    | .opcode | .writing _ => partialWord
    | _ => false
  let skew : Bool := d.host.phase == .opcode && header.any fun a => a.toNat % 4 != 0
  ((d.raiseIf skew Reg.SYS_SPI_ERR 0).raiseIf cut Reg.SYS_SPI_ERR 1).spiPhase .closed

/-- A short HSCK phase (R120). -/
def spiOverspeed (d : Dev) : Dev :=
  if d.host.phase = .closed then d else ((d.raiseBit Reg.SYS_SPI_ERR 5).spiOut 0).spiPhase .ignored

end Dev
end Sys2Proof.Machine
end

