-- ==== Sys2Proof/Machine/Rows.lean ====
section
/-! DEFINITION.
What the meanings of the rows are built with: the effect of a row on the device, the device states in
which a block has a clock, a host read as one step, and the rows that reach over several blocks. -/

namespace Sys2Proof.Machine

/-- The outcome of a row. -/
abbrev Result := Host.Outcome State Fault Refusal

/-- A row changes the device and leaves the audio RAM and the waiting commands. -/
def State.act (s : State) (f : Dev → Dev) : Result := .next { s with dev := f s.dev }

namespace Dev

/-- An effect of a block that has no clock in OFF and QUIET (R68, R77). (DESIGN CHOICE, log 4, 5) -/
def awake (d : Dev) (f : Dev → Dev) : Dev :=
  if d.power.state = .off ∨ d.power.state = .quiet then d else f d

/-- An effect of Keystone, of media time and of the grid: they run in BOOT and in ACTIVE (R76, R167). (DESIGN CHOICE, log 4) -/
def runs (d : Dev) (f : Dev → Dev) : Dev :=
  if d.power.state = .boot ∨ d.power.state = .active then f d else d

/-- An effect of a block that runs in every state but OFF. (DESIGN CHOICE, log 4, 5) -/
def powered (d : Dev) (f : Dev → Dev) : Dev := if d.power.state = .off then d else f d

/-- The host reads a word: its latches, its value on HMISO and, if it is shifted out in full, its
side effects (R102). (DEDUCED, log 54) -/
def hostRead (d : Dev) (a : Nat) (full : Bool) : Dev :=
  d.powered fun d =>
    let d := d.hostCapture a
    let d := d.spiOut (d.hostWord a)
    if full then d.hostReadDone a else d

/-- A row of the timer window, from Hearth or from the host (R372). -/
def tmrRow (d : Dev) (hearth : Option (Fin 4)) (a : Nat) (f : Dev → Dev) : Dev :=
  if hearth.isSome then d.awake f else d.hostGuard a f

/-! ### Keystone's tick with the blocks that follow it -/

/-- An effect that may end TIME_VALID: an entry ready in that cc acts on the state before (R387, Table 14.4), and
the listeners then wait (R217). -/
def withTime (d : Dev) (f : Dev → Dev) : Dev :=
  let d := d.schedAll
  let e := f d
  if d.ks.timeValid ∧ ¬ e.ks.timeValid then e.timeLost else e

/-- Local media time was relabelled by whole sample periods: the streams and the scheduler follow (R218, R382). -/
def relabelled (x : Dev × Int) : Dev := if x.2 = 0 then x.1 else (x.1.streamsRelabel x.2).schedAll

/-- Local media time has moved by what its remainder `was` is now less: Lintel's corrections follow (R245). -/
def moved (d : Dev) (was : Int) : Dev := d.lintelShift (was - d.ks.remain)

/-- The move toward a newly selected entry, as Lintel follows it, after Keystone's tick on `d` (R245): what a switch
added to the remainder, until the remainder is zero. (DEDUCED, log 93) -/
def glideFrom (d e : Dev) : Dev :=
  { e with lintel := { e.lintel with
      glide := if e.ks.selected ≠ d.ks.selected ∧ e.ks.state = .acquire then e.ks.remain - d.ks.remain
               else if e.ks.remain = 0 then 0 else e.lintel.glide } }

/-- Keystone's claim on TMR3 follows entry 5's ENABLE in effect (R162, R379). -/
def claimFollow (d : Dev) (was : Bool) : Dev :=
  let is := d.ks.refs[(5 : Fin 8)].enable
  if is ∧ ¬ was then d.tmrClaim else if was ∧ ¬ is then d.tmrUnclaim else d

/-- A Keystone tick (R163) with the move it makes in Lintel's corrections (R245), the streams and
the scheduler at a relabel (R218, R382), the end of TIME_VALID (R217), the claim on TMR3 (R379), and
the fall of KS_PPS_OUT (R346). (DEDUCED, log 67, 68) -/
def keystoneTick (d : Dev) (input : KsTickInput) : Dev :=
  let tick (e : Dev) : Dev := e.glideFrom (relabelled (e.ksTick input e.namedEntry))
  let d' := ((d.ksElapse).moved d.ks.remain).withTime tick
  let d' : Dev := { d' with clk := { d'.clk with ppsOut := false } }
  d'.claimFollow d.ks.refs[(5 : Fin 8)].enable

/-- The running move ends (R170), and Lintel's corrections with it (R245). -/
def moveEnd (d : Dev) : Dev :=
  let e := d.moveDone.moved d.ks.remain
  e.glideFrom e

/-- The qualify condition of an entry that the state shows (Table 6.1): the port's instance; a CRF
stream of the slot, received at a rate within ±300 ppm; a placed pin function. (DEDUCED, log 69) -/
def refReady (d : Dev) (n : Fin 7) : Bool :=
  if h : n.val < 3 then
    let g := d.gptp[(⟨n.val, h⟩ : Fin 3)]
    g.role == .slave && g.asCapable && g.gmRatio.natAbs ≤ 300000000
  else if h : n.val < 5 then
    let slot : Fin 2 := ⟨n.val - 3, by omega⟩
    d.streams.crfSlot[slot].isSome && 0 < d.streams.crfFrames[slot] && d.streams.crfRateOk[slot]
  else d.gpio.source[(⟨n.val + 15, by omega⟩ : Fin 25)].isSome

/-- An entry has held its qualify condition for QUAL_TIME (R160). -/
def refGain (d : Dev) (n : Fin 7) : Dev :=
  if d.refReady n then d.refQualify (n.castLE (by omega)) else d

/-- A second boundary of local media time: KS_PPS_OUT rises while TIME_VALID is 1 (R346). (DEDUCED, log 68) -/
def secondBoundary (d : Dev) : Dev := { d with clk := { d.clk with ppsOut := d.ks.timeValid } }

/-- A grid point (R256); in PROOF_HOLD the first one starts the clocks that are held there (R42). (DEDUCED, log 101) -/
def gridPoint (d : Dev) (sdi : List (List Bool)) : Dev :=
  if d.power.state = .proofHold then
    { d with power := { d.power with holdStart := some (d.power.holdStart.getD d.cc) } }
  else d.runs (·.frameBoundary sdi)

/-! ### Rows of the Ethernet ports and of streams -/

/-- ETH_PHY_INT_N is low: the PHYs are read at once (R192). A pin must carry the function. (DEDUCED, log 128) -/
def phyInterrupt (d : Dev) (l : List PhyReading) : Dev :=
  if d.gpio.source[(22 : Fin 25)].isSome ∧ !d.fnLevel 22 then
    (l.zip (allFin 3)).foldl (fun (d : Dev) x => d.phyPoll x.2 x.1) d
  else d

/-- An AAF frame, its timestamps corrected by Lintel (R245); a frame taken is heard by its group
(R236). -/
def aafTaken (d : Dev) (f : AafFrame) : Dev :=
  match d.aafFrame f d.correctionOf with
  | (d, some i) => d.frameHeard i
  | (d, none) => d

/-- A stop time is reached: a stream alone stops, and the listeners of a group stop with their
group (R223, R249). (DEDUCED, log 92) -/
def stopTime (d : Dev) (talker : Bool) (index : Fin 16) : Dev :=
  let alone := d.stopTimeReached talker index
  if talker then alone
  else match d.streams.listeners[index].group with
    | none => alone
    | some g =>
      match d.lintel.groups[g].setup with
      | none => alone
      | some s =>
        if d.ks.timeValid ∧ d.streams.listeners[index].stopAt.any (· ≤ d.now) then
          ((d.groupHalt g).stopListener s.primary 7).stopListener s.standby 7
        else d

/-- At ACTIVE, once TIME_VALID allows, the streams and the groups with AUTOSTART are started (R226,
R249). (DEDUCED, log 91) -/
def autostartAll (d : Dev) : Dev :=
  if d.streams.autostart ∧ d.ks.timeValid then
    (allFin 8).foldl (fun (d : Dev) (g : Fin 8) =>
      if d.lintel.groups[g].setup.any (·.autostart) then
        match d.groupStart g none with
        | .done _ _ _ _ e => e
        | _ => d
      else d) d.streamAutostart
  else d

/-! ### Wakes and the tester -/

/-- In QUIET, a wake-enabled pin at its wake level raises the pin wake event (R361). (DEDUCED, log 47) -/
def pinWakeRaise (d : Dev) : Dev :=
  if d.power.state = .quiet ∧ ¬ d.power.wakePending then
    match d.wakingPin with
    | some p => { d.pinWake p with power := { d.power with wakePending := true } }
    | none => d
  else d

/-- CRX has been dominant for 5 µs: a wake event in QUIET, kept during QUIET entry (R91, R329). (DEDUCED, log 47) -/
def crxWakeRaise (d : Dev) : Dev :=
  if d.power.state = .quiet ∨ d.power.quietEntry.isSome then
    { d with power := { d.power with wakePending := true } }
  else d

/-- A diagnostic service that PROOF_HOLD does not answer (R73). -/
def udsFree (d : Dev) (sid : Byte) (f : Dev → UdsResult) : Dev :=
  d.udsRow sid fun d => if d.udsHold then .negative 0x11 d else f d

end Dev
end Sys2Proof.Machine
end

