-- ==== Sys2Proof/Machine/AudioRows.lean ====
section
/-! DEFINITION.
The meanings of the rows: TDM ports, routing and output processing (chapter 10). -/

namespace Sys2Proof.Machine

/-- TDM_COMMIT_APPLY (R260). -/
def execTdmCommitApply (port : Fin 4) (s : State) : Result :=
  s.act fun d => d.awake (·.tdmApply port)

/-- TDM_PORT_STOPPED (R262). -/
def execTdmPortStopped (port : Fin 4) (s : State) : Result :=
  s.act fun d => d.awake (·.tdmStopped port)

/-- OUT_UNDERRUN (R280). -/
def execOutUnderrun (port : Fin 4) (s : State) : Result :=
  s.act fun d => d.awake (·.tdmUnderrun port)

/-- IN_OVERRUN (R280). -/
def execInOverrun (port : Fin 4) (s : State) : Result :=
  s.act fun d => d.awake (·.tdmOverrun port)

/-- SENSE_STALE (R265). -/
def execSenseStale (speaker : Fin 16) (s : State) : Result :=
  s.act fun d => d.awake (·.senseStale speaker)

/-- SENSE_RECOVERED (R265). -/
def execSenseRecovered (speaker : Fin 16) (s : State) : Result :=
  s.act fun d => d.awake (·.senseRecovered speaker)

/-- DELAY_CHANGE_RAMP_END (R276). -/
def execDelayChangeRampEnd (destination : Fin 64) (s : State) : Result :=
  s.act fun d => d.awake (·.delayRampEnd destination)

/-- TDM_PORT_SET (R278). -/
def execTdmPortSet (src : Source) (req : Request) (s : State) : Result :=
  s.act fun d => d.serve src 0x0701 req

/-- TDM_PORT_DISABLE (R262). -/
def execTdmPortDisable (src : Source) (req : Request) (s : State) : Result :=
  s.act fun d => d.serve src 0x0702 req

/-- TDM_PORT_STATUS (R284). -/
def execTdmPortStatus (src : Source) (req : Request) (s : State) : Result :=
  s.act fun d => d.serve src 0x0703 req

/-- ROUTE_SOURCE_BIND (R279). -/
def execRouteSourceBind (src : Source) (req : Request) (s : State) : Result :=
  s.act fun d => d.serve src 0x0704 req

/-- ROUTE_DEST_BIND (R279). -/
def execRouteDestBind (src : Source) (req : Request) (s : State) : Result :=
  s.act fun d => d.serve src 0x0705 req

/-- ROUTE_XP_SET (R269). -/
def execRouteXpSet (src : Source) (req : Request) (s : State) : Result :=
  s.act fun d => d.serve src 0x0706 req

/-- ROUTE_COMMIT (R269). -/
def execRouteCommit (src : Source) (req : Request) (s : State) : Result :=
  s.act fun d => d.serve src 0x0707 req

/-- ROUTE_DEST_GAIN (R273). -/
def execRouteDestGain (src : Source) (req : Request) (s : State) : Result :=
  s.act fun d => d.serve src 0x0708 req

/-- ROUTE_MUTE (R274). -/
def execRouteMute (src : Source) (req : Request) (s : State) : Result :=
  s.act fun d => d.serve src 0x0709 req

/-- ROUTE_TONE_SET (R277). -/
def execRouteToneSet (src : Source) (req : Request) (s : State) : Result :=
  s.act fun d => d.serve src 0x070A req

/-- ROUTE_PARTITION (R275). -/
def execRoutePartition (src : Source) (req : Request) (s : State) : Result :=
  s.act fun d => d.serve src 0x070B req

/-- ROUTE_SENSE_BIND (R263). -/
def execRouteSenseBind (src : Source) (req : Request) (s : State) : Result :=
  s.act fun d => d.serve src 0x070C req

/-- ROUTE_STATUS (R284). -/
def execRouteStatus (src : Source) (req : Request) (s : State) : Result :=
  s.act fun d => d.serve src 0x070D req

/-- FRAME_BOUNDARY (R256). -/
def execFrameBoundary (sdi : List (List Bool)) (s : State) : Result :=
  s.act fun d => d.gridPoint sdi

end Sys2Proof.Machine
end

