-- ==== Sys2Proof/Machine/CanRows.lean ====
section
/-! DEFINITION.
The meanings of the rows: CAN and the workshop tester (chapter 12). -/

namespace Sys2Proof.Machine

/-- CAN_FRAME_RECEIVE (R319). -/
def execCanFrameReceive (frame : CanFrame) (s : State) : Result :=
  s.act fun d => d.awake (·.canReceive frame)

/-- CAN_TX_START (R320). -/
def execCanTxStart (s : State) : Result :=
  s.act fun d => d.awake Dev.canTxStart

/-- CAN_TX_COMPLETE (R321). -/
def execCanTxComplete (outcome : TxOutcome) (s : State) : Result :=
  s.act fun d => d.awake (·.canTxComplete outcome)

/-- CAN_ALONE_DETECT (R327). -/
def execCanAloneDetect (s : State) : Result :=
  s.act fun d => d.awake Dev.canAlone

/-- CAN_RECOVERY_COMPLETE (R325). -/
def execCanRecoveryComplete (s : State) : Result :=
  s.act fun d => d.awake Dev.canRecovered

/-- CAN_INIT_ENTER (R328). -/
def execCanInitEnter (s : State) : Result :=
  s.act fun d => d.awake Dev.canInitEnter

/-- CAN_INIT_EXIT (R329). -/
def execCanInitExit (s : State) : Result :=
  s.act fun d => d.awake Dev.canInitExit

/-- CAN_RECOVER (R325). -/
def execCanRecover (s : State) : Result :=
  s.act fun d => d.hostGuard Reg.CAN_CTRL Dev.canRecover

/-- CAN_TX_REQ (R320). -/
def execCanTxReq (value : Word) (s : State) : Result :=
  s.act fun d => d.hostWrite Reg.CAN_TX_REQ value

/-- CAN_TX_ABORT (R321). -/
def execCanTxAbort (value : Word) (s : State) : Result :=
  s.act fun d => d.hostWrite Reg.CAN_TX_ABORT value

/-- CRX_WAKE (R329). -/
def execCrxWake (s : State) : Result :=
  s.act fun d => d.powered Dev.crxWakeRaise

/-- ISOTP_MESSAGE_COMPLETE (R330). -/
def execIsotpMessageComplete (s : State) : Result :=
  s.act fun d => d.awake Dev.udsComplete

/-- ISOTP_TIMEOUT (R330). -/
def execIsotpTimeout (s : State) : Result :=
  s.act fun d => d.awake Dev.isoTimeout

/-- RESPONSE_PENDING (R332). -/
def execResponsePending (s : State) : Result :=
  s.act fun d => d.awake Dev.udsWait

/-- S3_TIMEOUT (R332). -/
def execS3Timeout (s : State) : Result :=
  s.act fun d => d.awake Dev.s3Expire

/-- SECURITY_DELAY_END (R333). -/
def execSecurityDelayEnd (s : State) : Result :=
  s.act fun d => d.awake Dev.delayEnd

/-- DIAGNOSTIC_SESSION_CONTROL (R332). -/
def execDiagnosticSessionControl (sub : Byte) (s : State) : Result :=
  s.act fun d => d.udsRow 0x10 (·.udsSession sub)

/-- ECU_RESET (R332). -/
def execEcuReset (sub : Byte) (s : State) : Result :=
  s.act fun d => d.udsRow 0x11 (·.udsReset sub)

/-- CLEAR_DIAGNOSTIC_INFORMATION (R335). -/
def execClearDiagnosticInformation (group : BitVec 24) (s : State) : Result :=
  s.act fun d => d.udsFree 0x14 (·.udsClear group)

/-- REPORT_NUMBER_OF_DTC_BY_STATUS_MASK (R335). -/
def execReportNumberOfDtcByStatusMask (mask : Byte) (s : State) : Result :=
  s.act fun d => d.udsRow 0x19 (·.udsDtcCount mask)

/-- REPORT_DTC_BY_STATUS_MASK (R335). -/
def execReportDtcByStatusMask (mask : Byte) (s : State) : Result :=
  s.act fun d => d.udsRow 0x19 (·.udsDtcList mask)

/-- REPORT_DTC_EXT_DATA_RECORD (R335). -/
def execReportDtcExtDataRecord (dtc : BitVec 24) (record : Byte) (s : State) : Result :=
  s.act fun d => d.udsRow 0x19 (·.udsDtcExt dtc record)

/-- REPORT_SUPPORTED_DTC (R335). -/
def execReportSupportedDtc (s : State) : Result :=
  s.act fun d => d.udsRow 0x19 Dev.udsDtcSupported

/-- READ_DATA_BY_IDENTIFIER (R334). -/
def execReadDataByIdentifier (ids : List U16) (s : State) : Result :=
  s.act fun d => d.udsRow 0x22 (·.udsData ids)

/-- REQUEST_SEED (R333). -/
def execRequestSeed (s : State) : Result :=
  s.act fun d => d.udsFree 0x27 Dev.udsSeed

/-- SEND_KEY (R333). -/
def execSendKey (key : Word) (s : State) : Result :=
  s.act fun d => d.udsFree 0x27 (·.udsKey key)

/-- START_ROUTINE (R337). -/
def execStartRoutine (rid : U16) (record : List Byte) (s : State) : Result :=
  s.act fun d => d.udsFree 0x31 (·.routineStart rid record)

/-- STOP_ROUTINE (R337). -/
def execStopRoutine (rid : U16) (s : State) : Result :=
  s.act fun d => d.udsFree 0x31 (·.routineStop rid)

/-- REQUEST_ROUTINE_RESULTS (R337). -/
def execRequestRoutineResults (rid : U16) (_ : List Byte) (s : State) : Result :=
  s.act fun d => d.udsFree 0x31 (·.routineResults rid)

/-- REQUEST_DOWNLOAD (R338). -/
def execRequestDownload (format : Byte) (alfid : Byte) (address : Word) (size : Word) (s : State) : Result :=
  s.act fun d => d.udsFree 0x34 (·.udsDownload format alfid address size)

/-- TRANSFER_DATA (R338). -/
def execTransferData (counter : Byte) (data : List Byte) (s : State) : Result :=
  s.act fun d => d.udsFree 0x36 (·.udsTransfer counter data)

/-- REQUEST_TRANSFER_EXIT (R338). -/
def execRequestTransferExit (s : State) : Result :=
  s.act fun d => d.udsFree 0x37 Dev.udsTransferExit

/-- TESTER_PRESENT (R331). -/
def execTesterPresent (sub : Byte) (s : State) : Result :=
  s.act fun d => d.udsRow 0x3E (·.udsPresent sub)

/-- CAN_SETUP (R339). -/
def execCanSetup (src : Source) (req : Request) (s : State) : Result :=
  s.act fun d => d.serve src 0x0901 req

/-- CAN_TESTER_SET (R340). -/
def execCanTesterSet (src : Source) (req : Request) (s : State) : Result :=
  s.act fun d => d.serve src 0x0902 req

/-- CAN_MO_SET (R345). -/
def execCanMoSet (src : Source) (req : Request) (s : State) : Result :=
  s.act fun d => d.serve src 0x0903 req

/-- CAN_MO_SEND (R345). -/
def execCanMoSend (src : Source) (req : Request) (s : State) : Result :=
  s.act fun d => d.serve src 0x0904 req

/-- CAN_MO_READ (R319). -/
def execCanMoRead (src : Source) (req : Request) (s : State) : Result :=
  s.act fun d => d.serve src 0x0905 req

/-- CAN_STATE (R345). -/
def execCanState (src : Source) (req : Request) (s : State) : Result :=
  s.act fun d => d.serve src 0x0906 req

/-- CAN_RECEIVE_ERROR (R322). -/
def execCanReceiveError (error : CanError) (dominantAfter : Bool) (s : State) : Result :=
  s.act fun d => d.awake (·.canReceiveError error dominantAfter)

end Sys2Proof.Machine
end

