-- ==== Sys2Proof/Machine/ClockRows.lean ====
section
/-! DEFINITION.
The meanings of the rows: keystone (chapter 6). -/

namespace Sys2Proof.Machine

/-- KS_TICK (R163). -/
def execKsTick (input : KsTickInput) (s : State) : Result :=
  s.act fun d => d.runs (·.keystoneTick input)

/-- REF_QUALIFIED (R160). -/
def execRefQualified (entry : Fin 7) (s : State) : Result :=
  s.act fun d => d.runs (·.refGain entry)

/-- REF_LOSS (R160). -/
def execRefLoss (entry : Fin 7) (s : State) : Result :=
  s.act fun d => d.runs (·.refLose (entry.castLE (by omega)) false)

/-- BW_NARROW_STEP (R168). -/
def execBwNarrowStep (s : State) : Result :=
  s.act fun d => d.runs Dev.narrowStep

/-- TRACK_ENTRY (R168). -/
def execTrackEntry (s : State) : Result :=
  s.act fun d => d.runs Dev.trackEntry

/-- REACQUIRE (R172, R178). -/
def execReacquire (offset : Int) (s : State) : Result :=
  s.act fun d => d.runs fun d => Dev.relabelled (d.reacquire offset)

/-- HOLDOVER_EXPIRED (R165). -/
def execHoldoverExpired (s : State) : Result :=
  s.act fun d => d.runs (·.withTime Dev.holdoverExpire)

/-- TIME_VALID_LAPSE (R159). -/
def execTimeValidLapse (s : State) : Result :=
  s.act fun d => d.runs (·.withTime Dev.timeValidLapse)

/-- MOVE_DONE (R170). -/
def execMoveDone (s : State) : Result :=
  s.act fun d => d.runs Dev.moveEnd

/-- CLK_PHASE_STEP_WRITE (R171). -/
def execClkPhaseStepWrite (value : Word) (s : State) : Result :=
  s.act fun d => d.hostWrite Reg.CLK_PHASE_STEP value

/-- DCO_SEED_WRITE (R176). -/
def execDcoSeedWrite (high : Bool) (value : Word) (s : State) : Result :=
  s.act fun d => d.hostWrite (if high then Reg.CLK_DCO_SEED_HI else Reg.CLK_DCO_SEED_LO) value

/-- CLK_REF_COMMIT_WRITE (R175). -/
def execClkRefCommitWrite (value : Word) (s : State) : Result :=
  s.act fun d => d.hostWrite Reg.CLK_REF_COMMIT value

/-- KS_STATUS (R181). -/
def execKsStatus (src : Source) (req : Request) (s : State) : Result :=
  s.act fun d => d.serve src 0x0301 req

/-- KS_SET_RATE (R181). -/
def execKsSetRate (src : Source) (req : Request) (s : State) : Result :=
  s.act fun d => d.serve src 0x0302 req

/-- KS_SET_TABLE (R181). -/
def execKsSetTable (src : Source) (req : Request) (s : State) : Result :=
  s.act fun d => d.serve src 0x0303 req

/-- KS_SET_LOOP (R181). -/
def execKsSetLoop (src : Source) (req : Request) (s : State) : Result :=
  s.act fun d => d.serve src 0x0304 req

/-- KS_PHASE_STEP (R171). -/
def execKsPhaseStep (src : Source) (req : Request) (s : State) : Result :=
  s.act fun d => d.serve src 0x0305 req

/-- KS_STEER (R169). -/
def execKsSteer (src : Source) (req : Request) (s : State) : Result :=
  s.act fun d => d.serve src 0x0306 req

/-- PHASE_DETECTOR_COMPARE (R168). -/
def execPhaseDetectorCompare (lmtMinusRef : Int) (s : State) : Result :=
  s.act fun d => d.runs (·.phaseCompare lmtMinusRef)

/-- SECOND_BOUNDARY (R346). -/
def execSecondBoundary (s : State) : Result :=
  s.act fun d => d.runs Dev.secondBoundary

/-- CLK_TIME_NS_READ (R180). -/
def execClkTimeNsRead (full : Bool) (s : State) : Result :=
  s.act fun d => d.hostRead Reg.CLK_TIME_NS full

/-- CLK_WORD_LO_READ (R180). -/
def execClkWordLoRead (offset : Bool) (full : Bool) (s : State) : Result :=
  s.act fun d => d.hostRead (if offset then Reg.CLK_OFFSET_LO else Reg.CLK_MOVE_REMAIN_LO) full

end Sys2Proof.Machine
end

