-- ==== Sys2Proof/Machine/EthRows.lean ====
section
/-! DEFINITION.
The meanings of the rows: the Ethernet ports (chapter 7). -/

namespace Sys2Proof.Machine

/-- CAPTURE_LOCK (R183). -/
def execCaptureLock (port : Fin 3) (phase : BitVec 6) (s : State) : Result :=
  s.act fun d => d.runs (·.captureLock port phase)

/-- CAPTURE_UNLOCK (R184). -/
def execCaptureUnlock (port : Fin 3) (frameInProgress : Bool) (s : State) : Result :=
  s.act fun d => d.awake (·.captureUnlock port frameInProgress)

/-- CAPTURE_UNLOCK_TIMEOUT (R195). -/
def execCaptureUnlockTimeout (port : Fin 3) (s : State) : Result :=
  s.act fun d => d.awake (·.captureUnlockTimeout port)

/-- ETH_FRAME_RECEIVE (R187). -/
def execEthFrameReceive (port : Fin 3) (frame : RxFrame) (s : State) : Result :=
  s.act fun d => d.awake (·.ethReceive port frame)

/-- RX_DESCRIPTOR_RELEASE (R191). -/
def execRxDescriptorRelease (port : Fin 3) (s : State) : Result :=
  s.act fun d => d.awake (·.rxRelease port)

/-- TX_SUBMIT (R31). -/
def execTxSubmit (port : Fin 3) (frame : TxFrame) (s : State) : Result :=
  s.act fun d => d.awake (·.submit port frame)

/-- TX_FRAME_START (R186). -/
def execTxFrameStart (port : Fin 3) (s : State) : Result :=
  s.act fun d => d.awake (·.txStart port)

/-- TX_FRAME_DONE (R186). -/
def execTxFrameDone (port : Fin 3) (s : State) : Result :=
  s.act fun d => d.awake (·.txDone port)

/-- PAUSE_FRAME (R197). -/
def execPauseFrame (port : Fin 3) (quanta : U16) (s : State) : Result :=
  s.act fun d => d.awake (·.pauseFrame port quanta.toNat)

/-- PAUSE_EXPIRY (R197). -/
def execPauseExpiry (port : Fin 3) (s : State) : Result :=
  s.act fun d => d.awake (·.pauseExpire port)

/-- PHY_POLL (R192). -/
def execPhyPoll (port : Fin 3) (reading : PhyReading) (s : State) : Result :=
  s.act fun d => d.awake (·.phyPoll port reading)

/-- PHY_INTERRUPT (R192). -/
def execPhyInterrupt (reading0 reading1 reading2 : PhyReading) (s : State) : Result :=
  s.act fun d => d.awake (·.phyInterrupt [reading0, reading1, reading2])

/-- PHY_SCRIPT_RUN (R193). -/
def execPhyScriptRun (port : Fin 3) (script : PhyScript) (s : State) : Result :=
  s.act fun d => d.awake (·.phyScript port script)

/-- UTIL_WINDOW_END (R199). -/
def execUtilWindowEnd (s : State) : Result :=
  s.act fun d => d.awake Dev.utilWindow

/-- EASE_FAIL (R202). -/
def execEaseFail (port : Fin 3) (s : State) : Result :=
  s.act fun d => d.awake (·.easeFail port)

/-- LINK_HOLD_EXPIRY (R196). -/
def execLinkHoldExpiry (port : Fin 3) (s : State) : Result :=
  s.act fun d => d.awake (·.linkHoldExpire port)

/-- PORT_DISABLE (R203). -/
def execPortDisable (port : Fin 3) (s : State) : Result :=
  s.act fun d => d.hostGuard (Dev.ethReg port Reg.ETH0_CTRL) (·.portDisable port)

/-- PORT_IDLE (R203). -/
def execPortIdle (port : Fin 3) (s : State) : Result :=
  s.act fun d => d.awake (·.portIdle port)

/-- ETH_MAC_HI_WRITE (R200). -/
def execEthMacHiWrite (port : Fin 3) (value : Word) (s : State) : Result :=
  s.act fun d => d.hostWrite (Dev.ethReg port Reg.ETH0_MAC_HI) value

/-- ETH_FILT_WRITE (R200). -/
def execEthFiltWrite (port : Fin 3) (high : Bool) (value : Word) (s : State) : Result :=
  s.act fun d => d.hostWrite (Dev.ethReg port (if high then Reg.ETH0_FILT_HI else Reg.ETH0_FILT_LO)) value

/-- REMOTE_REQUEST (R198). -/
def execRemoteRequest (port : Fin 3) (frame : RemoteFrame) (s : State) : Result :=
  s.act fun d => d.awake (·.remoteRequest port frame)

/-- ETH_PORT_STATUS (R206). -/
def execEthPortStatus (src : Source) (req : Request) (s : State) : Result :=
  s.act fun d => d.serve src 0x0401 req

/-- ETH_PORT_SETUP (R206). -/
def execEthPortSetup (src : Source) (req : Request) (s : State) : Result :=
  s.act fun d => d.serve src 0x0402 req

/-- ETH_PORT_DISABLE (R203). -/
def execEthPortDisable (src : Source) (req : Request) (s : State) : Result :=
  s.act fun d => d.serve src 0x0403 req

/-- ETH_EASE_SET (R206). -/
def execEthEaseSet (src : Source) (req : Request) (s : State) : Result :=
  s.act fun d => d.serve src 0x0404 req

/-- ETH_MDIO (R206). -/
def execEthMdio (src : Source) (req : Request) (readBack : U16) (s : State) : Result :=
  s.act fun d => Dev.answer (d.serveWith src 0x0405 req fun _ => Dev.cmdMdio readBack) src

/-- ETH_PHY_SCRIPT (R193). -/
def execEthPhyScript (src : Source) (req : Request) (s : State) : Result :=
  s.act fun d => d.serve src 0x0406 req

/-- ETH_REMOTE_SET (R198). -/
def execEthRemoteSet (src : Source) (req : Request) (s : State) : Result :=
  s.act fun d => d.serve src 0x0407 req

/-- ETH_BAD_FRAMES (R190). -/
def execEthBadFrames (src : Source) (req : Request) (s : State) : Result :=
  s.act fun d => d.serve src 0x0408 req

end Sys2Proof.Machine
end

