-- ==== Sys2Proof/Machine/HostRows.lean ====
section
/-! DEFINITION.
The meanings of the rows: the host interface and the arbiter (chapters 1 and 4). -/

namespace Sys2Proof.Machine

/-- REGISTER_WRITE (R117). -/
def execRegisterWrite (addr : U16) (value : Word) (hearth : Option Word) (s : State) : Result :=
  s.act fun d => d.powered (·.registerWrite addr value hearth)

/-- SPI_TRANSACTION_START (R100). -/
def execSpiTransactionStart (hsckHigh : Bool) (s : State) : Result :=
  s.act fun d => d.spiStart hsckHigh

/-- SPI_NOP (R99). -/
def execSpiNop (s : State) : Result :=
  s.act fun d => d.powered Dev.spiNop

/-- SPI_WRITE_WORD (R101). -/
def execSpiWriteWord (header : Option U16) (value : Word) (s : State) : Result :=
  s.act fun d => d.powered (·.spiWrite header value)

/-- SPI_READ_WORD (R102). -/
def execSpiReadWord (header : Option U16) (full : Bool) (s : State) : Result :=
  s.act fun d => d.powered (·.spiRead header full)

/-- SNAPSHOT (R110). -/
def execSnapshot (mask : U16) (events : List (Fin 3 × Fin 40)) (s : State) : Result :=
  s.act fun d => d.powered (·.spiSnapshot mask events)

/-- BAD_OPCODE (R99). -/
def execBadOpcode (opcode : Byte) (s : State) : Result :=
  s.act fun d => d.powered (·.spiBadOpcode opcode)

/-- SPI_TRANSACTION_END (R101). -/
def execSpiTransactionEnd (header : Option U16) (partialWord : Bool) (s : State) : Result :=
  s.act fun d => d.powered (·.spiEnd header partialWord)

/-- OVERSPEED (R120). -/
def execOverspeed (s : State) : Result :=
  s.act fun d => d.powered Dev.spiOverspeed

/-- ALIAS_WRITE (R108). -/
def execAliasWrite (addr : U16) (value : Word) (s : State) : Result :=
  s.act fun d => d.powered (·.registerWrite addr value none)

/-- DBG_READ_REQUEST (R113). -/
def execDbgReadRequest (word : U16) (autoInc : Bool) (s : State) : Result :=
  s.act fun d => d.hostGuard Reg.SYS_DBG_ADDR (·.dbgAddr word autoInc true)

/-- DBG_WRITE_COMMIT (R113). -/
def execDbgWriteCommit (dataHi : Word) (s : State) : Result :=
  s.act fun d => d.hostWrite Reg.SYS_DBG_DATA_HI dataHi

/-- DBG_BEAT_DONE (R113). -/
def execDbgBeatDone (s : State) : Result :=
  .next { s with dev := (s.dev.dbgDone s.ram).1, ram := (s.dev.dbgDone s.ram).2 }

/-- ECC_LAST_CLEAR (R122). -/
def execEccLastClear (s : State) : Result :=
  s.act fun d => d.hostWrite Reg.SYS_ECC_LAST (bitW 31 true)

/-- STATS_CLEAR (R125). -/
def execStatsClear (s : State) : Result :=
  s.act fun d => d.hostWrite Reg.ARB_CTRL (bitW 0 true)

/-- ARB_GRANT (R21). -/
def execArbGrant (input : ArbInput) (s : State) : Result :=
  .next { s with dev := s.dev.arbGrant input, ram := s.dev.arbBeats input s.ram }

/-- REQUEST_AGED (R25). -/
def execRequestAged (requester : Fin 8) (s : State) : Result :=
  s.act fun d => d.awake (·.requestAged requester)

end Sys2Proof.Machine
end

