-- ==== Sys2Proof/Machine/LintelRows.lean ====
section
/-! DEFINITION.
The meanings of the rows: lintel (chapter 9). -/

namespace Sys2Proof.Machine

/-- LINTEL_BEACON (R235). -/
def execLintelBeacon (group : Fin 8) (port : Fin 3) (payload : List Byte) (s : State) : Result :=
  s.act fun d => d.awake (·.lintelBeacon group port payload)

/-- LINTEL_TICK (R236). -/
def execLintelTick (offsets : List Int) (s : State) : Result :=
  s.act fun d => d.awake (·.lintelTick offsets)

/-- FADE_END (R240). -/
def execFadeEnd (group : Fin 8) (s : State) : Result :=
  s.act fun d => d.awake (·.fadeEnd group)

/-- REVERT_HOLD_EXPIRY (R243). -/
def execRevertHoldExpiry (group : Fin 8) (s : State) : Result :=
  s.act fun d => d.awake (·.revertExpire group)

/-- HEALTH_BLOCK_END (R247). -/
def execHealthBlockEnd (group : Fin 8) (concealed : Bool) (energies : List (Nat × Nat)) (s : State) : Result :=
  s.act fun d => d.awake (·.healthBlock group concealed energies)

/-- LINTEL_GROUP_SETUP (R249). -/
def execLintelGroupSetup (src : Source) (req : Request) (s : State) : Result :=
  s.act fun d => d.serve src 0x0601 req

/-- LINTEL_GROUP_START (R249). -/
def execLintelGroupStart (src : Source) (req : Request) (s : State) : Result :=
  s.act fun d => d.serve src 0x0602 req

/-- LINTEL_GROUP_STOP (R249). -/
def execLintelGroupStop (src : Source) (req : Request) (s : State) : Result :=
  s.act fun d => d.serve src 0x0603 req

/-- LINTEL_GROUP_DELETE (R249). -/
def execLintelGroupDelete (src : Source) (req : Request) (s : State) : Result :=
  s.act fun d => d.serve src 0x0604 req

/-- LINTEL_SWITCH (R243). -/
def execLintelSwitch (src : Source) (req : Request) (s : State) : Result :=
  s.act fun d => d.serve src 0x0605 req

/-- LINTEL_GROUP_STATUS (R255). -/
def execLintelGroupStatus (src : Source) (req : Request) (s : State) : Result :=
  s.act fun d => d.serve src 0x0606 req

/-- LINTEL_HEALTH (R247). -/
def execLintelHealth (src : Source) (req : Request) (s : State) : Result :=
  s.act fun d => d.serve src 0x0607 req

/-- LINTEL_TALKER_SET (R248). -/
def execLintelTalkerSet (src : Source) (req : Request) (s : State) : Result :=
  s.act fun d => d.serve src 0x0608 req

end Sys2Proof.Machine
end

