-- ==== Sys2Proof/Machine/MailRows.lean ====
section
/-! DEFINITION.
The meanings of the rows: mailboxes, the event queue and the system, journal and firmware-update commands (chapter 5). -/

namespace Sys2Proof.Machine

/-- MB_DOORBELL (R127). -/
def execMbDoorbell (mailbox : Fin 2) (value : Word) (s : State) : Result :=
  s.act fun d => d.hostWrite (0x4FC + 0x200 * mailbox.val) value

/-- MB_RELEASE (R130). -/
def execMbRelease (mailbox : Fin 2) (full : Bool) (s : State) : Result :=
  s.act fun d => d.hostRead (0x5FC + 0x200 * mailbox.val) full

/-- SERVICE_PASS (R133). -/
def execServicePass (s : State) : Result :=
  s.act fun d => d.servicePass

/-- EVQ_HEAD_READ (R143). -/
def execEvqHeadRead (full : Bool) (s : State) : Result :=
  s.act fun d => d.hostRead 0x7F0 full

/-- EVQ_ARG_READ (R143). -/
def execEvqArgRead (full : Bool) (s : State) : Result :=
  s.act fun d => d.hostRead 0x7F4 full

/-- EVQ_STATE_READ (R144). -/
def execEvqStateRead (full : Bool) (s : State) : Result :=
  s.act fun d => d.hostRead 0x7E8 full

/-- STATUS (R148). -/
def execStatus (src : Source) (req : Request) (s : State) : Result :=
  s.act fun d => d.serve src 0x0001 req

/-- IDENTITY (R149). -/
def execIdentity (src : Source) (req : Request) (s : State) : Result :=
  s.act fun d => d.serve src 0x0002 req

/-- FAILURE_REPORT (R148). -/
def execFailureReport (src : Source) (req : Request) (s : State) : Result :=
  s.act fun d => d.serve src 0x0003 req

/-- RESET (R148). -/
def execReset (src : Source) (req : Request) (s : State) : Result :=
  s.act fun d => d.serve src 0x0004 req

/-- QUIET_ENTER (R77). -/
def execQuietEnter (src : Source) (req : Request) (s : State) : Result :=
  s.act fun d => d.serve src 0x0005 req

/-- QUIET_EXIT (R79). -/
def execQuietExit (src : Source) (req : Request) (s : State) : Result :=
  s.act fun d => d.serve src 0x0006 req

/-- EVENT_MASK (R145). -/
def execEventMask (src : Source) (req : Request) (s : State) : Result :=
  s.act fun d => d.serve src 0x0007 req

/-- JOURNAL_STATUS (R86). -/
def execJournalStatus (src : Source) (req : Request) (s : State) : Result :=
  s.act fun d => d.serve src 0x0101 req

/-- JOURNAL_READ (R86). -/
def execJournalRead (src : Source) (req : Request) (s : State) : Result :=
  s.act fun d => d.serve src 0x0102 req

/-- JOURNAL_COMPACT (R87). -/
def execJournalCompact (src : Source) (req : Request) (s : State) : Result :=
  s.act fun d => d.serve src 0x0103 req

/-- JOURNAL_DEFAULTS (R92). -/
def execJournalDefaults (src : Source) (req : Request) (s : State) : Result :=
  s.act fun d => d.serve src 0x0104 req

/-- JOURNAL_DEFAULTS_DONE (R135). -/
def execJournalDefaultsDone (s : State) : Result :=
  s.act fun d => d.powered Dev.defaultsDone

/-- FWU_BEGIN (R151). -/
def execFwuBegin (src : Source) (req : Request) (s : State) : Result :=
  s.act fun d => d.serve src 0x0201 req

/-- FWU_ERASE_DONE (R135). -/
def execFwuEraseDone (s : State) : Result :=
  s.act fun d => d.powered fun d => d.eraseDone (Flash.target d.flash)

/-- FWU_WRITE (R152). -/
def execFwuWrite (src : Source) (req : Request) (s : State) : Result :=
  s.act fun d => d.serve src 0x0202 req

/-- FWU_FINISH (R152). -/
def execFwuFinish (src : Source) (req : Request) (s : State) : Result :=
  s.act fun d => d.serve src 0x0203 req

/-- FWU_CONFIRM (R153). -/
def execFwuConfirm (src : Source) (req : Request) (s : State) : Result :=
  s.act fun d => d.serve src 0x0204 req

/-- FWU_ABORT (R150). -/
def execFwuAbort (src : Source) (req : Request) (s : State) : Result :=
  s.act fun d => d.serve src 0x0205 req

end Sys2Proof.Machine
end

