-- ==== Sys2Proof/Machine/MeasRows.lean ====
section
/-! DEFINITION.
The meanings of the rows: speaker measurement, amplifiers and monitors (chapter 11). -/

namespace Sys2Proof.Machine

/-- MEAS_SLOT_END (R292). -/
def execMeasSlotEnd (speaker : Fin 16) (s : State) : Result :=
  s.act fun d => d.awake (·.slotEnd speaker)

/-- FOLDBACK_EVAL (R299). -/
def execFoldbackEval (s : State) : Result :=
  s.act fun d => d.awake Dev.foldEval

/-- FOLDBACK_LIMIT (R299). -/
def execFoldbackLimit (owner : FoldOwner) (s : State) : Result :=
  s.act fun d => d.awake (·.foldLimit owner)

/-- DC_TEST_SPEAKER_START (R296). -/
def execDcTestSpeakerStart (speaker : Fin 16) (s : State) : Result :=
  s.act fun d => d.awake (·.dcStart speaker)

/-- DC_TEST_NOT_QUIET (R296). -/
def execDcTestNotQuiet (speaker : Fin 16) (s : State) : Result :=
  s.act fun d => d.awake (·.dcNotQuiet speaker)

/-- DC_TEST_SPEAKER_DONE (R298). -/
def execDcTestSpeakerDone (speaker : Fin 16) (s : State) : Result :=
  s.act fun d => d.awake (·.dcDone speaker)

/-- DC_TEST_ABORT (R298). -/
def execDcTestAbort (speaker : Fin 16) (cause : DcAbort) (s : State) : Result :=
  s.act fun d => d.awake (·.dcAbort speaker cause)

/-- BASELINE_LEARN_DONE (R295). -/
def execBaselineLearnDone (speaker : Fin 16) (s : State) : Result :=
  s.act fun d => d.awake (·.learnDone speaker)

/-- BASELINE_LEARN_TIMEOUT (R295). -/
def execBaselineLearnTimeout (speaker : Fin 16) (s : State) : Result :=
  s.act fun d => d.awake (·.learnTimeout speaker)

/-- AMP_FAULT_ASSERT (R300). -/
def execAmpFaultAssert (amp : Fin 4) (s : State) : Result :=
  s.act fun d => d.awake (·.faultPinAssert amp)

/-- FAULT_HOLD_EXPIRY (R300). -/
def execFaultHoldExpiry (amp : Fin 4) (s : State) : Result :=
  s.act fun d => d.awake (·.faultHoldExpire amp)

/-- AMP_SCRIPT_DONE (R304). -/
def execAmpScriptDone (amp : Fin 4) (s : State) : Result :=
  s.act fun d => d.awake (·.scriptDone amp)

/-- I2C_RETRY (R304). -/
def execI2cRetry (bus : Fin 2) (s : State) : Result :=
  s.act fun d => d.awake (·.i2cRetry bus)

/-- I2C_STRETCH_TIMEOUT (R302). -/
def execI2cStretchTimeout (bus : Fin 2) (s : State) : Result :=
  s.act fun d => d.awake (·.i2cStretch bus)

/-- MUTE_LINE_CHECK (R65). -/
def execMuteLineCheck (s : State) : Result :=
  s.act fun d => d.awake Dev.muteCheckAll

/-- DIE_SENSOR_DISAGREE (R306). -/
def execDieSensorDisagree (s : State) : Result :=
  s.act fun d => d.awake Dev.dieDisagree

/-- AMON_OUT_OF_RANGE (R307). -/
def execAmonOutOfRange (s : State) : Result :=
  s.act fun d => d.awake Dev.amonOut

/-- AMON_BACK_IN_RANGE (R307). -/
def execAmonBackInRange (s : State) : Result :=
  s.act fun d => d.awake Dev.amonBack

/-- DTC_STORE_WRITE (R310). -/
def execDtcStoreWrite (s : State) : Result :=
  s.act fun d => d.powered Dev.dtcStoreWrite

/-- MEAS_SPEAKER_SET (R313). -/
def execMeasSpeakerSet (src : Source) (req : Request) (s : State) : Result :=
  s.act fun d => d.serve src 0x0801 req

/-- MEAS_CONFIG (R313). -/
def execMeasConfig (src : Source) (req : Request) (s : State) : Result :=
  s.act fun d => d.serve src 0x0802 req

/-- MEAS_RESULT (R313). -/
def execMeasResult (src : Source) (req : Request) (s : State) : Result :=
  s.act fun d => d.serve src 0x0803 req

/-- MEAS_BASELINE (R295). -/
def execMeasBaseline (src : Source) (req : Request) (s : State) : Result :=
  s.act fun d => d.serve src 0x0804 req

/-- MEAS_DC_TEST (R296). -/
def execMeasDcTest (src : Source) (req : Request) (s : State) : Result :=
  s.act fun d => d.serve src 0x0805 req

/-- MEAS_MONITORS (R313). -/
def execMeasMonitors (src : Source) (req : Request) (s : State) : Result :=
  s.act fun d => d.serve src 0x0806 req

/-- MEAS_DTC_READ (R313). -/
def execMeasDtcRead (src : Source) (req : Request) (s : State) : Result :=
  s.act fun d => d.serve src 0x0807 req

/-- MEAS_DTC_CLEAR (R313). -/
def execMeasDtcClear (src : Source) (req : Request) (s : State) : Result :=
  s.act fun d => d.serve src 0x0808 req

/-- AMP_SCRIPT_SET (R304). -/
def execAmpScriptSet (src : Source) (req : Request) (s : State) : Result :=
  s.act fun d => d.serve src 0x0809 req

/-- AMP_SCRIPT_RUN (R304). -/
def execAmpScriptRun (src : Source) (req : Request) (s : State) : Result :=
  s.act fun d => d.serve src 0x080A req

/-- AMP_LINE (R301). -/
def execAmpLine (src : Source) (req : Request) (s : State) : Result :=
  s.act fun d => d.serve src 0x080B req

/-- AMP_I2C (R302). -/
def execAmpI2c (src : Source) (req : Request) (s : State) : Result :=
  s.act fun d => d.serve src 0x080C req

/-- I2C_TRANSFER_DONE (R304). -/
def execI2cTransferDone (bus : Fin 2) (result : I2cResult) (s : State) : Result :=
  s.act fun d => d.awake (·.i2cDone bus result)

end Sys2Proof.Machine
end

