-- ==== Sys2Proof/Machine/PinRows.lean ====
section
/-! DEFINITION.
The meanings of the rows: general-purpose pins (chapter 13). -/

namespace Sys2Proof.Machine

/-- DEBOUNCE_CHANGE (R356). -/
def execDebounceChange (pin : Fin 37) (s : State) : Result :=
  s.act fun d => d.powered fun d => (d.debounceChange pin).pinWakeRaise

/-- PIN_HOLD_END (R352). -/
def execPinHoldEnd (pin : Fin 37) (s : State) : Result :=
  s.act fun d => d.powered (·.pinHoldEnd pin)

/-- GPIO_LOCK_WRITE (R358). -/
def execGpioLockWrite (hearth : Bool) (value : Word) (s : State) : Result :=
  s.act fun d => if hearth then d.awake (·.lockWrite true value) else d.hostWrite Reg.GPIO_LOCK value

/-- GPIO_OUT_MW_WRITE (R353). -/
def execGpioOutMwWrite (lanes : Fin 16) (value : Word) (s : State) : Result :=
  s.act fun d => d.hostWrite (0x380 + 4 * lanes.val) value

/-- GPIO_PIN_CONFIG (R370). -/
def execGpioPinConfig (src : Source) (req : Request) (s : State) : Result :=
  s.act fun d => d.serve src 0x0A01 req

/-- GPIO_XBAR_SET (R347). -/
def execGpioXbarSet (src : Source) (req : Request) (s : State) : Result :=
  s.act fun d => d.serve src 0x0A02 req

/-- GPIO_OUTPUT (R370). -/
def execGpioOutput (src : Source) (req : Request) (s : State) : Result :=
  s.act fun d => d.serve src 0x0A03 req

/-- GPIO_READ (R370). -/
def execGpioRead (src : Source) (req : Request) (s : State) : Result :=
  s.act fun d => d.serve src 0x0A04 req

/-- GPIO_LOCK_PIN (R370). -/
def execGpioLockPin (src : Source) (req : Request) (s : State) : Result :=
  s.act fun d => d.serve src 0x0A05 req

/-- PAD_LEVEL_CHANGE (R356). -/
def execPadLevelChange (pin : Fin 37) (level : Bool) (s : State) : Result :=
  s.act fun d => d.powered fun d => (d.padLevel pin level).pinWakeRaise

end Sys2Proof.Machine
end

