-- ==== Sys2Proof/Machine/PowerRows.lean ====
section
/-! DEFINITION.
The meanings of the rows: power, reset, Proof, boot, the supply supervisor and QUIET (chapter 3). -/

namespace Sys2Proof.Machine

/-- POWER_ON_RESET (R67). -/
def execPowerOnReset (_ : Rail) (s : State) : Result :=
  s.act fun d => d.powerOnReset

/-- POWER_ON_RESET_RELEASE (R67). -/
def execPowerOnResetRelease (railsHeld : Bool) (s : State) : Result :=
  s.act fun d => d.powerOnRelease railsHeld

/-- RST_N_ASSERT (R68, Table 3.2): a pulse below 200 ns is ignored, one of at least 1 µs resets, and
between them the manual calls the behaviour undefined. -/
def execRstNAssert (lowNs : Nat) (s : State) : Result :=
  if lowNs < 200 then s.act fun d => d
  else if lowNs < 1000 then .fault .rstPulseUndefined
  else s.act Dev.pinReset

/-- RST_N_RELEASE (R69). -/
def execRstNRelease (s : State) : Result :=
  s.act fun d => d.pinRelease

/-- CORE_PLL_LOCK_LOSS (R37). -/
def execCorePllLockLoss (s : State) : Result :=
  s.act fun d => d.pllLoss

/-- HEARTH_WATCHDOG_EXPIRY (R68). -/
def execHearthWatchdogExpiry (s : State) : Result :=
  s.act fun d => d.watchdogExpiry

/-- SOFTWARE_RESET (R90). -/
def execSoftwareReset (s : State) : Result :=
  s.act fun d => d.powered Dev.softwareReset

/-- PROOF_START (R71). The march test of the audio RAM leaves the contents the model gives a RAM that
nothing has written. (DESIGN CHOICE, log 7) -/
def execProofStart (s : State) : Result :=
  .next { s with dev := s.dev.proofStart, ram := if s.dev.proofReady then [] else s.ram }

/-- PROOF_COMPLETE (R71). -/
def execProofComplete (readings : ProofReadings) (s : State) : Result :=
  s.act fun d => d.proofComplete readings

/-- BOOT_START (R75). -/
def execBootStart (s : State) : Result :=
  s.act fun d => d.bootStart

/-- BOOT_COMPLETE (R76). -/
def execBootComplete (s : State) : Result :=
  s.act fun d => d.bootComplete

/-- SUPERVISOR_SAMPLE (R80). -/
def execSupervisorSample (sample : SupplySample) (s : State) : Result :=
  s.act fun d => d.supervisorSample sample

/-- SUPPLY_MUTE_RAMP_END (R84). -/
def execSupplyMuteRampEnd (s : State) : Result :=
  s.act fun d => d.powered Dev.supplyRampEnd

/-- SUPPLY_MUTE_EXIT (R84). -/
def execSupplyMuteExit (s : State) : Result :=
  s.act fun d => d.powered Dev.supplyMuteExit

/-- VDDIO_E_FAULT_ENTER (R80). -/
def execVddioEFaultEnter (s : State) : Result :=
  s.act fun d => d.powered Dev.vddioEnter

/-- VDDIO_E_FAULT_EXIT (R80). -/
def execVddioEFaultExit (s : State) : Result :=
  s.act fun d => d.powered Dev.vddioExit

/-- VBAT_OPEN_ENTER (R80). -/
def execVbatOpenEnter (s : State) : Result :=
  s.act fun d => d.powered Dev.vbatOpenEnter

/-- VBAT_OPEN_EXIT (R80). -/
def execVbatOpenExit (s : State) : Result :=
  s.act fun d => d.powered Dev.vbatOpenExit

/-- JOURNAL_RECORD_PROGRAM (R81). -/
def execJournalRecordProgram (s : State) : Result :=
  s.act fun d => d.journalProgram

/-- JOURNAL_RECORD_DONE (R86). -/
def execJournalRecordDone (s : State) : Result :=
  s.act fun d => d.powered fun d => d.journalDone.quietAdvance

/-- JOURNAL_COMPACTION_DONE (R87). -/
def execJournalCompactionDone (s : State) : Result :=
  s.act fun d => d.powered fun d => d.compactDone.quietAdvance

/-- FLASH_ERASE_DONE (R83). -/
def execFlashEraseDone (target : EraseTarget) (s : State) : Result :=
  s.act fun d => d.powered (·.eraseDone target)

/-- QUIET_ENTRY_COMPLETE (R77). -/
def execQuietEntryComplete (s : State) : Result :=
  s.act fun d => d.quietComplete

/-- QUIET_DOORBELL_PASS (R78). -/
def execQuietDoorbellPass (s : State) : Result :=
  s.act fun d => d.quietPassStart

/-- QUIET_WAKE (R79). -/
def execQuietWake (event : WakeEvent) (s : State) : Result :=
  s.act fun d => d.powered (·.wakeEvent event)

/-- PWR_RESET_REQ_WRITE (R90). -/
def execPwrResetReqWrite (value : Word) (s : State) : Result :=
  s.act fun d => d.hostWrite Reg.PWR_RESET_REQ value

/-- MIN_RESTART (R95). -/
def execMinRestart (s : State) : Result :=
  s.act fun d => d.hostGuard Reg.PWR_CTRL Dev.minRestart

end Sys2Proof.Machine
end

