-- ==== Sys2Proof/Machine/StreamRows.lean ====
section
/-! DEFINITION.
The meanings of the rows: 802.1AS, streams and Mortar (chapter 8). -/

namespace Sys2Proof.Machine

/-- GPTP_MESSAGE (R207). -/
def execGptpMessage (port : Fin 3) (domain ago : Nat) (message : GptpMessage) (s : State) : Result :=
  s.act fun d => d.awake (·.gptpMessage port domain ago message)

/-- SYNC_RECEIPT_TIMEOUT (R208). -/
def execSyncReceiptTimeout (port : Fin 3) (s : State) : Result :=
  s.act fun d => d.awake (·.syncTimeout port)

/-- ANNOUNCE_RECEIPT_TIMEOUT (R207). -/
def execAnnounceReceiptTimeout (port : Fin 3) (s : State) : Result :=
  s.act fun d => d.awake (·.announceTimeout port)

/-- PDELAY_REQ_SEND (R207). -/
def execPdelayReqSend (port : Fin 3) (s : State) : Result :=
  s.act fun d => d.awake (·.pdelaySend port)

/-- AAF_FRAME (R213). -/
def execAafFrame (frame : AafFrame) (s : State) : Result :=
  s.act fun d => d.awake (·.aafTaken frame)

/-- CRF_FRAME (R211). -/
def execCrfFrame (frame : CrfFrame) (s : State) : Result :=
  s.act fun d => d.awake (·.crfFrame frame)

/-- LISTENER_START_PLAY (R222). -/
def execListenerStartPlay (listener : Fin 16) (s : State) : Result :=
  s.act fun d => d.awake (·.listenerStartPlay listener)

/-- LISTENER_STARVED (R215). -/
def execListenerStarved (listener : Fin 16) (s : State) : Result :=
  s.act fun d => d.awake (·.listenerStarve listener)

/-- LISTENER_RESUME (R222). -/
def execListenerResume (listener : Fin 16) (s : State) : Result :=
  s.act fun d => d.awake (·.listenerResume listener)

/-- TALKER_START_SEND (R222). -/
def execTalkerStartSend (talker : Fin 8) (s : State) : Result :=
  s.act fun d => d.awake (·.talkerStartSend talker)

/-- STOP_TIME_REACHED (R223). -/
def execStopTimeReached (talker : Bool) (index : Fin 16) (s : State) : Result :=
  s.act fun d => d.awake (·.stopTime talker index)

/-- STOP_RAMP_END (R223). -/
def execStopRampEnd (talker : Bool) (index : Fin 16) (s : State) : Result :=
  s.act fun d => d.awake (·.stopRampEnd talker index)

/-- TALKER_FRAME_SEND (R220). -/
def execTalkerFrameSend (talker : Fin 8) (s : State) : Result :=
  s.act fun d => d.awake (·.talkerFrameSend talker)

/-- STREAM_FAULT (R228). -/
def execStreamFault (listener : Fin 16) (kind : Fin 3) (s : State) : Result :=
  s.act fun d => d.awake (·.streamFault listener kind)

/-- RATE_RECOVERED (R228). -/
def execRateRecovered (listener : Fin 16) (s : State) : Result :=
  s.act fun d => d.awake (·.rateRecovered listener)

/-- STREAM_AUTOSTART (R226). -/
def execStreamAutostart (s : State) : Result :=
  s.act fun d => d.awake Dev.autostartAll

/-- LISTENER_SETUP (R225). -/
def execListenerSetup (src : Source) (req : Request) (s : State) : Result :=
  s.act fun d => d.serve src 0x0501 req

/-- TALKER_SETUP (R225). -/
def execTalkerSetup (src : Source) (req : Request) (s : State) : Result :=
  s.act fun d => d.serve src 0x0502 req

/-- STREAM_START (R224). -/
def execStreamStart (src : Source) (req : Request) (s : State) : Result :=
  s.act fun d => d.serve src 0x0503 req

/-- STREAM_STOP (R224). -/
def execStreamStop (src : Source) (req : Request) (s : State) : Result :=
  s.act fun d => d.serve src 0x0504 req

/-- STREAM_DELETE (R225). -/
def execStreamDelete (src : Source) (req : Request) (s : State) : Result :=
  s.act fun d => d.serve src 0x0505 req

/-- STREAM_STATUS (R229). -/
def execStreamStatus (src : Source) (req : Request) (s : State) : Result :=
  s.act fun d => d.serve src 0x0506 req

/-- PORT_STREAM_STATUS (R229). -/
def execPortStreamStatus (src : Source) (req : Request) (s : State) : Result :=
  s.act fun d => d.serve src 0x0507 req

/-- GPTP_SET (R208). -/
def execGptpSet (src : Source) (req : Request) (s : State) : Result :=
  s.act fun d => d.serve src 0x0508 req

/-- GPTP_STATUS (R229). -/
def execGptpStatus (src : Source) (req : Request) (s : State) : Result :=
  s.act fun d => d.serve src 0x0509 req

end Sys2Proof.Machine
end

