-- ==== Sys2Proof/Machine/TestRows.lean ====
section
/-! DEFINITION.
The meanings of the rows: the test access port and the field self-tests (chapter 15). -/

namespace Sys2Proof.Machine

/-- TEST_LOGIC_RESET (R398). -/
def execTestLogicReset (s : State) : Result :=
  s.act fun d => d.tapReset

/-- EXTEST (R400). -/
def execExtest (s : State) : Result :=
  s.act fun d => d.tapInstruction 0

/-- IDCODE (R394). -/
def execIdcode (s : State) : Result :=
  s.act fun d => d.tapInstruction 1

/-- SAMPLE_PRELOAD (R399). -/
def execSamplePreload (s : State) : Result :=
  s.act fun d => d.tapInstruction 2

/-- CLAMP (R400). -/
def execClamp (s : State) : Result :=
  s.act fun d => d.tapInstruction 4

/-- HIGHZ (R400). -/
def execHighz (s : State) : Result :=
  s.act fun d => d.tapInstruction 5

/-- BYPASS (R393). -/
def execBypass (s : State) : Result :=
  s.act fun d => d.tapInstruction 15

/-- SELFTEST_RUN (R402). -/
def execSelftestRun (src : Source) (req : Request) (s : State) : Result :=
  s.act fun d => d.serve src 0x0C01 req

/-- SELFTEST_DONE (R402). -/
def execSelftestDone (readings : SelfTestReadings) (s : State) : Result :=
  s.act fun d => d.awake (·.selfTestDone readings)

/-- SELFTEST_RESULT (R403). -/
def execSelftestResult (src : Source) (req : Request) (s : State) : Result :=
  s.act fun d => d.serve src 0x0C02 req

/-- TCK_EDGE (R392). -/
def execTckEdge (rising tms tdi : Bool) (levels : BitVec 225) (s : State) : Result :=
  s.act fun d => d.tckEdge rising tms tdi levels

end Sys2Proof.Machine
end

