-- ==== Sys2Proof/Machine/TimeRows.lean ====
section
/-! DEFINITION.
The meanings of the rows: timers and the scheduler (chapter 14). -/

namespace Sys2Proof.Machine

/-- TIMER_MATCH (R375). -/
def execTimerMatch (channel : Fin 4) (s : State) : Result :=
  s.act fun d => d.awake (·.timerMatch channel)

/-- TIMER_WRAP (R371). -/
def execTimerWrap (channel : Fin 4) (s : State) : Result :=
  s.act fun d => d.awake (·.timerWrap channel)

/-- TIMER_CAPTURE (R376). -/
def execTimerCapture (channel : Fin 4) (falling : Bool) (s : State) : Result :=
  s.act fun d => d.awake (·.timerCapture channel falling)

/-- TIMER_GATE_EVENT (R378). -/
def execTimerGateEvent (channel : Fin 4) (start stop : Bool) (s : State) : Result :=
  s.act fun d => d.awake (·.timerGate channel start stop)

/-- TMR_CLEAR (R371). -/
def execTmrClear (hearth : Option (Fin 4)) (s : State) : Result :=
  s.act fun d => d.tmrRow hearth Reg.TMR_CTRL (·.tmrClear hearth)

/-- TMR_CMP_WRITE (R374). -/
def execTmrCmpWrite (hearth : Option (Fin 4)) (high : Bool) (value : Word) (s : State) : Result :=
  s.act fun d => d.tmrRow hearth (if high then Reg.TMR_CMP_HI else Reg.TMR_CMP_LO) (·.tmrCmpWrite hearth high value)

/-- TMR_COUNT_LO_READ (R373). -/
def execTmrCountLoRead (hearth : Option (Fin 4)) (s : State) : Result :=
  s.act fun d => if hearth.isSome then d.awake (·.tmrCountLo hearth) else d.hostRead Reg.TMR_COUNT_LO true

/-- TMR_CAP_LO_READ (R377). -/
def execTmrCapLoRead (hearth : Option (Fin 4)) (full : Bool) (s : State) : Result :=
  s.act fun d => if hearth.isSome then d.awake (·.tmrCapLo hearth full) else d.hostRead Reg.TMR_CAP_LO full

/-- SCHED_ENTRY_READY (R380). -/
def execSchedEntryReady (entry : Fin 32) (s : State) : Result :=
  s.act fun d => d.awake (·.schedReady entry)

/-- SCHED_HELD_RELEASE (R381). -/
def execSchedHeldRelease (s : State) : Result :=
  s.act fun d => d.awake Dev.schedRelease

/-- SCHED_CANCEL_WRITE (R383). -/
def execSchedCancelWrite (value : Word) (s : State) : Result :=
  s.act fun d => d.hostWrite Reg.SCHED_CANCEL value

/-- SCHED_SET (R385). -/
def execSchedSet (src : Source) (req : Request) (s : State) : Result :=
  s.act fun d => d.serve src 0x0B01 req

/-- SCHED_CANCEL (R391). -/
def execSchedCancel (src : Source) (req : Request) (s : State) : Result :=
  s.act fun d => d.serve src 0x0B02 req

/-- SCHED_STATUS (R391). -/
def execSchedStatus (src : Source) (req : Request) (s : State) : Result :=
  s.act fun d => d.serve src 0x0B03 req

end Sys2Proof.Machine
end

