-- ==== Sys2Proof/Machine/Dispatch.lean ====
section
/-! DEFINITION.
The dispatch of a command to its meaning: one arm per row of the opcode table. -/

namespace Sys2Proof.Machine

/-- (DESIGN CHOICE, log 3, 4, 133) -/
def exec (i : Instr) (s : State) : Host.Outcome State Fault Refusal :=
  match i with
  | .powerOnReset rail => Sys2Proof.Machine.execPowerOnReset rail s
  | .powerOnResetRelease railsHeld => Sys2Proof.Machine.execPowerOnResetRelease railsHeld s
  | .rstNAssert lowNs => Sys2Proof.Machine.execRstNAssert lowNs s
  | .rstNRelease => Sys2Proof.Machine.execRstNRelease s
  | .corePllLockLoss => Sys2Proof.Machine.execCorePllLockLoss s
  | .hearthWatchdogExpiry => Sys2Proof.Machine.execHearthWatchdogExpiry s
  | .softwareReset => Sys2Proof.Machine.execSoftwareReset s
  | .proofStart => Sys2Proof.Machine.execProofStart s
  | .proofComplete readings => Sys2Proof.Machine.execProofComplete readings s
  | .bootStart => Sys2Proof.Machine.execBootStart s
  | .bootComplete => Sys2Proof.Machine.execBootComplete s
  | .supervisorSample sample => Sys2Proof.Machine.execSupervisorSample sample s
  | .supplyMuteRampEnd => Sys2Proof.Machine.execSupplyMuteRampEnd s
  | .supplyMuteExit => Sys2Proof.Machine.execSupplyMuteExit s
  | .vddioEFaultEnter => Sys2Proof.Machine.execVddioEFaultEnter s
  | .vddioEFaultExit => Sys2Proof.Machine.execVddioEFaultExit s
  | .vbatOpenEnter => Sys2Proof.Machine.execVbatOpenEnter s
  | .vbatOpenExit => Sys2Proof.Machine.execVbatOpenExit s
  | .journalRecordProgram => Sys2Proof.Machine.execJournalRecordProgram s
  | .journalRecordDone => Sys2Proof.Machine.execJournalRecordDone s
  | .journalCompactionDone => Sys2Proof.Machine.execJournalCompactionDone s
  | .flashEraseDone target => Sys2Proof.Machine.execFlashEraseDone target s
  | .quietEntryComplete => Sys2Proof.Machine.execQuietEntryComplete s
  | .quietDoorbellPass => Sys2Proof.Machine.execQuietDoorbellPass s
  | .quietWake event => Sys2Proof.Machine.execQuietWake event s
  | .pwrResetReqWrite value => Sys2Proof.Machine.execPwrResetReqWrite value s
  | .minRestart => Sys2Proof.Machine.execMinRestart s
  | .registerWrite addr value hearth => Sys2Proof.Machine.execRegisterWrite addr value hearth s
  | .spiTransactionStart hsckHigh => Sys2Proof.Machine.execSpiTransactionStart hsckHigh s
  | .spiNop => Sys2Proof.Machine.execSpiNop s
  | .spiWriteWord header value => Sys2Proof.Machine.execSpiWriteWord header value s
  | .spiReadWord header full => Sys2Proof.Machine.execSpiReadWord header full s
  | .snapshot mask events => Sys2Proof.Machine.execSnapshot mask events s
  | .badOpcode opcode => Sys2Proof.Machine.execBadOpcode opcode s
  | .spiTransactionEnd header partialWord => Sys2Proof.Machine.execSpiTransactionEnd header partialWord s
  | .overspeed => Sys2Proof.Machine.execOverspeed s
  | .aliasWrite addr value => Sys2Proof.Machine.execAliasWrite addr value s
  | .dbgReadRequest word autoInc => Sys2Proof.Machine.execDbgReadRequest word autoInc s
  | .dbgWriteCommit dataHi => Sys2Proof.Machine.execDbgWriteCommit dataHi s
  | .dbgBeatDone => Sys2Proof.Machine.execDbgBeatDone s
  | .eccLastClear => Sys2Proof.Machine.execEccLastClear s
  | .statsClear => Sys2Proof.Machine.execStatsClear s
  | .arbGrant input => Sys2Proof.Machine.execArbGrant input s
  | .requestAged requester => Sys2Proof.Machine.execRequestAged requester s
  | .mbDoorbell mailbox value => Sys2Proof.Machine.execMbDoorbell mailbox value s
  | .mbRelease mailbox full => Sys2Proof.Machine.execMbRelease mailbox full s
  | .servicePass => Sys2Proof.Machine.execServicePass s
  | .evqHeadRead full => Sys2Proof.Machine.execEvqHeadRead full s
  | .evqArgRead full => Sys2Proof.Machine.execEvqArgRead full s
  | .evqStateRead full => Sys2Proof.Machine.execEvqStateRead full s
  | .status src req => Sys2Proof.Machine.execStatus src req s
  | .identity src req => Sys2Proof.Machine.execIdentity src req s
  | .failureReport src req => Sys2Proof.Machine.execFailureReport src req s
  | .reset src req => Sys2Proof.Machine.execReset src req s
  | .quietEnter src req => Sys2Proof.Machine.execQuietEnter src req s
  | .quietExit src req => Sys2Proof.Machine.execQuietExit src req s
  | .eventMask src req => Sys2Proof.Machine.execEventMask src req s
  | .journalStatus src req => Sys2Proof.Machine.execJournalStatus src req s
  | .journalRead src req => Sys2Proof.Machine.execJournalRead src req s
  | .journalCompact src req => Sys2Proof.Machine.execJournalCompact src req s
  | .journalDefaults src req => Sys2Proof.Machine.execJournalDefaults src req s
  | .journalDefaultsDone => Sys2Proof.Machine.execJournalDefaultsDone s
  | .fwuBegin src req => Sys2Proof.Machine.execFwuBegin src req s
  | .fwuEraseDone => Sys2Proof.Machine.execFwuEraseDone s
  | .fwuWrite src req => Sys2Proof.Machine.execFwuWrite src req s
  | .fwuFinish src req => Sys2Proof.Machine.execFwuFinish src req s
  | .fwuConfirm src req => Sys2Proof.Machine.execFwuConfirm src req s
  | .fwuAbort src req => Sys2Proof.Machine.execFwuAbort src req s
  | .ksTick input => Sys2Proof.Machine.execKsTick input s
  | .refQualified entry => Sys2Proof.Machine.execRefQualified entry s
  | .refLoss entry => Sys2Proof.Machine.execRefLoss entry s
  | .bwNarrowStep => Sys2Proof.Machine.execBwNarrowStep s
  | .trackEntry => Sys2Proof.Machine.execTrackEntry s
  | .reacquire offset => Sys2Proof.Machine.execReacquire offset s
  | .holdoverExpired => Sys2Proof.Machine.execHoldoverExpired s
  | .timeValidLapse => Sys2Proof.Machine.execTimeValidLapse s
  | .moveDone => Sys2Proof.Machine.execMoveDone s
  | .clkPhaseStepWrite value => Sys2Proof.Machine.execClkPhaseStepWrite value s
  | .dcoSeedWrite high value => Sys2Proof.Machine.execDcoSeedWrite high value s
  | .clkRefCommitWrite value => Sys2Proof.Machine.execClkRefCommitWrite value s
  | .ksStatus src req => Sys2Proof.Machine.execKsStatus src req s
  | .ksSetRate src req => Sys2Proof.Machine.execKsSetRate src req s
  | .ksSetTable src req => Sys2Proof.Machine.execKsSetTable src req s
  | .ksSetLoop src req => Sys2Proof.Machine.execKsSetLoop src req s
  | .ksPhaseStep src req => Sys2Proof.Machine.execKsPhaseStep src req s
  | .ksSteer src req => Sys2Proof.Machine.execKsSteer src req s
  | .captureLock port phase => Sys2Proof.Machine.execCaptureLock port phase s
  | .captureUnlock port frameInProgress => Sys2Proof.Machine.execCaptureUnlock port frameInProgress s
  | .captureUnlockTimeout port => Sys2Proof.Machine.execCaptureUnlockTimeout port s
  | .ethFrameReceive port frame => Sys2Proof.Machine.execEthFrameReceive port frame s
  | .rxDescriptorRelease port => Sys2Proof.Machine.execRxDescriptorRelease port s
  | .txSubmit port frame => Sys2Proof.Machine.execTxSubmit port frame s
  | .txFrameStart port => Sys2Proof.Machine.execTxFrameStart port s
  | .txFrameDone port => Sys2Proof.Machine.execTxFrameDone port s
  | .pauseFrame port quanta => Sys2Proof.Machine.execPauseFrame port quanta s
  | .pauseExpiry port => Sys2Proof.Machine.execPauseExpiry port s
  | .phyPoll port reading => Sys2Proof.Machine.execPhyPoll port reading s
  | .phyInterrupt reading0 reading1 reading2 => Sys2Proof.Machine.execPhyInterrupt reading0 reading1 reading2 s
  | .phyScriptRun port script => Sys2Proof.Machine.execPhyScriptRun port script s
  | .utilWindowEnd => Sys2Proof.Machine.execUtilWindowEnd s
  | .easeFail port => Sys2Proof.Machine.execEaseFail port s
  | .linkHoldExpiry port => Sys2Proof.Machine.execLinkHoldExpiry port s
  | .portDisable port => Sys2Proof.Machine.execPortDisable port s
  | .portIdle port => Sys2Proof.Machine.execPortIdle port s
  | .ethMacHiWrite port value => Sys2Proof.Machine.execEthMacHiWrite port value s
  | .ethFiltWrite port high value => Sys2Proof.Machine.execEthFiltWrite port high value s
  | .remoteRequest port frame => Sys2Proof.Machine.execRemoteRequest port frame s
  | .ethPortStatus src req => Sys2Proof.Machine.execEthPortStatus src req s
  | .ethPortSetup src req => Sys2Proof.Machine.execEthPortSetup src req s
  | .ethPortDisable src req => Sys2Proof.Machine.execEthPortDisable src req s
  | .ethEaseSet src req => Sys2Proof.Machine.execEthEaseSet src req s
  | .ethMdio src req readBack => Sys2Proof.Machine.execEthMdio src req readBack s
  | .ethPhyScript src req => Sys2Proof.Machine.execEthPhyScript src req s
  | .ethRemoteSet src req => Sys2Proof.Machine.execEthRemoteSet src req s
  | .ethBadFrames src req => Sys2Proof.Machine.execEthBadFrames src req s
  | .gptpMessage port domain ago message => Sys2Proof.Machine.execGptpMessage port domain ago message s
  | .syncReceiptTimeout port => Sys2Proof.Machine.execSyncReceiptTimeout port s
  | .announceReceiptTimeout port => Sys2Proof.Machine.execAnnounceReceiptTimeout port s
  | .pdelayReqSend port => Sys2Proof.Machine.execPdelayReqSend port s
  | .aafFrame frame => Sys2Proof.Machine.execAafFrame frame s
  | .crfFrame frame => Sys2Proof.Machine.execCrfFrame frame s
  | .listenerStartPlay listener => Sys2Proof.Machine.execListenerStartPlay listener s
  | .listenerStarved listener => Sys2Proof.Machine.execListenerStarved listener s
  | .listenerResume listener => Sys2Proof.Machine.execListenerResume listener s
  | .talkerStartSend talker => Sys2Proof.Machine.execTalkerStartSend talker s
  | .stopTimeReached talker index => Sys2Proof.Machine.execStopTimeReached talker index s
  | .stopRampEnd talker index => Sys2Proof.Machine.execStopRampEnd talker index s
  | .talkerFrameSend talker => Sys2Proof.Machine.execTalkerFrameSend talker s
  | .streamFault listener kind => Sys2Proof.Machine.execStreamFault listener kind s
  | .rateRecovered listener => Sys2Proof.Machine.execRateRecovered listener s
  | .streamAutostart => Sys2Proof.Machine.execStreamAutostart s
  | .listenerSetup src req => Sys2Proof.Machine.execListenerSetup src req s
  | .talkerSetup src req => Sys2Proof.Machine.execTalkerSetup src req s
  | .streamStart src req => Sys2Proof.Machine.execStreamStart src req s
  | .streamStop src req => Sys2Proof.Machine.execStreamStop src req s
  | .streamDelete src req => Sys2Proof.Machine.execStreamDelete src req s
  | .streamStatus src req => Sys2Proof.Machine.execStreamStatus src req s
  | .portStreamStatus src req => Sys2Proof.Machine.execPortStreamStatus src req s
  | .gptpSet src req => Sys2Proof.Machine.execGptpSet src req s
  | .gptpStatus src req => Sys2Proof.Machine.execGptpStatus src req s
  | .lintelBeacon group port payload => Sys2Proof.Machine.execLintelBeacon group port payload s
  | .lintelTick offsets => Sys2Proof.Machine.execLintelTick offsets s
  | .fadeEnd group => Sys2Proof.Machine.execFadeEnd group s
  | .revertHoldExpiry group => Sys2Proof.Machine.execRevertHoldExpiry group s
  | .healthBlockEnd group concealed energies => Sys2Proof.Machine.execHealthBlockEnd group concealed energies s
  | .lintelGroupSetup src req => Sys2Proof.Machine.execLintelGroupSetup src req s
  | .lintelGroupStart src req => Sys2Proof.Machine.execLintelGroupStart src req s
  | .lintelGroupStop src req => Sys2Proof.Machine.execLintelGroupStop src req s
  | .lintelGroupDelete src req => Sys2Proof.Machine.execLintelGroupDelete src req s
  | .lintelSwitch src req => Sys2Proof.Machine.execLintelSwitch src req s
  | .lintelGroupStatus src req => Sys2Proof.Machine.execLintelGroupStatus src req s
  | .lintelHealth src req => Sys2Proof.Machine.execLintelHealth src req s
  | .lintelTalkerSet src req => Sys2Proof.Machine.execLintelTalkerSet src req s
  | .tdmCommitApply port => Sys2Proof.Machine.execTdmCommitApply port s
  | .tdmPortStopped port => Sys2Proof.Machine.execTdmPortStopped port s
  | .outUnderrun port => Sys2Proof.Machine.execOutUnderrun port s
  | .inOverrun port => Sys2Proof.Machine.execInOverrun port s
  | .senseStale speaker => Sys2Proof.Machine.execSenseStale speaker s
  | .senseRecovered speaker => Sys2Proof.Machine.execSenseRecovered speaker s
  | .delayChangeRampEnd destination => Sys2Proof.Machine.execDelayChangeRampEnd destination s
  | .tdmPortSet src req => Sys2Proof.Machine.execTdmPortSet src req s
  | .tdmPortDisable src req => Sys2Proof.Machine.execTdmPortDisable src req s
  | .tdmPortStatus src req => Sys2Proof.Machine.execTdmPortStatus src req s
  | .routeSourceBind src req => Sys2Proof.Machine.execRouteSourceBind src req s
  | .routeDestBind src req => Sys2Proof.Machine.execRouteDestBind src req s
  | .routeXpSet src req => Sys2Proof.Machine.execRouteXpSet src req s
  | .routeCommit src req => Sys2Proof.Machine.execRouteCommit src req s
  | .routeDestGain src req => Sys2Proof.Machine.execRouteDestGain src req s
  | .routeMute src req => Sys2Proof.Machine.execRouteMute src req s
  | .routeToneSet src req => Sys2Proof.Machine.execRouteToneSet src req s
  | .routePartition src req => Sys2Proof.Machine.execRoutePartition src req s
  | .routeSenseBind src req => Sys2Proof.Machine.execRouteSenseBind src req s
  | .routeStatus src req => Sys2Proof.Machine.execRouteStatus src req s
  | .measSlotEnd speaker => Sys2Proof.Machine.execMeasSlotEnd speaker s
  | .foldbackEval => Sys2Proof.Machine.execFoldbackEval s
  | .foldbackLimit owner => Sys2Proof.Machine.execFoldbackLimit owner s
  | .dcTestSpeakerStart speaker => Sys2Proof.Machine.execDcTestSpeakerStart speaker s
  | .dcTestNotQuiet speaker => Sys2Proof.Machine.execDcTestNotQuiet speaker s
  | .dcTestSpeakerDone speaker => Sys2Proof.Machine.execDcTestSpeakerDone speaker s
  | .dcTestAbort speaker cause => Sys2Proof.Machine.execDcTestAbort speaker cause s
  | .baselineLearnDone speaker => Sys2Proof.Machine.execBaselineLearnDone speaker s
  | .baselineLearnTimeout speaker => Sys2Proof.Machine.execBaselineLearnTimeout speaker s
  | .ampFaultAssert amp => Sys2Proof.Machine.execAmpFaultAssert amp s
  | .faultHoldExpiry amp => Sys2Proof.Machine.execFaultHoldExpiry amp s
  | .ampScriptDone amp => Sys2Proof.Machine.execAmpScriptDone amp s
  | .i2cRetry bus => Sys2Proof.Machine.execI2cRetry bus s
  | .i2cStretchTimeout bus => Sys2Proof.Machine.execI2cStretchTimeout bus s
  | .muteLineCheck => Sys2Proof.Machine.execMuteLineCheck s
  | .dieSensorDisagree => Sys2Proof.Machine.execDieSensorDisagree s
  | .amonOutOfRange => Sys2Proof.Machine.execAmonOutOfRange s
  | .amonBackInRange => Sys2Proof.Machine.execAmonBackInRange s
  | .dtcStoreWrite => Sys2Proof.Machine.execDtcStoreWrite s
  | .measSpeakerSet src req => Sys2Proof.Machine.execMeasSpeakerSet src req s
  | .measConfig src req => Sys2Proof.Machine.execMeasConfig src req s
  | .measResult src req => Sys2Proof.Machine.execMeasResult src req s
  | .measBaseline src req => Sys2Proof.Machine.execMeasBaseline src req s
  | .measDcTest src req => Sys2Proof.Machine.execMeasDcTest src req s
  | .measMonitors src req => Sys2Proof.Machine.execMeasMonitors src req s
  | .measDtcRead src req => Sys2Proof.Machine.execMeasDtcRead src req s
  | .measDtcClear src req => Sys2Proof.Machine.execMeasDtcClear src req s
  | .ampScriptSet src req => Sys2Proof.Machine.execAmpScriptSet src req s
  | .ampScriptRun src req => Sys2Proof.Machine.execAmpScriptRun src req s
  | .ampLine src req => Sys2Proof.Machine.execAmpLine src req s
  | .ampI2c src req => Sys2Proof.Machine.execAmpI2c src req s
  | .canFrameReceive frame => Sys2Proof.Machine.execCanFrameReceive frame s
  | .canTxStart => Sys2Proof.Machine.execCanTxStart s
  | .canTxComplete outcome => Sys2Proof.Machine.execCanTxComplete outcome s
  | .canAloneDetect => Sys2Proof.Machine.execCanAloneDetect s
  | .canRecoveryComplete => Sys2Proof.Machine.execCanRecoveryComplete s
  | .canInitEnter => Sys2Proof.Machine.execCanInitEnter s
  | .canInitExit => Sys2Proof.Machine.execCanInitExit s
  | .canRecover => Sys2Proof.Machine.execCanRecover s
  | .canTxReq value => Sys2Proof.Machine.execCanTxReq value s
  | .canTxAbort value => Sys2Proof.Machine.execCanTxAbort value s
  | .crxWake => Sys2Proof.Machine.execCrxWake s
  | .isotpMessageComplete => Sys2Proof.Machine.execIsotpMessageComplete s
  | .isotpTimeout => Sys2Proof.Machine.execIsotpTimeout s
  | .responsePending => Sys2Proof.Machine.execResponsePending s
  | .s3Timeout => Sys2Proof.Machine.execS3Timeout s
  | .securityDelayEnd => Sys2Proof.Machine.execSecurityDelayEnd s
  | .diagnosticSessionControl sub => Sys2Proof.Machine.execDiagnosticSessionControl sub s
  | .ecuReset sub => Sys2Proof.Machine.execEcuReset sub s
  | .clearDiagnosticInformation group => Sys2Proof.Machine.execClearDiagnosticInformation group s
  | .reportNumberOfDtcByStatusMask mask => Sys2Proof.Machine.execReportNumberOfDtcByStatusMask mask s
  | .reportDtcByStatusMask mask => Sys2Proof.Machine.execReportDtcByStatusMask mask s
  | .reportDtcExtDataRecord dtc record => Sys2Proof.Machine.execReportDtcExtDataRecord dtc record s
  | .reportSupportedDtc => Sys2Proof.Machine.execReportSupportedDtc s
  | .readDataByIdentifier ids => Sys2Proof.Machine.execReadDataByIdentifier ids s
  | .requestSeed => Sys2Proof.Machine.execRequestSeed s
  | .sendKey key => Sys2Proof.Machine.execSendKey key s
  | .startRoutine rid record => Sys2Proof.Machine.execStartRoutine rid record s
  | .stopRoutine rid => Sys2Proof.Machine.execStopRoutine rid s
  | .requestRoutineResults rid record => Sys2Proof.Machine.execRequestRoutineResults rid record s
  | .requestDownload format alfid address size => Sys2Proof.Machine.execRequestDownload format alfid address size s
  | .transferData counter data => Sys2Proof.Machine.execTransferData counter data s
  | .requestTransferExit => Sys2Proof.Machine.execRequestTransferExit s
  | .testerPresent sub => Sys2Proof.Machine.execTesterPresent sub s
  | .canSetup src req => Sys2Proof.Machine.execCanSetup src req s
  | .canTesterSet src req => Sys2Proof.Machine.execCanTesterSet src req s
  | .canMoSet src req => Sys2Proof.Machine.execCanMoSet src req s
  | .canMoSend src req => Sys2Proof.Machine.execCanMoSend src req s
  | .canMoRead src req => Sys2Proof.Machine.execCanMoRead src req s
  | .canState src req => Sys2Proof.Machine.execCanState src req s
  | .debounceChange pin => Sys2Proof.Machine.execDebounceChange pin s
  | .pinHoldEnd pin => Sys2Proof.Machine.execPinHoldEnd pin s
  | .gpioLockWrite hearth value => Sys2Proof.Machine.execGpioLockWrite hearth value s
  | .gpioOutMwWrite lanes value => Sys2Proof.Machine.execGpioOutMwWrite lanes value s
  | .gpioPinConfig src req => Sys2Proof.Machine.execGpioPinConfig src req s
  | .gpioXbarSet src req => Sys2Proof.Machine.execGpioXbarSet src req s
  | .gpioOutput src req => Sys2Proof.Machine.execGpioOutput src req s
  | .gpioRead src req => Sys2Proof.Machine.execGpioRead src req s
  | .gpioLockPin src req => Sys2Proof.Machine.execGpioLockPin src req s
  | .timerMatch channel => Sys2Proof.Machine.execTimerMatch channel s
  | .timerWrap channel => Sys2Proof.Machine.execTimerWrap channel s
  | .timerCapture channel falling => Sys2Proof.Machine.execTimerCapture channel falling s
  | .timerGateEvent channel start stop => Sys2Proof.Machine.execTimerGateEvent channel start stop s
  | .tmrClear hearth => Sys2Proof.Machine.execTmrClear hearth s
  | .tmrCmpWrite hearth high value => Sys2Proof.Machine.execTmrCmpWrite hearth high value s
  | .tmrCountLoRead hearth => Sys2Proof.Machine.execTmrCountLoRead hearth s
  | .tmrCapLoRead hearth full => Sys2Proof.Machine.execTmrCapLoRead hearth full s
  | .clkTimeNsRead full => Sys2Proof.Machine.execClkTimeNsRead full s
  | .clkWordLoRead offset full => Sys2Proof.Machine.execClkWordLoRead offset full s
  | .schedEntryReady entry => Sys2Proof.Machine.execSchedEntryReady entry s
  | .schedHeldRelease => Sys2Proof.Machine.execSchedHeldRelease s
  | .schedCancelWrite value => Sys2Proof.Machine.execSchedCancelWrite value s
  | .schedSet src req => Sys2Proof.Machine.execSchedSet src req s
  | .schedCancel src req => Sys2Proof.Machine.execSchedCancel src req s
  | .schedStatus src req => Sys2Proof.Machine.execSchedStatus src req s
  | .testLogicReset => Sys2Proof.Machine.execTestLogicReset s
  | .extest => Sys2Proof.Machine.execExtest s
  | .idcode => Sys2Proof.Machine.execIdcode s
  | .samplePreload => Sys2Proof.Machine.execSamplePreload s
  | .clamp => Sys2Proof.Machine.execClamp s
  | .highz => Sys2Proof.Machine.execHighz s
  | .bypass => Sys2Proof.Machine.execBypass s
  | .selftestRun src req => Sys2Proof.Machine.execSelftestRun src req s
  | .selftestDone readings => Sys2Proof.Machine.execSelftestDone readings s
  | .selftestResult src req => Sys2Proof.Machine.execSelftestResult src req s
  | .frameBoundary sdi => Sys2Proof.Machine.execFrameBoundary sdi s
  | .phaseDetectorCompare lmtMinusRef => Sys2Proof.Machine.execPhaseDetectorCompare lmtMinusRef s
  | .canReceiveError error dominantAfter => Sys2Proof.Machine.execCanReceiveError error dominantAfter s
  | .tckEdge rising tms tdi levels => Sys2Proof.Machine.execTckEdge rising tms tdi levels s
  | .secondBoundary => Sys2Proof.Machine.execSecondBoundary s
  | .padLevelChange pin level => Sys2Proof.Machine.execPadLevelChange pin level s
  | .i2cTransferDone bus result => Sys2Proof.Machine.execI2cTransferDone bus result s

end Sys2Proof.Machine
end

