-- ==== Sys2Proof/Machine/Tick.lean ====
section
/-! DEFINITION.
One cycle of CLK_CORE with no command waiting: what the endpoint does of itself (R14). -/

namespace Sys2Proof.Machine
namespace Dev

/-- A maximum frame of 1522 bytes at a slope on a port of `rate` kbit/s, in 10^-9 bit: hiCredit from idleSlope and
loCredit from sendSlope (R221, IEEE 802.1Q). (PRESUMED, log 79) -/
def creditBound (slope : Int) (rate : Nat) : Int := narrow (1522 * 8 * 10 ^ 9 * slope) (max 1 rate)

/-- One cycle of a credit-based shaper (R221, IEEE 802.1Q), in 10^-9 bit: the credit falls at
sendSlope while a frame of the class is on the wire, to loCredit at the least, rises at idleSlope while one waits, to
hiCredit at the most, or, while it is negative, to 0, and a credit left over with nothing to send is given up.
(PRESUMED, log 79) -/
def shapeCredit (d : Dev) (p : Fin 3) (b : Fin 2) : Int :=
  let t := d.eth[p].traffic
  let q : TxQueue := if b = 0 then .classA else .classB
  let rate : Nat := d.portKbps p
  let idle : Int := d.idleSlope p (b == 1)
  let c := t.credit[b]
  if t.onWire.any (·.queue == q) then max (creditBound (idle - rate) rate) (c + 2000 * (idle - rate))
  else if !(t.queues[queueNo q]).isEmpty then min (creditBound idle rate) (c + 2000 * idle)
  else if c < 0 then min 0 (c + 2000 * idle) else 0

/-- One cycle of the shapers of a port that is UP. (PRESUMED, log 79) -/
def shapeTick (d : Dev) (p : Fin 3) : Dev :=
  if d.eth[p].link.state = .up then
    d.modTraffic p fun t => { t with credit := Vector.ofFn fun b => d.shapeCredit p b }
  else d

/-- One cycle of Keystone: local media time and the DCO (R155, R158). -/
def mediaCycle (d : Dev) : Dev := (d.modKs Keystone.advance).dcoCycle

/-- One cycle: the scheduler compares, then local media time, the timers, the arbiter and the shapers
advance; in QUIET only the count of cycles does, and nothing in OFF. (DESIGN CHOICE, log 1) -/
def tick (d : Dev) : Dev :=
  let d := d.powered fun d => { d with cc := d.cc + 1 }
  d.awake fun d =>
    let d := ((d.schedAll.runs mediaCycle).tmrTicks).arbTick
    (allFin 3).foldl shapeTick d

end Dev
end Sys2Proof.Machine
end

