-- ==== Sys2Proof/Machine/Step.lean ====
section
/-! DEFINITION.
The step: the command at the front of the queue is taken, and on an empty queue one cycle of CLK_CORE
passes. -/

namespace Sys2Proof.Machine

/-- One step. (DESIGN CHOICE, log 1) -/
def step (s : State) : Host.Outcome State Fault Refusal :=
  match s.pending with
  | [] => .next { s with dev := s.dev.tick }
  | c :: rest => exec c { s with pending := rest }

/-- The command that a word spells, put at the front of the queue; the opcode table gives its rows
no bits, so that no word spells one. (DESIGN CHOICE, log 2) -/
def State.withFetchWord (s : State) (nbits w : Nat) : State :=
  match decodeTableWord nbits w with
  | some c => { s with pending := c :: s.pending }
  | none => s

end Sys2Proof.Machine
end

