-- ==== Sys2Proof/Safety.lean ====
section
/-! DEFINITION.
What claims are stated with: the invariant of a state, a safe step, the awake device, and a request
that passes the checks every command shares, with the answer it then gets. -/

namespace Sys2Proof.Machine

/-- The invariant every step keeps: the audio RAM is in canonical form, its addresses inside the
512 KB of R18 and strictly rising, with no entry at the value an unwritten byte reads as. -/
def State.Inv (s : State) : Prop := Memory.wf s.ram = true

/-- A step that neither faults nor is refused. -/
def State.Steps (s : State) : Prop := ∃ t, step s = .next t

/-- A command answers a next state in which the audio RAM and the waiting commands are as they were, and the
device has a property. -/
def State.Does (s : State) (i : Instr) (P : Dev → Prop) : Prop := ∃ d, exec i s = .next { s with dev := d } ∧ P d

/-- The byte of the audio RAM at an address (R18). -/
def State.byteAt (s : State) (a : Nat) : Byte := readCell s.ram a

/-- Registers whose writes have no effect but on their own bits by the access codes, and no ranged field. -/
def plainRegs : List Nat :=
  [Reg.CHIP_ID, Reg.SYS_SCRATCH, Reg.SYS_IRQ_STATUS, Reg.SYS_IRQ_ENABLE, Reg.SYS_SPI_ERR, Reg.SYS_AUTH, Reg.SYS_FAULT,
    Reg.PWR_IRQ_STATUS, Reg.PWR_IRQ_ENABLE, Reg.PWR_STICKY, Reg.ETH0_IRQ_STATUS, Reg.ETH1_IRQ_ENABLE, Reg.ARB_PRIO,
    Reg.TDM0_IRQ_STATUS, Reg.TDM3_IRQ_ENABLE, Reg.CAN_IRQ_STATUS, Reg.CAN_IRQ_ENABLE, Reg.TMR_IRQ_STATUS,
    Reg.TMR_IRQ_ENABLE, Reg.GPIO_IRQ_STATUS_LO, Reg.GPIO_IRQ_EN_HI, Reg.GPIO_MISC_STATUS, Reg.SCHED_IRQ_STATUS,
    Reg.SCHED_IRQ_ENABLE, Reg.LINTEL_IRQ_STATUS, Reg.LINTEL_IRQ_MISC_EN]

/-- Bit `i` of a register after a word is written to it, by its access code (Table 0.4): an RW bit takes the
word's, a W1C flag is cleared by a 1 and an RWS flag by a 0, and every other bit stays. -/
def byCode (r : RegInfo) (old w : Word) (i : Nat) : Bool :=
  if r.rw.getLsbD i then w.getLsbD i
  else if r.w1c.getLsbD i then old.getLsbD i && !w.getLsbD i
  else if r.rws.getLsbD i then old.getLsbD i && w.getLsbD i
  else old.getLsbD i

namespace Dev

/-- The blocks have their clock: neither in reset nor in QUIET (R68, R77). -/
def Awake (d : Dev) : Prop := d.power.state ≠ .off ∧ d.power.state ≠ .quiet

/-- Keystone and the grid run: in BOOT and in ACTIVE (R76, R167). -/
def Runs (d : Dev) : Prop := d.power.state = .boot ∨ d.power.state = .active

/-- Out of reset (R68). -/
def Powered (d : Dev) : Prop := d.power.state ≠ .off

/-- The host slave takes writes to every register: neither in reset (R41) nor in PROOF_HOLD (R118). -/
def Writable (d : Dev) : Prop := d.power.state ≠ .off ∧ d.power.state ≠ .proofHold

/-- Ouvoso takes up a request of this opcode in ACTIVE (Tables 5.3 and 5.5): the opcode is in the
command set with the source in its Sources column, on MB1 it is one of the urgent commands, LENGTH is
the opcode's, and the tester holds no control lock. -/
def TakesUp (d : Dev) (src : Source) (opcode : Nat) (req : Request) : Prop :=
  d.power.state = .active ∧ d.mail.lockHeld = false ∧
  ∃ c, cmdSpec opcode = some c ∧ c.takes src = true ∧ (src = .mb1 → c.urgent = true) ∧ c.length.fits req = true

/-- The device after a command that changed it to `d`: the records of the change are added to those
waiting, and the response, OK or ACCEPTED, goes to its source (R129, R138, R139). -/
def answered (d : Dev) (src : Source) (opcode : Nat) (req : Request) (accepted : Bool) (detail : Nat)
    (payload : List Word) (items : List JItem) : Dev :=
  ((d.journalAdd items).noteAccepted src accepted opcode req.tag).respond src
    ⟨opcode, req.tag, if accepted then 1 else 0, detail, false, payload⟩

/-- The device `r` that a reset source leaves of `d` (R68, Tables 3.2 and 0.4): in OFF, every register and
block at its reset value, but for the flash, the DTC store, the operation cycle, the test access port, the
levels that hold the reset, and the RWS flags where the source does not clear them; PWR_RESET_CAUSE records
the source, beside the others that hold the same reset. -/
def ResetTo (d r : Dev) (c : Cause) : Prop :=
  r.power.state = .off ∧ r.host = resetHost ∧ r.arb = resetArb ∧ r.mail = resetMail ∧ r.sup = resetSup ∧
  r.ks = resetKs ∧ r.eth = Vector.replicate 3 resetEth ∧ r.remote = resetRemote ∧
  r.gptp = Vector.replicate 3 resetGptp ∧ r.streams = resetStreams ∧ r.lintel = resetLintel ∧
  r.tdm = Vector.replicate 4 resetTdm ∧ r.route = resetRoute ∧
  r.meas = { resetMeas with store := d.meas.store, cycle := d.meas.cycle } ∧ r.can = resetCan ∧
  r.gpio = resetGpio ∧ r.timers = ⟨Vector.replicate 4 .reset, false, 0, []⟩ ∧ r.sched = Vector.replicate 32 .reset ∧
  r.selfTest = ⟨none, 0, 0, 0, 0⟩ ∧ r.cc = 0 ∧ r.clk = Dev.initial.clk ∧
  r.flash = d.flash.afterReset d.journal ∧ r.journal = d.journal.afterReset ∧
  r.flash.session = none ∧ r.journal.pending = [] ∧ r.journal.programming = none ∧
  r.reg Reg.PWR_RESET_CAUSE =
    (if d.power.state = .off then d.reg Reg.PWR_RESET_CAUSE else 0) ||| bitW c.bit true ∧
  (∀ a, a = Reg.SYS_FAULT ∨ a = Reg.PWR_STICKY → r.reg a = if c.clearsRws then Dev.initial.reg a else d.reg a) ∧
  (∀ n < 256, 4 * n ≠ Reg.PWR_RESET_CAUSE → 4 * n ≠ Reg.SYS_FAULT → 4 * n ≠ Reg.PWR_STICKY →
    r.reg (4 * n) = Dev.initial.reg (4 * n))

/-- The record a persistent change is journaled as: its key with the request payload (R139). -/
def keptAs (req : Request) (key : Nat) : List JItem := if req.persist then [⟨key, some req.payload⟩] else []

/-- The record that removes a persisted item. -/
def removedAs (req : Request) (key : Nat) : List JItem := if req.persist then [⟨key, none⟩] else []

end Dev

/-- The state after a command that is answered OK with a payload and journals `items`. -/
def State.okay (s : State) (src : Source) (opcode : Nat) (req : Request) (d : Dev) (payload : List Word := [])
    (items : List JItem := []) (detail : Nat := 0) : State :=
  { s with dev := d.answered src opcode req false detail payload items }

/-- The state after a command that is answered ACCEPTED. -/
def State.accepted (s : State) (src : Source) (opcode : Nat) (req : Request) (d : Dev) (payload : List Word := []) : State :=
  { s with dev := d.answered src opcode req true 0 payload [] }

/-- The commands that act in OFF: the reset sources and their release, the start of Proof, and the test
access port, which no reset but the power-on reset touches (R67–R71, R392, R398). -/
def actsInOff : Instr → Bool
  | .powerOnReset .. | .powerOnResetRelease .. | .rstNAssert .. | .rstNRelease .. | .corePllLockLoss ..
    | .proofStart .. | .testLogicReset .. | .extest .. | .idcode .. | .samplePreload .. | .clamp ..
    | .highz .. | .bypass .. | .tckEdge .. => true
  | _ => false

/-- The commands of the blocks whose clock stands in QUIET (R77). -/
def clocked : Instr → Bool
  | .arbGrant .. | .requestAged .. | .ksTick .. | .refQualified .. | .refLoss .. | .bwNarrowStep ..
    | .trackEntry .. | .reacquire .. | .holdoverExpired .. | .timeValidLapse .. | .moveDone ..
    | .captureLock .. | .captureUnlock .. | .captureUnlockTimeout .. | .ethFrameReceive ..
    | .rxDescriptorRelease .. | .txSubmit .. | .txFrameStart .. | .txFrameDone .. | .pauseFrame ..
    | .pauseExpiry .. | .phyPoll .. | .phyInterrupt .. | .phyScriptRun .. | .utilWindowEnd .. | .easeFail ..
    | .linkHoldExpiry .. | .portIdle .. | .remoteRequest .. | .gptpMessage .. | .syncReceiptTimeout ..
    | .announceReceiptTimeout .. | .pdelayReqSend .. | .aafFrame .. | .crfFrame .. | .listenerStartPlay ..
    | .listenerStarved .. | .listenerResume .. | .talkerStartSend .. | .stopTimeReached .. | .stopRampEnd ..
    | .talkerFrameSend .. | .streamFault .. | .rateRecovered .. | .streamAutostart .. | .lintelBeacon ..
    | .lintelTick .. | .fadeEnd .. | .revertHoldExpiry .. | .healthBlockEnd .. | .tdmCommitApply ..
    | .tdmPortStopped .. | .outUnderrun .. | .inOverrun .. | .senseStale .. | .senseRecovered ..
    | .delayChangeRampEnd .. | .measSlotEnd .. | .foldbackEval .. | .foldbackLimit ..
    | .dcTestSpeakerStart .. | .dcTestNotQuiet .. | .dcTestSpeakerDone .. | .dcTestAbort ..
    | .baselineLearnDone .. | .baselineLearnTimeout .. | .ampFaultAssert .. | .faultHoldExpiry ..
    | .ampScriptDone .. | .i2cRetry .. | .i2cStretchTimeout .. | .muteLineCheck .. | .dieSensorDisagree ..
    | .amonOutOfRange .. | .amonBackInRange .. | .canFrameReceive .. | .canTxStart .. | .canTxComplete ..
    | .canAloneDetect .. | .canRecoveryComplete .. | .canInitEnter .. | .canInitExit ..
    | .isotpMessageComplete .. | .isotpTimeout .. | .responsePending .. | .s3Timeout ..
    | .securityDelayEnd .. | .timerMatch .. | .timerWrap .. | .timerCapture .. | .timerGateEvent ..
    | .schedEntryReady .. | .schedHeldRelease .. | .selftestDone .. | .frameBoundary ..
    | .phaseDetectorCompare .. | .canReceiveError .. | .secondBoundary .. | .i2cTransferDone .. => true
  | _ => false

/-- A list of commands run one after the other, up to the first that stops. -/
def runAll : List Instr → State → Host.Outcome State Fault Refusal
  | [], s => .next s
  | c :: t, s =>
    match exec c s with
    | .next s' => runAll t s'
    | .fault r => .fault r
    | .refused r => .refused r

end Sys2Proof.Machine
end

