-- ==== Sys2Proof/Certificates/Slice0/Obligations.lean ====
section
/-! DEFINITION.
What the model claims, one statement per definition: each says in its docstring what it states, and the
rules of the manual it rests on. -/

open Sys2Proof Sys2Proof.Machine

/-- O1, tier 1. A step runs the command at the front of the queue. For every command c and state s, a step
of s with c in front of its waiting commands is exec of c on s with the rest of them waiting. (the row
of the opcode table each command is) -/
def Obligations.StepTakesFront : Prop :=
  ∀ (c : Instr) (rest : List Instr) (s : State), s.pending = c :: rest → step s = exec c { s with pending := rest }


/-- O2, tier 1. A step on an empty queue is one cycle of CLK_CORE. With no command waiting a step answers a
next state with the audio RAM as it was and no command waiting; nothing changes in OFF, in QUIET nothing
but the count of cycles, and in every other state the scheduler compares, then, in BOOT and in ACTIVE,
local media time and the DCO advance, then the timers, the arbiter and the shapers. The model's choice (log entry 1): the table has no row for
a cycle. (R14, R68, R77) -/
def Obligations.IdleStep : Prop :=
  ∀ s : State, s.pending = [] →
    step s = .next { s with dev := s.dev.tick } ∧
    (s.dev.power.state = .off → s.dev.tick = s.dev) ∧
    (s.dev.power.state = .quiet → s.dev.tick = { s.dev with cc := s.dev.cc + 1 }) ∧
    (s.dev.Awake → s.dev.tick =
      (allFin 3).foldl Dev.shapeTick
        ((({ s.dev with cc := s.dev.cc + 1 } : Dev).schedAll.runs fun d => (d.modKs Keystone.advance).dcoCycle).tmrTicks).arbTick)


/-- O3, tier 2. Only an RST_N pulse of undefined length stops. Every command answers a next state in every
state, but for RST_N_ASSERT with RST_N low from 200 ns to below 1 µs, where the manual calls the
behaviour undefined and the model stops with a fault of that name. (Table 3.2, R68) -/
def Obligations.EveryCommandCompletes : Prop :=
  (∀ (i : Instr) (s : State), (∀ n, i = .rstNAssert n → n < 200 ∨ 1000 ≤ n) → ∃ t, exec i s = .next t) ∧
  (∀ (n : Nat) (s : State), 200 ≤ n → n < 1000 → exec (.rstNAssert n) s = .fault .rstPulseUndefined)


/-- O4, tier 3. Waiting commands run first in, first out, and see nothing of the queue. For every list of
commands and state, as many steps as the list is long, from the state with the list in front of its
queue, give what the commands give one after the other, up to the first that stops where one does; and
no command reads or changes the queue: its outcome with any queue waiting is its outcome with another,
the queue put in its place. (the queue of commands, first in, first out) -/
def Obligations.QueueRunsInOrder : Prop :=
  (∀ (cs rest : List Instr) (s : State),
    Host.Core.run core cs.length { s with pending := cs ++ rest } = runAll cs { s with pending := rest }) ∧
  (∀ (i : Instr) (s t : State) (q : List Instr),
    exec i s = .next t → exec i { s with pending := q } = .next { t with pending := q })


/-- O5, tier 3. Every step keeps the audio RAM in canonical form. From every state whose audio RAM is in
canonical form (addresses below 512 KB, strictly rising, no entry at what an unwritten byte reads as) a
step that answers a next state leads to such a state again. (R18, R19) -/
def Obligations.MemoryKeepsItsForm : Prop :=
  ∀ s t : State, s.Inv → step s = .next t → t.Inv


/-- O6, tier 1. The state after reset. State.reset has the invariant that every step keeps, with nothing
listed in the audio RAM and no command waiting; the device is in PROOF at step 1 with the power-on reset
recorded, both mailboxes IDLE and the event queue empty, Keystone free running on entry 7, every port
DOWN, every stream IDLE, every TDM port OFF, CAN in INIT, no scheduler entry armed, and CHIP_ID reads
0x1664_00B0. (R2, R68, R70, Table 3.9, Table 3.10) -/
def Obligations.ResetState : Prop :=
  State.reset.Inv ∧ State.reset.ram = [] ∧ State.reset.pending = [] ∧ State.reset.dev.power.state = .proof ∧
  State.reset.dev.power.proofStep = 1 ∧ State.reset.dev.reg Reg.PWR_RESET_CAUSE = 1 ∧
  (∀ k : Fin 2, State.reset.dev.mail.mb[k].state = .idle) ∧ State.reset.dev.mail.queue = [] ∧
  State.reset.dev.ks.state = .free ∧ State.reset.dev.ks.selected = 7 ∧
  (∀ p : Fin 3, State.reset.dev.eth[p].link.state = .down) ∧
  (∀ i : Fin 16, State.reset.dev.streams.listeners[i].state = .idle) ∧ (∀ i : Fin 8, State.reset.dev.streams.talkers[i].state = .idle) ∧
  (∀ p : Fin 4, State.reset.dev.tdm[p].state = .off) ∧ State.reset.dev.can.initAck = true ∧
  (∀ e : Fin 32, State.reset.dev.sched[e].state = .free) ∧ State.reset.dev.reg Reg.CHIP_ID = 0x166400B0


/-- O7, tier 2. Only a debug beat, a granted burst and the start of Proof write the audio RAM. Every byte of
the audio RAM is unchanged by every command other than DBG_BEAT_DONE, ARB_GRANT and PROOF_START;
DBG_BEAT_DONE changes no byte outside the eight bytes of the word that its pending write names, and none
at all where no write is pending; ARB_GRANT changes no byte outside the words that its operand names as
written by the beats of the granted burst. (R18, R19, R113) -/
def Obligations.MemoryFrame : Prop :=
  (∀ (i : Instr) (s t : State), i ≠ .dbgBeatDone → (∀ input, i ≠ .arbGrant input) → i ≠ .proofStart → exec i s = .next t →
    ∀ a, t.byteAt a = s.byteAt a) ∧
  (∀ s t : State, s.Inv → exec .dbgBeatDone s = .next t →
    (∀ word data, s.dev.host.dbg = some (.write word data) →
      ∀ a, a < 8 * word.toNat ∨ 8 * word.toNat + 8 ≤ a → t.byteAt a = s.byteAt a) ∧
    ((∀ word data, s.dev.host.dbg ≠ some (.write word data)) → ∀ a, t.byteAt a = s.byteAt a)) ∧
  (∀ (input : ArbInput) (s t : State), s.Inv → exec (.arbGrant input) s = .next t →
    ∀ a, (∀ x ∈ input.writes, a < 8 * x.1.toNat ∨ 8 * x.1.toNat + 8 ≤ a) → t.byteAt a = s.byteAt a)


/-- O8, tier 2. A beat reads the word that a beat wrote, and every other word as before. For every memory in
canonical form, a 64-bit write to a word is read back whole from that word, and every other word reads
as it did before. (R19) -/
def Obligations.BeatReadsWhatBeatWrote : Prop :=
  ∀ (m : List Host.Cell) (word other : U16) (w : U64), Memory.wf m = true →
    readWord64 (writeWord64 m word w) word = w ∧
    (other ≠ word → readWord64 (writeWord64 m word w) other = readWord64 m other)


/-- O9, tier 2. In OFF nothing acts but the reset sources, the start of Proof and the test access port. In
OFF every command but POWER_ON_RESET, its release, RST_N_ASSERT, RST_N_RELEASE, CORE_PLL_LOCK_LOSS,
PROOF_START and the rows of the test access port answers a next state that is the state itself. (R41,
R68, R69) -/
def Obligations.OffRests : Prop :=
  ∀ (i : Instr) (s : State), s.dev.power.state = .off → actsInOff i = false → exec i s = .next s


/-- O10, tier 2. In QUIET a block whose clock stands does nothing. In QUIET every event of the arbiter,
Keystone, the ports, the streams, Lintel, the TDM ports and routing, measurement, CAN, the tester's
transport, the timers and the scheduler leaves the state as it is. (R77) -/
def Obligations.QuietStopsTheBlocks : Prop :=
  ∀ (i : Instr) (s : State), s.dev.power.state = .quiet → clocked i = true → exec i s = .next s


/-- O11, tier 2. A reset source leads to OFF with the reset values, and PWR_RESET_CAUSE records it.
POWER_ON_RESET of any rail, RST_N_ASSERT with RST_N low for 1 µs or more, and CORE_PLL_LOCK_LOSS in every
state, HEARTH_WATCHDOG_EXPIRY while the watchdog runs (out of OFF, and in QUIET only in a pass), and
SOFTWARE_RESET out of OFF once one is scheduled or the response of a RESET is READY: each answers a next
state in OFF with every block at its reset value, the flash and the journal's banks as the interruption
of an erase or a program leaves them, the DTC store and (but for the power-on reset) the test access port
kept, the RWS flags cleared by the power-on reset and RST_N alone, and the source recorded; RST_N low for
less than 200 ns changes nothing. (R37, R68, R90, R123, Table 3.2, Table 3.10) -/
def Obligations.ResetSources : Prop :=
  (∀ (rail : Rail) (s : State), s.Does (.powerOnReset rail) fun r =>
    s.dev.ResetTo r .powerOn ∧ r.power.porAsserted = true ∧ r.tap = resetTap) ∧
  (∀ (n : Nat) (s : State), 1000 ≤ n → s.Does (.rstNAssert n) fun r =>
    s.dev.ResetTo r .pin ∧ r.power.rstLow = true ∧ r.tap = s.dev.tap) ∧
  (∀ (n : Nat) (s : State), n < 200 → exec (.rstNAssert n) s = .next s) ∧
  (∀ s : State, s.Does .corePllLockLoss fun r =>
    s.dev.ResetTo r .pllLoss ∧ r.power.pllLost = true ∧ r.tap = s.dev.tap) ∧
  (∀ s : State, s.dev.Powered → (s.dev.power.state = .quiet → s.dev.power.quietPass = true) →
    s.Does .hearthWatchdogExpiry fun r => s.dev.ResetTo r .watchdog ∧ r.tap = s.dev.tap) ∧
  (∀ s : State, s.dev.Powered → s.dev.power.resetScheduled = true →
    s.Does .softwareReset fun r => s.dev.ResetTo r .software ∧ r.tap = s.dev.tap) ∧
  (∀ (k : Fin 2) (s : State), s.dev.Powered → k ∈ s.dev.mail.resetDue → s.dev.mail.mb[k].state = .ready →
    s.Does .softwareReset fun r => s.dev.ResetTo r .software ∧ r.tap = s.dev.tap)


/-- O12, tier 1. From the release of a reset to ACTIVE. POWER_ON_RESET_RELEASE and RST_N_RELEASE
each clear the level that held the reset; PROOF_START, with no reset source holding and the pins not taken
by the test access port, enters PROOF at step 1 with the cycle count at 0 and an audio RAM that nothing
has written; BOOT_START runs the slot that R75 selects, marking a trial slot attempted; BOOT_COMPLETE,
once a slot has been started, enters ACTIVE and lets the streams with AUTOSTART be started. What an
unwritten byte of the audio RAM reads as is the model's choice (log entry 7). (R67, R69, R71, R75, R76) -/
def Obligations.ReleaseProofAndBoot : Prop :=
  (∀ s : State, s.dev.power.porAsserted = true →
    exec (.powerOnResetRelease true) s =
      .next { s with dev := { s.dev with power := { s.dev.power with porAsserted := false } } }) ∧
  (∀ s : State, exec (.powerOnResetRelease false) s = .next s) ∧
  (∀ s : State, exec .rstNRelease s =
    .next { s with dev := { s.dev with power := { s.dev.power with rstLow := false } } }) ∧
  (∀ s : State, s.dev.power.state = .off → s.dev.power.porAsserted = false → s.dev.power.rstLow = false →
    s.dev.pinsTaken = false →
    exec .proofStart s = .next { s with ram := [], dev := { s.dev with cc := 0, power := { s.dev.power with
      state := .proof, pllLost := false, proofStep := 1, proofStopped := false } } }) ∧
  (∀ (b : Bool) (s : State), s.dev.power.state = .boot → s.dev.power.slotStarted = false →
    Dev.bootSlot s.dev.flash s.dev.flashPermitted = some b →
    s.Does .bootStart fun d => d.flash.runningB = b ∧ d.power = { s.dev.power with slotStarted := true } ∧
      (Dev.Slot.onTrial (if b then s.dev.flash.slotB else s.dev.flash.slotA) = true →
        (if b then d.flash.slotB else d.flash.slotA).attempted = true) ∧
      (if b then d.flash.slotA = s.dev.flash.slotA else d.flash.slotB = s.dev.flash.slotB)) ∧
  (∀ s : State, s.dev.power.state = .boot → s.dev.power.slotStarted = true →
    s.Does .bootComplete fun d => d.power.state = .active ∧ d.streams.autostart = true)


/-- O13, tier 2. The slot the boot ROM runs. For all contents of the two slots: where the marker may be
programmed, a slot on offer for its one trial attempt runs; otherwise, or where no slot is on offer, a
valid confirmed slot with the higher sequence number; without one, the valid slot, not on offer, with
the higher sequence number; and no slot runs only where every valid slot is one on offer whose marker
may not be programmed. A slot that is not valid is never chosen. That slot A runs between equal sequence
numbers is the model's choice (log entry 135). (R75, R93) -/
def Obligations.BootSlotRule : Prop :=
  (∀ (f : Flash) (permitted : Bool) (b : Bool), Dev.bootSlot f permitted = some b →
    let run := if b then f.slotB else f.slotA
    let other := if b then f.slotA else f.slotB
    let seqOk := if b then other.seq < run.seq else other.seq ≤ run.seq
    run.valid = true ∧
    (Dev.Slot.onTrial run = true → permitted = true ∧ (Dev.Slot.onTrial other = true → seqOk)) ∧
    (Dev.Slot.onTrial run = false → permitted = true → Dev.Slot.onTrial other = false) ∧
    (Dev.Slot.onTrial run = false → run.confirmed = true → other.valid = true → other.confirmed = true → seqOk) ∧
    (Dev.Slot.onTrial run = false → run.confirmed = false → (other.valid = true → other.confirmed = false) ∧
      (other.valid = true → Dev.Slot.onTrial other = false → seqOk))) ∧
  (∀ (f : Flash) (permitted : Bool) (x : Slot), Dev.bootSlot f permitted = none → x = f.slotA ∨ x = f.slotB →
    x.valid = true → Dev.Slot.onTrial x = true ∧ permitted = false)


/-- O14, tier 2. Proof stops at the first step that fails. For every set of readings, PROOF_COMPLETE in a
Proof that runs answers a next state: if no row of Table 3.4 fails, in BOOT at step 10 with FAIL_CODE 0;
if row k is the first that fails, in PROOF_HOLD at that row's step with its failure code in
PWR_PROOF_RESULT.FAIL_CODE; in both cases PROOF_TIME records the duration. (R71, Table 3.4) -/
def Obligations.ProofResult : Prop :=
  ∀ (r : ProofReadings) (s : State), s.dev.power.state = .proof → s.dev.power.proofStopped = false →
    s.dev.pinsTaken = false →
    ((∀ x ∈ proofFailures r s.dev.flash, x.1 = false) →
      s.Does (.proofComplete r) fun d => d.power.state = .boot ∧ d.power.proofStep = 10 ∧
        d.rfld Reg.PWR_PROOF_RESULT 7 0 = 0 ∧ d.rfld Reg.PWR_PROOF_RESULT 31 24 = r.time % 256) ∧
    (∀ (k : Nat) (step code detail : Nat), (proofFailures r s.dev.flash)[k]? = some (true, step, code, detail) →
      (∀ (j : Nat) x, j < k → (proofFailures r s.dev.flash)[j]? = some x → x.1 = false) →
      s.Does (.proofComplete r) fun d => d.power.state = .proofHold ∧ d.power.proofStep = step ∧
        d.rfld Reg.PWR_PROOF_RESULT 7 0 = code ∧ d.rfld Reg.PWR_PROOF_RESULT 31 24 = r.time % 256)


/-- O15, tier 1. The supply supervisor and the PWR writes. A SUPERVISOR_SAMPLE taken out of OFF and PROOF
becomes the last sample, in PWR_VBAT and PWR_RAILS_A too; SUPPLY_MUTE_RAMP_END drives the mute lines low;
SUPPLY_MUTE_EXIT leaves supply mute once VDD33 reads 3.05 V: with AUTO_UNMUTE the mute lines take what was
commanded last, without it lines and destinations stay muted; VDDIO_E_FAULT_ENTER, outside the window
Proof chose, forces every port DOWN, and VDDIO_E_FAULT_EXIT leaves the fault inside it; VBAT_OPEN_ENTER,
below 1.00 V outside supply mute, holds NV-write inhibit, and VBAT_OPEN_EXIT leaves VBAT open at 1.30 V;
PWR_RESET_REQ_WRITE of the key 0xA5C3 schedules a software reset and any other value changes nothing;
MIN_RESTART restarts VBAT_MIN from the present reading. (R80, R84, R90, Table 3.7, Table 3.12, Table 3.17) -/
def Obligations.SupplyRows : Prop :=
  (∀ (x : SupplySample) (s : State), s.dev.power.state ≠ .off → s.dev.power.state ≠ .proof →
    s.Does (.supervisorSample x) fun d => d.sup.prev = some (if 1800 < x.vbat then 0xFFFF else x.vbat, x.vdd33) ∧
      d.sup.dieA = x.dieA ∧ d.sup.dieB = x.dieB ∧ d.sup.amon = x.amon ∧
      d.rfld Reg.PWR_VBAT 15 0 = (if 1800 < x.vbat then 0xFFFF else x.vbat) ∧
      d.rfld Reg.PWR_RAILS_A 15 0 = x.vdd33 % 65536) ∧
  (∀ s : State, s.dev.Powered → s.dev.sup.supplyMute = true → exec .supplyMuteRampEnd s =
    .next { s with dev := { s.dev with sup := { s.dev.sup with muteLinesLow := true } } } ∧
    ∀ k : Fin 4, ({ s.dev with sup := { s.dev.sup with muteLinesLow := true } } : Dev).muteLine k = false) ∧
  (∀ s : State, s.dev.Powered → s.dev.sup.supplyMute = true → 3050 ≤ s.dev.rfld Reg.PWR_RAILS_A 15 0 →
    s.Does .supplyMuteExit fun d =>
      d.sup = { s.dev.sup with supplyMute := false, muteLinesLow := false } ∧
      (s.dev.rbit Reg.PWR_CTRL 0 = true → d.route = s.dev.route ∧ ∀ k : Fin 4, d.meas.amps[k] =
        { s.dev.meas.amps[k] with muted := s.dev.meas.amps[k].recorded.getD s.dev.meas.amps[k].muted, recorded := none }) ∧
      (s.dev.rbit Reg.PWR_CTRL 0 = false → (∀ k : Fin 64, d.route.dests[k] = { s.dev.route.dests[k] with held := true }) ∧
        ∀ k : Fin 4, d.meas.amps[k] = { s.dev.meas.amps[k] with muted := true, recorded := none })) ∧
  (∀ s : State, s.dev.Powered → s.dev.sup.vddioFault = false → s.dev.ioeInside = false →
    s.Does .vddioEFaultEnter fun d => d.sup.vddioFault = true ∧ ∀ p : Fin 3, d.eth[p].link.state = .down) ∧
  (∀ s : State, s.dev.Powered → s.dev.sup.vddioFault = true → s.dev.ioeInside = true →
    s.Does .vddioEFaultExit fun d => d.sup.vddioFault = false) ∧
  (∀ (v w : Nat) (s : State), s.dev.Powered → s.dev.sup.vbatOpen = false → s.dev.sup.supplyMute = false →
    s.dev.sup.prev = some (v, w) → v < 100 →
    s.Does .vbatOpenEnter fun d => d.sup.vbatOpen = true ∧ d.sup.nvwInhibit = true) ∧
  (∀ (v w : Nat) (s : State), s.dev.Powered → s.dev.sup.vbatOpen = true → s.dev.sup.prev = some (v, w) → 130 ≤ v →
    exec .vbatOpenExit s = .next { s with dev := { s.dev with sup := { s.dev.sup with vbatOpen := false } } }) ∧
  (∀ s : State, s.dev.Powered → exec (.pwrResetReqWrite 0xA5C3) s =
    .next { s with dev := { s.dev with power := { s.dev.power with resetScheduled := true } } }) ∧
  (∀ (w : Word) (s : State), w ≠ 0xA5C3 → exec (.pwrResetReqWrite w) s = .next s) ∧
  (∀ s : State, s.dev.Writable → exec .minRestart s =
    .next { s with dev := s.dev.setRfld Reg.PWR_VBAT 31 16 (s.dev.rfld Reg.PWR_VBAT 15 0) })


/-- O16, tier 2. A VBAT or VDD33 condition needs two samples in a row. For every state and every sample
after a first one: NV-write inhibit, crank and load dump are entered exactly when both samples are on
the entry side of their threshold and left exactly when both are on the exit side, VBAT open holding NV-
write inhibit; supply mute is entered when VDD33 is below 3.00 V in both and is not left by a sample.
(R80, Table 3.7) -/
def Obligations.TwoSampleConditions : Prop :=
  ∀ (x : SupplySample) (w : Nat × Nat) (s : State), s.dev.power.state ≠ .off → s.dev.power.state ≠ .proof →
    s.dev.sup.prev = some w →
    let v := (if 1800 < x.vbat then 0xFFFF else x.vbat, x.vdd33)
    let nvw := s.dev.rfld Reg.PWR_THRESH 15 0
    let crank := s.dev.rfld Reg.PWR_THRESH 31 16
    let dump := s.dev.rfld Reg.PWR_CTRL 31 16
    let both (f : Nat × Nat → Prop) : Prop := f v ∧ f w
    s.Does (.supervisorSample x) fun d =>
      (s.dev.sup.nvwInhibit = false → (d.sup.nvwInhibit = true ↔ both fun y => y.1 < nvw ∨ y.2 < 3050)) ∧
      (s.dev.sup.nvwInhibit = true → (d.sup.nvwInhibit = false ↔
        s.dev.sup.vbatOpen = false ∧ both fun y => nvw + 30 ≤ y.1 ∧ 3100 ≤ y.2)) ∧
      (s.dev.sup.crank = false → (d.sup.crank = true ↔ both fun y => y.1 < crank)) ∧
      (s.dev.sup.crank = true → (d.sup.crank = false ↔ both fun y => crank + 30 ≤ y.1)) ∧
      (s.dev.sup.loadDump = false → (d.sup.loadDump = true ↔ both fun y => dump < y.1)) ∧
      (s.dev.sup.loadDump = true → (d.sup.loadDump = false ↔ both fun y => y.1 ≤ dump - 50)) ∧
      (s.dev.sup.supplyMute = false → (d.sup.supplyMute = true ↔ both fun y => y.2 < 3000)) ∧
      (s.dev.sup.supplyMute = true → d.sup.supplyMute = true)


/-- O17, tier 1. Journal records, compaction and erases. JOURNAL_RECORD_PROGRAM starts the waiting record
where R81 permits and the live bank can take it, and where the bank is full starts a compaction if NV-
write inhibit is not entered; JOURNAL_RECORD_DONE completes the record in progress with its commit word
and makes it the newest record of the live bank; FLASH_ERASE_DONE empties its bank or slot, and where it
was a compaction's the record programs of that begin; JOURNAL_COMPACTION_DONE ends with the other bank
live, its generation one higher and the items of the old one in it, and each JOURNAL_COMPACT answered by
OP_DONE; JOURNAL_DEFAULTS_DONE leaves both banks without a header, each command answered by OP_DONE;
FWU_ERASE_DONE, the end of the erase of an update's target slot, lets the session write. (R81, R83, R86,
R87, R88, R92, R135, R152) -/
def Obligations.JournalRows : Prop :=
  (∀ (it : JItem) (rest : List JItem) (s : State), s.dev.power.state = .active → s.dev.power.quietEntry = none →
    s.dev.journal.programming = none → s.dev.journal.compacting = false → s.dev.journal.defaultsTags = [] →
    .bankA ∉ s.dev.journal.erasing → .bankB ∉ s.dev.journal.erasing →
    s.dev.journal.pending = it :: rest → s.dev.journal.live.header = true →
    (s.dev.flashPermitted = true → s.dev.journal.full it = false →
      exec .journalRecordProgram s = .next { s with dev := { s.dev with journal := { s.dev.journal with
        programming := some it, pending := rest, progHeld := s.dev.journal.held > 0, held := s.dev.journal.held - 1 } } }) ∧
    (s.dev.sup.nvwInhibit = false → s.dev.journal.full it = true →
      s.Does .journalRecordProgram fun d => d.journal.compacting = true ∧ d.journal.pending = s.dev.journal.pending ∧
        bankTarget (!s.dev.journal.liveB) ∈ d.journal.erasing ∧ d.journal.live = s.dev.journal.live)) ∧
  (∀ (it : JItem) (s : State), s.dev.Powered → s.dev.journal.programming = some it →
    s.Does .journalRecordDone fun d => d.journal.programming = none ∧ d.journal.lastSeq = s.dev.journal.lastSeq + 1 ∧
      d.journal.liveB = s.dev.journal.liveB ∧
      d.journal.live.records = s.dev.journal.live.records ++ [⟨s.dev.journal.lastSeq + 1, it, true⟩] ∧
      d.journal.pending = s.dev.journal.pending) ∧
  (∀ s : State, s.dev.Powered → s.dev.journal.copying = true → s.dev.flashPermitted = true →
    (s.Does .journalCompactionDone fun d => d.journal.liveB = !s.dev.journal.liveB ∧ d.journal.live.header = true ∧
      d.journal.live.gen = s.dev.journal.live.gen + 1 ∧
      d.journal.live.records = Dev.recordsFrom (s.dev.journal.lastSeq + 1) s.dev.journal.items ∧
      d.journal.compacting = false) ∧
    (s.dev.power.quietEntry = none → s.Does .journalCompactionDone fun d => d.mail =
      (s.dev.journal.compactTags.foldl (fun (d : Dev) tag => d.opDone 0x0103 0 tag) s.dev).mail)) ∧
  (∀ s : State, s.dev.Powered → s.dev.journal.compacting = false → .bankA ∈ s.dev.journal.erasing →
    exec (.flashEraseDone .bankA) s = .next { s with dev := { s.dev with journal := { s.dev.journal with
      erasing := s.dev.journal.erasing.erase .bankA, bankA := emptyBank } } }) ∧
  (∀ s : State, s.dev.Powered → s.dev.journal.compacting = false → .bankB ∈ s.dev.journal.erasing →
    exec (.flashEraseDone .bankB) s = .next { s with dev := { s.dev with journal := { s.dev.journal with
      erasing := s.dev.journal.erasing.erase .bankB, bankB := emptyBank } } }) ∧
  (∀ s : State, s.dev.Powered → s.dev.journal.compacting = true → s.dev.journal.copying = false → s.dev.flashPermitted = true →
    bankTarget (!s.dev.journal.liveB) ∈ s.dev.journal.erasing →
    bankTarget (!s.dev.journal.liveB) ∉ s.dev.journal.erasing.erase (bankTarget (!s.dev.journal.liveB)) →
    s.Does (.flashEraseDone (bankTarget (!s.dev.journal.liveB))) fun d => d.journal.copying = true ∧
      d.journal.live = s.dev.journal.live ∧ (if s.dev.journal.liveB then d.journal.bankA else d.journal.bankB) = emptyBank) ∧
  (∀ (b : Bool) (s : State), s.dev.Powered → (if b then .slotB else .slotA) ∈ s.dev.journal.erasing →
    s.Does (.flashEraseDone (if b then .slotB else .slotA)) fun d =>
      (if b then d.flash.slotB else d.flash.slotA) = emptySlot ∧
      (if b then d.flash.slotA = s.dev.flash.slotA else d.flash.slotB = s.dev.flash.slotB)) ∧
  (∀ s : State, s.dev.Powered → s.dev.journal.defaultsTags ≠ [] →
    s.Does .journalDefaultsDone fun d => d.journal.bankA = emptyBank ∧ d.journal.bankB = emptyBank ∧
      d.journal.defaultsTags = [] ∧ d.flash = s.dev.flash ∧ d.mail =
        (s.dev.journal.defaultsTags.foldl (fun (d : Dev) tag => d.opDone 0x0104 0 tag) s.dev).mail) ∧
  (∀ (x : FwuSession) (s : State), s.dev.Powered → s.dev.flash.session = some x → x.erased = false →
    s.dev.flash.target ∈ s.dev.journal.erasing →
    s.Does .fwuEraseDone fun d => d.flash.session = some { x with erased := true } ∧
      d.flash.runningB = s.dev.flash.runningB ∧ (if s.dev.flash.runningB then d.flash.slotA else d.flash.slotB) = emptySlot)


/-- O18, tier 1. Entering QUIET, serving in it, and waking. QUIET_ENTRY_COMPLETE, in ACTIVE with the entry
command taken up and its second step begun, no flash program of the journal in progress, every TDM port
stopped and CAN in INIT: with no wake waiting and no pin enabled to wake, it ends in QUIET with every port
DOWN, the pins in their sleep states and the entry's source answered OK; where a wake event came during
entry, or a pin stands at its wake level, it ends in ACTIVE. QUIET_DOORBELL_PASS starts one pass where a
doorbell waits, and a pass that serves no QUIET_EXIT ends it. QUIET_WAKE returns to ACTIVE without Proof
for each wake event that is present (activity on CRX, a pin that has woken or stands at its wake level, a
QUIET_EXIT served), with Keystone's entries 0 to 6 unqualified and, for QUIET_EXIT, its source answered
OK; activity on CRX during entry is kept for its end. (R77, R78, R79, R91, R167, Table 3.3) -/
def Obligations.QuietRows : Prop :=
  let told (who : Source × Byte) (op : Nat) (s : State) (d : Dev) : Prop :=
    let r : Response := ⟨op, who.2, 0, 0, s.dev.mail.latePending.contains who, []⟩
    (∀ k : Fin 2, who.1 = (if k = 0 then .mb0 else .mb1) → s.dev.mail.mb[k].state = .busy →
      d.mail.mb[k].state = .ready ∧ d.mail.mb[k].response = fillWindow s.dev.mail.mb[k].response r.words) ∧
    (who.1 = .tester → d.mail.testerResponse = some r) ∧ (who.1 = .remote → d.mail.remoteResponse = some r)
  let entered (who : Source × Byte) (s : State) : Prop :=
    s.dev.power.state = .active ∧ s.dev.power.quietEntry = some who ∧ s.dev.power.quietBegun = true ∧
    s.dev.journalBusy = false ∧ (∀ p : Fin 4, s.dev.tdm[p].state = .off) ∧ s.dev.can.initAck = true
  let awoken (d : Dev) : Prop :=
    d.power.state = .active ∧ d.power.wakePending = false ∧ d.power.quietPass = false ∧
    ∀ n : Fin 7, d.ks.refs[(n.castLE (by decide) : Fin 8)].qualified = false
  (∀ (who : Source × Byte) (s : State), entered who s → s.dev.power.wakePending = false →
    (∀ p : Fin 37, s.dev.gpio.pins[p].cfg.getLsbD 20 = false) →
    s.Does .quietEntryComplete fun d => d.power.state = .quiet ∧ d.power.quietEntry = none ∧
      (∀ p : Fin 3, d.eth[p].link.state = .down) ∧ d.gpio.asleep = true ∧ told who 0x0005 s d) ∧
  (∀ (who : Source × Byte) (s : State), entered who s →
    s.dev.power.wakePending = true ∨ (∃ p : Fin 37, s.dev.gpio.pins[p].cfg.getLsbD 20 = true ∧
      s.dev.gpio.pins[p].filt = s.dev.gpio.pins[p].cfg.getLsbD 21) →
    s.dev.power.quietExit = none →
    s.Does .quietEntryComplete fun d => awoken d ∧ d.power.quietEntry = none ∧ told who 0x0005 s d) ∧
  (∀ (k : Fin 2) (s : State), s.dev.power.state = .quiet → s.dev.mail.mb[k].state = .busy → s.dev.mail.mb[k].taken = false →
    exec .quietDoorbellPass s =
      .next { s with dev := { s.dev with power := { s.dev.power with quietPass := true } } }) ∧
  (∀ s : State, s.dev.power.state = .quiet → s.dev.power.quietPass = true → s.dev.power.quietExit = none →
    (∀ k : Fin 2, s.dev.mail.mb[k].decode.1 ≠ 6) → s.dev.can.uds.request = none → s.dev.can.uds.awaiting = none →
    s.Does .servicePass fun d => d.power.quietPass = false ∧ d.power.state = .quiet) ∧
  (∀ s : State, s.dev.power.state = .quiet → s.Does (.quietWake .crx) awoken) ∧
  (∀ s : State, s.dev.power.state = .quiet → s.dev.power.wakePending = true ∨ s.dev.wakingPin.isSome →
    s.Does (.quietWake .pin) awoken) ∧
  (∀ (who : Source × Byte) (s : State), s.dev.power.state = .quiet → s.dev.power.quietExit = some who →
    s.Does (.quietWake .quietExit) fun d => awoken d ∧ d.power.quietExit = none ∧ told who 0x0006 s d) ∧
  (∀ s : State, s.dev.power.state = .active → s.dev.power.quietEntry.isSome →
    exec (.quietWake .crx) s = .next { s with dev := { s.dev with power := { s.dev.power with wakePending := true } } })


/-- O19, tier 2. A register takes a word field by field, by the access codes. For each of the registers
whose writes act on their own bits alone, every word and every state in which the slave takes writes,
REGISTER_WRITE answers a next state in which every bit of the register follows its access code (RW takes
the bit, a 1 clears W1C, a 0 clears RWS, RO stays) and nothing else of the device has changed; where
Hearth writes the register in the same cc, its word is applied first and the host's second, and SYS_AUTH
records the conflict: CONFLICT with the address, or CONFLICT's second flag where it was set. (R106,
R117, Table 0.4) -/
def Obligations.RegisterWriteCodes : Prop :=
  ∀ (a : U16) (w v : Word) (s : State), a.toNat ∈ plainRegs → s.dev.Writable →
    ∃ r, regInfo a.toNat = some r ∧
      (s.Does (.registerWrite a w none) fun d =>
        (∀ i < 32, (d.reg a.toNat).getLsbD i = byCode r (s.dev.reg a.toNat) w i) ∧
        d = s.dev.setReg a.toNat (d.reg a.toNat)) ∧
      (a.toNat ≠ Reg.SYS_AUTH → s.Does (.registerWrite a w (some v)) fun d =>
        (∃ m : Word, (∀ i < 32, m.getLsbD i = byCode r (s.dev.reg a.toNat) v i) ∧
          ∀ i < 32, (d.reg a.toNat).getLsbD i = byCode r m w i) ∧
        (s.dev.rbit Reg.SYS_AUTH 0 = false → d.rbit Reg.SYS_AUTH 0 = true ∧ d.rfld Reg.SYS_AUTH 31 16 = a.toNat) ∧
        (s.dev.rbit Reg.SYS_AUTH 0 = true → d.rbit Reg.SYS_AUTH 1 = true ∧ d.rfld Reg.SYS_AUTH 31 16 = s.dev.rfld Reg.SYS_AUTH 31 16))


/-- O20, tier 2. A reserved address reads zero and ignores writes. For every aligned reserved address
(0x0C00 to 0x7FFF, and every word below 0x0400 that no chapter lays out): a read of it by the host, in a
READ burst, puts 0 on HMISO, and a write by the host changes nothing but SYS_SPI_ERR, where RSVD_WRITE
is set and LAST_ADDR records the address. (R105) -/
def Obligations.ReservedAddresses : Prop :=
  ∀ (a : U16) (w : Word) (s : State), Dev.isReserved a.toNat = true → a.toNat % 4 = 0 →
    (∀ full, s.dev.Powered → s.dev.host.phase = .opcode →
      s.Does (.spiReadWord (some a) full) fun d => d.host.hmiso = 0) ∧
    (s.dev.Writable → s.Does (.registerWrite a w none) fun d =>
      d.rbit Reg.SYS_SPI_ERR 3 = true ∧ d.rfld Reg.SYS_SPI_ERR 31 16 = a.toNat ∧
      d = s.dev.setReg Reg.SYS_SPI_ERR (d.reg Reg.SYS_SPI_ERR))


/-- O21, tier 2. Writes the slave turns away, ignores or aligns. A write to a response window or to the
holding registers changes nothing; in PROOF_HOLD a write that R73 does not accept, to no reserved
address, changes nothing but SYS_SPI_ERR, where REFUSED_WRITE is set with the address; an address whose
two low bits are not zero acts as the address with them zero, with MISALIGN set. (R103, R106, R118) -/
def Obligations.RefusedWrites : Prop :=
  (∀ (a : U16) (w : Word) (s : State), s.dev.Writable → a.toNat % 4 = 0 →
    (0x500 ≤ a.toNat ∧ a.toNat < 0x600) ∨ (0x700 ≤ a.toNat ∧ a.toNat < 0xC00) →
    exec (.registerWrite a w none) s = .next s) ∧
  (∀ (a : U16) (w : Word) (s : State), s.dev.power.state = .proofHold → a.toNat % 4 = 0 → a.toNat < 0x8000 →
    Dev.holdAccepts a.toNat = false → Dev.isReserved a.toNat = false →
    s.Does (.registerWrite a w none) fun d => d.rbit Reg.SYS_SPI_ERR 4 = true ∧
      d.rfld Reg.SYS_SPI_ERR 31 16 = a.toNat ∧ d = s.dev.setReg Reg.SYS_SPI_ERR (d.reg Reg.SYS_SPI_ERR)) ∧
  (∀ (a b : U16) (w : Word) (h : Option Word) (s : State), s.dev.Powered → b.toNat % 4 = 0 → b.toNat < a.toNat →
    a.toNat < b.toNat + 4 →
    exec (.registerWrite a w h) s =
      exec (.registerWrite b w h) { s with dev := s.dev.raiseBit Reg.SYS_SPI_ERR 0 })


/-- O22, tier 2. An ALIAS_WRITE acts on its one bit. For each of the registers whose writes act on their own
bits alone, every bit of it and every word written to that bit's alias: the bit takes bit 0 of the word
if it is RW, a W1C flag is cleared by a 1, an RWS flag by a 0, an RO bit stays; every other bit of the
register and everything else of the device is as it was. (R107, R108, R109, Table 4.5) -/
def Obligations.AliasWrites : Prop :=
  ∀ (a i : Nat) (addr : U16) (v : Word) (s : State), a ∈ plainRegs → i < 32 → addr.toNat = 0x8000 + 0x80 * (a / 4) + 4 * i →
    s.dev.Writable → ∃ r, regInfo a = some r ∧
    s.Does (.aliasWrite addr v) fun d =>
      (∀ j < 32, (d.reg a).getLsbD j =
        if j = i then byCode r (s.dev.reg a) (if v.getLsbD 0 then 0xFFFFFFFF else 0) i else (s.dev.reg a).getLsbD j) ∧
      d = s.dev.setReg a (d.reg a)


/-- O23, tier 1. The rows of an SPI transaction. SPI_TRANSACTION_START, the fall of HCS_N, opens a
transaction with the SPI mode taken and the status byte captured; SPI_NOP ends it with no more out;
SPI_WRITE_WORD with its header goes to its address as REGISTER_WRITE's does and the burst goes on 4
above; SPI_READ_WORD puts the word at its address on HMISO and goes on 4 above; BAD_OPCODE, an opcode not
listed, sets BAD_OPCODE and the rest is ignored; SPI_TRANSACTION_END closes the transaction and sets
PARTIAL exactly where a word of a WRITE, or an opcode's, was incomplete, and MISALIGN exactly where an
address that no complete data word followed is not aligned; OVERSPEED, a short HSCK phase in an open
transaction, sets OVERSPEED and the rest is ignored. (R97, R99,
R100, R101, R102, R103, R120) -/
def Obligations.SpiRows : Prop :=
  (∀ (b : Bool) (s : State), s.dev.Powered → exec (.spiTransactionStart b) s = .next { s with dev := { s.dev with host :=
    { s.dev.host with phase := .opcode, mode3 := b, statusByte := s.dev.statusByte, hmiso := 0 } } }) ∧
  (∀ s : State, s.dev.Powered → s.dev.host.phase = .opcode → exec .spiNop s =
    .next { s with dev := { s.dev with host := { s.dev.host with phase := .finished, hmiso := 0 } } }) ∧
  (∀ (a : U16) (w : Word) (s : State), s.dev.Writable → s.dev.host.phase = .opcode → a.toNat ∈ plainRegs →
    s.Does (.spiWriteWord (some a) w) fun d => d.host.phase = .writing (a + 4) ∧ d.host.hmiso = 0 ∧
      ∃ e, exec (.registerWrite a w none) s = .next { s with dev := e } ∧ d = { e with host := d.host }) ∧
  (∀ (a : U16) (w : Word) (s : State), s.dev.Writable → s.dev.host.phase = .writing a → a.toNat ∈ plainRegs →
    s.Does (.spiWriteWord none w) fun d => d.host.phase = .writing (a + 4) ∧
      ∃ e, exec (.registerWrite a w none) s = .next { s with dev := e } ∧ d = { e with host := d.host }) ∧
  (∀ (a : U16) (full : Bool) (s : State), s.dev.Powered → s.dev.host.phase = .opcode → a.toNat ∈ plainRegs →
    s.Does (.spiReadWord (some a) full) fun d => d.host.phase = .reading (a + 4) ∧ d.host.hmiso = s.dev.hostWord a.toNat ∧
      d = { s.dev with host := d.host }) ∧
  (∀ (o : Byte) (s : State), s.dev.Powered → s.dev.host.phase = .opcode → o ∉ Dev.spiOpcodes →
    s.Does (.badOpcode o) fun d => d.host.phase = .ignored ∧ d.host.hmiso = 0 ∧ d.rbit Reg.SYS_SPI_ERR 2 = true) ∧
  (∀ (a : Option U16) (p : Bool) (s : State), s.dev.Powered →
    s.Does (.spiTransactionEnd a p) fun d => d.host = { s.dev.host with phase := .closed } ∧
      (s.dev.rbit Reg.SYS_SPI_ERR 1 = false → (d.rbit Reg.SYS_SPI_ERR 1 = true ↔
        p = true ∧ (s.dev.host.phase = .opcode ∨ ∃ a, s.dev.host.phase = .writing a))) ∧
      (s.dev.rbit Reg.SYS_SPI_ERR 0 = false → (d.rbit Reg.SYS_SPI_ERR 0 = true ↔
        s.dev.host.phase = .opcode ∧ ∃ x, a = some x ∧ x.toNat % 4 ≠ 0))) ∧
  (∀ s : State, s.dev.Powered → s.dev.host.phase ≠ .closed →
    s.Does .overspeed fun d => d.host.phase = .ignored ∧ d.host.hmiso = 0 ∧ d.rbit Reg.SYS_SPI_ERR 5 = true)


/-- O24, tier 2. SNAPSHOT copies the groups its mask selects. SNAPSHOT with any mask and any counter events
of its cc, as the opcode of an open transaction, answers a next state with the transaction at its end:
the holding registers of each port, of CAN, of the timers, of the listeners and of the talkers take the
counts as they are where their group is selected and keep their contents where it is not; the header
takes the sequence number, which rises by 1, the mask with TIME_VALID, local media time and the count of
cycles; the counters of a port are cleared exactly where its group and CLEAR are selected, and a counter
event of the copy cc is counted after that. (R110, R111, R112, Table 4.6, Table 4.7, Table 4.8) -/
def Obligations.SnapshotCopy : Prop :=
  ∀ (mask : U16) (events : List (Fin 3 × Fin 40)) (s : State), s.dev.Powered → s.dev.host.phase = .opcode →
    s.Does (.snapshot mask events) fun d =>
      d.host.phase = .finished ∧
      (∀ (p : Fin 3) (k : Fin 40), d.host.snap[40 * p.val + k.val]? =
        if mask.getLsbD p.val then some (w32 s.dev.eth[p].traffic.counters[k]) else s.dev.host.snap[40 * p.val + k.val]?) ∧
      (∀ k : Fin 16, d.host.snap[128 + k.val]? =
        if mask.getLsbD 3 then some (w32 s.dev.can.counters[k]) else s.dev.host.snap[128 + k.val]?) ∧
      (∀ (n : Fin 4) (j : Fin 2), d.host.snap[144 + 2 * n.val + j.val]? =
        if mask.getLsbD 4 then (Dev.split48 s.dev.timers.ch[n].counter)[j.val]? else s.dev.host.snap[144 + 2 * n.val + j.val]?) ∧
      (∀ (i : Fin 16) (j : Fin 4), d.host.snap[160 + 4 * i.val + j.val]? =
        if mask.getLsbD 5 then (Dev.listenerWords s.dev.streams.listeners[i])[j.val]?
        else s.dev.host.snap[160 + 4 * i.val + j.val]?) ∧
      (∀ (i : Fin 8) (j : Fin 4), d.host.snap[224 + 4 * i.val + j.val]? =
        if mask.getLsbD 6 then (Dev.talkerWords s.dev.streams.talkers[i])[j.val]?
        else s.dev.host.snap[224 + 4 * i.val + j.val]?) ∧
      (∀ j : Fin 7, d.host.snap[120 + j.val]? =
        ([s.dev.host.snap[(120 : Fin 256)] + 1, (mask &&& 0x807F).setWidth 32 ||| bitW 31 s.dev.ks.timeValid,
          at' 0 (s.dev.ks.sec / 2 ^ 32 % 2 ^ 16), w32 s.dev.ks.sec, w32 s.dev.ks.nsec, w32 s.dev.cc,
          w32 (s.dev.cc / 2 ^ 32 % 2 ^ 16)])[j.val]?) ∧
      (∀ (p : Fin 3) (k : Fin 40),
        let kept := if mask.getLsbD p.val ∧ mask.getLsbD 15 then 0 else s.dev.eth[p].traffic.counters[k]
        d.eth[p].traffic.counters[k] = if events.count (p, k) = 0 then kept else (kept + events.count (p, k)) % 2 ^ 32)


/-- O25, tier 2. The host debug port moves one beat at a time. DBG_READ_REQUEST and DBG_WRITE_COMMIT, while
no beat is requested, set BUSY with the beat (the word of SYS_DBG_ADDR, the two data words) and make
requester 7 wait; while one is requested they set COLLIDE and change nothing else; DBG_BEAT_DONE, the
beat's end, latches the 64-bit word read and leaves the audio RAM, or writes the word to the audio RAM and
leaves every other word of it; it clears BUSY, and with AUTO_INC it raises WORD by 1, wrapping. (R113,
R19, Table 4.19, Table 4.20) -/
def Obligations.DebugPort : Prop :=
  let busy (d : Dev) : Bool := (d.regWord Reg.SYS_DBG_STATUS).getLsbD 0
  let next (s : State) : Nat := if s.dev.rbit Reg.SYS_DBG_ADDR 17 then (s.dev.rfld Reg.SYS_DBG_ADDR 15 0 + 1) % 65536
    else s.dev.rfld Reg.SYS_DBG_ADDR 15 0
  (∀ (word : U16) (inc : Bool) (s : State), s.dev.Writable → s.dev.host.dbg = none → s.dev.arb.waiting[(7 : Fin 8)] = none →
    s.Does (.dbgReadRequest word inc) fun d => d.host = { s.dev.host with dbg := some (.read word) } ∧ busy d = true ∧
      d.reg Reg.SYS_DBG_ADDR = word.setWidth 32 ||| bitW 17 inc ∧ d.arb.waiting[(7 : Fin 8)] = some ⟨1, 0, false⟩) ∧
  (∀ (word : U16) (inc : Bool) (s : State), s.dev.Writable → s.dev.host.dbg.isSome →
    exec (.dbgReadRequest word inc) s = .next { s with dev := s.dev.raiseBit Reg.SYS_DBG_STATUS 1 }) ∧
  (∀ (w : Word) (s : State), s.dev.Writable → s.dev.host.dbg = none → s.dev.arb.waiting[(7 : Fin 8)] = none →
    s.Does (.dbgWriteCommit w) fun d => d.arb.waiting[(7 : Fin 8)] = some ⟨1, 0, false⟩ ∧ busy d = true ∧
      d.reg Reg.SYS_DBG_DATA_HI = w ∧
      d.host = { s.dev.host with dbg := some (.write ((s.dev.reg Reg.SYS_DBG_ADDR).setWidth 16)
        (w.setWidth 64 <<< 32 ||| (s.dev.reg Reg.SYS_DBG_DATA_LO).setWidth 64)) }) ∧
  (∀ (w : Word) (s : State), s.dev.Writable → s.dev.host.dbg.isSome →
    exec (.dbgWriteCommit w) s = .next { s with dev := s.dev.raiseBit Reg.SYS_DBG_STATUS 1 }) ∧
  (∀ (word : U16) (s : State), s.dev.Awake → s.dev.host.dbg = some (.read word) →
    ∃ t, exec .dbgBeatDone s = .next t ∧ t.ram = s.ram ∧ t.pending = s.pending ∧ t.dev.host = { s.dev.host with dbg := none } ∧
      t.dev.arb.waiting[(7 : Fin 8)] = none ∧
      t.dev.reg Reg.SYS_DBG_DATA_LO = (readWord64 s.ram word).setWidth 32 ∧
      t.dev.reg Reg.SYS_DBG_DATA_HI = (readWord64 s.ram word >>> 32).setWidth 32 ∧
      t.dev.rfld Reg.SYS_DBG_ADDR 15 0 = next s) ∧
  (∀ (word other : U16) (data : U64) (s : State), s.dev.Awake → s.Inv → s.dev.host.dbg = some (.write word data) →
    ∃ t, exec .dbgBeatDone s = .next t ∧ t.pending = s.pending ∧ t.dev.host = { s.dev.host with dbg := none } ∧
      t.dev.arb.waiting[(7 : Fin 8)] = none ∧ readWord64 t.ram word = data ∧
      (other ≠ word → readWord64 t.ram other = readWord64 s.ram other) ∧ t.dev.rfld Reg.SYS_DBG_ADDR 15 0 = next s)


/-- O26, tier 1. Ageing, and the clears of the error and arbiter counts. A requester that waits is aged by
REQUEST_AGED, its wait at 4096 cc or more, and the others are as they were; ECC_LAST_CLEAR, a 1 to
SYS_ECC_LAST.CLEAR, clears SYS_ECC and SYS_ECC_LAST, and STATS_CLEAR, a 1 to ARB_CTRL.STATS_CLEAR, the
wait maxima and the two counts, and neither anything else. (R25,
R122, R125, Table 4.25) -/
def Obligations.ArbiterRows : Prop :=
  (∀ (n : Fin 8) (s : State), s.dev.Awake → s.Does (.requestAged n) fun d =>
    (∀ w, s.dev.arb.waiting[n] = some w → d.arb.waiting[n] = some { w with waited := max 4096 w.waited, aged := true }) ∧
    (∀ k : Fin 8, k ≠ n → d.arb.waiting[k] = s.dev.arb.waiting[k]) ∧ d = { s.dev with arb := d.arb }) ∧
  (∀ s : State, s.dev.Writable → exec .eccLastClear s =
    .next { s with dev := (s.dev.setReg Reg.SYS_ECC 0).setReg Reg.SYS_ECC_LAST 0 }) ∧
  (∀ s : State, s.dev.Writable → s.Does .statsClear fun d =>
    (∀ a ∈ [Reg.ARB_WAIT_MAX_A, Reg.ARB_WAIT_MAX_B, Reg.ARB_WAIT_MAX_C, Reg.ARB_WAIT_MAX_D, Reg.ARB_DEADLINE_COUNT,
      Reg.ARB_AGED_COUNT], d.reg a = 0) ∧ d = { s.dev with regs := d.regs })


/-- O27, tier 2. Who wins a decision of the arbiter, and what its burst does. For every set of requests, every
list of words written and every events that are no device fault, and every state: with W the bursts that
wait at the decision, those requested meanwhile joined to those that waited before, ARB_GRANT answers a
next state in which a burst that waits has been granted if any waits, and none otherwise; the TDM engine
wins if its deadline flag is raised and it waits; else an aged requester of the highest priority among the
aged, if any is aged; else a requester of the highest priority among those that wait; among equals the
first in order from the level's pointer, which then stands behind the winner; every other wait is kept;
and the audio RAM takes the words its beats write, none for the debug port. A double-bit error in a
descriptor or a table is a device fault: the endpoint is in OFF, its cause recorded. That the cc of the
last beat is where the decision stands is the model's reading (log entry 26). (R19, R20, R21, R23, R24,
R25, R36) -/
def Obligations.ArbiterDecision : Prop :=
  ∀ (input : ArbInput) (s : State), s.dev.Awake →
    let span := s.dev.arb.burst.elim 1 fun b => max 1 b.2
    let ready := input.requests.foldl (fun (d : Dev) r => d.arbRequest r.requester r.beats (min r.ago (span - 1)))
      (s.dev.arbElapse span)
    let W := ready.arb.waiting
    let prio (n : Fin 8) : Nat := s.dev.rfld Reg.ARB_PRIO (4 * n.val + 2) (4 * n.val)
    let level (n : Fin 8) : Fin 8 := ⟨prio n % 8, Nat.mod_lt _ (by decide)⟩
    let turn (n k : Fin 8) : Nat := (k - s.dev.arb.pointer[level n]).val
    let aged (n : Fin 8) : Prop := ∃ w, W[n] = some w ∧ w.aged = true
    let fatal : Prop := ∃ l ∈ input.ecc, ∃ e ∈ l, ∃ w : U16, e = .double w ∧ 61440 ≤ w.toNat
    (¬ fatal → ∃ t, exec (.arbGrant input) s = .next t ∧ t.pending = s.pending ∧
      t.dev.arb.deadline = decide (input.tdmFill < 64) ∧
      ((∀ n : Fin 8, W[n] = none) → t.dev.arb.burst = none ∧ t.dev.arb.waiting = W ∧ t.ram = s.ram) ∧
      ((∃ n : Fin 8, W[n].isSome) → ∃ (n : Fin 8) (w : Waiting), W[n] = some w ∧ t.dev.arb.burst = some (n, w.beats) ∧
        t.dev.arb.waiting = W.set n none ∧
        (input.tdmFill < 64 → W[(4 : Fin 8)].isSome → n = 4) ∧
        ((64 ≤ input.tdmFill ∨ W[(4 : Fin 8)] = none) →
          ((∃ k, aged k) → aged n ∧ ∀ k, aged k → prio n < prio k ∨ (prio n = prio k ∧ turn n n ≤ turn n k)) ∧
          ((∀ k, ¬ aged k) → ∀ k : Fin 8, W[k].isSome → prio n < prio k ∨ (prio n = prio k ∧ turn n n ≤ turn n k))) ∧
        t.dev.arb.pointer[level n] = n + 1 ∧
        t.ram = if n = 7 then s.ram else (input.writes.take w.beats).foldl (fun m x => writeWord64 m x.1 x.2) s.ram)) ∧
    (fatal → ∃ t, exec (.arbGrant input) s = .next t ∧ t.pending = s.pending ∧ t.dev.power.state = .off ∧
      t.dev.reg Reg.PWR_RESET_CAUSE = 0x10)


/-- O28, tier 2. Which doorbells ring. MB_DOORBELL, for every word written at the doorbell of a mailbox: one with 0x0DB0
in bits 31:16, zero in bits 15:8 and the TAG of the request header in bits 7:0 moves an IDLE mailbox to
BUSY and becomes its LAST_TAG, and sets REFUSED_DOORBELL of a mailbox that is not IDLE; any other sets
BAD_DOORBELL; the word is kept in the window unless the mailbox is BUSY, where it sets WRITE_WHILE_BUSY
as every write to the request window does; each leaves the rest of the mailbox, its response and the other
mailbox. A write elsewhere in the request window is taken and read back unless the mailbox is BUSY, where it sets
WRITE_WHILE_BUSY and changes nothing else; the reserved offset 0xF8 takes nothing. (R126, R127, R128,
R154) -/
def Obligations.Doorbell : Prop :=
  (∀ (k : Fin 2) (w : Word) (s : State), s.dev.Powered →
    let m := s.dev.mail.mb[k]
    let valid := fld w 31 16 = 0x0DB0 ∧ fld w 15 8 = 0 ∧ fld w 7 0 = fld m.request[(0 : Fin 64)] 23 16
    s.Does (.mbDoorbell k w) fun d =>
      (valid → m.state = .idle → d.mail.mb[k] = { m with request := m.request.set 63 w, state := .busy, lastTag := w.setWidth 8 }) ∧
      (valid → m.state = .ready → d.mail.mb[k] = { m with request := m.request.set 63 w, refusedDoorbell := true }) ∧
      (valid → m.state = .busy → d.mail.mb[k] = { m with writeWhileBusy := true, refusedDoorbell := true }) ∧
      (¬ valid → m.state ≠ .busy → d.mail.mb[k] = { m with request := m.request.set 63 w, badDoorbell := true }) ∧
      (¬ valid → m.state = .busy → d.mail.mb[k] = { m with writeWhileBusy := true, badDoorbell := true }) ∧
      d.mail.mb[k].response = m.response ∧ (∀ j : Fin 2, j ≠ k → d.mail.mb[j] = s.dev.mail.mb[j]) ∧
      d = { s.dev with mail := { s.dev.mail with mb := d.mail.mb } }) ∧
  (∀ (k : Fin 2) (i : Fin 64) (w : Word) (s : State), s.dev.Powered → i.val < 62 →
    s.Does (.registerWrite (BitVec.ofNat 16 (0x400 + 0x200 * k.val + 4 * i.val)) w none) fun d =>
      (s.dev.mail.mb[k].state = .busy → d.mail.mb[k] = { s.dev.mail.mb[k] with writeWhileBusy := true }) ∧
      (s.dev.mail.mb[k].state ≠ .busy → d.mail.mb[k] = { s.dev.mail.mb[k] with request := s.dev.mail.mb[k].request.set i.val w } ∧
        d.requestRead k i = w) ∧
      (∀ j : Fin 2, j ≠ k → d.mail.mb[j] = s.dev.mail.mb[j]) ∧ d = { s.dev with mail := { s.dev.mail with mb := d.mail.mb } }) ∧
  (∀ (k : Fin 2) (w : Word) (s : State), s.dev.Powered →
    exec (.registerWrite (BitVec.ofNat 16 (0x4F8 + 0x200 * k.val)) w none) s = .next s)


/-- O29, tier 2. A full read of the release word frees a READY mailbox. MB_RELEASE, a read of MBn_RELEASE, shifts out the
response's tag with the state as captured. Shifted out in full over a READY mailbox it moves the mailbox
to IDLE, clears REFUSED_DOORBELL, BAD_DOORBELL and WRITE_WHILE_BUSY and leaves the response readable;
over an IDLE or BUSY mailbox, or where the word is not shifted out in full, it has no side effect.
(R130) -/
def Obligations.MailboxRelease : Prop :=
  ∀ (k : Fin 2) (full : Bool) (s : State), s.dev.Powered →
    let m := s.dev.mail.mb[k]
    let out := at' 0 (fld m.response[(0 : Fin 64)] 23 16) ||| at' 8 (Dev.mbCode m.state)
    s.Does (.mbRelease k full) fun d =>
      (m.state = .ready → full = true → d.mail.mb[k] = { m with
        state := .idle, refusedDoorbell := false, badDoorbell := false, writeWhileBusy := false }) ∧
      (∀ i : Fin 64, i.val < 58 → d.responseRead k i = s.dev.responseRead k i) ∧
      (m.state ≠ .ready ∨ full = false → d = s.dev.spiOut out) ∧ d.host.hmiso = out ∧
      (∀ j : Fin 2, j ≠ k → d.mail.mb[j] = s.dev.mail.mb[j]) ∧
      d = { s.dev with host := d.host, power := d.power, mail := { s.dev.mail with mb := d.mail.mb } } ∧
      d.host = { s.dev.host with hmiso := out } ∧
      d.power = { s.dev.power with resetScheduled := d.power.resetScheduled } ∧
      (d.power.resetScheduled = true ↔ s.dev.power.resetScheduled = true ∨
        (m.state = .ready ∧ full = true ∧ k ∈ s.dev.mail.resetDue))


/-- O30, tier 1. Only enabled groups are pushed. An event is pushed exactly if its group is 0x00 or enabled
by its bit of EVENT_MASK; one that is not enabled changes nothing. (R145) -/
def Obligations.EventMaskRule : Prop :=
  ∀ (d : Dev) (code : Nat) (arg : Word),
    let enabled := code / 256 = 0 ∨ d.mail.eventMask.getLsbD (code / 256) = true
    (enabled → d.push code arg = { d with mail := Dev.pushMail d.mail code arg }) ∧ (¬ enabled → d.push code arg = d)


/-- O31, tier 2. The event queue keeps its order, latches its head and counts what it loses. A push on a
queue of fewer than 32 entries adds the entry at its end; on a full queue it is discarded, OVF set and
LOST raised by 1, saturating at 255; both advance the sequence number by 1. EVQ_HEAD_READ latches the oldest
entry and shows its code, sequence number and VALID, or zero for an empty queue; EVQ_ARG_READ shows the
latched entry's argument, and read in full removes that entry and clears the latch; with no latch it
shows zero and pops nothing; EVQ_STATE_READ shows the depth, OVF and LOST, and read in full clears OVF and
LOST. (R143, R144, Table 5.11, Table 5.12) -/
def Obligations.EventQueue : Prop :=
  (∀ (m : Mail) (code : Nat) (arg : Word), m.queue.length < 32 →
    Dev.pushMail m code arg = { m with queue := m.queue ++ [⟨BitVec.ofNat 16 code, m.nextSeq, arg⟩], nextSeq := m.nextSeq + 1 }) ∧
  (∀ (m : Mail) (code : Nat) (arg : Word), 32 ≤ m.queue.length → m.lost ≤ 255 →
    Dev.pushMail m code arg = { m with ovf := true, lost := min 255 (m.lost + 1), nextSeq := m.nextSeq + 1 }) ∧
  (∀ (full : Bool) (s : State), s.dev.Powered →
    s.Does (.evqHeadRead full) fun d => d.mail = { s.dev.mail with latch := s.dev.mail.queue.head? } ∧
      (∀ e, s.dev.mail.queue.head? = some e → fld d.host.hmiso 15 0 = e.code.toNat ∧ fld d.host.hmiso 23 16 = e.seq.toNat ∧
        d.host.hmiso.getLsbD 31 = true) ∧
      (s.dev.mail.queue = [] → d.host.hmiso = 0) ∧ d = { s.dev with mail := d.mail, host := d.host }) ∧
  (∀ (e : Event) (s : State), s.dev.Powered → s.dev.mail.latch = some e →
    s.Does (.evqArgRead true) fun d => d.host.hmiso = e.arg ∧
      d.mail = { s.dev.mail with queue := s.dev.mail.queue.drop 1, latch := none } ∧ d = { s.dev with mail := d.mail, host := d.host }) ∧
  (∀ (full : Bool) (s : State), s.dev.Powered → s.dev.mail.latch = none →
    exec (.evqArgRead full) s = .next { s with dev := s.dev.spiOut 0 }) ∧
  (∀ (e : Event) (s : State), s.dev.Powered → s.dev.mail.latch = some e →
    exec (.evqArgRead false) s = .next { s with dev := s.dev.spiOut e.arg }) ∧
  (∀ (full : Bool) (s : State), s.dev.Powered → s.dev.mail.queue.length ≤ 32 → s.dev.mail.lost ≤ 255 →
    s.Does (.evqStateRead full) fun d => fld d.host.hmiso 5 0 = s.dev.mail.queue.length ∧ d.host.hmiso.getLsbD 8 = s.dev.mail.ovf ∧
      fld d.host.hmiso 23 16 = s.dev.mail.lost ∧ d = { s.dev with mail := d.mail, host := d.host } ∧
      d.mail = if full then { s.dev.mail with ovf := false, lost := 0 } else s.dev.mail)


/-- O32, tier 2. What a service pass takes up, and in which order. In ACTIVE, with nothing waiting but the
mailboxes: a SERVICE_PASS over one BUSY mailbox serves its command and writes the response to that mailbox; over
both, with commands that set no parameter in common and neither of which releases a resource, it serves
MB1's and then MB0's; where the two conflict, MB0's is refused BUSY_AUTHORITY with DETAIL 3 and MB1's
served; with none waiting it changes nothing. (R133, R140) -/
def Obligations.ServicePass : Prop :=
  ∀ s : State, s.dev.power.state = .active → s.dev.power.quietPass = false → s.dev.mail.deferred = [] →
    s.dev.remote.waiting = [] → s.dev.can.uds.request = none → s.dev.can.uds.awaiting = none →
    let m (k : Fin 2) : Mailbox := s.dev.mail.mb[k]
    let waits (k : Fin 2) : Prop := (m k).state = .busy ∧ (m k).taken = false
    let op (k : Fin 2) : Nat := (m k).decode.1
    let req (k : Fin 2) : Request := (m k).decode.2
    let run (d : Dev) (k : Fin 2) : Dev := d.runJob (.mailbox k (op k) (req k)) none
    let sets (k : Fin 2) : List (Nat × Nat) := s.dev.jobTouches (.mailbox k (op k) (req k))
    (¬ waits 0 → ¬ waits 1 → exec .servicePass s = .next s) ∧
    (∀ k : Fin 2, waits k → ¬ waits (1 - k) →
      exec .servicePass s = .next { s with dev := run s.dev k } ∧
      ∀ (d : Dev) (r : Response), s.dev.serveCore (if k = 0 then .mb0 else .mb1) (op k) (req k) = (d, some r) →
        run s.dev k = d.respondMb k r) ∧
    (waits 0 → waits 1 → (∀ x ∈ sets 0, x ∉ sets 1) → releases (op 0) (req 0) = false → releases (op 1) (req 1) = false →
      exec .servicePass s = .next { s with dev := run (run s.dev 1) 0 }) ∧
    (waits 0 → waits 1 → (∃ x ∈ sets 0, x ∈ sets 1) → releases (op 0) (req 0) = releases (op 1) (req 1) →
      exec .servicePass s = .next { s with dev :=
        let x := (run s.dev 1).beaten (op 0) (req 0) 3
        (x.2.elim x.1 fun r => x.1.respondMb 0 r) })


/-- O33, tier 2. A refused command has no effect. For every source, opcode and request, in every state: a
response with a status from 0x10 upward leaves the device as it was but for LAST_REFUSED of STATUS,
which names it, and, where a change was refused for want of room for its record (SUPPLY_INHIBIT, DETAIL
3), PWR_STICKY.NVW_REFUSED; the one exception is DIGEST_MISMATCH, which ends the update session. On MB1
a command that is not urgent, out of PROOF_HOLD and QUIET, is refused with NOT_ON_MB1. Nothing is
refused where nothing is served. (R132, R139, R150, Table 5.3) -/
def Obligations.RefusalHasNoEffect : Prop :=
  (∀ (src : Source) (op : Nat) (req : Request) (d d' : Dev) (r : Response),
    d.serveCore src op req = (d', some r) → 0x10 ≤ r.status → r.status ≠ 0x42 →
    r.opcode = op ∧ r.tag = req.tag ∧ d'.mail = { d.mail with lastRefusedOpcode := op % 65536, lastRefusedStatus := r.status } ∧
    (d' = { d with mail := d'.mail } ∨
      (r.status = 0x40 ∧ r.detail = 3 ∧ d' = { (d.raiseBit Reg.PWR_STICKY 3) with mail := d'.mail }))) ∧
  (∀ (op : Nat) (req : Request) (c : CmdSpec) (d : Dev), d.power.state = .active → cmdSpec op = some c → c.urgent = false →
    ∃ d', d.serveCore .mb1 op req = (d', some ⟨op, req.tag, 0x13, 0, false, []⟩)) ∧
  (∀ (src : Source) (op : Nat) (req : Request) (d : Dev),
    d.power.state = .off ∨ d.power.state = .proof ∨ d.power.state = .boot → d.serveCore src op req = (d, none))


/-- O34, tier 1. The system commands. Each of STATUS, IDENTITY, FAILURE_REPORT, RESET, QUIET_ENTER,
QUIET_EXIT and EVENT_MASK, taken up in ACTIVE with operands in range, answers a next state: STATUS the
device state, the lock, the session's holder, the depth of the event queue and the last refusal;
IDENTITY 12 words that begin with CHIP_ID 0x1664_00B0 and the firmware line 2; FAILURE_REPORT the Proof
result, the reset cause and the rails; RESET makes the software reset due at the release of its mailbox;
QUIET_ENTER begins the entry, its second step at once where no flash program of the journal is in
progress, and is answered at its end; QUIET_EXIT in ACTIVE answers DETAIL 1; EVENT_MASK takes bits
12:0. (R148, R149, Table 5.8) -/
def Obligations.SystemCommands : Prop :=
  (∀ (src : Source) (req : Request) (s : State), s.dev.TakesUp src 0x0001 req →
    ∃ p, exec (.status src req) s = .next (s.okay src 0x0001 req s.dev p) ∧ p.length = 4 ∧
      fld (p.getD 0 0) 2 0 = 4 ∧ (p.getD 0 0).getLsbD 8 = s.dev.mail.lockHeld ∧ fld (p.getD 0 0) 14 12 = s.dev.fwuHolder ∧
      (s.dev.mail.lastRefusedStatus < 65536 → fld (p.getD 3 0) 31 16 = s.dev.mail.lastRefusedStatus) ∧
      (s.dev.mail.queue.length ≤ 32 → fld (p.getD 2 0) 13 8 = s.dev.mail.queue.length) ∧
      (s.dev.mail.lastRefusedOpcode < 65536 → fld (p.getD 3 0) 15 0 = s.dev.mail.lastRefusedOpcode)) ∧
  (∀ (src : Source) (req : Request) (s : State), s.dev.TakesUp src 0x0002 req →
    ∃ p, exec (.identity src req) s = .next (s.okay src 0x0002 req s.dev p) ∧ p.length = 12 ∧
      p.getD 0 0 = 0x166400B0 ∧ fld (p.getD 1 0) 7 0 = 2) ∧
  (∀ (src : Source) (req : Request) (s : State), s.dev.TakesUp src 0x0003 req →
    ∃ p, exec (.failureReport src req) s = .next (s.okay src 0x0003 req { s.dev with freeIdx := s.dev.freeIdx + 1 } p) ∧
      p.length = 6 ∧ fld (p.getD 0 0) 7 0 = s.dev.rfld Reg.PWR_PROOF_RESULT 7 0 ∧
      p.getD 2 0 = s.dev.reg Reg.PWR_RESET_CAUSE ∧ p.getD 3 0 = s.dev.reg Reg.PWR_RAILS_A ∧
      p.getD 4 0 = s.dev.reg Reg.PWR_RAILS_B) ∧
  (∀ (src : Source) (req : Request) (s : State), s.dev.TakesUp src 0x0004 req → req.fld 8 7 0 = 1 → req.fld 8 31 16 = 0xA5C3 →
    exec (.reset src req) s = .next (s.okay src 0x0004 req (match src with
      | .mb0 => { s.dev with mail := { s.dev.mail with resetDue := 0 :: s.dev.mail.resetDue } }
      | .mb1 => { s.dev with mail := { s.dev.mail with resetDue := 1 :: s.dev.mail.resetDue } }
      | _ => { s.dev with power := { s.dev.power with resetScheduled := true } }))) ∧
  (∀ (src : Source) (req : Request) (s : State), s.dev.TakesUp src 0x0005 req → s.dev.flash.session = none →
    s.Does (.quietEnter src req) fun d =>
      d.power = { s.dev.power with quietEntry := some (src, req.tag), quietBegun := d.power.quietBegun } ∧
      (s.dev.power.quietBegun = false → (d.power.quietBegun = true ↔ s.dev.journalBusy = false)) ∧
      d.flash = s.dev.flash ∧ d.ks = s.dev.ks ∧ d.host = s.dev.host) ∧
  (∀ (src : Source) (req : Request) (s : State), s.dev.TakesUp src 0x0006 req →
    exec (.quietExit src req) s = .next (s.okay src 0x0006 req s.dev [] [] 1)) ∧
  (∀ (src : Source) (req : Request) (s : State), s.dev.TakesUp src 0x0007 req →
    exec (.eventMask src req) s = .next (s.okay src 0x0007 req
      { s.dev with mail := { s.dev.mail with eventMask := req.word 8 &&& 0x1FFF } }))


/-- O35, tier 1. The journal and firmware-update commands. JOURNAL_STATUS, JOURNAL_READ (an item that
exists, and one that does not), JOURNAL_COMPACT, JOURNAL_DEFAULTS, FWU_BEGIN, FWU_WRITE at the expected
offset, FWU_FINISH with every byte written and the digest matching, FWU_CONFIRM and FWU_ABORT, each
under the conditions the manual gives, answer a next state with their effect: the session is opened over
the slot that is not running, takes the block, programs the slot header with IMAGE_SEQ, the digest and
TRIAL, or is given up; CONFIRMED is set in the running slot; JOURNAL_DEFAULTS ends a compaction. Where a
program of FWU_WRITE, FWU_FINISH or FWU_CONFIRM fails its verification, which is a free value, the answer
is FLASH_ERROR and nothing else changes. How a compaction and an erase end whose command is overtaken is
the model's choice (log entries 37, 41), and so is when a program fails (146). (R86, R87, R92, R150, R151, R152, R153,
Table 5.8) -/
def Obligations.JournalAndUpdateCommands : Prop :=
  let failed (src : Source) (op : Nat) (req : Request) (s : State) : State :=
    { s with dev := (s.dev.refused op req.tag 0x41 0 []).1.respond src ⟨op, req.tag, 0x41, 0, false, []⟩ }
  (∀ (src : Source) (req : Request) (s : State), s.dev.TakesUp src 0x0101 req →
    ∃ p, exec (.journalStatus src req) s = .next (s.okay src 0x0101 req s.dev p) ∧ p.length = 4 ∧
      (p.getD 0 0).getLsbD 0 = s.dev.journal.liveB ∧ p.getD 3 0 = w32 s.dev.journal.lastSeq) ∧
  (∀ (src : Source) (req : Request) (s : State), s.dev.TakesUp src 0x0102 req →
    s.Does (.journalRead src req) fun d => ∃ r : Response, d = (s.dev.journalAdd []).respond src r ∧ r.status = 0 ∧ r.tag = req.tag ∧
      (s.dev.journal.items.lookup (req.fld 8 15 0) = none → req.bit 8 16 = false → r.payload = [0xFFFF]) ∧
      (∀ v, s.dev.journal.items.lookup (req.fld 8 15 0) = some v → req.bit 8 16 = false →
        r.payload = (at' 0 (req.fld 8 15 0) ||| at' 16 (4 * min 54 v.length)) :: v.take 54)) ∧
  (∀ (src : Source) (req : Request) (s : State), s.dev.TakesUp src 0x0103 req → s.dev.sup.nvwInhibit = false →
    exec (.journalCompact src req) s = .next (s.accepted src 0x0103 req
      ((if s.dev.journal.compacting then s.dev else s.dev.compactStart).modJournal fun j =>
        { j with compactTags := j.compactTags ++ [req.tag] }))) ∧
  (∀ (src : Source) (req : Request) (s : State), s.dev.TakesUp src 0x0104 req → s.dev.sup.nvwInhibit = false →
    req.word 8 = 0x44460001 →
    exec (.journalDefaults src req) s = .next (s.accepted src 0x0104 req ((s.dev.journal.compactTags.foldl
      (fun (d : Dev) tag => d.opDone 0x0103 0x22 tag) s.dev).modJournal fun j => { j with
      pending := [], held := 0, programming := none, progHeld := false, flushed := 0,
      compacting := false, compactTags := [], copying := false,
      erasing := .bankA :: .bankB :: j.erasing, defaultsTags := j.defaultsTags ++ [req.tag] }))) ∧
  (∀ (src : Source) (req : Request) (s : State), s.dev.TakesUp src 0x0201 req → s.dev.sup.nvwInhibit = false →
    8 ≤ (req.word 8).toNat → (req.word 8).toNat ≤ 458752 → (req.word 8).toNat % 8 = 0 → s.dev.flash.session = none →
    (s.dev.flash.running.trial = true → s.dev.flash.running.confirmed = true) →
    ∃ d, exec (.fwuBegin src req) s = .next (s.accepted src 0x0201 req d) ∧
      d.flash.session = some {
        holder := src, length := (req.word 8).toNat, seq := req.fld 0x0C 15 0,
        digest := (req.payload.drop 2).take 8, received := [], erased := false, tag := req.tag } ∧
      d.flash.runningB = s.dev.flash.runningB ∧ d.flash.running = s.dev.flash.running ∧
      (if s.dev.flash.runningB then d.flash.slotA else d.flash.slotB).valid = false ∧
      s.dev.flash.target ∈ d.journal.erasing) ∧
  (∀ (src : Source) (req : Request) (x : FwuSession) (s : State), s.dev.TakesUp src 0x0202 req → s.dev.flashPermitted = true →
    s.dev.flash.session = some x → classOf x.holder = classOf src → x.erased = true →
    (req.word 8).toNat = 4 * x.received.length → 4 * x.received.length + (req.length - 8) ≤ x.length →
    let got := x.received ++ (req.payload.drop 2).take ((req.length - 8) / 4)
    exec (.fwuWrite src req) s = .next (if Config.flashFails s.dev.cc then failed src 0x0202 req s else s.okay src 0x0202 req
      { s.dev with flash := { s.dev.flash with session := some { x with received := got } } } [w32 (4 * got.length)])) ∧
  (∀ (src : Source) (req : Request) (x : FwuSession) (s : State), s.dev.TakesUp src 0x0203 req → s.dev.flashPermitted = true →
    s.dev.flash.session = some x → classOf x.holder = classOf src → x.erased = true → x.length ≤ 4 * x.received.length →
    Config.sha256 x.received = x.digest →
    ∃ d, exec (.fwuFinish src req) s = .next (if Config.flashFails s.dev.cc then failed src 0x0203 req s
        else s.okay src 0x0203 req d) ∧ d.flash.session = none ∧
      d.flash.running = s.dev.flash.running ∧ (if s.dev.flash.runningB then d.flash.slotA else d.flash.slotB) =
        ⟨true, x.seq, true, false, false, x.received, x.digest, false⟩) ∧
  (∀ (src : Source) (req : Request) (s : State), s.dev.TakesUp src 0x0204 req → s.dev.flashPermitted = true →
    s.dev.flash.running.confirmed = false →
    ∃ d, exec (.fwuConfirm src req) s = .next (if Config.flashFails s.dev.cc then failed src 0x0204 req s
        else s.okay src 0x0204 req d) ∧ d.flash.running = { s.dev.flash.running with confirmed := true } ∧
      d.flash.runningB = s.dev.flash.runningB ∧
      (if s.dev.flash.runningB then d.flash.slotA = s.dev.flash.slotA else d.flash.slotB = s.dev.flash.slotB)) ∧
  (∀ (src : Source) (req : Request) (x : FwuSession) (s : State), s.dev.TakesUp src 0x0205 req →
    s.dev.flash.session = some x → classOf x.holder = classOf src →
    let d : Dev := { s.dev with flash := { s.dev.flash with session := none } }
    exec (.fwuAbort src req) s = .next (s.okay src 0x0205 req (if x.erased then d else d.opDone 0x0201 0x23 x.tag)))


/-- O36, tier 1. What the events of Keystone change, in BOOT and in ACTIVE. REF_QUALIFIED qualifies an
enabled entry whose condition the state shows and sets QUAL_GAINED, and changes nothing at all for one
whose condition it does not; REF_LOSS records the loss for the next tick; BW_NARROW_STEP raises BW_STEP
and at the eighth enters TRACK; TRACK_ENTRY enters TRACK from an ACQUIRE on entry 6, or from one that
skips narrowing and has no move running, its held step released; REACQUIRE in TRACK enters ACQUIRE with
the average frozen and adds an offset of at most 1 ms of an entry from 0 to 4 to the remainder;
HOLDOVER_EXPIRED in HOLDOVER enters HOLDOVER_EXPIRED and ends TIME_VALID; TIME_VALID_LAPSE ends TIME_VALID
where local media time is not held; MOVE_DONE leaves only the held part of a running move's remainder
and, with none held, sets MOVE_DONE and pushes KS_MOVE_DONE; at SECOND_BOUNDARY KS_PPS_OUT takes
TIME_VALID. (R159, R160, R165, R168, R170, R171, R178, R346, Table 6.1, Table 6.2) -/
def Obligations.KeystoneEvents : Prop :=
  (∀ (n : Fin 7) (s : State), s.dev.Runs → s.dev.ks.refs[(n.castLE (by decide) : Fin 8)].enable = true →
    s.dev.ks.refs[(n.castLE (by decide) : Fin 8)].qualified = false → s.dev.refReady n = true →
    s.Does (.refQualified n) fun d => d.rbit Reg.CLK_IRQ_STATUS 2 = true ∧
      d.ks = { s.dev.ks with refs := upd s.dev.ks.refs (n.castLE (by decide)) fun e =>
        { e with qualified := true, present := true, lost := false, plannedLoss := false } }) ∧
  (∀ (n : Fin 7) (s : State), s.dev.refReady n = false → exec (.refQualified n) s = .next s) ∧
  (∀ (n : Fin 7) (s : State), s.dev.Runs → exec (.refLoss n) s = .next { s with dev := { s.dev with ks := { s.dev.ks with
    refs := upd s.dev.ks.refs (n.castLE (by decide)) fun e => { e with lost := true, plannedLoss := false } } } }) ∧
  (∀ s : State, s.dev.Runs → s.dev.ks.state = .acquire → s.dev.ks.wide = true → s.dev.ks.selected ≠ 6 →
    s.dev.ks.bwStep < 8 →
    s.Does .bwNarrowStep fun d => d.ks.bwStep = s.dev.ks.bwStep + 1 ∧
      d.ks.state = (if s.dev.ks.bwStep = 7 then KsState.track else KsState.acquire) ∧ d.ks.remain = s.dev.ks.remain) ∧
  (∀ s : State, s.dev.Runs → s.dev.ks.state = .acquire →
    (s.dev.ks.selected = 6 ∨ (s.dev.ks.wide = false ∧ s.dev.ks.running = false)) →
    s.Does .trackEntry fun d => d.ks.state = .track ∧ d.ks.held = 0 ∧ d.ks.bwStep = 8 ∧
      d.ks.remain = s.dev.ks.remain ∧ d.rbit Reg.CLK_IRQ_STATUS 0 = true) ∧
  (∀ (offset : Int) (s : State), s.dev.Runs → s.dev.ks.state = .track →
    s.Does (.reacquire offset) fun d => d.ks.state = .acquire ∧ d.ks.wide = true ∧ d.ks.selected = s.dev.ks.selected ∧
      d.ks.frozen = some s.dev.ks.holdFreq ∧ d.ks.holdShort = s.dev.ks.holdShort ∧
      d.rbit Reg.CLK_IRQ_STATUS 8 = true ∧
      (s.dev.ks.selected.val ≤ 4 → offset.natAbs ≤ 10 ^ 9 → d.ks.remain = s.dev.ks.remain + offset)) ∧
  (∀ s : State, s.dev.Runs → s.dev.ks.state = .holdover →
    s.Does .holdoverExpired fun d => d.ks.state = .expired ∧ d.ks.timeValid = false ∧
      d.ks.baseWord = wordOfPpt s.dev.ks.rate s.dev.ks.holdFreq ∧ d.rbit Reg.CLK_IRQ_STATUS 5 = true) ∧
  (∀ s : State, s.dev.Runs → s.dev.timeHeld = false →
    s.Does .timeValidLapse fun d => d.ks = { s.dev.ks with timeValid := false }) ∧
  (∀ s : State, s.dev.Runs → s.dev.ks.running = true →
    s.Does .moveDone fun d => d.ks.remain = s.dev.ks.held ∧ d.ks.offset = s.dev.ks.offset ∧
      (s.dev.ks.held = 0 → d.rbit Reg.CLK_IRQ_STATUS 6 = true ∧
        d.mail = (s.dev.push 0x0302 (i32 s.dev.ks.offset)).mail)) ∧
  (∀ s : State, s.dev.Runs → exec .secondBoundary s =
    .next { s with dev := { s.dev with clk := { s.dev.clk with ppsOut := s.dev.ks.timeValid } } })


/-- O37, tier 1. Writes and reads of the clock words, and the phase detector. CLK_PHASE_STEP_WRITE of a step
that stays within ±100 ms adds it to CLK_OFFSET and to the remainder, and holds it in an ACQUIRE that was
entered from FREE, STEER, HOLDOVER_EXPIRED, a re-acquire or a rate change; DCO_SEED_WRITE of one half
waits for the other, and that of the second loads the 48-bit word, with the integrator in ACQUIRE and
TRACK and the held frequency in HOLDOVER and HOLDOVER_EXPIRED, and sets SEED_LOADED; a
CLK_REF_COMMIT_WRITE of 1 waits for the tick and one of any other value changes nothing of Keystone;
CLK_TIME_NS_READ and CLK_WORD_LO_READ latch the seconds and the HI words and put the word on HMISO; in
ACQUIRE and TRACK PHASE_DETECTOR_COMPARE sets the phase error of R168, saturating. The integrator and the
frequency the servo then demands are values the manual does not give: the model takes them free (log
entry 73). (R168, R171, R175, R176, R180) -/
def Obligations.ClockWords : Prop :=
  let seeded (s : State) (word : Nat) (d : Dev) : Prop :=
    let k := s.dev.ks
    d.ks.baseWord = word ∧ d.ks.state = k.state ∧
      d.ks.integrator = (if k.state = .acquire ∨ k.state = .track then pptOfWord k.rate word else k.integrator) ∧
      d.ks.holdFreq = (if k.state = .holdover ∨ k.state = .expired then pptOfWord k.rate word else k.holdFreq)
  (∀ (v : Word) (s : State), s.dev.Writable →
    (s.dev.ks.offset + v.toInt).natAbs ≤ 10 ^ 11 → (s.dev.ks.remain + v.toInt).natAbs ≤ 10 ^ 11 →
    s.Does (.clkPhaseStepWrite v) fun d => d.ks.offset = s.dev.ks.offset + v.toInt ∧ d.ks.remain = s.dev.ks.remain + v.toInt ∧
      d.ks.state = s.dev.ks.state ∧ d.ks.held = s.dev.ks.held +
        (if s.dev.ks.state = .acquire ∧ s.dev.ks.wide = true then v.toInt else 0)) ∧
  (∀ (high : Bool) (v : Word) (s : State), s.dev.Writable → s.dev.ks.seedLo = false → s.dev.ks.seedHi = false →
    s.Does (.dcoSeedWrite high v) fun d => d.ks = { s.dev.ks with seedLo := !high, seedHi := high }) ∧
  (∀ (v : Word) (s : State), s.dev.Writable → s.dev.ks.seedHi = true →
    s.Does (.dcoSeedWrite false v) fun d => seeded s (s.dev.rfld Reg.CLK_DCO_SEED_HI 15 0 * 2 ^ 32 + v.toNat) d ∧
      d.ks.seedLo = false ∧ d.ks.seedHi = false ∧ d.ks.line = none ∧ d.rbit Reg.CLK_IRQ_STATUS 10 = true) ∧
  (∀ (v : Word) (s : State), s.dev.Writable → s.dev.ks.seedLo = true →
    s.Does (.dcoSeedWrite true v) fun d => seeded s (fld v 15 0 * 2 ^ 32 + (s.dev.reg Reg.CLK_DCO_SEED_LO).toNat) d ∧
      d.ks.seedLo = false ∧ d.ks.seedHi = false ∧ d.ks.line = none ∧ d.rbit Reg.CLK_IRQ_STATUS 10 = true) ∧
  (∀ (v : Word) (s : State), s.dev.Writable →
    s.Does (.clkRefCommitWrite v) fun d =>
      d.ks = (if v.getLsbD 0 then { s.dev.ks with commitPending := true } else s.dev.ks)) ∧
  (∀ (full : Bool) (s : State), s.dev.Powered →
    s.Does (.clkTimeNsRead full) fun d => d.clk = { s.dev.clk with sec := s.dev.ks.sec } ∧ d.ks = s.dev.ks ∧
      d.host.hmiso = w32 s.dev.ks.nsec) ∧
  (∀ (full : Bool) (s : State), s.dev.Powered →
    s.Does (.clkWordLoRead false full) fun d =>
      d.clk = { s.dev.clk with remainHi := (s.dev.ks.remain / 2 ^ 32 % 2 ^ 16).toNat } ∧ d.host.hmiso = i32 s.dev.ks.remain) ∧
  (∀ (full : Bool) (s : State), s.dev.Powered →
    s.Does (.clkWordLoRead true full) fun d =>
      d.clk = { s.dev.clk with offsetHi := (s.dev.ks.offset / 2 ^ 32 % 2 ^ 16).toNat } ∧ d.host.hmiso = i32 s.dev.ks.offset) ∧
  (∀ (x : Int) (s : State), s.dev.Runs → s.dev.ks.state = .acquire ∨ s.dev.ks.state = .track →
    let k := s.dev.ks
    let err := clampI (-2147483648) 2147483647 (x - k.remain - k.offset)
    s.Does (.phaseDetectorCompare x) fun d => d.ks.phaseErr = err ∧ d.ks.state = k.state ∧ d.ks.remain = k.remain ∧
      d.ks.integrator = Config.servoIntegral s.dev.freeIdx k.integrator (Dev.loopBandwidth k) err ∧
      d.ks.baseWord = wordOfPpt k.rate (Config.servoPpt s.dev.freeIdx k.integrator (Dev.loopBandwidth k) err))


/-- O38, tier 2. Which reference Keystone selects, and the state a tick leaves. For every table of entries:
with LINTEL_FOLLOW, a named entry that is enabled and qualified; else, with REVERTIVE 0, the current
entry from 0 to 6 while it is enabled and qualified and Keystone is not in FREE; else entry 7 if its
PRIO is lower than that of every enabled entry from 0 to 6 (so also if none is enabled); else the
enabled, qualified entry from 0 to 6 with the lowest PRIO, the lower entry number between equals; else
none. KS_TICK in BOOT and in ACTIVE with STEER set leaves Keystone in STEER with its selection kept; one
without, with no commit and no loss waiting, leaves it in FREE for entry 7, in ACQUIRE or TRACK on a
selected entry from 0 to 6 (the time then valid for 0 to 4), and for none in HOLDOVER or HOLDOVER_EXPIRED
from any state but FREE; the selection is made after what the ms before the tick and the scheduler's
entries of the cc have done. A waiting commit takes effect at the tick. (R163, R164, R159, R175, R177,
Table 6.2) -/
def Obligations.KeystoneSelection : Prop :=
  (∀ (d : Dev) (named : Option (Fin 8)),
    let k := d.ks
    let good (n : Fin 8) : Prop := k.refs[n].enable = true ∧ k.refs[n].qualified = true
    let follow (n : Fin 8) : Prop := d.rbit Reg.CLK_CTRL 2 = true ∧ named = some n ∧ good n
    let stay : Prop := d.rbit Reg.CLK_CTRL 0 = false ∧ k.selected ≠ 7 ∧ good k.selected ∧ k.state ≠ .free
    let seven : Prop := ∀ n : Fin 8, n ≠ 7 → k.refs[n].enable = true → k.refs[(7 : Fin 8)].prio < k.refs[n].prio
    (∀ n, follow n → d.selectRef named = some n) ∧
    ((∀ n, ¬ follow n) → stay → d.selectRef named = some k.selected) ∧
    ((∀ n, ¬ follow n) → ¬ stay → seven → d.selectRef named = some 7) ∧
    ((∀ n, ¬ follow n) → ¬ stay → ¬ seven →
      (d.selectRef named = none ↔ ∀ n : Fin 8, n ≠ 7 → ¬ good n) ∧
      ∀ n, d.selectRef named = some n → n ≠ 7 ∧ good n ∧ ∀ m : Fin 8, m ≠ 7 → good m →
        k.refs[n].prio < k.refs[m].prio ∨ (k.refs[n].prio = k.refs[m].prio ∧ n ≤ m))) ∧
  (∀ (input : KsTickInput) (s : State), s.dev.Runs → s.dev.rbit Reg.CLK_CTRL 1 = true →
    s.Does (.ksTick input) fun d => d.ks.state = .steer ∧ d.ks.selected = s.dev.ks.selected) ∧
  (∀ (input : KsTickInput) (s : State), s.dev.Runs → s.dev.rbit Reg.CLK_CTRL 1 = false → s.dev.ks.commitPending = false →
    (∀ n : Fin 8, s.dev.ks.refs[n].lost = false ∧ (s.dev.ks.refs[n].enable = false → s.dev.ks.refs[n].qualified = false)) →
    let e' := (s.dev.ksElapse.moved s.dev.ks.remain).schedAll
    s.Does (.ksTick input) fun d => match e'.selectRef e'.namedEntry with
      | some e => d.ks.state ≠ .steer ∧ d.ks.state ≠ .holdover ∧ d.ks.state ≠ .expired ∧
          (d.ks.state = .free ↔ e = 7) ∧ (s.dev.ks.state ≠ .free ∨ e ≠ 7 → d.ks.selected = e) ∧
          (e.val ≤ 4 → d.ks.timeValid = true)
      | none => d.ks.selected = s.dev.ks.selected ∧
          (if s.dev.ks.state = .free then d.ks.state = .free else d.ks.state = .holdover ∨ d.ks.state = .expired)) ∧
  (∀ (input : KsTickInput) (s : State), s.dev.Runs → s.dev.ks.commitPending = true →
    s.Does (.ksTick input) fun d => d.ks.commitPending = false ∧ ∀ n : Fin 7,
      d.ks.refs[(n.castLE (by decide) : Fin 8)].prio = s.dev.rfld (Reg.CLK_REF_0 + 4 * n.val) 3 0 ∧
      d.ks.refs[(n.castLE (by decide) : Fin 8)].enable = s.dev.rbit (Reg.CLK_REF_0 + 4 * n.val) 4 ∧
      d.ks.refs[(n.castLE (by decide) : Fin 8)].qualTime = s.dev.rfld (Reg.CLK_REF_0 + 4 * n.val) 15 8)


/-- O39, tier 1. The clock commands. KS_STATUS answers CLK_STATUS, the remainder and the switches since
reset; KS_SET_RATE, with no stream started and no TDM port enabled, sets the system rate, and where the
family changes loads its nominal word, with CLK_DCO_ADJ applied to it in STEER and the held frequency in
HOLDOVER and HOLDOVER_EXPIRED, the state to be entered at the next tick (log entry 72); KS_SET_TABLE stages the eight entries
and CLK_CTRL bits 0 and 2 and commits; KS_SET_LOOP stores the three words clamped; KS_PHASE_STEP steps
and answers the remainder; KS_STEER writes CLK_DCO_ADJ, clamped, and then STEER. (R169, R171, R181,
Table 6.10, Table 6.11) -/
def Obligations.ClockCommands : Prop :=
  (∀ (src : Source) (req : Request) (s : State), s.dev.TakesUp src 0x0301 req →
    ∃ p, exec (.ksStatus src req) s = .next (s.okay src 0x0301 req s.dev p) ∧ p.length = 8 ∧
      p.getD 0 0 = s.dev.clkStatus s.dev.namedEntry ∧ p.getD 4 0 = i32 s.dev.ks.remain ∧ p.getD 7 0 = w32 s.dev.ks.switches) ∧
  (∀ (src : Source) (req : Request) (r : Fin 6) (s : State), s.dev.TakesUp src 0x0302 req → req.fld 8 2 0 = r.val →
    s.dev.anyStreamStarted = false → s.dev.anyTdmEnabled = false → (req.persist = false ∨ s.dev.flashPermitted = true) →
    ∃ d, exec (.ksSetRate src req) s = .next (s.okay src 0x0302 req d [] (Dev.keptAs req 0x0301)) ∧ d.ks.rate = r ∧
      (rateIs441 r = rateIs441 s.dev.ks.rate → d = { s.dev with ks := { s.dev.ks with rate := r } }) ∧
      (rateIs441 r ≠ rateIs441 s.dev.ks.rate → d.ks.state = s.dev.ks.state ∧ d.ks.line = none ∧
        (d.ks.rateChanged = true ↔ s.dev.ks.state ≠ .free ∧ s.dev.ks.state ≠ .steer) ∧
        d.ks.baseWord = match s.dev.ks.state with
          | .steer => wordOfPpt r (s.dev.reg Reg.CLK_DCO_ADJ).toInt
          | .holdover | .expired => wordOfPpt r s.dev.ks.holdFreq
          | .free | .acquire | .track => nominalWord r)) ∧
  (∀ (src : Source) (req : Request) (s : State), s.dev.TakesUp src 0x0303 req →
    (req.persist = false ∨ s.dev.flashPermitted = true) →
    ∃ d, exec (.ksSetTable src req) s = .next (s.okay src 0x0303 req d [] (Dev.keptAs req 0x0302)) ∧
      d.ks = { s.dev.ks with commitPending := true } ∧
      d.rbit Reg.CLK_CTRL 0 = req.bit 0x18 0 ∧ d.rbit Reg.CLK_CTRL 2 = req.bit 0x18 2 ∧
      d.rbit Reg.CLK_CTRL 1 = s.dev.rbit Reg.CLK_CTRL 1 ∧
      ∀ n < 8, d.rfld (Reg.CLK_REF_0 + 4 * n) 3 0 = req.fld (8 + 4 * (n / 2)) (16 * (n % 2) + 3) (16 * (n % 2))) ∧
  (∀ (src : Source) (req : Request) (s : State), s.dev.TakesUp src 0x0304 req →
    (req.persist = false ∨ s.dev.flashPermitted = true) →
    ∃ d, exec (.ksSetLoop src req) s = .next (s.okay src 0x0304 req d [] (Dev.keptAs req 0x0303)) ∧
      d.rfld Reg.CLK_LOOP 8 0 = clampN 50 500 (req.fld 8 8 0) ∧ d.rfld Reg.CLK_LOOP 23 16 = clampN 5 200 (req.fld 8 23 16) ∧
      d.rfld Reg.CLK_SLOPE 16 0 = clampN 100 100000 (req.fld 0x0C 16 0) ∧
      d.rfld Reg.CLK_HOLD 11 0 = clampN 1 3600 (req.fld 0x10 11 0)) ∧
  (∀ (src : Source) (req : Request) (s : State), s.dev.TakesUp src 0x0305 req →
    let d := s.dev.phaseStep (req.word 8).toInt
    exec (.ksPhaseStep src req) s = .next (s.okay src 0x0305 req d [i32 d.ks.remain, hi48 d.ks.remain])) ∧
  (∀ (src : Source) (req : Request) (s : State), s.dev.TakesUp src 0x0306 req →
    let adj := clampI (-500000000) 500000000 (req.word 0x0C).toInt
    ∃ d, exec (.ksSteer src req) s = .next (s.okay src 0x0306 req d) ∧ d.reg Reg.CLK_DCO_ADJ = i32 adj ∧
      d.rbit Reg.CLK_CTRL 1 = req.bit 8 0 ∧
      d.ks.baseWord = if s.dev.ks.state = .steer then wordOfPpt s.dev.ks.rate adj else s.dev.ks.baseWord)


/-- O40, tier 2. What moves a port through its states. CAPTURE_LOCK in BOOT and in ACTIVE takes the phase and
RX_SAMPLE and brings a port in TRAINING up if its PHY shows link at a speed it may take; CAPTURE_UNLOCK is
flagged and counted, and a frame in progress counts as a fragment; CAPTURE_UNLOCK_TIMEOUT, and PHY_POLL
with link status 0, are a link loss of a port in UP: TRAINING with the START script to run and the highest
speed taken, LINK_LOSS set and counted, the 802.1AS instance reset, the class and control queues empty, the
best-effort frames held; PHY_POLL with link and full duplex brings a locked port in TRAINING up at the
speed the registers give, and one with half duplex sets HALF_DUPLEX; EASE_FAIL returns an easing port to
TRAINING with the START script to run, EASE_FAIL and LINK_LOSS set and EASE_EN cleared; PORT_DISABLE clears
ENABLE, and PORT_IDLE, its end, sets PORT_IDLE and enters DOWN with the queues empty. (R183, R184, R192,
R194, R195, R196, R202, R203, Table 7.3) -/
def Obligations.PortEvents : Prop :=
  let lost (p : Fin 3) (s : State) (d : Dev) : Prop :=
    d.eth[p].link.state = .training ∧ d.eth[p].link.runScript = some .start ∧ d.eth[p].link.maxSpeed = s.dev.speedBound p ∧
      d.rbit (Dev.ethReg p Reg.ETH0_IRQ_STATUS) 1 = true ∧ d.gptp[p].asCapable = false ∧
      d.eth[p].traffic.queues[(0 : Fin 4)] = [] ∧ d.eth[p].traffic.queues[(1 : Fin 4)] = [] ∧
      d.eth[p].traffic.queues[(2 : Fin 4)] = [] ∧ d.eth[p].traffic.onWire = s.dev.eth[p].traffic.onWire ∧
      d.eth[p].traffic.queues[(3 : Fin 4)] = s.dev.eth[p].traffic.queues[(3 : Fin 4)] ∧
      d.eth[p].traffic.holding = !s.dev.eth[p].traffic.queues[(3 : Fin 4)].isEmpty ∧
      d.eth[p].traffic.counters[(32 : Fin 40)] = (s.dev.eth[p].traffic.counters[(32 : Fin 40)] + 1) % 2 ^ 32
  (∀ (p : Fin 3) (phase : BitVec 6) (s : State), s.dev.Runs →
    s.Does (.captureLock p phase) fun d => d.eth[p].link.locked = true ∧ d.eth[p].link.phase = phase ∧
      d.eth[p].link.sample = s.dev.rfld (Dev.ethReg p Reg.ETH0_CTRL) 15 10 ∧
      (s.dev.eth[p].link.state = .training → s.dev.eth[p].link.phyUp = true → s.dev.eth[p].link.phyAbsent = false →
        s.dev.eth[p].link.disabling = false → s.dev.eth[p].link.phySpeed.val ≤ s.dev.eth[p].link.maxSpeed →
        d.eth[p].link.state = .up ∧ d.eth[p].link.speed = s.dev.eth[p].link.phySpeed)) ∧
  (∀ (p : Fin 3) (b : Bool) (s : State), s.dev.Awake → s.dev.eth[p].link.locked = true →
    s.Does (.captureUnlock p b) fun d => d.eth[p].link = { s.dev.eth[p].link with locked := false } ∧
      d.rbit (Dev.ethReg p Reg.ETH0_IRQ_STATUS) 6 = true ∧
      d.eth[p].traffic.counters[(36 : Fin 40)] = (s.dev.eth[p].traffic.counters[(36 : Fin 40)] + 1) % 2 ^ 32 ∧
      d.eth[p].traffic.counters[(12 : Fin 40)] = if b then (s.dev.eth[p].traffic.counters[(12 : Fin 40)] + 1) % 2 ^ 32
        else s.dev.eth[p].traffic.counters[(12 : Fin 40)]) ∧
  (∀ (p : Fin 3) (s : State), s.dev.Awake → s.dev.eth[p].link.locked = false → s.dev.eth[p].link.state = .up →
    s.Does (.captureUnlockTimeout p) (lost p s)) ∧
  (∀ (p : Fin 3) (r : PhyReading) (s : State), s.dev.Awake → s.dev.ethEnabled p = true → s.dev.eth[p].link.state = .up →
    r.reg1.getLsbD 2 = false → s.Does (.phyPoll p r) fun d => lost p s d ∧ d.eth[p].link.reg1 = r.reg1) ∧
  (∀ (p : Fin 3) (r : PhyReading) (s : State), s.dev.Awake → s.dev.ethEnabled p = true → s.dev.eth[p].link.state = .training →
    r.reg1.getLsbD 2 = true → r.reg1 ≠ 0xFFFF →
    let (speed, full) := Dev.phyMode r
    s.Does (.phyPoll p r) fun d =>
      (full = true → s.dev.eth[p].link.locked = true → s.dev.eth[p].link.disabling = false →
        speed.val ≤ s.dev.eth[p].link.maxSpeed →
        d.eth[p].link.state = .up ∧ d.eth[p].link.speed = speed ∧ d.rbit (Dev.ethReg p Reg.ETH0_IRQ_STATUS) 0 = true) ∧
      (full = false → d.eth[p].link.state = .training ∧ d.rbit (Dev.ethReg p Reg.ETH0_IRQ_STATUS) 9 = true)) ∧
  (∀ (p : Fin 3) (s : State), s.dev.Awake → s.dev.eth[p].link.state = .easing →
    s.Does (.easeFail p) fun d => d.eth[p].link.state = .training ∧ d.eth[p].link.runScript = some .start ∧
      d.rbit (Dev.ethReg p Reg.ETH0_IRQ_STATUS) 7 = true ∧ d.rbit (Dev.ethReg p Reg.ETH0_IRQ_STATUS) 1 = true ∧
      d.rbit (Dev.ethReg p Reg.ETH0_CTRL) 4 = false ∧
      d.eth[p].traffic.counters[(32 : Fin 40)] = (s.dev.eth[p].traffic.counters[(32 : Fin 40)] + 1) % 2 ^ 32) ∧
  (∀ (p : Fin 3) (s : State), s.dev.Writable → s.dev.eth[p].link.state ≠ .down →
    s.Does (.portDisable p) fun d => d.rbit (Dev.ethReg p Reg.ETH0_CTRL) 0 = false ∧ d.eth[p].link.disabling = true ∧
      d.eth[p].link.state = s.dev.eth[p].link.state ∧ d.eth[p].traffic.onWire = s.dev.eth[p].traffic.onWire ∧
      (s.dev.eth[p].traffic.onWire = none → ∀ q : Fin 4, d.eth[p].traffic.queues[q] = [])) ∧
  (∀ (p : Fin 3) (s : State), s.dev.Awake → s.dev.eth[p].link.disabling = true → s.dev.eth[p].traffic.onWire = none →
    s.dev.ethEnabled p = false →
    s.Does (.portIdle p) fun d => d.eth[p].link.state = .down ∧ d.eth[p].link.disabling = false ∧
      d.rbit (Dev.ethReg p Reg.ETH0_IRQ_STATUS) 3 = true ∧ ∀ q : Fin 4, d.eth[p].traffic.queues[q] = [])


/-- O41, tier 1. Polls at the pin, PHY scripts, utilisation windows and the hold time. PHY_INTERRUPT with
ETH_PHY_INT_N low on a placed pin polls the three PHYs in turn, and otherwise changes nothing;
PHY_SCRIPT_RUN of a script that is due drives it as its MDIO writes to the port's PHY address, bounded by
MAX_SPEED, after which it is no longer due; UTIL_WINDOW_END begins the next window, and where EASE_EN is 0
records nothing; where on one port alone EASE_EN is 1, the port eased at 100 Mbit/s in UP, its utilisation
above EASE_HIGH, the ease permitted, the supply in order and no port easing, it starts an ease up: EASING,
PLANNED_DOWN, LINK_PLANNED counted; LINK_HOLD_EXPIRY flushes the held frames of a port not UP and counts
them. (R192, R193, R195, R196, R199, Table 7.3) -/
def Obligations.PortUpkeep : Prop :=
  (∀ (a b c : PhyReading) (s : State), s.dev.Awake → s.dev.gpio.source[(22 : Fin 25)].isSome → s.dev.fnLevel 22 = false →
    exec (.phyInterrupt a b c) s = .next { s with dev := ((s.dev.phyPoll 0 a).phyPoll 1 b).phyPoll 2 c }) ∧
  (∀ (a b c : PhyReading) (s : State), s.dev.Awake → (s.dev.fnLevel 22 = true ∨ s.dev.gpio.source[(22 : Fin 25)] = none) →
    exec (.phyInterrupt a b c) s = .next s) ∧
  (∀ (p : Fin 3) (k : PhyScript) (s : State), s.dev.Awake → s.dev.eth[p].link.runScript = some k →
    let own := s.dev.eth[p].link.scripts[(match k with | .start => 0 | .to100 => 1 | .to1000 => 2 : Fin 3)]
    let most := s.dev.eth[p].link.maxSpeed
    s.Does (.phyScriptRun p k) fun d => d.eth[p].link = { s.dev.eth[p].link with runScript := none } ∧
      (own ≠ [] → d.remote.mdio = own.map fun w =>
        ⟨s.dev.rfld (Dev.ethReg p Reg.ETH0_CTRL) 28 24, fld w 20 16, true, Dev.boundWrite most (fld w 20 16) (w.setWidth 16)⟩) ∧
      (own = [] → k = .start → d.remote.mdio = []) ∧
      (own = [] → k ≠ .start → ∃ f rest, d.remote.mdio = f :: rest ∧ f.register = 0 ∧ f.write = true ∧
        f.phy = s.dev.rfld (Dev.ethReg p Reg.ETH0_CTRL) 28 24 ∧ f.data.getLsbD 8 = true ∧
        f.data.getLsbD 6 = decide (k = .to1000 ∧ 2 ≤ most) ∧
        f.data.getLsbD 13 = decide ((k = .to100 ∧ 1 ≤ most) ∨ (k = .to1000 ∧ most = 1)))) ∧
  (∀ s : State, s.dev.Awake → (∀ p : Fin 3, s.dev.rbit (Dev.ethReg p Reg.ETH0_CTRL) 4 = false) →
    s.Does .utilWindowEnd fun d => d = { s.dev with eth := d.eth } ∧
      ∀ p : Fin 3, d.eth[p] = { s.dev.eth[p] with
        link := { s.dev.eth[p].link with quietWindows := 0 },
        traffic := { s.dev.eth[p].traffic with rxBits := 0, txBits := 0 } }) ∧
  (∀ (p : Fin 3) (s : State), s.dev.Awake → s.dev.rbit (Dev.ethReg p Reg.ETH0_CTRL) 4 = true →
    s.dev.eth[p].link.state = .up → s.dev.eth[p].link.disabling = false → s.dev.eth[p].link.speed = 1 →
    s.dev.eth[p].link.easedSince = true → 5 * s.dev.rfld (Dev.ethReg p Reg.ETH0_EASE) 15 8 < s.dev.utilOf p →
    s.dev.easePermitted p = true → s.dev.sup.nvwInhibit = false →
    (∀ q : Fin 3, q ≠ p → s.dev.eth[q].link.state ≠ .easing ∧ s.dev.rbit (Dev.ethReg q Reg.ETH0_CTRL) 4 = false) →
    s.Does .utilWindowEnd fun d => d.eth[p].link.state = .easing ∧ d.eth[p].link.easeUp = true ∧
      d.eth[p].link.util = min 1000 (s.dev.utilOf p) ∧
      d.eth[p].link.runScript = some .to1000 ∧ d.rbit (Dev.ethReg p Reg.ETH0_IRQ_STATUS) 2 = true ∧
      d.eth[p].traffic.counters[(33 : Fin 40)] = (s.dev.eth[p].traffic.counters[(33 : Fin 40)] + 1) % 2 ^ 32 ∧
      d.eth[p].traffic.counters[(32 : Fin 40)] = s.dev.eth[p].traffic.counters[(32 : Fin 40)]) ∧
  (∀ (p : Fin 3) (s : State), s.dev.Awake → s.dev.eth[p].link.state ≠ .up → s.dev.eth[p].traffic.holding = true →
    s.Does (.linkHoldExpiry p) fun d => d.eth[p].traffic.queues[(3 : Fin 4)] = [] ∧ d.eth[p].traffic.holding = false ∧
      d.eth[p].traffic.counters[(27 : Fin 40)] =
        (s.dev.eth[p].traffic.counters[(27 : Fin 40)] + s.dev.eth[p].traffic.queues[(3 : Fin 4)].length) % 2 ^ 32 ∧
      d.eth[p].link = s.dev.eth[p].link)


/-- O42, tier 2. A received frame passes the checks in order, and one counter decides its fate. For every
ETH_FRAME_RECEIVE at a port that is not DOWN, or that left UP while the frame was being received: a receive
FIFO overflow, an incomplete, cut or short broken frame, a
destination that does not match, a bad FCS, a receive error, a length out of range, a disagreeing length
field, no descriptor or cell free, a double-bit cell error, and no consumer, taken in this order, each
count the frame in exactly the counter of their row and leave the receive ring; a PAUSE is counted as
delivered and changes no ring; every other frame is counted in RX_FRAMES_OK and RX_OCTETS and takes one
descriptor, with its cells and its VID, at the end of the ring. A port in DOWN takes nothing more. (R187, R188, R190, R191, Table 7.2,
Table 7.13) -/
def Obligations.ReceiveChecks : Prop :=
  (∀ (p : Fin 3) (f : RxFrame) (s : State), s.dev.Awake → (s.dev.eth[p].link.state ≠ .down ∨ f.departed = true) →
    let e := s.dev.eth[p]
    let c (k : Fin 40) : Nat := e.traffic.counters[k]
    let lengthField := f.etherType.toNat ≥ 46 ∧ f.etherType.toNat ≤ 1500
    let fate : Option (Fin 40) :=
      if f.fifoOverflow = true then some 17
      else if e.link.locked = false ∨ f.complete = false ∨ f.departed = true then some 12
      else if f.length < 64 ∧ f.fcsOk = false then some 12
      else if s.dev.destMatches p f.dest = false then some 15
      else if f.fcsOk = false then some 10
      else if f.rxEr = true then some 11
      else if f.length < 64 then some 13
      else if 1522 < f.length then some 14
      else if lengthField ∧ f.lengthAgrees = false then some 38
      else if e.traffic.rxSize ≤ e.traffic.rxRing.length then some 16
      else if 576 < s.dev.rxCells + (f.length + 255) / 256 then some 16
      else if (∃ c ∈ f.cells, c ∈ s.dev.arb.spoiled) then some 19
      else if f.etherType = 0x8808 ∧ f.macOpcode ≠ 1 then some 18
      else if f.etherType ≠ 0x8808 ∧ s.dev.consumerOf p f = none then some 18
      else none
    s.Does (.ethFrameReceive p f) fun d => match fate with
      | some k => d.eth[p].traffic.counters = e.traffic.counters.set k ((c k + 1) % 2 ^ 32) ∧
          d.eth[p].traffic.rxRing = e.traffic.rxRing ∧ d.eth[p].traffic.queues = e.traffic.queues
      | none => d.eth[p].traffic.counters[(0 : Fin 40)] = (c 0 + f.length) % 2 ^ 32 ∧
          d.eth[p].traffic.counters[(1 : Fin 40)] = (c 1 + 1) % 2 ^ 32 ∧
          (f.etherType = 0x8808 → d.eth[p].traffic.rxRing = e.traffic.rxRing) ∧
          (∀ x, f.etherType ≠ 0x8808 → s.dev.consumerOf p f = some x →
            d.eth[p].traffic.rxRing = e.traffic.rxRing ++ [⟨x, f.cells, f.vid⟩])) ∧
  (∀ (p : Fin 3) (f : RxFrame) (s : State), s.dev.eth[p].link.state = .down → f.departed = false →
    exec (.ethFrameReceive p f) s = .next s)


/-- O43, tier 1. Rings, queues, pause, addresses and the remote channel. RX_DESCRIPTOR_RELEASE frees the
oldest receive descriptor; TX_SUBMIT on a port in UP with room joins the end of its queue, at a full ring is
refused and counted, and on a port not UP a stream or control frame is discarded and counted and a
best-effort frame with room is held; TX_FRAME_START puts on the wire the oldest frame of the first queue
that may send, with none on the wire and no stop, and takes the time of a Pdelay_Req and sends the follow-up
of a Pdelay_Resp; TX_FRAME_DONE counts the frame; PAUSE_FRAME at a port not DOWN is counted and, where it is
obeyed, starts its stop, and PAUSE_EXPIRY ends the stop; ETH_MAC_HI_WRITE commits the address;
ETH_FILT_WRITE of a half of a filter entry excludes it until the other is written, and leaves an entry of
Ouvoso, with FILT_OWNED set; REMOTE_REQUEST from a listed source waits for a pass, one answered before gets
its answer again, and one from another source is counted. (R186, R191, R196, R197, R198, R200, R201, R205) -/
def Obligations.PortTransfers : Prop :=
  (∀ (p : Fin 3) (s : State), s.dev.Awake →
    s.Does (.rxDescriptorRelease p) fun d => d.eth[p].traffic.rxRing = s.dev.eth[p].traffic.rxRing.drop 1 ∧
      d = { s.dev with eth := d.eth } ∧ d.eth[p].link = s.dev.eth[p].link ∧ ∀ q : Fin 3, q ≠ p → d.eth[q] = s.dev.eth[q]) ∧
  (∀ (p : Fin 3) (f : TxFrame) (s : State), s.dev.Awake → s.dev.eth[p].link.state = .up →
    let t := s.dev.eth[p].traffic
    let full := t.txSize ≤ (Dev.PortTraffic.txFrames t).length ∨ 320 < s.dev.txCells + (f.length + 255) / 256
    s.Does (.txSubmit p f) fun d =>
      (¬ full → d.eth[p].traffic.queues[Dev.queueNo f.queue] = t.queues[Dev.queueNo f.queue] ++ [f]) ∧
      (full → d.eth[p].traffic.queues = t.queues ∧ d.rbit (Dev.ethReg p Reg.ETH0_IRQ_STATUS) 5 = true ∧
        d.eth[p].traffic.counters[(28 : Fin 40)] = (t.counters[(28 : Fin 40)] + 1) % 2 ^ 32)) ∧
  (∀ (p : Fin 3) (f : TxFrame) (s : State), s.dev.Awake → s.dev.eth[p].link.state ≠ .up → f.queue ≠ .bestEffort →
    s.Does (.txSubmit p f) fun d => d.eth[p].traffic.queues = s.dev.eth[p].traffic.queues ∧
      d.eth[p].traffic.counters[(if f.queue = .control then 31 else 26 : Fin 40)] =
        (s.dev.eth[p].traffic.counters[(if f.queue = .control then 31 else 26 : Fin 40)] + 1) % 2 ^ 32) ∧
  (∀ (p : Fin 3) (f : TxFrame) (s : State), s.dev.Awake → s.dev.eth[p].link.state ≠ .up → f.queue = .bestEffort →
    let t := s.dev.eth[p].traffic
    (Dev.PortTraffic.txFrames t).length < t.txSize → s.dev.txCells + (f.length + 255) / 256 ≤ 320 →
    s.Does (.txSubmit p f) fun d => d.eth[p].traffic.queues[(3 : Fin 4)] = t.queues[(3 : Fin 4)] ++ [f] ∧
      d.eth[p].traffic.holding = true) ∧
  (∀ (p : Fin 3) (q : Fin 4) (f : TxFrame) (rest : List TxFrame) (s : State), s.dev.Awake → s.dev.eth[p].link.state = .up →
    s.dev.eth[p].link.disabling = false → s.dev.eth[p].traffic.onWire = none → s.dev.eth[p].traffic.pauseQuanta = 0 →
    let t := s.dev.eth[p].traffic
    let sends (q : Fin 4) : Prop := t.queues[q] ≠ [] ∧ (q = 1 → 0 ≤ t.credit[(0 : Fin 2)]) ∧ (q = 2 → 0 ≤ t.credit[(1 : Fin 2)])
    t.queues[q] = f :: rest → sends q → (∀ k : Fin 4, k < q → ¬ sends k) →
    let left (k : Fin 4) : List TxFrame := if k = q then rest else t.queues[k]
    s.Does (.txFrameStart p) fun d => d.eth[p].traffic.onWire = some f ∧ d.eth[p].traffic.wireSource = s.dev.eth[p].mac ∧
      (∀ k : Fin 4, k ≠ 0 → d.eth[p].traffic.queues[k] = left k) ∧
      ((∀ n y, f.body ≠ .gptp (.pdelayResp n y)) → d.eth[p].traffic.queues[(0 : Fin 4)] = left 0) ∧
      (∀ n y, f.body = .gptp (.pdelayResp n y) → s.dev.txCells + 1 ≤ 320 → (Dev.PortTraffic.txFrames t).length < t.txSize →
        d.eth[p].traffic.queues[(0 : Fin 4)] = left 0 ++ [⟨.control, 72, none, 0x0180C200000E, 0x88F7,
          .gptp (.pdelayRespFollowUp n (s.dev.launchStamp p))⟩]) ∧
      (∀ n, f.body = .gptp (.pdelayReq n) → s.dev.gptp[p].pdelaySeq = n → d.gptp[p].reqSent = some (s.dev.launchStamp p))) ∧
  (∀ (p : Fin 3) (f : TxFrame) (s : State), s.dev.Awake → s.dev.eth[p].traffic.onWire = some f → s.dev.eth[p].link.disabling = false →
    s.Does (.txFrameDone p) fun d => d.eth[p].traffic.onWire = none ∧ d.eth[p].traffic.queues = s.dev.eth[p].traffic.queues ∧
      d.eth[p].traffic.counters[(20 : Fin 40)] = (s.dev.eth[p].traffic.counters[(20 : Fin 40)] + f.length) % 2 ^ 32 ∧
      d.eth[p].traffic.counters[(21 : Fin 40)] = (s.dev.eth[p].traffic.counters[(21 : Fin 40)] + 1) % 2 ^ 32) ∧
  (∀ (p : Fin 3) (n : U16) (s : State), s.dev.eth[p].link.state = .down → exec (.pauseFrame p n) s = .next s) ∧
  (∀ (p : Fin 3) (n : U16) (s : State), s.dev.Awake → s.dev.eth[p].link.state ≠ .down →
    s.Does (.pauseFrame p n) fun d =>
      d.eth[p].traffic.counters[(9 : Fin 40)] = (s.dev.eth[p].traffic.counters[(9 : Fin 40)] + 1) % 2 ^ 32 ∧
      (s.dev.rbit (Dev.ethReg p Reg.ETH0_CTRL) 2 = true → d.eth[p].traffic.pauseQuanta = n.toNat ∧
        d.rbit (Dev.ethReg p Reg.ETH0_IRQ_STATUS) 10 = true ∧
        d.eth[p].traffic.counters[(29 : Fin 40)] = (s.dev.eth[p].traffic.counters[(29 : Fin 40)] + n.toNat) % 2 ^ 32) ∧
      (s.dev.rbit (Dev.ethReg p Reg.ETH0_CTRL) 2 = false → d.eth[p].traffic.pauseQuanta = s.dev.eth[p].traffic.pauseQuanta)) ∧
  (∀ (p : Fin 3) (s : State), s.dev.Awake → s.Does (.pauseExpiry p) fun d => d.eth[p].traffic.pauseQuanta = 0 ∧
    d.eth[p].traffic.queues = s.dev.eth[p].traffic.queues ∧ d = { s.dev with eth := d.eth }) ∧
  (∀ (p : Fin 3) (w : Word) (s : State), s.dev.Writable → s.Does (.ethMacHiWrite p w) fun d =>
    d.eth[p].mac = BitVec.ofNat 48 (fld w 15 0 * 2 ^ 32 + (s.dev.reg (Dev.ethReg p Reg.ETH0_MAC_LO)).toNat) ∧
    d.eth[p].traffic = s.dev.eth[p].traffic ∧ d.eth[p].filters = s.dev.eth[p].filters) ∧
  (∀ (p : Fin 3) (k : Fin 8) (high : Bool) (w : Word) (s : State), s.dev.Writable →
    s.dev.rfld (Dev.ethReg p Reg.ETH0_FILT_SEL) 2 0 = k.val →
    let f := s.dev.eth[p].filters[k]
    s.Does (.ethFiltWrite p high w) fun d =>
      (f.users = [] → high = false → d.eth[p].filters[k] = { f with lo := w, loHalf := !f.hiHalf, hiHalf := false }) ∧
      (f.users = [] → high = true → d.eth[p].filters[k] = { f with
        hi := w.setWidth 16, valid := w.getLsbD 16, loHalf := false, hiHalf := w.getLsbD 16 && !f.loHalf }) ∧
      (f.users ≠ [] → d.eth[p].filters[k] = f ∧ d.rbit (Dev.ethReg p Reg.ETH0_IRQ_STATUS) 8 = true) ∧
      ∀ j : Fin 8, j ≠ k → d.eth[p].filters[j] = s.dev.eth[p].filters[j]) ∧
  (∀ (p : Fin 3) (f : RemoteFrame) (s : State), s.dev.Awake → s.dev.rbit (Dev.ethReg p Reg.ETH0_CTRL) 5 = true → f.version = 1 →
    (f.source ∈ s.dev.remote.allow → s.dev.remoteCached f.source f.seq = none → s.dev.remote.waiting.length < 4 →
      exec (.remoteRequest p f) s = .next { s with dev := { s.dev with remote := { s.dev.remote with
        waiting := s.dev.remote.waiting ++ [⟨p, f.source, f.seq, ⟨f.opcode, f.request⟩⟩] } } }) ∧
    (∀ c, f.source ∈ s.dev.remote.allow → s.dev.remoteCached f.source f.seq = some c →
      exec (.remoteRequest p f) s = .next { s with dev := s.dev.remoteSend p f.source f.seq c.response }) ∧
    (f.source ∉ s.dev.remote.allow → exec (.remoteRequest p f) s = .next { s with dev := s.dev.count p 37 }))


/-- O44, tier 1. The port commands. ETH_PORT_STATUS answers the status word, the time in the
state, the losses and the ring depths; ETH_PORT_SETUP of a port not enabled, within the ring budgets, sets
the ring sizes, the control word and the latencies, and a port it enables leaves DOWN; ETH_PORT_DISABLE
answers a DOWN port at once and otherwise waits for PORT_IDLE; ETH_EASE_SET stores EASE_EN and the
thresholds, clamped; ETH_MDIO drives one frame and answers its data; ETH_PHY_SCRIPT replaces a script;
ETH_REMOTE_SET the allow list; ETH_BAD_FRAMES answers a kept frame's flags, length and first 128 bytes, and
33 words of 0 for none. A port number of 3 is refused with BAD_PARAM. (R190, R191, R192, R193, R203, R206, Table 7.15) -/
def Obligations.PortCommands : Prop :=
  (∀ (src : Source) (req : Request) (p : Fin 3) (s : State), s.dev.TakesUp src 0x0401 req → req.fld 8 1 0 = p.val →
    ∃ l, exec (.ethPortStatus src req) s = .next (s.okay src 0x0401 req s.dev l) ∧ l.length = 6 ∧ l.getD 0 0 = s.dev.ethStatus p ∧
      l.getD 2 0 = w32 (min 0xFFFFFFFF ((s.dev.cc - s.dev.eth[p].link.since) / 500000)) ∧
      l.getD 3 0 = w32 s.dev.eth[p].traffic.counters[(32 : Fin 40)] ∧ l.getD 4 0 = w32 s.dev.eth[p].traffic.counters[(33 : Fin 40)] ∧
      l.getD 5 0 = (at' 0 s.dev.eth[p].traffic.rxRing.length ||| at' 16 (Dev.PortTraffic.txFrames s.dev.eth[p].traffic).length)) ∧
  (∀ (src : Source) (req : Request) (s : State), req.fld 8 1 0 = 3 → (req.persist = false ∨ s.dev.flashPermitted = true) →
    let bad (op : Nat) : State :=
      { s with dev := Dev.answer (s.dev.refused op req.tag Status.badParam.code 8 []) src }
    (s.dev.TakesUp src 0x0401 req → exec (.ethPortStatus src req) s = .next (bad 0x0401)) ∧
    (s.dev.TakesUp src 0x0402 req → exec (.ethPortSetup src req) s = .next (bad 0x0402)) ∧
    (s.dev.TakesUp src 0x0403 req → exec (.ethPortDisable src req) s = .next (bad 0x0403)) ∧
    (s.dev.TakesUp src 0x0404 req → exec (.ethEaseSet src req) s = .next (bad 0x0404)) ∧
    (s.dev.TakesUp src 0x0406 req → exec (.ethPhyScript src req) s = .next (bad 0x0406)) ∧
    (s.dev.TakesUp src 0x0408 req → exec (.ethBadFrames src req) s = .next (bad 0x0408))) ∧
  (∀ (src : Source) (req : Request) (p : Fin 3) (s : State), s.dev.TakesUp src 0x0402 req → req.fld 8 1 0 = p.val →
    (req.persist = false ∨ s.dev.flashPermitted = true) → s.dev.ethEnabled p = false →
    (req.fld 8 9 8 < 2 ∨ s.dev.sup.ioeMode ≠ 3) →
    let rx := clampN 16 256 (req.fld 0x10 8 0)
    let tx := clampN 16 256 (req.fld 0x10 24 16)
    (((allFin 3).map fun q => if q = p then rx else s.dev.eth[q].traffic.rxSize).sum ≤ 256) →
    (((allFin 3).map fun q => if q = p then tx else s.dev.eth[q].traffic.txSize).sum ≤ 256) →
    ∃ d, exec (.ethPortSetup src req) s = .next (s.okay src 0x0402 req d [] (Dev.keptAs req (0x0410 + p.val))) ∧
      d.eth[p].traffic.rxSize = rx ∧ d.eth[p].traffic.txSize = tx ∧
      d.eth[p].link.state = (if req.bit 8 24 = true ∧ s.dev.eth[p].link.state = .down ∧ s.dev.sup.vddioFault = false
        then LinkState.training else s.dev.eth[p].link.state) ∧
      d.eth[p].link.rxLatency = req.fld 0x18 15 0 ∧ d.eth[p].link.txLatency = req.fld 0x18 31 16 ∧
      let a := Dev.ethReg p Reg.ETH0_CTRL
      d.rbit a 0 = req.bit 8 24 ∧ d.rbit a 1 = req.bit 8 16 ∧ d.rbit a 2 = req.bit 8 17 ∧ d.rbit a 3 = req.bit 8 18 ∧
      d.rbit a 4 = s.dev.rbit a 4 ∧ d.rbit a 5 = req.bit 8 19 ∧ d.rfld a 9 8 = min 2 (req.fld 8 9 8) ∧
      d.rfld a 15 10 = req.fld 0x0C 21 16 ∧ d.rfld a 22 16 = min 64 (req.fld 0x0C 14 8) ∧ d.rfld a 28 24 = req.fld 0x0C 4 0) ∧
  (∀ (src : Source) (req : Request) (p : Fin 3) (s : State), s.dev.TakesUp src 0x0403 req → req.fld 8 1 0 = p.val →
    (s.dev.eth[p].link.state = .down →
      exec (.ethPortDisable src req) s = .next (s.okay src 0x0403 req (s.dev.portDisable p))) ∧
    (s.dev.eth[p].link.state ≠ .down → s.Does (.ethPortDisable src req) fun d => d.eth[p].link.disabling = true ∧
      d.eth[p].link.disableReply = some (src, req.tag) ∧ d.rbit (Dev.ethReg p Reg.ETH0_CTRL) 0 = false)) ∧
  (∀ (src : Source) (req : Request) (p : Fin 3) (s : State), s.dev.TakesUp src 0x0404 req → req.fld 8 1 0 = p.val →
    (req.persist = false ∨ s.dev.flashPermitted = true) →
    ∃ d, exec (.ethEaseSet src req) s = .next (s.okay src 0x0404 req d [] (Dev.keptAs req (0x0420 + p.val))) ∧
      d.rbit (Dev.ethReg p Reg.ETH0_CTRL) 4 = req.bit 8 8 ∧
      d.rfld (Dev.ethReg p Reg.ETH0_EASE) 7 0 = clampN 10 200 (req.fld 0x0C 7 0) ∧
      d.rfld (Dev.ethReg p Reg.ETH0_EASE) 15 8 = clampN 40 180 (req.fld 0x0C 15 8) ∧
      d.rfld (Dev.ethReg p Reg.ETH0_EASE) 23 16 = clampN 1 255 (req.fld 0x0C 23 16) ∧
      d.rfld (Dev.ethReg p Reg.ETH0_EASE) 31 24 = clampN 0 250 (req.fld 0x0C 31 24) ∧
      d.rfld (Dev.ethReg p Reg.ETH0_RETRAIN) 9 0 = clampN 10 1000 (req.fld 0x10 9 0)) ∧
  (∀ (src : Source) (req : Request) (back : U16) (s : State), s.dev.TakesUp src 0x0405 req →
    let data : U16 := if req.bit 8 16 then BitVec.ofNat 16 (req.fld 0x0C 15 0) else back
    exec (.ethMdio src req back) s = .next (s.okay src 0x0405 req { s.dev with remote := { s.dev.remote with
      mdio := [⟨req.fld 8 4 0, req.fld 8 12 8, req.bit 8 16, data⟩] } } [data.setWidth 32])) ∧
  (∀ (src : Source) (req : Request) (p k : Fin 3) (s : State), s.dev.TakesUp src 0x0406 req → req.fld 8 1 0 = p.val →
    req.fld 8 9 8 = k.val → (req.persist = false ∨ s.dev.flashPermitted = true) →
    ∃ d, exec (.ethPhyScript src req) s = .next (s.okay src 0x0406 req d [] (Dev.keptAs req (0x0430 + 4 * p.val + k.val))) ∧
      d.eth[p].link = { s.dev.eth[p].link with
        scripts := upd s.dev.eth[p].link.scripts k fun _ => (req.payload.drop 1).take ((req.length - 4) / 4) }) ∧
  (∀ (src : Source) (req : Request) (s : State), s.dev.TakesUp src 0x0407 req → (req.word 8).toNat ≤ 4 →
    (req.persist = false ∨ s.dev.flashPermitted = true) →
    let allow := (List.range (req.word 8).toNat).map fun k =>
      BitVec.ofNat 48 (beNat ((wordBytes [req.word (0x0C + 8 * k), req.word (0x10 + 8 * k)]).take 6))
    exec (.ethRemoteSet src req) s = .next (s.okay src 0x0407 req
      { s.dev with remote := { s.dev.remote with allow := allow } } [] (Dev.keptAs req 0x0440))) ∧
  (∀ (src : Source) (req : Request) (p : Fin 3) (s : State), s.dev.TakesUp src 0x0408 req → req.fld 8 1 0 = p.val →
    ∃ l, exec (.ethBadFrames src req) s = .next (s.okay src 0x0408 req s.dev l) ∧
      (∀ b, s.dev.eth[p].traffic.badFrames[req.fld 8 9 8]? = some b → b.head.length ≤ 128 → l.length = 33 ∧
        l = (at' 0 b.flags ||| at' 16 b.length) :: packWords (b.head ++ List.replicate (128 - b.head.length) 0)) ∧
      (s.dev.eth[p].traffic.badFrames[req.fld 8 9 8]? = none → l = List.replicate 33 0))


/-- O45, tier 1. What 802.1AS messages, timeouts and the gPTP commands change. GPTP_MESSAGE changes nothing
where no instance runs or the domain is not 0. On a running instance an Announce with stepsRemoved below 255
gives the SlavePort role and the grandmaster, and a changed grandmaster of a slave is a loss of the port's
reference; a Sync keeps its interval and the time of its receipt, and with its Follow_Up, or alone where it
is one-step, the grandmaster's time and the rate ratio; a Pdelay_Req is answered through the control queue
with the time of its receipt; the two messages of a response give, with the times of the request and of the
receipt, the delay, and asCapable by the threshold; Signaling sets the message intervals.
SYNC_RECEIPT_TIMEOUT is a loss of the reference; ANNOUNCE_RECEIPT_TIMEOUT ends the role; PDELAY_REQ_SEND
sends the next request, counts the last lost if none answered, and ends asCapable beyond the allowed number.
GPTP_SET stores its fields, clamped; GPTP_STATUS answers eight words. The rules of 802.1AS that the manual
only names are the model's (log entry 90). (R207, R208, R209, R229, Table 6.1, Table 8.8) -/
def Obligations.GptpRows : Prop :=
  let becomes (p : Fin 3) (ago : Nat) (m : GptpMessage) (s : State) (f : Gptp → Gptp) : Prop :=
    exec (.gptpMessage p 0 ago m) s = .next { s with dev := { s.dev with gptp := upd s.dev.gptp p f } }
  let told (t : Int) (info : SyncInfo) (g : Gptp) : Gptp :=
    { g with syncRecv := none, lastSync := some (t, info.origin),
             gmRatio := narrow (info.scaledRate * 10 ^ 12) (2 ^ 41) + g.neighborRatio }
  (∀ (p : Fin 3) (dom ago : Nat) (m : GptpMessage) (s : State), s.dev.gptpRuns p = false ∨ dom ≠ 0 →
    exec (.gptpMessage p dom ago m) s = .next s) ∧
  (∀ (p : Fin 3) (ago : Nat) (gm : U64) (n : Nat) (s : State), s.dev.Awake → s.dev.gptpRuns p = true → n < 255 →
    s.Does (.gptpMessage p 0 ago (.announce gm n)) fun d => d.gptp[p].role = .slave ∧ d.gptp[p].grandmaster = gm ∧
      d.gptp[p].steps = n ∧ d.gptp[p].asCapable = s.dev.gptp[p].asCapable ∧
      (s.dev.gptp[p].role = .slave → s.dev.gptp[p].grandmaster ≠ gm → d.ks.refs[(Dev.portEntry p : Fin 8)].lost = true)) ∧
  (∀ (p : Fin 3) (ago : Nat) (li : Int) (info : SyncInfo) (s : State), s.dev.Awake → s.dev.gptpRuns p = true →
    let t := s.dev.receiptStamp p ago
    becomes p ago (.sync li none) s (fun g => { g with logSync := li, syncRecv := some t }) ∧
    becomes p ago (.sync li (some info)) s (fun g => told t info { g with logSync := li })) ∧
  (∀ (p : Fin 3) (ago : Nat) (t : Int) (info : SyncInfo) (s : State), s.dev.Awake → s.dev.gptpRuns p = true →
    s.dev.gptp[p].syncRecv = some t → becomes p ago (.followUp info) s (told t info)) ∧
  (∀ (p : Fin 3) (ago : Nat) (n : U16) (s : State), s.dev.Awake → s.dev.gptpRuns p = true →
    let answer : TxFrame :=
      ⟨.control, 72, none, 0x0180C200000E, 0x88F7, .gptp (.pdelayResp n (s.dev.receiptStamp p ago))⟩
    exec (.gptpMessage p 0 ago (.pdelayReq n)) s = .next { s with dev := s.dev.submit p answer }) ∧
  (∀ (p : Fin 3) (ago : Nat) (n : U16) (peer : Int) (s : State), s.dev.Awake → s.dev.gptpRuns p = true →
    s.dev.gptp[p].awaiting = true → s.dev.gptp[p].pdelaySeq = n →
    becomes p ago (.pdelayResp n peer) s (fun g => { g with respRecv := some (s.dev.receiptStamp p ago, peer) })) ∧
  (∀ (p : Fin 3) (ago : Nat) (n : U16) (origin sent back peer : Int) (s : State), s.dev.Awake → s.dev.gptpRuns p = true →
    s.dev.gptp[p].awaiting = true → s.dev.gptp[p].pdelaySeq = n → s.dev.gptp[p].reqSent = some sent →
    s.dev.gptp[p].respRecv = some (back, peer) →
    s.Does (.gptpMessage p 0 ago (.pdelayRespFollowUp n origin)) fun d =>
      let ratio := d.gptp[p].neighborRatio
      let delay := narrow (((10 ^ 12 + ratio) * (back - sent) - 10 ^ 12 * (origin - peer)) * 1000) (2 * 10 ^ 12 * 65536)
      (s.dev.gptp[p].exchange = none → ratio = s.dev.gptp[p].neighborRatio) ∧
      d.gptp[p] = { s.dev.gptp[p] with
        delayPs := delay, neighborRatio := ratio, measuring := true, exchange := some (origin, back), awaiting := false,
        reqSent := none, respRecv := none, lostResponses := 0,
        asCapable := decide (delay ≤ 1000 * s.dev.gptp[p].delayThresh) }) ∧
  (∀ (p : Fin 3) (ago : Nat) (x y : Int) (s : State), s.dev.Awake → s.dev.gptpRuns p = true →
    becomes p ago (.signaling x y) s (fun g => { g with
      logPdelay := if x = -128 then g.logPdelay else if x = 126 then g.initLogPdelay else x,
      logSync := if y = -128 then g.logSync else if y = 126 then Dev.initLogSync else y })) ∧
  (∀ (p : Fin 3) (s : State), s.dev.Awake → s.dev.gptpRuns p = true →
    s.Does (.syncReceiptTimeout p) fun d => d.ks.refs[(Dev.portEntry p : Fin 8)].lost = true ∧ d.gptp = s.dev.gptp) ∧
  (∀ (p : Fin 3) (s : State), s.dev.Awake → s.dev.gptpRuns p = true →
    s.Does (.announceReceiptTimeout p) fun d => d.gptp[p] = { s.dev.gptp[p] with role := .none }) ∧
  (∀ (p : Fin 3) (s : State), s.dev.Awake → s.dev.gptpRuns p = true → s.dev.gptp[p].logPdelay ≠ 127 →
    let lost := if s.dev.gptp[p].awaiting then satInc 255 s.dev.gptp[p].lostResponses else s.dev.gptp[p].lostResponses
    s.Does (.pdelayReqSend p) fun d => d.gptp[p].awaiting = true ∧ d.gptp[p].lostResponses = lost ∧
      d.gptp[p].pdelaySeq = s.dev.gptp[p].pdelaySeq + 1 ∧
      d.eth = (s.dev.submit p ⟨.control, 72, none, 0x0180C200000E, 0x88F7,
        .gptp (.pdelayReq (s.dev.gptp[p].pdelaySeq + 1))⟩).eth ∧
      (s.dev.gptp[p].allowedLost < lost → d.gptp[p].asCapable = false ∧ d.gptp[p].measuring = false) ∧
      (lost ≤ s.dev.gptp[p].allowedLost → d.gptp[p].asCapable = s.dev.gptp[p].asCapable)) ∧
  (∀ (src : Source) (req : Request) (p : Fin 3) (s : State), s.dev.TakesUp src 0x0508 req → req.fld 8 1 0 = p.val →
    (req.persist = false ∨ s.dev.flashPermitted = true) →
    ∃ d, exec (.gptpSet src req) s = .next (s.okay src 0x0508 req d [] (Dev.keptAs req (0x0520 + p.val))) ∧
      d.gptp[p].enable = req.bit 8 8 ∧ (req.bit 8 8 = true → d.gptp[p].role ≠ .disabled) ∧
      (req.bit 8 8 = false → s.dev.gptp[p].enable = true → d.gptp[p].role = .disabled) ∧
      d.gptp[p].logPdelay = clampI (-3) 3 (fldS (req.word 0x10) 7 0) ∧ d.gptp[p].delayThresh = req.fld 0x0C 15 0 ∧
      d.gptp[p].allowedLost = clampN 1 255 (req.fld 0x0C 23 16) ∧ d.gptp[p].syncTimeout = clampN 2 255 (req.fld 0x10 15 8) ∧
      d.gptp[p].announceTimeout = clampN 2 255 (req.fld 0x10 23 16)) ∧
  (∀ (src : Source) (req : Request) (p : Fin 3) (s : State), s.dev.TakesUp src 0x0509 req → req.fld 8 1 0 = p.val →
    ∃ l, exec (.gptpStatus src req) s = .next (s.okay src 0x0509 req s.dev l) ∧ l.length = 8 ∧
      l.getD 1 0 = i32 s.dev.gptp[p].delayPs ∧ l.getD 2 0 = i32 s.dev.gptp[p].neighborRatio ∧
      l.getD 3 0 = i32 s.dev.gptp[p].gmRatio ∧ (l.getD 0 0).getLsbD 4 = s.dev.gptp[p].asCapable)


/-- O46, tier 2. How a listener judges a frame. For every AAF_FRAME of a set-up stream that is not IDLE:
with TIME_VALID 0 it counts in NO_TIME, of a CRF stream in FORMAT_MISMATCH, without a valid timestamp in
TS_INVALID, and where it does not fit Table 8.2 in FORMAT_MISMATCH, and none of these fills a position; one
that fits, its presentation time corrected by Lintel and the ride, counts in exactly one of LATE, EARLY,
DUPLICATE, OVERLAP and ACCEPTED, and fills exactly the positions of its samples not yet filled in the last
two cases and none in the others; the runs of the faults of 64 frames grow and end with it. A frame of an
unknown stream counts at its port alone. A CRF_FRAME of a CRF stream that is valid counts and feeds its
slot; one marked uncertain is a loss of the slot's reference; one that is not valid, or of an AAF stream,
counts in FORMAT_MISMATCH. (R210, R211, R212, R213, R217, R228, Table 8.2) -/
def Obligations.FrameJudgement : Prop :=
  (∀ (f : AafFrame) (s : State), s.dev.Awake → s.dev.listenerOf f.port f.streamId = none →
    exec (.aafFrame f) s = .next { s with dev := { s.dev with streams := { s.dev.streams with
      unknown := upd s.dev.streams.unknown f.port (wrapInc 32) } } }) ∧
  (∀ (f : CrfFrame) (s : State), s.dev.Awake → s.dev.listenerOf f.port f.streamId = none →
    exec (.crfFrame f) s = .next { s with dev := { s.dev with streams := { s.dev.streams with
      unknown := upd s.dev.streams.unknown f.port (wrapInc 32) } } }) ∧
  (∀ (f : AafFrame) (i : Fin 16) (x : ListenerSetup) (s : State), s.dev.Awake → s.dev.listenerOf f.port f.streamId = some i →
    s.dev.streams.listeners[i].setup = some x → s.dev.streams.listeners[i].state ≠ .idle →
    let l := s.dev.streams.listeners[i]
    let c := l.counts
    let mismatched (d : Dev) : Prop := d.streams.listeners[i] = { l with
      lateRun := 0, mismatchRun := l.mismatchRun + 1, counts := { c with mismatch := wrapInc 32 c.mismatch } }
    (s.dev.ks.timeValid = false → s.Does (.aafFrame f) fun d =>
      d.streams.listeners[i] = { l with lateRun := 0, mismatchRun := 0, counts := { c with noTime := wrapInc 32 c.noTime } }) ∧
    (s.dev.ks.timeValid = true → x.crf = true → s.Does (.aafFrame f) mismatched) ∧
    (s.dev.ks.timeValid = true → x.crf = false → f.tv = false → s.Does (.aafFrame f) fun d =>
      d.streams.listeners[i] = { l with lateRun := 0, mismatchRun := 0, counts := { c with tsInvalid := wrapInc 32 c.tsInvalid } }) ∧
    (s.dev.ks.timeValid = true → x.crf = false → f.tv = true → s.dev.aafFits x f = false → s.Does (.aafFrame f) mismatched) ∧
    (s.dev.ks.timeValid = true → x.crf = false → f.tv = true → s.dev.aafFits x f = true →
      let samples := Dev.aafSamples x.channels (Dev.sampleBytes x.format) f.data
      let first : Int := 1000 * (Dev.extendStamp s.dev.now f.timestamp.toNat + s.dev.correctionOf i + 1000000 * x.rideMs)
      let last := Dev.laterPs s.dev.fs l.rate first (samples.length - 1)
      let pos := Dev.firstPos s.dev.fs l first
      let late := (first - s.dev.nowPs) * s.dev.fs < 4 * 10 ^ 12 ∨ ∃ q ∈ l.inspected, pos ≤ q
      let early := ¬ late ∧ 64 * 10 ^ 12 < (last - s.dev.nowPs - 1000000 * x.mttUs - 1000000000 * x.rideMs) * s.dev.fs
      let frame := (List.range samples.length).map fun (k : Nat) =>
        (⟨pos + k, Dev.laterPs s.dev.fs l.rate first k, samples.getD k []⟩ : FilledPos)
      let news := frame.filter fun p => (Dev.filledAt l p.pos).isNone
      s.Does (.aafFrame f) fun d =>
        let e := d.streams.listeners[i]
        e.counts.tsUncertain = (if f.tu then wrapInc 32 c.tsUncertain else c.tsUncertain) ∧
        (late → e.counts.late = wrapInc 32 c.late ∧ e.counts.early = c.early) ∧
        (early → e.counts.early = wrapInc 32 c.early ∧ e.counts.late = c.late) ∧
        (late ∨ early → e.filled = l.filled ∧ e.counts.duplicates = c.duplicates ∧ e.counts.overlaps = c.overlaps ∧
          e.counts.accepted = c.accepted ∧ e.lead = l.lead ∧ e.lateRun = l.lateRun + 1 ∧ e.mismatchRun = 0) ∧
        (¬ late → ¬ early → e.counts.late = c.late ∧ e.counts.early = c.early ∧ e.lateRun = 0 ∧ e.mismatchRun = 0 ∧
          e.filled = l.filled ++ news ∧
          e.counts.duplicates = (if news = [] then wrapInc 32 c.duplicates else c.duplicates) ∧
          e.counts.overlaps = (if news ≠ [] ∧ news.length < frame.length then wrapInc 32 c.overlaps else c.overlaps) ∧
          e.counts.accepted = (if news ≠ [] ∧ frame.length ≤ news.length then wrapInc 32 c.accepted else c.accepted) ∧
          (news ≠ [] → e.anchor = some (pos, first) ∧ e.lead = (first - s.dev.nowPs) / 1000 ∧ e.lastSeq = some f.seq)))) ∧
  (∀ (f : CrfFrame) (i : Fin 16) (x : ListenerSetup) (s : State), s.dev.Awake → s.dev.listenerOf f.port f.streamId = some i →
    s.dev.streams.listeners[i].setup = some x → s.dev.streams.listeners[i].state ≠ .idle →
    let c := s.dev.streams.listeners[i].counts
    let fits := x.crf = true ∧ f.type = 1 ∧ f.pull = 0 ∧ Dev.crfBaseOk s.dev.ks.rate f.baseHz = true ∧ f.interval ≠ 0 ∧
      1 ≤ f.stamps.length ∧ f.stamps.length ≤ 16
    let slot : Fin 2 := if x.slotB then 1 else 0
    let entry : Fin 8 := if x.slotB then 4 else 3
    s.Does (.crfFrame f) fun d =>
      (¬ fits → d.streams.listeners[i].counts = { c with mismatch := wrapInc 32 c.mismatch } ∧ d.ks = s.dev.ks) ∧
      (fits → d.streams.listeners[i].counts.accepted = wrapInc 32 c.accepted) ∧
      (fits → f.tu = false → d.streams.crfFrames[slot] = s.dev.streams.crfFrames[slot] + 1 ∧ d.ks.refs[entry].present = true ∧
        d.ks.refs[entry].lost = s.dev.ks.refs[entry].lost) ∧
      (fits → f.tu = true → d.streams.crfFrames[slot] = 0 ∧ d.ks.refs[entry].lost = true))


/-- O47, tier 2. The states a listener and a talker pass through. LISTENER_START_PLAY of a waiting listener whose
start time has come, with TIME_VALID, its rate in range and an accepted sample at the readout, plays, ramping
up; LISTENER_STARVED of one with 64 positions unfilled in a row starves, or waits where a cause of WAITING had
come, and LISTENER_RESUME resumes as an accepted sample is at the readout; TALKER_START_SEND of a waiting
talker whose start time has come, with TIME_VALID for a timed one, sends, its next frame toggling mr;
STOP_TIME_REACHED starts the stop of a stream with output, with no ramp from WAITING, and waits while
TIME_VALID is 0; STOP_RAMP_END with the ramp at zero returns it to IDLE with its region released, and before
that changes nothing; STREAM_FAULT of kind RATE, with the rate out of range, ramps a playing listener down to
WAITING, and TIMEBASE and FORMAT are told once; RATE_RECOVERED ends the fault with the rate in range;
STREAM_AUTOSTART waits for TIME_VALID, and then starts the CRF listeners with AUTOSTART and none without;
TALKER_FRAME_SEND submits the oldest frame gathered whole, stamped with the edge of its first sample and the
presentation time, and counts it as discarded where the port is not UP. (R215, R217, R219, R220, R222, R223,
R226, R228, Table 8.4) -/
def Obligations.StreamStates : Prop :=
  (∀ (i : Fin 16) (s : State), s.dev.Awake → s.dev.streams.listeners[i].state = .waiting → s.dev.ks.timeValid = true →
    s.dev.streams.listeners[i].rateBad = false → (∀ t, s.dev.streams.listeners[i].startAt = some t → t ≤ s.dev.now) →
    (s.dev.atReadout i).isSome = true →
    s.Does (.listenerStartPlay i) fun d => d.streams.listeners[i] = { s.dev.streams.listeners[i] with
      startAt := none, gain := 0, target := 64, unfilledRun := 0, playFrom := s.dev.atReadout i, state := .playing,
      reason := 2 } ∧
      ∀ j : Fin 16, j ≠ i → d.streams.listeners[j] = s.dev.streams.listeners[j]) ∧
  (∀ (i : Fin 16) (s : State), s.dev.Awake → s.dev.streams.listeners[i].state = .playing →
    64 ≤ s.dev.streams.listeners[i].unfilledRun →
    s.Does (.listenerStarved i) fun d =>
      (s.dev.streams.listeners[i].leaving = none → d.streams.listeners[i] = { s.dev.streams.listeners[i] with
        gain := 0, target := 0, state := .starved, reason := 3 }) ∧
      (∀ k, s.dev.streams.listeners[i].leaving = some k →
        d.streams.listeners[i].state = .waiting ∧ d.streams.listeners[i].reason = k ∧ d.streams.listeners[i].gain = 0)) ∧
  (∀ (i : Fin 16) (s : State), s.dev.Awake → s.dev.streams.listeners[i].state = .starved → (s.dev.atReadout i).isSome = true →
    s.Does (.listenerResume i) fun d => d.streams.listeners[i] = { s.dev.streams.listeners[i] with
      gain := 0, target := 64, unfilledRun := 0, state := .playing, reason := 2 }) ∧
  (∀ (i : Fin 16) (s : State), s.dev.atReadout i = none →
    exec (.listenerStartPlay i) s = .next s ∧ exec (.listenerResume i) s = .next s) ∧
  (∀ (i : Fin 8) (s : State), s.dev.Awake → s.dev.streams.talkers[i].state = .waiting →
    (∀ t, s.dev.streams.talkers[i].startAt = some t → t ≤ s.dev.now ∧ s.dev.ks.timeValid = true) →
    s.Does (.talkerStartSend i) fun d => d.streams.talkers[i] = { s.dev.streams.talkers[i] with
      startAt := none, toggle := true, gain := 64, state := .sending, reason := 1 }) ∧
  (∀ (i : Fin 16) (t : Nat) (s : State), s.dev.Awake → s.dev.streams.listeners[i].group = none →
    s.dev.streams.listeners[i].stopAt = some t → t ≤ s.dev.now →
    (s.dev.ks.timeValid = false → exec (.stopTimeReached false i) s = .next s) ∧
    (s.dev.ks.timeValid = true → s.Does (.stopTimeReached false i) fun d =>
      (s.dev.streams.listeners[i].state = .waiting → d.streams.listeners[i].state = .idle ∧ d.streams.listeners[i].filled = []) ∧
      (s.dev.streams.listeners[i].state = .playing ∨ s.dev.streams.listeners[i].state = .starved →
        d.streams.listeners[i] = { s.dev.streams.listeners[i] with
          stopAt := none, target := 0, leaving := none, state := .stopping, reason := 7 }))) ∧
  (∀ (i : Fin 16) (h : i.val < 8) (t : Nat) (s : State), s.dev.Awake → s.dev.ks.timeValid = true →
    s.dev.streams.talkers[(⟨i.val, h⟩ : Fin 8)].stopAt = some t → t ≤ s.dev.now →
    s.Does (.stopTimeReached true i) fun d =>
      (s.dev.streams.talkers[(⟨i.val, h⟩ : Fin 8)].state = .waiting →
        d.streams.talkers[(⟨i.val, h⟩ : Fin 8)].state = .idle) ∧
      (s.dev.streams.talkers[(⟨i.val, h⟩ : Fin 8)].state = .sending → d.streams.talkers[(⟨i.val, h⟩ : Fin 8)] =
        { s.dev.streams.talkers[(⟨i.val, h⟩ : Fin 8)] with stopAt := none, state := .stopping, reason := 7 })) ∧
  (∀ (i : Fin 16) (s : State), s.dev.Awake → s.dev.streams.listeners[i].state = .stopping →
    (s.dev.streams.listeners[i].gain = 0 →
      s.Does (.stopRampEnd false i) fun d => d.streams.listeners[i].state = .idle ∧ d.streams.listeners[i].filled = [] ∧
        (∀ a ∈ d.streams.mortar, a.owner ≠ .listener i) ∧
        ∀ a ∈ s.dev.streams.mortar, a.owner ≠ .listener i → a ∈ d.streams.mortar) ∧
    (s.dev.streams.listeners[i].gain ≠ 0 → exec (.stopRampEnd false i) s = .next s)) ∧
  (∀ (i : Fin 16) (h : i.val < 8) (s : State), s.dev.Awake → s.dev.streams.talkers[(⟨i.val, h⟩ : Fin 8)].state = .stopping →
    (s.dev.streams.talkers[(⟨i.val, h⟩ : Fin 8)].gain = 0 → s.Does (.stopRampEnd true i) fun d =>
      d.streams.talkers[(⟨i.val, h⟩ : Fin 8)].state = .idle ∧ d.streams.talkers[(⟨i.val, h⟩ : Fin 8)].ready = []) ∧
    (s.dev.streams.talkers[(⟨i.val, h⟩ : Fin 8)].gain ≠ 0 → exec (.stopRampEnd true i) s = .next s)) ∧
  (∀ (i : Fin 16) (s : State), s.dev.Awake → s.dev.streams.listeners[i].state = .playing → s.dev.streams.listeners[i].rateBad = false →
    300000000 < s.dev.streams.listeners[i].rate.natAbs →
    s.Does (.streamFault i 0) fun d => d.streams.listeners[i].rateBad = true ∧
      (0 < s.dev.streams.listeners[i].gain → d.streams.listeners[i] = { s.dev.streams.listeners[i] with
        rateBad := true, target := 0, leaving := some 6 }) ∧
      (s.dev.streams.listeners[i].gain = 0 → d.streams.listeners[i].state = .waiting ∧ d.streams.listeners[i].reason = 6)) ∧
  (∀ (i : Fin 16) (s : State), s.dev.Awake →
    (64 ≤ s.dev.streams.listeners[i].lateRun → s.dev.streams.listeners[i].toldTimebase = false →
      s.Does (.streamFault i 1) fun d => d.streams.listeners[i] = { s.dev.streams.listeners[i] with toldTimebase := true }) ∧
    (64 ≤ s.dev.streams.listeners[i].mismatchRun → s.dev.streams.listeners[i].toldFormat = false →
      s.Does (.streamFault i 2) fun d => d.streams.listeners[i] = { s.dev.streams.listeners[i] with toldFormat := true })) ∧
  (∀ (i : Fin 16) (s : State), s.dev.Awake →
    exec (.rateRecovered i) s = .next { s with dev := { s.dev with streams := { s.dev.streams with
      listeners := upd s.dev.streams.listeners i fun l => { l with
        rateBad := l.rateBad && decide (300000000 < l.rate.natAbs) } } } }) ∧
  (∀ (s : State), s.dev.Awake → s.dev.streams.autostart = true →
    (s.dev.ks.timeValid = false → exec .streamAutostart s = .next s) ∧
    (s.dev.ks.timeValid = true → s.dev.decodeUnits ≤ 128 → (∀ g : Fin 8, s.dev.lintel.groups[g].setup.any (·.autostart) = false) →
      s.Does .streamAutostart fun d => d.streams.autostart = false ∧ ∀ i : Fin 16,
        (s.dev.streams.listeners[i].setup.any (fun x => x.autostart && x.crf) = true → s.dev.streams.listeners[i].state = .idle →
          s.dev.streams.listeners[i].group = none → d.streams.listeners[i].state = .waiting) ∧
        (s.dev.streams.listeners[i].setup.any (·.autostart) = false → d.streams.listeners[i] = s.dev.streams.listeners[i]))) ∧
  (∀ (i : Fin 8) (x : TalkerSetup) (f : TalkerFrame) (rest : List TalkerFrame) (s : State), s.dev.Awake →
    s.dev.streams.talkers[i].setup = some x → s.dev.streams.talkers[i].ready = f :: rest →
    let t := s.dev.streams.talkers[i]
    let q : Fin 4 := if x.classB then 2 else 1
    s.Does (.talkerFrameSend i) fun d =>
      d.streams.talkers[i].seq = t.seq + 1 ∧ d.streams.talkers[i].ready = rest ∧
      d.streams.talkers[i].lastStamp = w32 (f.edge + 1000 * x.presUs) ∧
      d.streams.talkers[i].framesSent = wrapInc 32 t.framesSent ∧
      d.streams.talkers[i].tuSent = (if s.dev.ks.timeValid then t.tuSent else wrapInc 32 t.tuSent) ∧
      (s.dev.eth[x.port].link.state ≠ .up → d.streams.talkers[i].linkDiscard = wrapInc 32 t.linkDiscard ∧
        d.eth[x.port].traffic.queues = s.dev.eth[x.port].traffic.queues) ∧
      (s.dev.eth[x.port].link.state = .up →
        (Dev.PortTraffic.txFrames s.dev.eth[x.port].traffic).length < s.dev.eth[x.port].traffic.txSize →
        s.dev.txCells + (Dev.talkerFrameLength x + 255) / 256 ≤ 320 →
        ∃ a : AafSent, a.streamId = x.streamId ∧ a.seq = t.seq ∧ a.mr = f.mr ∧ a.tu = (!s.dev.ks.timeValid) ∧
          a.timestamp = w32 (f.edge + 1000 * x.presUs) ∧
          d.eth[x.port].traffic.queues[q] = s.dev.eth[x.port].traffic.queues[q] ++
            [⟨if x.classB then .classB else .classA, Dev.talkerFrameLength x, some i, x.dest, 0x22F0, .aaf a⟩]))


/-- O48, tier 1. The stream commands. LISTENER_SETUP and TALKER_SETUP of an idle stream bind what Table 8.8
gives, clamped, with their defaults; STREAM_START of an idle set-up stream that the budgets allow takes
it to WAITING with its start time, DETAIL 1 where that has passed; STREAM_STOP stops a waiting stream
at once, starts the ramp of one with output, and keeps a time that is still to come; STREAM_DELETE of an
idle stream removes its set-up; STREAM_STATUS and PORT_STREAM_STATUS answer their words. (R216, R220,
R221, R224, R225, R226, R229, Table 8.8, Table 8.9) -/
def Obligations.StreamCommands : Prop :=
  (∀ (src : Source) (req : Request) (i : Fin 16) (p : Fin 3) (s : State), s.dev.TakesUp src 0x0501 req →
    req.fld 8 3 0 = i.val → req.fld 8 9 8 = p.val → (req.persist = false ∨ s.dev.flashPermitted = true) →
    1 ≤ req.fld 0x18 4 0 → req.fld 0x18 4 0 ≤ 16 →
    s.dev.streams.listeners[i].state = .idle → s.dev.streams.listeners[i].group = none →
    (∀ (j : Fin 16) (y : ListenerSetup), j ≠ i → s.dev.streams.listeners[j].setup = some y → y.port = p →
      y.streamId ≠ req.ident 0x0C) →
    (req.bit 8 12 = true → ∀ k, s.dev.streams.crfSlot[(if req.bit 8 16 then 1 else 0 : Fin 2)] = some k → k = i) →
    ((s.dev.listenerRelease i).takeFilter p (req.octets 0x14) (.listener i)).isSome →
    ∃ d x, exec (.listenerSetup src req) s = .next (s.okay src 0x0501 req d [] (Dev.keptAs req (0x0500 + i.val))) ∧
      d.streams.listeners[i].setup = some x ∧ x.port = p ∧ x.crf = req.bit 8 12 ∧ x.streamId = req.ident 0x0C ∧
      x.dest = req.octets 0x14 ∧ x.channels = req.fld 0x18 4 0 ∧ x.format = clampN 2 4 (req.fld 0x18 10 8) ∧
      x.slotB = req.bit 8 16 ∧ x.autostart = req.bit 8 24 ∧ x.mttUs = clampN 500 20000 (req.fld 0x1C 15 0) ∧
      x.rideMs = clampN 0 250 (req.fld 0x1C 31 16) ∧ d.streams.listeners[i].state = .idle) ∧
  (∀ (src : Source) (req : Request) (i : Fin 8) (p : Fin 3) (s : State), s.dev.TakesUp src 0x0502 req →
    req.fld 8 2 0 = i.val → req.fld 8 9 8 = p.val → (req.persist = false ∨ s.dev.flashPermitted = true) →
    let spf := if req.fld 0x1C 23 16 = 0 then Dev.defaultSpf s.dev.fs (req.bit 8 12) else req.fld 0x1C 23 16
    1 ≤ req.fld 0x18 4 0 → req.fld 0x18 4 0 ≤ 16 → spf ≤ 64 →
    46 + req.fld 0x18 4 0 * spf * Dev.sampleBytes (clampN 2 4 (req.fld 0x18 10 8)) ≤ 1522 → s.dev.streams.talkers[i].state = .idle →
    ∃ d x, exec (.talkerSetup src req) s = .next (s.okay src 0x0502 req d [] (Dev.keptAs req (0x0510 + i.val))) ∧
      d.streams.talkers[i].setup = some x ∧ x.port = p ∧ x.classB = req.bit 8 12 ∧ x.spf = spf ∧ x.dest = req.octets 0x14 ∧
      x.streamId = req.ident 0x0C ∧ x.channels = req.fld 0x18 4 0 ∧ x.format = clampN 2 4 (req.fld 0x18 10 8) ∧
      x.presUs = clampN 500 20000 (req.fld 0x1C 15 0) ∧ x.autostart = req.bit 8 24 ∧
      x.pcp = (if req.bit 0x20 15 then req.fld 0x20 14 12 else if req.bit 8 12 then 2 else 3) ∧
      x.vid = (if req.fld 0x20 11 0 = 0 then 2 else req.fld 0x20 11 0) ∧ d.streams.talkers[i].state = .idle) ∧
  (∀ (src : Source) (req : Request) (i : Fin 16) (x : ListenerSetup) (s : State), s.dev.TakesUp src 0x0503 req →
    req.bit 8 8 = false → req.fld 8 3 0 = i.val → s.dev.streams.listeners[i].setup = some x →
    s.dev.streams.listeners[i].state = .idle → s.dev.streams.listeners[i].group = none →
    (req.time 0x0C = none ∨ s.dev.ks.timeValid = true) →
    (x.crf = true ∨ (s.dev.allocate (.listener i) false (s.dev.regionGranules x)).isSome = true) →
    s.dev.decodeUnits + (if x.crf then 0 else x.channels * rateUnits s.dev.ks.rate) ≤ 128 →
    ∃ d detail, exec (.streamStart src req) s = .next (s.okay src 0x0503 req d [] [] detail) ∧
      d.streams.listeners[i].state = .waiting ∧ d.streams.listeners[i].stopAt = none ∧
      (req.time 0x0C = none → detail = 0 ∧ d.streams.listeners[i].startAt = none) ∧
      (∀ t, req.time 0x0C = some t → (s.dev.now < t → detail = 0 ∧ d.streams.listeners[i].startAt = some t) ∧
        (t ≤ s.dev.now → detail = 1 ∧ d.streams.listeners[i].startAt = none))) ∧
  (∀ (src : Source) (req : Request) (i : Fin 8) (x : TalkerSetup) (s : State), s.dev.TakesUp src 0x0503 req →
    req.bit 8 8 = true → req.fld 8 3 0 = i.val → s.dev.streams.talkers[i].setup = some x →
    s.dev.streams.talkers[i].state = .idle → (req.time 0x0C = none ∨ s.dev.ks.timeValid = true) →
    s.dev.talkerUnits + x.channels * rateUnits s.dev.ks.rate ≤ 64 →
    (let e := s.dev.modTalker i fun t => { t with state := .waiting }
     4 * (e.idleSlope x.port false + e.idleSlope x.port true) ≤ 3 * s.dev.portKbps x.port) →
    ∃ d detail, exec (.streamStart src req) s = .next (s.okay src 0x0503 req d [] [] detail) ∧
      d.streams.talkers[i].state = .waiting ∧
      (req.time 0x0C = none → detail = 0 ∧ d.streams.talkers[i].startAt = none) ∧
      (∀ t, req.time 0x0C = some t → (s.dev.now < t → detail = 0 ∧ d.streams.talkers[i].startAt = some t) ∧
        (t ≤ s.dev.now → detail = 1 ∧ d.streams.talkers[i].startAt = none))) ∧
  (∀ (src : Source) (req : Request) (i : Fin 16) (s : State), s.dev.TakesUp src 0x0504 req →
    req.bit 8 8 = false → req.fld 8 3 0 = i.val → s.dev.streams.listeners[i].setup.isSome →
    s.dev.streams.listeners[i].group = none → req.time 0x0C = none →
    (s.dev.streams.listeners[i].state = .waiting →
      ∃ d, exec (.streamStop src req) s = .next (s.okay src 0x0504 req d) ∧ d.streams.listeners[i].state = .idle) ∧
    (s.dev.streams.listeners[i].state = .playing ∨ s.dev.streams.listeners[i].state = .starved →
      ∃ d, exec (.streamStop src req) s = .next (s.okay src 0x0504 req d) ∧ d.streams.listeners[i].state = .stopping ∧
        d.streams.listeners[i].target = 0)) ∧
  (∀ (src : Source) (req : Request) (i : Fin 8) (s : State), s.dev.TakesUp src 0x0504 req →
    req.bit 8 8 = true → req.fld 8 3 0 = i.val → s.dev.streams.talkers[i].setup.isSome → req.time 0x0C = none →
    (s.dev.streams.talkers[i].state = .waiting →
      ∃ d, exec (.streamStop src req) s = .next (s.okay src 0x0504 req d) ∧ d.streams.talkers[i].state = .idle) ∧
    (s.dev.streams.talkers[i].state = .sending →
      ∃ d, exec (.streamStop src req) s = .next (s.okay src 0x0504 req d) ∧ d.streams.talkers[i].state = .stopping)) ∧
  (∀ (src : Source) (req : Request) (i : Fin 16) (t : Nat) (s : State), s.dev.TakesUp src 0x0504 req →
    req.bit 8 8 = false → req.fld 8 3 0 = i.val → s.dev.streams.listeners[i].setup.isSome →
    s.dev.streams.listeners[i].group = none → req.time 0x0C = some t → s.dev.now < t → s.dev.ks.timeValid = true →
    s.dev.streams.listeners[i].state ≠ .idle → (∀ x, s.dev.streams.listeners[i].startAt = some x → x < t) →
    exec (.streamStop src req) s = .next (s.okay src 0x0504 req (s.dev.modListener i fun l => { l with stopAt := some t }))) ∧
  (∀ (src : Source) (req : Request) (i : Fin 16) (s : State), s.dev.TakesUp src 0x0505 req →
    req.bit 8 8 = false → req.fld 8 3 0 = i.val → s.dev.streams.listeners[i].setup.isSome →
    s.dev.streams.listeners[i].group = none → s.dev.streams.listeners[i].state = .idle →
    (req.persist = false ∨ s.dev.flashPermitted = true) →
    ∃ d, exec (.streamDelete src req) s = .next (s.okay src 0x0505 req d [] (Dev.removedAs req (0x0500 + i.val))) ∧
      d.streams.listeners[i] = { s.dev.streams.listeners[i] with setup := none } ∧
      ∀ k : Fin 2, d.streams.crfSlot[k] ≠ some i) ∧
  (∀ (src : Source) (req : Request) (i : Fin 8) (s : State), s.dev.TakesUp src 0x0505 req →
    req.bit 8 8 = true → req.fld 8 3 0 = i.val → s.dev.streams.talkers[i].setup.isSome → s.dev.streams.talkers[i].state = .idle →
    (req.persist = false ∨ s.dev.flashPermitted = true) →
    ∃ d, exec (.streamDelete src req) s = .next (s.okay src 0x0505 req d [] (Dev.removedAs req (0x0510 + i.val))) ∧
      d.streams.talkers[i].setup = none ∧ d.lintel.roles[i] = none) ∧
  (∀ (src : Source) (req : Request) (i : Fin 16) (s : State), s.dev.TakesUp src 0x0506 req →
    req.bit 8 8 = false → req.fld 8 3 0 = i.val → s.dev.streams.listeners[i].setup.isSome →
    ∃ l, exec (.streamStatus src req) s = .next (s.okay src 0x0506 req s.dev l) ∧ l.length = 17 ∧
      fld (l.getD 0 0) 7 0 = Dev.streamCode s.dev.streams.listeners[i].state ∧ l.getD 1 0 = i32 s.dev.streams.listeners[i].rate ∧
      let c := s.dev.streams.listeners[i].counts
      (l.drop 5).take 11 = [w32 c.accepted, w32 c.late, w32 c.early, w32 c.duplicates, w32 c.overlaps, w32 c.seqGaps,
        w32 c.mismatch, w32 c.tsInvalid, w32 c.tsUncertain, w32 c.noTime, w32 c.concealed]) ∧
  (∀ (src : Source) (req : Request) (i : Fin 8) (s : State), s.dev.TakesUp src 0x0506 req →
    req.bit 8 8 = true → req.fld 8 3 0 = i.val → s.dev.streams.talkers[i].setup.isSome →
    ∃ l, exec (.streamStatus src req) s = .next (s.okay src 0x0506 req s.dev l) ∧ l.length = 6 ∧
      let t := s.dev.streams.talkers[i]
      fld (l.getD 0 0) 7 0 = Dev.streamCode t.state ∧ l.getD 1 0 = w32 t.framesSent ∧ l.getD 2 0 = w32 t.linkDiscard ∧
      l.getD 3 0 = w32 t.tuSent) ∧
  (∀ (src : Source) (req : Request) (p : Fin 3) (s : State), s.dev.TakesUp src 0x0507 req → req.fld 8 1 0 = p.val →
    exec (.portStreamStatus src req) s = .next (s.okay src 0x0507 req s.dev
      [w32 (s.dev.idleSlope p false), w32 (s.dev.idleSlope p true), w32 s.dev.streams.unknown[p]]))


/-- O49, tier 2. The state a group takes at a tick, by which of its paths are usable. For every tick and
every started group whose listeners do not both wait for the time: with P and B the usability of the
primary and the standby path as LINTEL_TICK judges them (a path whose port is not UP or whose listener does
not play is never usable), PRIMARY stays while P, fades out where only B holds; STANDBY stays while B
but for a revertive return to a usable primary with no hold, and fades back where only P holds; a
running fade ends, is turned back where its target is lost and the other path holds, and in every state
but STOPPED neither path gives BOTH_LOST, which is left for the primary first. A group whose listeners
both wait is not judged, and only a fade that is over ends; one that is stopped keeps its state, and one
that is not set up changes nothing. (R236, R238, R239, R243, Table 9.2) -/
def Obligations.LintelTable : Prop :=
  ∀ (offsets : List Int) (g : Fin 8) (s : State), s.dev.Awake →
    let x := s.dev.lintel.groups[g]
    s.Does (.lintelTick offsets) fun d =>
      let y := d.lintel.groups[g]
      let P : Prop := y.usable[(0 : Fin 2)] = true
      let B : Prop := y.usable[(1 : Fin 2)] = true
      (x.setup = none → y = x) ∧
      (x.state = .stopped → y.state = .stopped ∧ y.usable = x.usable) ∧
      (∀ w, x.setup = some w → x.state ≠ .stopped → s.dev.groupWaits w = true → y.usable = x.usable ∧
        (x.fade.any s.dev.fadeOver = false → y.state = x.state ∧ y.fade = x.fade) ∧
        (x.fade.any s.dev.fadeOver = true → y.fade = none ∧ (x.state = .overlapOut → y.state = .standby) ∧
          (x.state = .overlapBack → y.state = .primary))) ∧
      (∀ w, x.setup = some w → x.state ≠ .stopped → s.dev.groupWaits w = false →
        (∀ p : Fin 2, (s.dev.eth[s.dev.pathPort w p].link.state ≠ .up ∨
          s.dev.streams.listeners[Dev.pathListener w p].state ≠ .playing) → y.usable[p] = false) ∧
        (¬ P → ¬ B → y.state = .bothLost) ∧
        (x.state = .primary → (P → y.state = .primary) ∧ (¬ P → B → y.state = .overlapOut ∧ y.inUse = 1)) ∧
        (x.state = .overlapOut → (P → ¬ B → y.state = .overlapBack) ∧ (B → y.state = .overlapOut ∨ y.state = .standby)) ∧
        (x.state = .standby → (P → ¬ B → y.state = .overlapBack ∧ y.inUse = 0) ∧
          (B → y.state = .standby ∨ (y.state = .overlapBack ∧ P ∧ w.revertive = true ∧ x.hold = false))) ∧
        (x.state = .overlapBack → (¬ P → B → y.state = .overlapOut) ∧ (P → y.state = .overlapBack ∨ y.state = .primary)) ∧
        (x.state = .bothLost → (P → y.state = .primary ∧ y.inUse = 0) ∧ (¬ P → B → y.state = .standby ∧ y.inUse = 1)))


/-- O50, tier 1. Beacons, fades, health, and the Lintel commands. LINTEL_BEACON that fits its group and path
refreshes that role's entry, and one that does not counts in BEACON_BAD; FADE_END of a fade whose last
sample has been presented enters STANDBY or PRIMARY, and before that changes nothing; REVERT_HOLD_EXPIRY
starts the fade back under revertive operation; HEALTH_BLOCK_END of a block with a concealed position, or in
which a fade or a wait began, is skipped and counted, and one compared counts, with its mismatching channels
and the result of R247; LINTEL_GROUP_SETUP forms a stopped group of two idle AAF listeners on different ports;
LINTEL_GROUP_START takes both to WAITING and the group to BOTH_LOST; LINTEL_GROUP_STOP stops it;
LINTEL_GROUP_DELETE removes it; LINTEL_SWITCH starts a fade to a usable path, or answers DETAIL 1 where
it is in use; LINTEL_GROUP_STATUS and LINTEL_HEALTH answer their words; LINTEL_TALKER_SET sets a talker's role. (R235,
R240, R243, R247, R248, R249, R255, Table 9.2, Table 9.10) -/
def Obligations.LintelRows : Prop :=
  (∀ (g : Fin 8) (p : Fin 3) (l : List Byte) (w : GroupSetup) (s : State), s.dev.Awake → s.dev.lintel.groups[g].setup = some w →
    let b := parseBeacon l
    let role : Fin 2 := if b.flags.getLsbD 0 then 1 else 0
    let path : Fin 2 := if b.flags.getLsbD 1 then 1 else 0
    let fits := b.version = 1 ∧ b.crcOk = true ∧ b.tag = w.tag ∧ s.dev.pathPort w path = p ∧
      ∃ y, s.dev.streams.listeners[Dev.pathListener w role].setup = some y ∧ y.streamId = b.streamId
    s.Does (.lintelBeacon g p l) fun d =>
      (fits → d.lintel.groups[g].beacons[Dev.beaconIdx role path].heard = true ∧
        d.lintel.groups[g].beacons[Dev.beaconIdx role path].missed = 0 ∧
        d.lintel.groups[g].beacons[Dev.beaconIdx role path].streaming = b.flags.getLsbD 2 ∧
        d.lintel.groups[g].beacons[Dev.beaconIdx role path].timeBase = b.timeBase ∧
        d.lintel.groups[g].counts.beaconBad = s.dev.lintel.groups[g].counts.beaconBad) ∧
      (¬ fits → d.lintel.groups[g].beacons = s.dev.lintel.groups[g].beacons ∧
        d.lintel.groups[g].counts.beaconBad = wrapInc 16 s.dev.lintel.groups[g].counts.beaconBad) ∧
      d.lintel.groups[g].state = s.dev.lintel.groups[g].state) ∧
  (∀ (g : Fin 8) (f : Fade) (s : State), s.dev.lintel.groups[g].fade = some f → s.dev.fadeOver f = false →
    exec (.fadeEnd g) s = .next s) ∧
  (∀ (g : Fin 8) (f : Fade) (s : State), s.dev.Awake → s.dev.lintel.groups[g].fade = some f → s.dev.fadeOver f = true →
    s.Does (.fadeEnd g) fun d => d.lintel.groups[g].fade = none ∧
      (s.dev.lintel.groups[g].state = .overlapOut → d.lintel.groups[g].state = .standby) ∧
      (s.dev.lintel.groups[g].state = .overlapBack → d.lintel.groups[g].state = .primary)) ∧
  (∀ (g : Fin 8) (w : GroupSetup) (s : State), s.dev.Awake → s.dev.lintel.groups[g].setup = some w → w.revertive = true →
    s.dev.lintel.groups[g].state = .standby → s.dev.lintel.groups[g].usable[(0 : Fin 2)] = true → s.dev.lintel.groups[g].hold = false →
    s.dev.groupWaits w = false →
    s.Does (.revertHoldExpiry g) fun d => d.lintel.groups[g].state = .overlapBack ∧ d.lintel.groups[g].inUse = 0 ∧
      d.lintel.groups[g].fade.isSome) ∧
  (∀ (g : Fin 8) (gap : Bool) (e : List (Nat × Nat)) (w : GroupSetup) (s : State), s.dev.Awake →
    s.dev.lintel.groups[g].setup = some w → s.dev.lintel.groups[g].state = .primary →
    s.dev.streams.listeners[w.primary].state = .playing → s.dev.streams.listeners[w.standby].state = .playing →
    s.Does (.healthBlockEnd g gap e) fun d =>
      (gap = true ∨ s.dev.lintel.groups[g].blockSpoiled = true →
        d.lintel.groups[g].counts.skipped = wrapInc 32 s.dev.lintel.groups[g].counts.skipped ∧
        d.lintel.groups[g].health = s.dev.lintel.groups[g].health) ∧
      (gap = false → s.dev.lintel.groups[g].blockSpoiled = false →
        d.lintel.groups[g].counts.compared = wrapInc 16 s.dev.lintel.groups[g].counts.compared ∧
        ∀ k < 16, d.lintel.groups[g].healthMask.testBit k =
          (decide (k < e.length) && !Dev.channelMatches w.threshold (e.getD k (0, 0)))) ∧
        (d.lintel.groups[g].healthMask = 0 → s.dev.lintel.groups[g].health = .unknown ∨
            w.failCount ≤ s.dev.lintel.groups[g].matchRun + 1 → d.lintel.groups[g].health = .good) ∧
        (d.lintel.groups[g].healthMask ≠ 0 → d.lintel.groups[g].health =
          if w.failCount ≤ s.dev.lintel.groups[g].missRun + 1 then .failed else .suspect)) ∧
  (∀ (src : Source) (req : Request) (g : Fin 8) (a b : Fin 16) (x y : ListenerSetup) (s : State), s.dev.TakesUp src 0x0601 req →
    req.fld 8 2 0 = g.val → req.fld 8 11 8 = a.val → req.fld 8 19 16 = b.val → (req.persist = false ∨ s.dev.flashPermitted = true) →
    s.dev.streams.listeners[a].setup = some x → s.dev.streams.listeners[b].setup = some y →
    s.dev.lintel.groups[g].state = .stopped → s.dev.streams.listeners[a].state = .idle → s.dev.streams.listeners[b].state = .idle →
    x.crf = false → y.crf = false → x.port ≠ y.port → x.channels = y.channels →
    (∀ k, s.dev.streams.listeners[a].group = some k → k = g) → (∀ k, s.dev.streams.listeners[b].group = some k → k = g) →
    req.bit 8 25 = false →
    (((s.dev.groupRelease g).takeFilter x.port (req.octets 0x10) (.group g)).bind fun d =>
      d.takeFilter y.port (req.octets 0x10) (.group g)).isSome →
    ∃ d w, exec (.lintelGroupSetup src req) s = .next (s.okay src 0x0601 req d [] (Dev.keptAs req (0x0600 + g.val))) ∧
      d.lintel.groups[g].setup = some w ∧ w.primary = a ∧ w.standby = b ∧ w.revertive = req.bit 8 24 ∧
      w.overlap = clampN 5 80 (req.fld 0x0C 22 16) ∧ w.hbTimeout = clampN 2 15 (req.fld 0x0C 27 24) ∧
      w.revertHold = clampN 1 600 (req.fld 0x14 9 0) ∧ d.lintel.groups[g].state = .stopped ∧
      d.streams.listeners[a].group = some g ∧ d.streams.listeners[b].group = some g) ∧
  (∀ (src : Source) (req : Request) (g : Fin 8) (w : GroupSetup) (s : State), s.dev.TakesUp src 0x0602 req → req.fld 8 2 0 = g.val →
    s.dev.lintel.groups[g].setup = some w → s.dev.lintel.groups[g].state = .stopped →
    s.dev.streams.listeners[w.primary].state = .idle → s.dev.streams.listeners[w.standby].state = .idle → req.time 0x0C = none →
    (∃ d detail, s.dev.startListeners [w.primary, w.standby] none = .done false detail [] [] d) →
    ∃ d, exec (.lintelGroupStart src req) s = .next (s.okay src 0x0602 req d) ∧ d.lintel.groups[g].state = .bothLost ∧
      (s.dev.streams.listeners[w.primary].setup.isSome → d.streams.listeners[w.primary].state = .waiting) ∧
      (s.dev.streams.listeners[w.standby].setup.isSome → d.streams.listeners[w.standby].state = .waiting)) ∧
  (∀ (src : Source) (req : Request) (g : Fin 8) (w : GroupSetup) (s : State), s.dev.TakesUp src 0x0603 req → req.fld 8 2 0 = g.val →
    s.dev.lintel.groups[g].setup = some w → s.dev.lintel.groups[g].state ≠ .stopped →
    s.dev.streams.listeners[w.primary].state ≠ .idle → req.time 0x0C = none →
    ∃ d, exec (.lintelGroupStop src req) s = .next (s.okay src 0x0603 req d) ∧ d.lintel.groups[g].state = .stopped ∧
      d.lintel.groups[g].levelTo = 0 ∧ d.lintel.groups[g].fade = none ∧ d.streams.listeners[w.primary].state ≠ .playing) ∧
  (∀ (src : Source) (req : Request) (g : Fin 8) (s : State), s.dev.TakesUp src 0x0604 req → req.fld 8 2 0 = g.val →
    s.dev.lintel.groups[g].setup.isSome → s.dev.lintel.groups[g].state = .stopped → (req.persist = false ∨ s.dev.flashPermitted = true) →
    ∃ d, exec (.lintelGroupDelete src req) s = .next (s.okay src 0x0604 req d [] (Dev.removedAs req (0x0600 + g.val))) ∧
      d.lintel.groups[g].setup = none ∧ ∀ w, s.dev.lintel.groups[g].setup = some w →
        d.streams.listeners[w.primary].group = none ∧ d.streams.listeners[w.standby].group = none) ∧
  (∀ (src : Source) (req : Request) (g : Fin 8) (w : GroupSetup) (s : State), s.dev.TakesUp src 0x0605 req → req.fld 8 2 0 = g.val →
    s.dev.lintel.groups[g].setup = some w → s.dev.lintel.groups[g].state ≠ .stopped → s.dev.lintel.groups[g].state ≠ .bothLost →
    let target : Fin 2 := if req.bit 8 8 then 1 else 0
    (s.dev.lintel.groups[g].inUse = target → exec (.lintelSwitch src req) s =
      .next (s.okay src 0x0605 req (s.dev.modGroup g fun x => { x with hold := req.bit 8 9 }) [] [] 1)) ∧
    (s.dev.lintel.groups[g].inUse ≠ target → s.dev.lintel.groups[g].usable[target] = true → s.dev.groupWaits w = false →
      ∃ d, exec (.lintelSwitch src req) s = .next (s.okay src 0x0605 req d) ∧ d.lintel.groups[g].inUse = target ∧
        d.lintel.groups[g].state = (if req.bit 8 8 then .overlapOut else .overlapBack) ∧ d.lintel.groups[g].hold = req.bit 8 9)) ∧
  (∀ (src : Source) (req : Request) (g : Fin 8) (s : State), s.dev.TakesUp src 0x0606 req → req.fld 8 2 0 = g.val →
    ∃ l, exec (.lintelGroupStatus src req) s = .next (s.okay src 0x0606 req s.dev l) ∧ l.length = 12 ∧
      l.getD 1 0 = w32 s.dev.lintel.groups[g].msInState) ∧
  (∀ (src : Source) (req : Request) (g : Fin 8) (s : State), s.dev.TakesUp src 0x0607 req → req.fld 8 2 0 = g.val →
    ∃ l, exec (.lintelHealth src req) s = .next (s.okay src 0x0607 req s.dev l) ∧ l.length = 3 ∧
      l.getD 0 0 = (at' 0 s.dev.lintel.groups[g].healthMask ||| at' 16 (healthCode s.dev.lintel.groups[g].health))) ∧
  (∀ (src : Source) (req : Request) (t : Fin 8) (pa pb : Fin 3) (x : TalkerSetup) (s : State), s.dev.TakesUp src 0x0608 req →
    req.fld 8 2 0 = t.val → req.fld 0x0C 17 16 = pa.val → req.fld 0x0C 19 18 = pb.val → pa ≠ pb →
    s.dev.streams.talkers[t].setup = some x → x.port = (if req.bit 8 8 then pb else pa) →
    (req.persist = false ∨ s.dev.flashPermitted = true) →
    exec (.lintelTalkerSet src req) s = .next (s.okay src 0x0608 req { s.dev with lintel := { s.dev.lintel with
      roles := s.dev.lintel.roles.set t (if req.bit 8 16 then
        some ⟨req.bit 8 8, BitVec.ofNat 16 (req.fld 0x0C 15 0), pa, pb, req.octets 0x10, 0, 0⟩ else none) } }
      [] (Dev.keptAs req (0x0610 + t.val))))


/-- O51, tier 2. What a TDM port, a grid point and a destination do. On an awake device TDM_COMMIT_APPLY of a
pending commit takes effect whole on a running port, and on an OFF port, which runs from frame 0 if it
enables it, with COMMIT_DONE, and with none pending changes nothing; TDM_PORT_STOPPED takes a stopping port
OFF with its lines low and STOPPED set; OUT_UNDERRUN and IN_OVERRUN are flagged and counted; SENSE_STALE and
SENSE_RECOVERED tell of a stale tag and its return at 48 frames; DELAY_CHANGE_RAMP_END with the mute gain at
zero clears the line of the new length, and before that changes nothing. FRAME_BOUNDARY in BOOT and in ACTIVE
delivers the enabled input slots left-justified, counts the frame of each running port, keeps an OFF port
OFF but one that QUIET stopped, and makes a commit's bank active; in PROOF_HOLD it starts the clocks held
there, once. A destination at unity with no limiter and no delay passes its sum, saturated; a muted one that has ramped
down gives zero; an output sample is the nearest slot code, or full scale. (R256, R258, R260, R261,
R262, R265, R267, R269, R276, R280, Table 10.2, Table 10.5) -/
def Obligations.PortsAndGrid : Prop :=
  (∀ (p : Fin 4) (s : State), s.dev.Awake → s.dev.tdm[p].quiet = false →
    (s.dev.tdm[p].pending = false → exec (.tdmCommitApply p) s = .next s) ∧
    (s.dev.tdm[p].pending = true → s.dev.tdm[p].state ≠ .stopping → s.Does (.tdmCommitApply p) fun d =>
      d.tdm[p].active = s.dev.tdm[p].staged ∧ d.tdm[p].pending = false ∧
      d.tdm[p].state = (if s.dev.tdm[p].staged.enable then .running else s.dev.tdm[p].state) ∧
      (s.dev.tdm[p].state = .off → s.dev.tdm[p].staged.enable = true → d.tdm[p].frames = 0) ∧
      (d.reg (Dev.tdmReg p Reg.TDM0_IRQ_STATUS)).getLsbD 0 = true ∧ ∀ q : Fin 4, q ≠ p → d.tdm[q] = s.dev.tdm[q])) ∧
  (∀ (p : Fin 4) (s : State), s.dev.Awake → s.dev.tdm[p].state = .stopping → s.Does (.tdmPortStopped p) fun d =>
    d.tdm[p].state = .off ∧ d.tdm[p].sdo = Vector.replicate 32 0 ∧ d.tdm[p].sdi = Vector.replicate 32 0 ∧ d.tdm[p].replies = [] ∧
    (d.reg (Dev.tdmReg p Reg.TDM0_IRQ_STATUS)).getLsbD 1 = true ∧ ∀ q : Fin 4, q ≠ p → d.tdm[q] = s.dev.tdm[q]) ∧
  (∀ (p : Fin 4) (s : State), s.dev.Awake →
    (s.Does (.outUnderrun p) fun d => d.tdm[p] = { s.dev.tdm[p] with underruns := satInc 0xFFFF s.dev.tdm[p].underruns } ∧
      (d.reg (Dev.tdmReg p Reg.TDM0_IRQ_STATUS)).getLsbD 2 = true) ∧
    (s.Does (.inOverrun p) fun d => d.tdm[p] = { s.dev.tdm[p] with overruns := satInc 0xFFFF s.dev.tdm[p].overruns } ∧
      (d.reg (Dev.tdmReg p Reg.TDM0_IRQ_STATUS)).getLsbD 3 = true)) ∧
  (∀ (k : Fin 16) (b : SenseBind) (s : State), s.dev.Awake → s.dev.route.sense[k].bind = some b → b.tagged = true →
    (s.dev.route.sense[k].stale = false → 48 ≤ s.dev.route.sense[k].same → s.Does (.senseStale k) fun d =>
      d.route.sense[k] = { s.dev.route.sense[k] with stale := true } ∧
      (d.reg (Dev.tdmReg b.port Reg.TDM0_IRQ_STATUS)).getLsbD 4 = true) ∧
    (s.dev.route.sense[k].stale = true → 48 ≤ s.dev.route.sense[k].advanced → s.Does (.senseRecovered k) fun d =>
      d.route.sense[k] = { s.dev.route.sense[k] with stale := false } ∧ d.regs = s.dev.regs)) ∧
  (∀ (k : Fin 64) (n : Nat) (s : State), s.dev.Awake → s.dev.route.dests[k].newDelay = some n →
    (s.dev.route.dests[k].muteStep = 0 → s.Does (.delayChangeRampEnd k) fun d =>
      d.route.dests[k] = { s.dev.route.dests[k] with delay := n, newDelay := none, line := List.replicate n 0 } ∧
      d.streams = s.dev.streams) ∧
    (s.dev.route.dests[k].muteStep ≠ 0 → exec (.delayChangeRampEnd k) s = .next s)) ∧
  (∀ (sdi : List (List Bool)) (s : State), s.dev.power.state = .proofHold → exec (.frameBoundary sdi) s =
    .next { s with dev := { s.dev with power := { s.dev.power with
      holdStart := some (s.dev.power.holdStart.getD s.dev.cc) } } }) ∧
  (∀ (sdi : List (List Bool)) (s : State), s.dev.Runs → s.Does (.frameBoundary sdi) fun d =>
    d.streams.edge = s.dev.now ∧
    (∀ p : Fin 4, s.dev.tdm[p].state = .off →
      (s.dev.tdm[p].active.enable = false ∨ s.dev.tdm[p].quiet = true ∨ s.dev.tdm[p].pending = true → d.tdm[p] = s.dev.tdm[p]) ∧
      (s.dev.tdm[p].active.enable = true → s.dev.tdm[p].quiet = false → s.dev.tdm[p].pending = false →
        d.tdm[p].state = .running ∧ d.tdm[p].frames = 0)) ∧
    (∀ p : Fin 4, s.dev.tdm[p].state ≠ .off →
      d.tdm[p].frames = (if s.dev.tdm[p].state = .running then wrapInc 16 s.dev.tdm[p].frames else s.dev.tdm[p].frames) ∧
      d.tdm[p].state = s.dev.tdm[p].state ∧ d.tdm[p].active = s.dev.tdm[p].active ∧
      ∀ x : SlotRef, x.port = p → d.tdm[p].sdi[x.index] =
        if slotOn s.dev.tdm[p].active s.dev.tdm[p].active.inEn x.line x.slot then
          inSlot s.dev.tdm[p].active (sdi.getD (2 * p.val + x.line.val) []) x.slot.val
        else 0) ∧
    d.route.commit = none ∧ (s.dev.route.commit ≠ none → d.route.replies = []) ∧
    (∀ k : Fin 64, s.dev.route.dests[k].kind = .unbound → d.route.dests[k] = s.dev.route.dests[k])) ∧
  (∀ (r : Route) (bank : List Xp) (ramp : Nat), (bank.Pairwise fun x y => x.src ≠ y.src ∨ x.dst ≠ y.dst) →
    (Dev.swapBank r bank ramp).rampLen = ramp ∧
    ∀ x ∈ bank, ∃ y ∈ (Dev.swapBank r bank ramp).active, y.src = x.src ∧ y.dst = x.dst ∧ y.gain = x.gain) ∧
  (∀ (d : Dev) (x : Dest) (sum : Int), x.thresh = 127 → x.gainFrom = 2 ^ 22 → x.gainTo = 2 ^ 22 → 0 < x.gainLen →
    0 < x.rampLen → 0 < x.muteLen → x.muteStep = x.muteLen → x.newDelay = none → d.destMuted x = false → x.foldback = 0 → d.foldDemand x = 0 →
    x.delay = 0 → x.line = [] → (d.destChain x sum 1 0).1.out = sat32 sum) ∧
  (∀ (d : Dev) (x : Dest) (sum six : Int) (den : Nat), d.destMuted x = true →
    (x.muteStep = 0 ∨ (x.muteStep = 1 ∧ 1 < x.muteLen)) →
    (d.destChain x sum den six).1.out = 0) ∧
  (∀ (w : Nat) (x : Int), w = 16 ∨ w = 24 ∨ w = 32 →
    let v := slotValue w x
    v ≤ 2 ^ (w - 1) - 1 ∧ -(2 ^ (w - 1)) ≤ v ∧
    (-(2 ^ (w - 1)) < v → v < 2 ^ (w - 1) - 1 → 2 * (v * 2 ^ (32 - w) - x).natAbs ≤ 2 ^ (32 - w)))


/-- O52, tier 1. The TDM and routing commands. TDM_PORT_SET stages a configuration that fits and commits it,
stopping a running port where ENABLE is 0; TDM_PORT_DISABLE answers at once on an OFF port and else
waits for STOPPED; ROUTE_SOURCE_BIND and ROUTE_DEST_BIND store the source or the destination named, with
its fields clamped and a new delay waiting for the mute ramp; ROUTE_XP_SET writes the staged bank,
ROUTE_COMMIT hands it over and is answered at the swap; ROUTE_DEST_GAIN starts a ramp, ROUTE_MUTE sets the
destinations of its mask, ROUTE_TONE_SET a generator, ROUTE_PARTITION the partition, ROUTE_SENSE_BIND a
speaker's slots; TDM_PORT_STATUS and ROUTE_STATUS answer their words. (R260, R262, R263, R268, R269, R273, R274, R275, R277, R284, R286, Table 10.12) -/
def Obligations.RouteCommands : Prop :=
  (∀ (src : Source) (req : Request) (p : Fin 4) (s : State), s.dev.TakesUp src 0x0701 req → req.fld 8 1 0 = p.val →
    (req.persist = false ∨ s.dev.flashPermitted = true) →
    let c : TdmCfg := ⟨req.bit 8 8, req.fld 8 17 16, req.fld 8 21 20, req.fld 8 25 24, req.bit 8 28, req.bit 8 29,
      req.fld 0x14 5 0, req.word 0x0C, req.word 0x10⟩
    c.width ≠ 3 → (c.format < 2 → c.slots = 0) →
    frameBits c * s.dev.fs ≤ 512 * (if rateIs441 s.dev.ks.rate then 44100 else 48000) → s.dev.slotsKept p c = true →
    s.dev.tdmUnits p c true ≤ 64 → s.dev.tdmUnits p c false ≤ 64 →
    ∃ d, exec (.tdmPortSet src req) s = .next (s.okay src 0x0701 req d [] (Dev.keptAs req (0x0700 + p.val))) ∧
      d.tdm[p] = { s.dev.tdm[p] with
        staged := c, pending := true,
        state := if s.dev.tdm[p].state = .running ∧ c.enable = false then .stopping else s.dev.tdm[p].state }) ∧
  (∀ (src : Source) (req : Request) (p : Fin 4) (s : State), s.dev.TakesUp src 0x0702 req → req.fld 8 1 0 = p.val →
    (s.dev.tdm[p].state = .off → ∃ d, exec (.tdmPortDisable src req) s = .next (s.okay src 0x0702 req d) ∧
      d.tdm[p].staged = { s.dev.tdm[p].staged with enable := false } ∧ d.tdm[p].pending = true) ∧
    (s.dev.tdm[p].state ≠ .off → s.Does (.tdmPortDisable src req) fun d =>
      d.tdm[p] = { s.dev.tdm[p] with
        staged := { s.dev.tdm[p].staged with enable := false }, pending := true, state := .stopping,
        replies := s.dev.tdm[p].replies ++ [(src, req.tag)] })) ∧
  (∀ (src : Source) (req : Request) (p : Fin 4) (s : State), s.dev.TakesUp src 0x0703 req → req.fld 8 1 0 = p.val →
    exec (.tdmPortStatus src req) s = .next (s.okay src 0x0703 req s.dev
      [s.dev.tdm[p].active.ctrl, s.dev.tdm[p].active.outEn, s.dev.tdm[p].active.inEn, s.dev.tdmStatus p, s.dev.tdmErr p,
        bitsW 16 fun k => (s.dev.route.sense[k]?).any (·.stale)])) ∧
  (∀ (src : Source) (req : Request) (k : Fin 64) (x : SourceKind) (s : State), s.dev.TakesUp src 0x0704 req →
    req.fld 8 5 0 = k.val → Dev.reqSource req = some x → (req.persist = false ∨ s.dev.flashPermitted = true) →
    (s.dev.route.sources[k] = x ∨ s.dev.hasXp (some k) none = false) →
    (∀ i c, x = .listener i c → s.dev.streams.listeners[i].group = none) →
    (∀ y, x = .slot y → s.dev.slotStaged y false = true) →
    (x = .pilot → ∀ j : Fin 64, j ≠ k → s.dev.route.sources[j] ≠ .pilot) →
    (x = .pilot → (s.dev.modRoute fun r => { r with sources := r.sources.set k x }).pilotFits = true) →
    ∃ items, exec (.routeSourceBind src req) s = .next (s.okay src 0x0704 req { s.dev with route := { s.dev.route with
        sources := s.dev.route.sources.set k x } } [] items) ∧
      items.map (·.key) = if req.persist then [0x0724 + k.val / 32] else []) ∧
  (∀ (src : Source) (req : Request) (k : Fin 64) (kind : DestKind) (s : State), s.dev.TakesUp src 0x0705 req →
    req.fld 8 5 0 = k.val → (req.persist = false ∨ s.dev.flashPermitted = true) →
    ((req.fld 8 10 8 = 0 ∧ kind = .unbound) ∨
      (req.fld 8 10 8 = 1 ∧ kind = .slot (Dev.slotRef (req.word 0x0C)) ∧ s.dev.slotStaged (Dev.slotRef (req.word 0x0C)) true = true) ∨
      (req.fld 8 10 8 = 2 ∧ ∃ (t : Fin 8) (c : Fin 16), kind = .talker t c ∧ fld (req.word 0x0C) 2 0 = t.val ∧
        fld (req.word 0x0C) 19 16 = c.val)) →
    (∀ y, kind = .slot y → ∀ j : Fin 64, j ≠ k → s.dev.route.dests[j].kind ≠ .slot y) →
    (s.dev.route.dests[k].kind = kind ∨ s.dev.hasXp none (some k) = false) → req.fld 0x10 11 0 ≤ s.dev.maxDelay →
    let y := s.dev.route.dests[k]
    let delay := if kind = .unbound then 0 else req.fld 0x10 11 0
    (delay = y.newDelay.getD y.delay ∨ (s.dev.placeDelay k delay).isSome) →
    ∃ d items, exec (.routeDestBind src req) s = .next (s.okay src 0x0705 req d [] items) ∧
      items.map (·.key) = (if req.persist then [0x0740 + k.val] else []) ∧ d.route.dests[k].kind = kind ∧
      (∀ a : Fin 4, req.fld 8 14 12 = a.val → d.route.dests[k].amp = some a) ∧
      (4 ≤ req.fld 8 14 12 → d.route.dests[k].amp = none) ∧
      d.route.dests[k].rampLen = clampN 16 1024 (req.fld 0x10 26 16) ∧ d.route.dests[k].thresh = req.fld 0x14 6 0 ∧
      d.route.dests[k].attack = clampN 1 255 (req.fld 0x14 15 8) ∧ d.route.dests[k].release = clampN 1 255 (req.fld 0x14 23 16) ∧
      (y.kind = .unbound ∨ kind = .unbound → d.route.dests[k].delay = delay ∧ d.route.dests[k].newDelay = none) ∧
      (y.kind ≠ .unbound → kind ≠ .unbound → d.route.dests[k].delay = y.delay ∧
        d.route.dests[k].newDelay = if delay = y.newDelay.getD y.delay then y.newDelay else some delay) ∧
      ∀ j : Fin 64, j ≠ k → d.route.dests[j] = s.dev.route.dests[j]) ∧
  (∀ (l : List Xp) (x : Xp), (Dev.setXp l x).filter (fun y => y.src == x.src && y.dst == x.dst) = if x.gain = 0 then [] else [x]) ∧
  (∀ (src : Source) (req : Request) (s : State), s.dev.TakesUp src 0x0706 req →
    1 ≤ (req.word 8).toNat → (req.word 8).toNat ≤ 29 →
    let bank := (List.range (req.word 8).toNat).foldl (fun l i => Dev.setXp l
      ⟨⟨fld (req.word (0x0C + 8 * i)) 5 0 % 64, Nat.mod_lt _ (by decide)⟩,
       ⟨fld (req.word (0x0C + 8 * i)) 13 8 % 64, Nat.mod_lt _ (by decide)⟩, fldS (req.word (0x10 + 8 * i)) 23 0⟩) s.dev.route.staged
    (∀ i < (req.word 8).toNat, s.dev.route.sources[fld (req.word (0x0C + 8 * i)) 5 0]? ≠ some .pilot) →
    bank.length + s.dev.pilotCount ≤ 256 →
    exec (.routeXpSet src req) s =
      .next (s.okay src 0x0706 req { s.dev with route := { s.dev.route with staged := bank } })) ∧
  (∀ (src : Source) (req : Request) (s : State), s.dev.TakesUp src 0x0707 req → (req.persist = false ∨ s.dev.flashPermitted = true) →
    s.Does (.routeCommit src req) fun d => d.route = { s.dev.route with
      commit := some (s.dev.route.staged, clampN 0 1024 (req.fld 8 10 0)),
      replies := s.dev.route.replies ++ [(src, req.tag)] }) ∧
  (∀ (src : Source) (req : Request) (k : Fin 64) (s : State), s.dev.TakesUp src 0x0708 req → req.fld 8 5 0 = k.val →
    (req.persist = false ∨ s.dev.flashPermitted = true) →
    ∃ d items, exec (.routeDestGain src req) s = .next (s.okay src 0x0708 req d [] items) ∧
      d.route.dests[k].gainTo = fldS (req.word 0x0C) 23 0 ∧ d.route.dests[k].gainDone = 0 ∧
      d.route.dests[k].gainLen = s.dev.route.dests[k].rampLen ∧
      ∀ j : Fin 64, j ≠ k → d.route.dests[j] = s.dev.route.dests[j]) ∧
  (∀ (src : Source) (req : Request) (s : State), s.dev.TakesUp src 0x0709 req →
    ∃ d, exec (.routeMute src req) s = .next (s.okay src 0x0709 req d) ∧ ∀ k : Fin 64,
      d.route.dests[k].muted = if (if k.val < 32 then (req.word 8).getLsbD k.val else (req.word 0x0C).getLsbD (k.val - 32))
        then req.bit 0x10 0 else s.dev.route.dests[k].muted) ∧
  (∀ (src : Source) (req : Request) (k : Fin 2) (s : State), s.dev.TakesUp src 0x070A req → req.fld 8 0 0 = k.val →
    (req.persist = false ∨ s.dev.flashPermitted = true) →
    ∃ d, exec (.routeToneSet src req) s = .next (s.okay src 0x070A req d [] (Dev.keptAs req (0x0721 + k.val))) ∧
      d.route.tones[k].level = (if req.fld 8 15 8 = 255 then 255 else min 240 (req.fld 8 15 8)) ∧ d.route.tones[k].levelDone = 0 ∧
      d.route.tones[k].newFreq = clampN 100 (45 * s.dev.fs / 10) (req.fld 0x0C 19 0) ∧
      d.route.tones[k].freq = s.dev.route.tones[k].freq) ∧
  (∀ (src : Source) (req : Request) (s : State), s.dev.TakesUp src 0x070B req → (req.persist = false ∨ s.dev.flashPermitted = true) →
    let top := clampN 0 256 (req.fld 8 8 0)
    (∀ a ∈ s.dev.streams.mortar, ∀ i, a.owner = .listener i → a.first + a.count ≤ 256 - top) →
    exec (.routePartition src req) s = .next (s.okay src 0x070B req { s.dev with streams := { s.dev.streams with
      partition := top } } [] (Dev.keptAs req 0x0720))) ∧
  (∀ (src : Source) (req : Request) (k : Fin 16) (s : State), s.dev.TakesUp src 0x070C req → req.fld 8 3 0 = k.val →
    (req.persist = false ∨ s.dev.flashPermitted = true) →
    let v := Dev.slotRef (req.word 0x0C)
    let current : Fin 16 := ⟨fld (req.word 0x0C) 19 16 % 16, Nat.mod_lt _ (by decide)⟩
    (req.bit 8 8 = false → ∃ d, exec (.routeSenseBind src req) s = .next (s.okay src 0x070C req d [] (Dev.keptAs req (0x0710 + k.val))) ∧
      d.route.sense[k].bind = none) ∧
    (req.bit 8 8 = true → v.slot ≠ current → s.dev.slotStaged v false = true →
      s.dev.slotStaged { v with slot := current } false = true → (req.bit 8 9 = true → s.dev.tdm[v.port].staged.width = 2) →
      ∃ d, exec (.routeSenseBind src req) s = .next (s.okay src 0x070C req d [] (Dev.keptAs req (0x0710 + k.val))) ∧
        d.route.sense[k] = { resetSense with bind := some ⟨v.port, v.line, v.slot, current, req.bit 8 9⟩ })) ∧
  (∀ (src : Source) (req : Request) (k : Fin 64) (s : State), s.dev.TakesUp src 0x070D req → req.fld 8 5 0 = k.val →
    ∃ l, exec (.routeStatus src req) s = .next (s.okay src 0x070D req s.dev l) ∧ l.length = 6 ∧
      (l.getD 0 0).getLsbD 8 = s.dev.route.dests[k].muted ∧ l.getD 1 0 = atS 23 0 s.dev.route.dests[k].gainTo ∧
      l.getD 3 0 = w32 s.dev.route.dests[k].clip)


/-- O53, tier 2. Pilot slots, foldback, DC tests, learning, amplifiers, I2C and DTCs. On an awake device:
MEAS_SLOT_END of an enabled speaker counts the slot as rejected, with its reason, or stores its result and
counts each test up to the first that fails, and does nothing for a speaker that is not enabled; FOLDBACK_EVAL
lowers a target at once and raises it only 2 °C below the temperature that lowered it; FOLDBACK_LIMIT qualifies
the DTC of a target at −24 dB and clears that of any other; DC_TEST_SPEAKER_START starts the test of a quiet
speaker, DC_TEST_NOT_QUIET gives it up, DC_TEST_SPEAKER_DONE ends it after 120 ms with its resistance and its
outcome, and DC_TEST_ABORT ends it for a cause that holds; BASELINE_LEARN_DONE ends a learn with its means,
BASELINE_LEARN_TIMEOUT one that is incomplete; a qualified DTC takes a record of its cycle; AMP_FAULT_ASSERT
drives the mute line low, ends the amplifier's running script and latches after the retries;
FAULT_HOLD_EXPIRY ends the demand of a line that stayed high or runs the FAULT script; AMP_SCRIPT_DONE takes an
ended script off its bus with its effect; I2C_TRANSFER_DONE retries a step up to three times, goes on, or fails
the scripts of a stuck bus, I2C_RETRY lets the bus go on and I2C_STRETCH_TIMEOUT fails the transfer;
MUTE_LINE_CHECK counts each pin that carries a mute line; DIE_SENSOR_DISAGREE, AMON_OUT_OF_RANGE and
AMON_BACK_IN_RANGE judge their readings; DTC_STORE_WRITE, where the flash may be programmed in ACTIVE, programs
the change that has waited longest, and the store never holds more than 48 records. (R65, R293, R294, R295, R298,
R299, R300, R302, R304, R306, R309, R310) -/
def Obligations.MeasurementEvents : Prop :=
  (∀ (k : Fin 16) (s : State), s.dev.Awake →
    let x := s.dev.meas.speakers[k]
    let w := s.dev.meas.watch[k]
    (x.setup.enable = false → exec (.measSlotEnd k) s = .next s) ∧
    (x.setup.enable = true → s.dev.rejection k ≠ 0 → s.Does (.measSlotEnd k) fun d =>
      d.meas.speakers[k].lastReject = s.dev.rejection k ∧ d.meas.speakers[k].rejected = wrapInc 16 x.rejected ∧
      d.meas.speakers[k].accepted = x.accepted ∧ d.meas.speakers[k].lastZ = x.lastZ ∧ d.meas.speakers[k].runs = x.runs ∧
      d.meas.watch[k] = freshWatch 0 ∧
      (s.dev.rejection k = 4 → d.meas.speakers[k].staleRun = x.staleRun + 1 ∧
        (3 ≤ x.staleRun → d.dtcFailed (Dev.speakerDtc k 6) = true))) ∧
    (x.setup.enable = true → s.dev.rejection k = 0 → s.Does (.measSlotEnd k) fun d =>
      let z := Dev.impedance x.setup w
      let short := z < 10 * x.setup.shortOhm ∨ w.overcurrent = true
      d.meas.speakers[k].lastZ = z ∧ d.meas.speakers[k].accepted = wrapInc 16 x.accepted ∧
      d.meas.speakers[k].lastPhase = Dev.slotPhase (Dev.pilotOf s.dev.ks.rate).1 x.setup w ∧
      d.meas.speakers[k].rejected = x.rejected ∧ d.meas.speakers[k].staleRun = 0 ∧ d.meas.watch[k] = freshWatch 0 ∧
      (short → d.meas.speakers[k].runs[(0 : Fin 5)] = ⟨x.runs[(0 : Fin 5)].fails + 1, 0⟩ ∧
        (∀ j : Fin 5, j ≠ 0 → d.meas.speakers[k].runs[j] = x.runs[j]) ∧
        (x.setup.failN ≤ x.runs[(0 : Fin 5)].fails + 1 → d.dtcFailed (Dev.speakerDtc k 1) = true)) ∧
      (¬ short → d.meas.speakers[k].runs[(0 : Fin 5)] = ⟨0, x.runs[(0 : Fin 5)].passes + 1⟩ ∧
        (x.setup.passN ≤ x.runs[(0 : Fin 5)].passes + 1 → d.dtcFailed (Dev.speakerDtc k 1) = false)))) ∧
  (∀ (s : State), s.dev.Awake → s.Does .foldbackEval fun d => ∀ k : Fin 4,
    let a := s.dev.meas.amps[k]
    let c := s.dev.meas.config
    let byTemp := a.maxTemp.elim 0 fun t => (clampI 0 240 ((c.ampSlope : Int) * (t - c.ampStart))).toNat
    let demand := if a.warned then max byTemp c.warnFold else byTemp
    d.meas.amps[k].maxTemp = none ∧ d.meas.amps[k].warned = false ∧ d.meas.amps[k].demand = a.demand ∧
    d.meas.amps[k].temp = a.maxTemp ∧ d.meas.amps[k].warning = a.warned ∧
    (s.dev.hasTagged k = false → d.meas.amps[k].fold.target = 0) ∧
    (s.dev.hasTagged k = true → (a.fold.target < demand → d.meas.amps[k].fold = ⟨demand, (a.maxTemp.map (4 * ·)).getD a.fold.temp⟩) ∧
      (demand < a.fold.target → d.meas.amps[k].fold.target =
        if a.maxTemp.all (fun t => 4 * t + 8 ≤ a.fold.temp) then demand else a.fold.target) ∧
      (demand = a.fold.target → d.meas.amps[k].fold = a.fold))) ∧
  (∀ (k : Fin 4) (s : State), s.dev.Awake → s.Does (.foldbackLimit (.amp k)) fun d =>
    d.dtcFailed (0xC20004 + 256 * k.val) = (s.dev.meas.amps[k].fold.target == 240)) ∧
  (∀ (s : State), s.dev.Awake → s.Does (.foldbackLimit .die) fun d => d.dtcFailed 0xC30001 = (s.dev.meas.die.target == 240)) ∧
  (∀ (k : Fin 16) (t : DcTest) (s : State), s.dev.Awake → s.dev.meas.dcTest = some t → t.queue.head? = some k →
    (t.started = false → s.dev.dcQuiet k = true → s.dev.slotNumber % 16 ≠ k.val → s.dev.driving = none →
      s.dev.sup.nvwInhibit = false →
      exec (.dcTestSpeakerStart k) s = .next { s with dev := { s.dev with meas := { s.dev.meas with
        dcTest := some { t with started := true }, drive := some ⟨k, s.dev.cc, ⟨0, 0, 0⟩, ⟨0, 0, 0⟩, none⟩ } } }) ∧
    (s.dev.dcQuiet k = false → exec (.dcTestSpeakerStart k) s = .next s) ∧
    (t.started = false → s.Does (.dcTestNotQuiet k) fun d => d.meas.speakers[k].dcOutcome = 6 ∧
      d.meas.dcTest = if (t.queue.drop 1).isEmpty then none else some { t with queue := t.queue.drop 1, started := false }) ∧
    (∀ y : DcDrive, t.started = true → s.dev.meas.drive = some y → y.abort = none → 120000000 ≤ s.dev.nsSince y.start →
      s.Does (.dcTestSpeakerDone k) fun d =>
      let x := s.dev.meas.speakers[k]
      let z := Dev.dcResistance x.setup y
      let short : Bool := z < 10 * x.setup.dcShort
      let far : Bool := z > 10 * x.setup.dcOpen
      d.meas.speakers[k].rdc = z ∧ d.meas.drive = none ∧ d.dtcFailed (Dev.speakerDtc k 0x11) = short ∧
      d.dtcFailed (Dev.speakerDtc k 0x12) = far ∧ (short = true → d.meas.speakers[k].dcOutcome = 2) ∧
      (short = false → far = true → d.meas.speakers[k].dcOutcome = 3) ∧
      (short = false → far = false → d.meas.speakers[k].dcOutcome =
        if x.dcBaseline.any fun b => ((z : Int) - b).natAbs * 100 > b * x.setup.dcDriftPct then 4 else 1)) ∧
    (∀ y : DcDrive, s.dev.meas.drive = some y → s.dev.nsSince y.start < 120000000 → exec (.dcTestSpeakerDone k) s = .next s) ∧
    (t.started = true → ∀ c : DcAbort, (s.dev.dcCause k c = true → s.Does (.dcTestAbort k c) fun d =>
      d.meas.speakers[k].dcOutcome = (match c with | .supply => 5 | .notQuiet => 6 | .muted => 7 | .fault => 8) ∧
      d.meas.drive = s.dev.meas.drive.map fun x => { x with abort := some (s.dev.dcLevelNow x, s.dev.cc) }) ∧
      (s.dev.dcCause k c = false → exec (.dcTestAbort k c) s = .next s))) ∧
  (∀ (k : Fin 16) (l : Learn) (s : State), s.dev.Awake → s.dev.meas.speakers[k].learn = some l →
    (16 ≤ l.count → s.Does (.baselineLearnDone k) fun d =>
      d.meas.speakers[k] = { s.dev.meas.speakers[k] with
        learn := none, baseline := some ((narrow l.sumZ 16).toNat, narrow l.sumPhase 16) }) ∧
    (l.count < 16 → exec (.baselineLearnDone k) s = .next s ∧ s.Does (.baselineLearnTimeout k) fun d =>
      d.meas.speakers[k] = { s.dev.meas.speakers[k] with learn := none })) ∧
  (∀ (d : Dev) (code : Nat) (v : Int), d.dtcFailed code = false →
    let x := (d.qualify code v).dtcOf code
    x.code = code ∧ x.status = ((d.dtcOf code).status &&& 0x80) ||| 0x2F ∧ x.occurrences = min 0xFFFF ((d.dtcOf code).occurrences + 1) ∧
    x.aging = 0 ∧ x.last = d.meas.cycle ∧ x.value = v) ∧
  (∀ (k : Fin 4) (s : State), s.dev.Awake →
    ((s.dev.gpio.source[(⟨k.val, by omega⟩ : Fin 25)] = none ∨ s.dev.fnLevel ⟨k.val, by omega⟩ = true) →
      exec (.ampFaultAssert k) s = .next s) ∧
    (s.dev.gpio.source[(⟨k.val, by omega⟩ : Fin 25)] ≠ none → s.dev.fnLevel ⟨k.val, by omega⟩ = false →
      s.dev.meas.amps[k].demand = false → s.Does (.ampFaultAssert k) fun d =>
        d.meas.amps[k].demand = true ∧ d.meas.amps[k].faultLow = true ∧
        d.meas.amps[k].latched = (s.dev.meas.amps[k].latched || decide (s.dev.meas.config.retries ≤ s.dev.meas.amps[k].recoveries)) ∧
        d.dtcFailed (0xC20001 + 256 * k.val) = true ∧ d.muteLine k = false ∧
        ∀ b : Fin 2, ∀ (kind : ScriptKind) (step fails : Nat) (ended : Option Bool) (reply : Option Byte) (l : List BusJob),
          s.dev.meas.buses[b].jobs = .script k kind step fails ended reply :: l → d.meas.buses[b].jobs.length = l.length) ∧
    (s.dev.meas.amps[k].demand = true → s.dev.faultHeld k = true → s.dev.meas.amps[k].latched = false →
      s.dev.scriptBusy k (some .fault) = false → s.Does (.faultHoldExpiry k) fun d =>
        (s.dev.scriptOf k .fault = none → d.meas.amps[k].demand = false ∧
          d.meas.amps[k].recoveries = s.dev.meas.amps[k].recoveries + 1 ∧ d.dtcFailed (0xC20001 + 256 * k.val) = false) ∧
        (s.dev.scriptOf k .fault ≠ none → d.meas.amps[k] = s.dev.meas.amps[k] ∧ d.scriptBusy k (some .fault) = true)) ∧
    (s.dev.faultHeld k = false → exec (.faultHoldExpiry k) s = .next s)) ∧
  (∀ (k : Fin 4) (b : Fin 2) (kind : ScriptKind) (step fails : Nat) (ok : Bool) (reply : Option Byte) (t : List BusJob) (s : State),
    s.dev.Awake → s.dev.meas.buses[b].jobs = .script k kind step fails (some ok) reply :: t →
    s.dev.meas.buses[b].delayEnd ≤ s.dev.cc → (∀ c : Fin 2, c ≠ b → s.dev.meas.buses[c].jobs = []) →
    s.Does (.ampScriptDone k) fun d =>
      d.meas.buses[b].jobs.length = t.length ∧
      (ok = true → kind = .start → s.dev.sup.supplyMute = false →
        d.meas.amps[k].muted = (s.dev.meas.amps[k].muted && !s.dev.meas.amps[k].autoRelease)) ∧
      (ok = true → kind = .fault → s.dev.meas.amps[k].latched = false → d.meas.amps[k].demand = false) ∧
      (ok = false → d.dtcFailed (0xC20003 + 256 * k.val) = true ∧
        (kind ≠ .user → if s.dev.sup.supplyMute then d.meas.amps[k].recorded = some true else d.meas.amps[k].muted = true))) ∧
  (∀ (b : Fin 2) (s : State), s.dev.Awake → exec (.i2cRetry b) s = .next { s with dev := { s.dev with meas := { s.dev.meas with
    buses := upd s.dev.meas.buses b fun x => { x with retrying := false } } } }) ∧
  (∀ (b : Fin 2) (s : State), s.dev.Awake →
    (∃ d, exec (.i2cStretchTimeout b) s = .next { s with dev := d } ∧ exec (.i2cTransferDone b .nack) s = .next { s with dev := d }) ∧
    (s.dev.busTransfer b = none → ∀ r, exec (.i2cTransferDone b r) s = .next s)) ∧
  (∀ (b : Fin 2) (k : Fin 4) (kind : ScriptKind) (step fails : Nat) (reply : Option Byte) (t : List BusJob) (s : State), s.dev.Awake →
    (s.dev.busTransfer b).isSome = true → s.dev.meas.buses[b].jobs = .script k kind step fails none reply :: t →
    (s.Does (.i2cTransferDone b .nack) fun d => d.meas.buses[b].stuck = false ∧ d.meas.buses[b].retrying = decide (fails < 2) ∧
      d.meas.buses[b].jobs = (if fails < 2 then .script k kind step (fails + 1) none reply
        else .script k kind step 0 (some false) reply) :: t) ∧
    (s.Does (.i2cTransferDone b .stuck) fun d => d.meas.buses[b].stuck = true ∧ d.dtcFailed (Dev.busDtc b) = true ∧
      d.meas.buses[b].jobs.head? = some (.script k kind step 0 (some false) reply) ∧
      ∀ j ∈ d.meas.buses[b].jobs, ∃ a i n e r, j = .script a i n 0 (some e) r) ∧
    (∀ (x : Script) (a : ScriptStep) (l : List Byte), s.dev.scriptOf k kind = some x → x.steps[step]? = some a →
      s.Does (.i2cTransferDone b (.ack l)) fun d => d.meas.buses[b].stuck = false ∧ d.meas.buses[b].retrying = false ∧
        (if a.op = 1 ∧ (l.getD 0 0).toNat &&& fld a.data 15 8 ≠ fld a.data 7 0 then
          d.meas.buses[b].jobs = .script k kind step 0 (some false) reply :: t
        else
          (∀ y, x.steps[step + 1]? = some y → y.op < 2 → d.meas.buses[b].jobs = .script k kind (step + 1) 0 none reply :: t ∧
            d.meas.buses[b].delayEnd = s.dev.cc + 500000 * a.delayMs) ∧
          (x.steps[step + 1]? = none → d.meas.buses[b].jobs = .script k kind (step + 1) 0 (some true) reply :: t)))) ∧
  (∀ (b : Fin 2) (addr n : Nat) (fast : Bool) (wr l : List Byte) (tag : Byte) (t : List BusJob) (s : State), s.dev.Awake →
    s.dev.meas.buses[b].retrying = false → s.dev.meas.buses[b].delayEnd ≤ s.dev.cc →
    s.dev.meas.buses[b].jobs = .transfer addr fast wr n (.mb0, tag) :: t →
    s.dev.mail.mb[(0 : Fin 2)].state = .busy → s.Does (.i2cTransferDone b (.ack l)) fun d =>
      d.meas.buses[b].jobs.length = t.length ∧ d.mail.mb[(0 : Fin 2)].state = .ready) ∧
  (∀ (s : State), (s.dev.power.state ≠ .active → exec .muteLineCheck s = .next s) ∧
    (s.dev.power.state = .active → s.Does .muteLineCheck fun d => ∀ p : Fin 37,
      let w := s.dev.gpio.pins[p].watch
      let x := d.gpio.pins[p]
      (s.dev.mutePin p = false → x = s.dev.gpio.pins[p]) ∧
      (s.dev.mutePin p = true →
        ((∀ k : Fin 4, ⟨4 + k.val, by omega⟩ ∈ s.dev.pinFns p → s.dev.gpio.pins[p].raw = s.dev.muteLine k) →
          x.watch = ⟨0, w.agree + 1, w.told && decide (w.agree < 2)⟩) ∧
        (∀ k : Fin 4, ⟨4 + k.val, by omega⟩ ∈ s.dev.pinFns p → s.dev.gpio.pins[p].raw ≠ s.dev.muteLine k →
          x.watch = ⟨w.disagree + 1, 0, w.told || decide (2 ≤ w.disagree)⟩)))) ∧
  (∀ (s : State), s.dev.power.state = .active →
    ((s.dev.sup.dieA - s.dev.sup.dieB).natAbs ≤ 32 → exec .dieSensorDisagree s = .next s) ∧
    (32 < (s.dev.sup.dieA - s.dev.sup.dieB).natAbs → s.Does .dieSensorDisagree fun d => d.dtcFailed 0xC30003 = true)) ∧
  (∀ (s : State), s.dev.Awake → s.dev.meas.config.amonRatio ≠ 0 →
    let out := s.dev.sup.amon * s.dev.meas.config.amonRatio < 1000 * s.dev.meas.config.amonLow ∨
      1000 * s.dev.meas.config.amonHigh < s.dev.sup.amon * s.dev.meas.config.amonRatio
    (out → s.Does .amonOutOfRange (fun d => d.dtcFailed 0xC30002 = true) ∧ exec .amonBackInRange s = .next s) ∧
    (¬ out → s.Does .amonBackInRange (fun d => d.dtcFailed 0xC30002 = false) ∧ exec .amonOutOfRange s = .next s)) ∧
  (∀ (code : Nat) (rest : List Nat) (s : State), s.dev.Powered → s.dev.meas.unsaved = code :: rest →
    ((s.dev.flashPermitted = false ∨ s.dev.power.state ≠ .active) → exec .dtcStoreWrite s = .next s) ∧
    (s.dev.flashPermitted = true → s.dev.power.state = .active → s.Does .dtcStoreWrite fun d =>
      d.meas.unsaved = rest ∧ d.meas.dtcs = s.dev.meas.dtcs ∧
      ((s.dev.meas.dtcs.find? (·.code == code)) = none → ∀ y ∈ Dev.storeDtcs d.meas.store, y.code ≠ code) ∧
      (∀ x, s.dev.meas.dtcs.find? (·.code == code) = some x → x.occurrences ≠ 0 → x ∈ Dev.storeDtcs d.meas.store))) ∧
  (∀ st : DtcStore, (Dev.storeDtcs st).length ≤ 48)


/-- O54, tier 1. The measurement and amplifier commands. MEAS_SPEAKER_SET and MEAS_CONFIG, where the pilot
crosspoints they reserve fit, store their fields, a zero field at its default and others clamped; MEAS_BASELINE
learns, sets, takes the DC result or clears; MEAS_DC_TEST queues the enabled speakers of its mask; MEAS_RESULT
and MEAS_MONITORS answer their words; MEAS_DTC_READ a record of the store; MEAS_DTC_CLEAR leaves a DTC as if nothing had been tested;
AMP_SCRIPT_SET stores a script, AMP_SCRIPT_RUN requests it; AMP_LINE sets the amplifiers of its mask, their mute
lines after a supply mute only; AMP_I2C queues a transfer on a bus that is not stuck, answered at its end. (R287, R295, R296, R300, R301, R302, R304, R309, R310,
R313, Table 11.12) -/
def Obligations.MeasCommands : Prop :=
  (∀ (src : Source) (req : Request) (k : Fin 16) (a : Fin 4) (t : Fin 64) (s : State), s.dev.TakesUp src 0x0801 req →
    req.fld 8 3 0 = k.val → req.fld 8 13 12 = a.val → req.fld 8 29 24 = t.val → (req.persist = false ∨ s.dev.flashPermitted = true) →
    let c : SpeakerSetup := ⟨req.bit 8 8, a, min 2 (req.fld 8 17 16), t, req.fld 0x0C 15 0, req.fld 0x0C 31 16, fldS (req.word 0x10) 15 0,
      Dev.dflt (req.fld 0x14 15 0) 100 10 65535, Dev.dflt (req.fld 0x14 31 16) 4000 10 65535, Dev.dflt (req.fld 0x18 7 0) 160 110 255,
      Dev.dflt (req.fld 0x18 15 8) 25 5 90, Dev.dflt (req.fld 0x18 23 16) 20 5 90, Dev.dflt (req.fld 0x18 27 24) 4 1 15,
      Dev.dflt (req.fld 0x18 31 28) 8 1 15, Dev.dflt (req.fld 0x1C 15 0) 50 10 65535, Dev.dflt (req.fld 0x1C 31 16) 4000 10 65535,
      Dev.dflt (req.fld 0x20 7 0) 15 5 90⟩
    (c.enable = true → (∃ x, s.dev.route.dests[t].kind = .slot x) ∧
      (s.dev.modSpeaker k fun x => { x with setup := c }).pilotFits = true) →
    ∃ d, exec (.measSpeakerSet src req) s = .next (s.okay src 0x0801 req d [] (Dev.keptAs req (0x0800 + k.val))) ∧
      d.meas.speakers[k] = { s.dev.meas.speakers[k] with setup := c } ∧
      ∀ j : Fin 16, j ≠ k → d.meas.speakers[j] = s.dev.meas.speakers[j]) ∧
  (∀ (src : Source) (req : Request) (s : State), s.dev.TakesUp src 0x0802 req → (req.persist = false ∨ s.dev.flashPermitted = true) →
    let e : Dev := { s.dev with meas := { s.dev.meas with
      config := ⟨req.bit 8 0, Dev.dflt (req.fld 8 15 8) 110 60 150, Dev.dflt (req.fld 8 23 16) 10 1 50, Dev.dflt (req.fld 8 31 24) 60 0 240,
        Dev.dflt (req.fld 0x0C 7 0) 135 60 150, Dev.dflt (req.fld 0x0C 15 8) 15 1 50, Dev.dflt (req.fld 0x0C 23 16) 10 1 255,
        Dev.dflt (req.fld 0x0C 27 24) 3 0 15, req.fld 0x10 15 0, req.fld 0x14 15 0, req.fld 0x14 31 16,
        Dev.dflt (req.fld 0x18 7 0) 34 20 60, Dev.dflt (req.fld 0x18 15 8) 60 40 90⟩ } }
    (req.bit 8 0 = true → e.pilotFits = true) →
      exec (.measConfig src req) s = .next (s.okay src 0x0802 req e [] (Dev.keptAs req 0x0810))) ∧
  (∀ (src : Source) (req : Request) (k : Fin 16) (s : State), s.dev.TakesUp src 0x0803 req → req.fld 8 3 0 = k.val →
    ∃ l, exec (.measResult src req) s = .next (s.okay src 0x0803 req s.dev l) ∧ l.length = 6 ∧
      (l.getD 0 0).getLsbD 0 = s.dev.meas.speakers[k].setup.enable ∧
      l.getD 3 0 = (at' 0 s.dev.meas.speakers[k].accepted ||| at' 16 s.dev.meas.speakers[k].rejected)) ∧
  (∀ (src : Source) (req : Request) (k : Fin 16) (s : State), s.dev.TakesUp src 0x0804 req → req.fld 8 3 0 = k.val →
    (req.persist = false ∨ s.dev.flashPermitted = true) →
    let x := s.dev.meas.speakers[k]
    (req.fld 8 9 8 = 0 → (∀ j < 5, s.dev.dtcFailed (Dev.speakerDtc k (j + 1)) = false) →
      ∃ d, exec (.measBaseline src req) s = .next (s.accepted src 0x0804 req d) ∧
        d.meas.speakers[k] = { x with learn := some ⟨0, 0, 0, req.tag, req.persist⟩ }) ∧
    (req.fld 8 9 8 = 1 → ∃ d items, exec (.measBaseline src req) s = .next (s.okay src 0x0804 req d [] items) ∧
      items.map (·.key) = (if req.persist then [0x0820 + k.val] else []) ∧
      d.meas.speakers[k] = { x with
        baseline := if req.fld 0x0C 15 0 = 0 then x.baseline else some (req.fld 0x0C 15 0, fldS (req.word 0x0C) 31 16),
        dcBaseline := if req.fld 0x10 15 0 = 0 then x.dcBaseline else some (req.fld 0x10 15 0) }) ∧
    (req.fld 8 9 8 = 2 → ∃ d items, exec (.measBaseline src req) s = .next (s.okay src 0x0804 req d [] items) ∧
      d.meas.speakers[k] = { x with dcBaseline := if x.dcOutcome = 0 then x.dcBaseline else some x.rdc }) ∧
    (req.fld 8 9 8 = 3 → ∃ d, exec (.measBaseline src req) s =
        .next (s.okay src 0x0804 req d [] (Dev.removedAs req (0x0820 + k.val))) ∧
      d.meas.speakers[k] = { x with baseline := none, dcBaseline := none })) ∧
  (∀ (src : Source) (req : Request) (s : State), s.dev.TakesUp src 0x0805 req → s.dev.sup.nvwInhibit = false → s.dev.meas.dcTest = none →
    let ks := (allFin 16).filter fun k => (req.word 8).getLsbD k.val && s.dev.meas.speakers[k].setup.enable
    (ks ≠ [] → exec (.measDcTest src req) s = .next (s.accepted src 0x0805 req { s.dev with meas := { s.dev.meas with
      dcTest := some ⟨ks, false, req.tag⟩ } })) ∧
    (ks = [] → ∃ d, exec (.measDcTest src req) s = .next (s.accepted src 0x0805 req d) ∧ d.meas = s.dev.meas)) ∧
  (∀ (src : Source) (req : Request) (s : State), s.dev.TakesUp src 0x0806 req →
    ∃ l, exec (.measMonitors src req) s = .next (s.okay src 0x0806 req s.dev l) ∧ l.length = 6 ∧
      l.getD 0 0 = (atS 15 0 s.dev.sup.dieA ||| atS 31 16 s.dev.sup.dieB) ∧
      l.getD 1 0 = (at' 0 s.dev.sup.amon ||| at' 16 (min 65535 s.dev.amonSource)) ∧ l.getD 5 0 = at' 0 s.dev.meas.die.target) ∧
  (∀ (src : Source) (req : Request) (s : State), s.dev.TakesUp src 0x0807 req → req.fld 8 5 0 < 48 →
    exec (.measDtcRead src req) s = .next (s.okay src 0x0807 req s.dev
      (((Dev.storeDtcs s.dev.meas.store)[req.fld 8 5 0]?).elim (List.replicate 6 0) Dev.dtcWords))) ∧
  (∀ (src : Source) (req : Request) (s : State), s.dev.TakesUp src 0x0808 req → s.dev.sup.nvwInhibit = false →
    (req.fld 8 23 0 = 0xFFFFFF → ∃ d, exec (.measDtcClear src req) s = .next (s.okay src 0x0808 req d) ∧
      ∀ code ∈ Dev.dtcCodes, d.dtcOf code = Dev.freshDtc code) ∧
    (req.fld 8 23 0 ∈ Dev.dtcCodes → ∃ d, exec (.measDtcClear src req) s = .next (s.okay src 0x0808 req d) ∧
      d.dtcOf (req.fld 8 23 0) = Dev.freshDtc (req.fld 8 23 0) ∧
      ∀ code, code ≠ req.fld 8 23 0 → d.dtcOf code = s.dev.dtcOf code)) ∧
  (∀ (src : Source) (req : Request) (k : Fin 4) (kind : ScriptKind) (s : State), s.dev.TakesUp src 0x0809 req → req.fld 8 1 0 = k.val →
    req.fld 8 9 8 = (Dev.kindIx kind).val → req.fld 0x0C 4 0 ≤ 24 → (req.persist = false ∨ s.dev.flashPermitted = true) →
    (∀ i < req.fld 0x0C 4 0, req.fld (0x10 + 8 * i) 2 0 ≤ 3) →
    ∃ d items, exec (.ampScriptSet src req) s = .next (s.okay src 0x0809 req d [] items) ∧
      items = (if req.fld 0x0C 4 0 = 0 then Dev.removedAs req (0x0830 + 4 * k.val + (Dev.kindIx kind).val)
        else Dev.keptAs req (0x0830 + 4 * k.val + (Dev.kindIx kind).val)) ∧
      d.scriptOf k kind = (if req.fld 0x0C 4 0 = 0 then none else some ⟨if req.bit 8 16 then 1 else 0, req.fld 8 30 24, req.bit 0x0C 8,
        (List.range (req.fld 0x0C 4 0)).map fun i => Dev.stepOf (req.word (0x10 + 8 * i)) (req.word (0x14 + 8 * i))⟩) ∧
      ∀ other : ScriptKind, other ≠ kind → d.scriptOf k other = s.dev.scriptOf k other) ∧
  (∀ (src : Source) (req : Request) (k : Fin 4) (kind : ScriptKind) (s : State), s.dev.TakesUp src 0x080A req → req.fld 8 1 0 = k.val →
    req.fld 8 9 8 = (Dev.kindIx kind).val → s.dev.scriptOf k kind ≠ none → s.dev.scriptBusy k none = false →
    ∃ d, exec (.ampScriptRun src req) s = .next (s.accepted src 0x080A req d) ∧ d.scriptBusy k (some kind) = true ∧
      d.meas.amps = s.dev.meas.amps) ∧
  (∀ (src : Source) (req : Request) (s : State), s.dev.TakesUp src 0x080B req → (req.persist = false ∨ s.dev.flashPermitted = true) →
    ∃ d items, exec (.ampLine src req) s = .next (s.okay src 0x080B req d [] items) ∧ (req.persist = false → items = []) ∧ ∀ k : Fin 4,
      (req.bit 8 k.val = false → d.meas.amps[k] = s.dev.meas.amps[k]) ∧
      (req.bit 8 k.val = true →
        (if s.dev.sup.supplyMute then d.meas.amps[k].recorded = some (req.bit 8 (8 + k.val)) ∧ d.meas.amps[k].muted = s.dev.meas.amps[k].muted
          else d.meas.amps[k].muted = req.bit 8 (8 + k.val)) ∧ d.meas.amps[k].autoRelease = req.bit 8 (16 + k.val) ∧
        d.meas.amps[k].latched = (s.dev.meas.amps[k].latched && !req.bit 8 (24 + k.val)))) ∧
  (∀ (src : Source) (req : Request) (s : State), s.dev.TakesUp src 0x080C req → req.fld 8 19 16 ≤ 8 → req.fld 8 27 24 ≤ 8 →
    let b : Fin 2 := if req.bit 8 0 then 1 else 0
    let bytes := (req.payload.drop 1).flatMap fun w => natBe 4 w.toNat
    req.fld 8 27 24 ≤ bytes.length → s.dev.meas.buses[b].stuck = false →
    s.Does (.ampI2c src req) fun d => d.meas.buses[b].jobs.length = s.dev.meas.buses[b].jobs.length + 1 ∧
      d.meas.buses[b].jobs.getLast? = some (.transfer (req.fld 8 14 8) (req.bit 8 1) (bytes.take (req.fld 8 27 24))
        (req.fld 8 19 16) (src, req.tag)))


/-- O55, tier 2. What the rows of the CAN controller do. On an awake device: CAN_FRAME_RECEIVE of a frame that
passes counts, lowers REC and, where the tester takes none, gives it to the lowest receive object that matches
under its mask, whose lost frame counts; a frame off the bus, while sending, or of a format not enabled changes
nothing; at a CAN_TX_START, the suspend transmission over, the ready object of the lowest identifier, and of
equals the lowest number, is offered; at a CAN_TX_COMPLETE a success ends the request and lowers TEC, a loss or
an error retries but under single-shot, and an error that ISO 11898-1 does not exempt adds 8 to TEC, beyond 255
entering BUS_OFF; CAN_ALONE_DETECT tells at 64 ACK errors that the node is alone; CAN_RECOVERY_COMPLETE clears
both counters; CAN_INIT_ENTER enters INIT, applying a waiting setup, and CAN_INIT_EXIT leaves it with the staged
timing, but in BOOT; CAN_RECOVER, CAN_TX_REQ and CAN_TX_ABORT of the host start recovery and act on the objects
of their bits; CAN_RECEIVE_ERROR raises REC by 1 or 9; CRX_WAKE wakes QUIET. (R319, R320, R321, R322, R323, R324,
R325, R327, R328, R329, Table 12.3, Table 12.8) -/
def Obligations.CanController : Prop :=
  (∀ (f : CanFrame) (s : State), s.dev.Awake →
    ((s.dev.canOn = false ∨ s.dev.can.sending ≠ none ∨ (f.fd = true ∧ s.dev.rbit Reg.CAN_CTRL 1 = false)) →
      exec (.canFrameReceive f) s = .next s) ∧
    (s.dev.canOn = true → s.dev.can.sending = none → (f.fd = true → s.dev.rbit Reg.CAN_CTRL 1 = true) → s.dev.can.tec ≤ 255 →
      s.Does (.canFrameReceive f) fun d =>
        d.can.counters[(1 : Fin 16)] = wrapInc 32 s.dev.can.counters[(1 : Fin 16)] ∧
        d.can.counters[(3 : Fin 16)] = (if f.fd then wrapInc 32 s.dev.can.counters[(3 : Fin 16)] else s.dev.can.counters[(3 : Fin 16)]) ∧
        (s.dev.can.recErr ≤ 127 → d.can.recErr = s.dev.can.recErr - 1) ∧
        (127 < s.dev.can.recErr → 119 ≤ d.can.recErr ∧ d.can.recErr ≤ 127) ∧
        (f.remote = true → d.can.objs = s.dev.can.objs) ∧
        (let fits (n : Fin 32) : Prop := 4 ≤ n.val ∧ s.dev.can.objs[n].enable = true ∧ s.dev.can.objs[n].transmit = false ∧
           s.dev.can.objs[n].ide = f.ide ∧ (f.fd = true → s.dev.can.objs[n].fd = true) ∧
           (s.dev.can.objs[n].id ^^^ f.id) &&& s.dev.can.objs[n].mask &&& (if f.ide then 0x1FFFFFFF else 0x7FF) = 0
         f.remote = false → s.dev.testerTakes f = none →
         ((∀ n, ¬ fits n) → d.can.objs = s.dev.can.objs) ∧
         ∀ n : Fin 32, fits n → (∀ m : Fin 32, m < n → ¬ fits m) →
           d.can.objs[n].held = some ⟨f, s.dev.ks.nsec, true, s.dev.can.objs[n].held.any (·.unread)⟩ ∧
           (d.reg Reg.CAN_IRQ_STATUS).getLsbD 5 = true ∧
           (∀ m : Fin 32, m ≠ n → d.can.objs[m] = s.dev.can.objs[m]) ∧
           d.can.counters[(13 : Fin 16)] = (if s.dev.can.objs[n].held.any (·.unread) then
             wrapInc 32 s.dev.can.counters[(13 : Fin 16)] else s.dev.can.counters[(13 : Fin 16)])))) ∧
  (∀ (s : State), s.dev.Awake → s.dev.canOn = true → s.dev.rbit Reg.CAN_CTRL 0 = false → s.dev.can.listen = false →
    s.dev.can.sending = none →
    (s.dev.cc < s.dev.can.suspendEnd → exec .canTxStart s = .next s) ∧
    (s.dev.can.suspendEnd ≤ s.dev.cc →
    let ready (n : Fin 32) : Prop := s.dev.can.objs[n].enable = true ∧ s.dev.can.objs[n].transmit = true ∧
      s.dev.can.objs[n].pending = true ∧ (s.dev.can.objs[n].fd = true → s.dev.rbit Reg.CAN_CTRL 1 = true)
    let key (n : Fin 32) : Nat := arbKey s.dev.can.objs[n].id s.dev.can.objs[n].ide
    s.Does .canTxStart fun d => d.can.objs = s.dev.can.objs ∧
      (d.can.sending = none → ∀ n, ¬ ready n) ∧
      ∀ n, d.can.sending = some n → ready n ∧ ∀ m, ready m → key n < key m ∨ (key n = key m ∧ n ≤ m))) ∧
  (∀ (n : Fin 32) (s : State), s.dev.Awake → s.dev.can.sending = some n →
    (∀ delay, s.Does (.canTxComplete (.success delay)) fun d => d.can.sending = none ∧ d.can.tec = s.dev.can.tec - 1 ∧
      d.can.alone = false ∧ (n ≠ 2 → d.can.objs[n].pending = false) ∧
      d.can.counters[(0 : Fin 16)] = wrapInc 32 s.dev.can.counters[(0 : Fin 16)] ∧
      (4 ≤ n.val → (d.reg Reg.CAN_TX_DONE).getLsbD n.val = true)) ∧
    (s.Does (.canTxComplete .lost) fun d => d.can.sending = none ∧ d.can.tec = s.dev.can.tec ∧
      (n ≠ 2 → d.can.objs[n].pending = (s.dev.can.objs[n].pending &&
        !(s.dev.rbit Reg.CAN_CTRL 6 || s.dev.can.objs[n].oneShot || s.dev.can.objs[n].aborting)))) ∧
    (∀ (e : CanError) (exempt : Bool), s.Does (.canTxComplete (.failed e exempt)) fun d => d.can.sending = none ∧
      d.can.lastError = (canErrorCode e).1 ∧
      d.can.tec = (if exempt = true ∧ (e = .stuff ∨ (e = .ack ∧ s.dev.can.fc = .passive)) then s.dev.can.tec else s.dev.can.tec + 8) ∧
      (d.can.fc = .passive → d.can.suspendEnd =
        s.dev.cc + 11 * bitTime (fld s.dev.can.nbt 8 0) (fld s.dev.can.nbt 16 9) (fld s.dev.can.nbt 23 17)) ∧
      (255 < d.can.tec → d.can.fc = .busOff) ∧
      (s.dev.can.fc ≠ .busOff → 255 < d.can.tec → (d.reg Reg.CAN_IRQ_STATUS).getLsbD 1 = true) ∧
      (s.dev.can.fc ≠ .busOff → d.can.tec ≤ 255 → 127 < d.can.tec → d.can.fc = .passive))) ∧
  (∀ (s : State), s.dev.Awake →
    (64 ≤ s.dev.can.ackRun → s.dev.can.alone = false → s.Does .canAloneDetect fun d =>
      d.can = { s.dev.can with alone := true } ∧ (d.reg Reg.CAN_IRQ_STATUS).getLsbD 8 = true) ∧
    (s.dev.can.ackRun < 64 → exec .canAloneDetect s = .next s)) ∧
  (∀ (s : State), s.dev.Awake →
    (s.dev.can.fc = .busOff → s.dev.can.recovering = true → s.dev.can.initAck = false → s.Does .canRecoveryComplete fun d =>
      d.can.fc = .active ∧ d.can.tec = 0 ∧ d.can.recErr = 0 ∧ d.can.recovering = false ∧
      (d.reg Reg.CAN_IRQ_STATUS).getLsbD 2 = true) ∧
    (s.dev.can.fc ≠ .busOff → exec .canRecoveryComplete s = .next s)) ∧
  (∀ (s : State), s.dev.Awake → s.dev.can.sending = none →
    (s.dev.rbit Reg.CAN_CTRL 0 = true → s.dev.can.initAck = false → s.Does .canInitEnter fun d =>
      d.can.initAck = true ∧ d.can.ackRun = 0 ∧ d.can.setup = [] ∧ (d.reg Reg.CAN_IRQ_STATUS).getLsbD 9 = true ∧
      ∀ x, s.dev.can.setup = [x] → d.reg Reg.CAN_NBT = x.nbt ∧ d.reg Reg.CAN_DBT = x.dbt) ∧
    (s.dev.power.state = .boot → exec .canInitExit s = .next s) ∧
    (s.dev.rbit Reg.CAN_CTRL 0 = false → s.dev.can.initAck = true → s.dev.power.state ≠ .boot → exec .canInitExit s = .next { s with dev := { s.dev with
      can := { s.dev.can with
        initAck := false, nbt := s.dev.reg Reg.CAN_NBT, dbt := s.dev.reg Reg.CAN_DBT, listen := s.dev.rbit Reg.CAN_CTRL 7 } } })) ∧
  (∀ (s : State), s.dev.Writable →
    (s.dev.can.fc = .busOff → exec .canRecover s = .next { s with dev := { s.dev with can := { s.dev.can with recovering := true } } }) ∧
    (s.dev.can.fc ≠ .busOff → exec .canRecover s = .next s)) ∧
  (∀ (w : Word) (s : State), s.dev.Writable → s.Does (.canTxReq w) fun d => ∀ n : Fin 32,
    (4 ≤ n.val → w.getLsbD n.val = true → s.dev.can.objs[n].transmit = true →
      d.can.objs[n].pending = !(s.dev.can.fc == .busOff && s.dev.rbit Reg.CAN_CTRL 5)) ∧
    ((n.val < 4 ∨ w.getLsbD n.val = false ∨ s.dev.can.objs[n].transmit = false) → d.can.objs[n] = s.dev.can.objs[n])) ∧
  (∀ (w : Word) (s : State), s.dev.Writable → s.Does (.canTxAbort w) fun d => ∀ n : Fin 32,
    (4 ≤ n.val → w.getLsbD n.val = true → d.can.objs[n] = if s.dev.can.sending = some n
      then { s.dev.can.objs[n] with aborting := true } else { s.dev.can.objs[n] with pending := false }) ∧
    ((n.val < 4 ∨ w.getLsbD n.val = false) → d.can.objs[n] = s.dev.can.objs[n])) ∧
  (∀ (s : State), s.dev.Powered →
    ((s.dev.power.state = .quiet ∨ s.dev.power.quietEntry.isSome) → exec .crxWake s = .next { s with dev := { s.dev with
      power := { s.dev.power with wakePending := true } } }) ∧
    (s.dev.power.state ≠ .quiet → s.dev.power.quietEntry = none → exec .crxWake s = .next s)) ∧
  (∀ (e : CanError) (after : Bool) (s : State), s.dev.Awake → s.dev.canOn = true → s.dev.can.sending = none →
    s.Does (.canReceiveError e after) fun d => d.can.lastError = (canErrorCode e).1 ∧
      d.can.recErr = min 255 (s.dev.can.recErr + (if after then 9 else 1)) ∧
      d.can.counters[(canErrorCode e).2] = wrapInc 32 s.dev.can.counters[(canErrorCode e).2])


/-- O56, tier 1. The tester's transport and services, and the CAN commands. ISOTP_MESSAGE_COMPLETE leaves a
complete message waiting for a pass, and one that meets another is answered busyRepeatRequest; ISOTP_TIMEOUT
abandons what is in progress; RESPONSE_PENDING sends NRC 0x78 before a late response; S3_TIMEOUT and
SECURITY_DELAY_END end the session and the delay. In ACTIVE each service under its session and security has its
effect and leaves its positive response as the last sent, and one outside its session or security the negative
code: DIAGNOSTIC_SESSION_CONTROL, ECU_RESET, CLEAR_DIAGNOSTIC_INFORMATION, REPORT_NUMBER_OF_DTC_BY_STATUS_MASK,
REPORT_DTC_BY_STATUS_MASK, REPORT_SUPPORTED_DTC, REPORT_DTC_EXT_DATA_RECORD, READ_DATA_BY_IDENTIFIER,
REQUEST_SEED, SEND_KEY, START_ROUTINE, STOP_ROUTINE and REQUEST_ROUTINE_RESULTS of the control lock,
REQUEST_DOWNLOAD, TRANSFER_DATA and REQUEST_TRANSFER_EXIT of an image, the last two answered 0x72 with the
session unchanged where the flash does not verify (the model's free value, log 146), and TESTER_PRESENT. CAN_SETUP, CAN_TESTER_SET, CAN_MO_SET, CAN_MO_SEND, CAN_MO_READ and CAN_STATE set up the
controller, the tester and the objects, and answer their words. (R330, R331, R332, R333, R334, R335, R337, R338,
R339, R340, R345, Table 12.4) -/
def Obligations.TesterAndCanCommands : Prop :=
  (∀ (r : IsoRx) (s : State), s.dev.power.state = .active → s.dev.can.rx = some r →
    (r.bytes.length < r.length → exec .isotpMessageComplete s = .next s) ∧
    (r.length ≤ r.bytes.length → s.dev.udsPending = none → s.Does .isotpMessageComplete fun d =>
      d.can.rx = none ∧ d.can.uds.request = some (r.bytes, r.functional)) ∧
    (r.length ≤ r.bytes.length → s.dev.udsPending ≠ none → r.functional = false → r.bytes ≠ [0x3E, 0x80] →
      s.Does .isotpMessageComplete fun d => d.can.rx = none ∧ d.can.uds.response = some [0x7F, r.bytes.getD 0 0, 0x21] ∧
        d.can.uds.request = s.dev.can.uds.request)) ∧
  (∀ (s : State), s.dev.Awake → s.Does .isotpTimeout fun d => d.can.rx = none ∧ d.can.tx = none ∧ d.can.out = [] ∧
    (s.dev.can.sending ≠ some 2 → d.can.objs[(2 : Fin 32)].pending = false)) ∧
  (∀ (sid : Byte) (s : State), s.dev.power.state = .active → s.dev.udsPending = some sid →
    (s.Does .responsePending fun d => d.can.uds.response = some [0x7F, sid, 0x78]) ∧ exec .s3Timeout s = .next s) ∧
  (∀ (s : State), s.dev.Awake → s.dev.can.uds.session ≠ 0 → s.dev.udsPending = none → s.Does .s3Timeout fun d =>
    d.can.uds.session = 0 ∧ d.can.uds.unlocked = false ∧ d.mail.lockHeld = false) ∧
  (∀ (s : State), s.dev.Awake → exec .securityDelayEnd s = .next { s with dev := { s.dev with can := { s.dev.can with
    uds := { s.dev.can.uds with delaying := false } } } }) ∧
  (∀ (sub : Byte) (s : State), s.dev.power.state = .active → 1 ≤ sub.toNat % 128 → sub.toNat % 128 ≤ 3 →
    s.Does (.diagnosticSessionControl sub) fun d => d.can.uds.session = sub.toNat % 128 - 1 ∧
      (sub.toNat % 128 = 1 → d.can.uds.unlocked = false) ∧
      d.can.uds.response = if sub.toNat < 128 then some [0x50, byte (sub.toNat % 128), 0x00, 0x32, 0x01, 0xF4]
        else s.dev.can.uds.response) ∧
  (∀ (sub : Byte) (s : State), s.dev.power.state = .active → sub.toNat % 128 = 1 → s.Does (.ecuReset sub) fun d =>
    d.power.resetScheduled = true ∧ (sub.toNat < 128 → d.can.uds.response = some [0x51, 0x01])) ∧
  (∀ (g : BitVec 24) (s : State), s.dev.power.state = .active →
    (s.dev.can.uds.session = 2 → s.dev.sup.nvwInhibit = false → g.toNat ∈ Dev.dtcCodes →
      s.Does (.clearDiagnosticInformation g) fun d => d.can.uds.response = some [0x54] ∧ d.dtcOf g.toNat = Dev.freshDtc g.toNat) ∧
    (s.dev.can.uds.session ≠ 2 → s.Does (.clearDiagnosticInformation g) fun d =>
      d.can.uds.response = some [0x7F, 0x14, 0x7F] ∧ d.meas = s.dev.meas)) ∧
  (∀ (mask : Byte) (s : State), s.dev.power.state = .active →
    (s.Does (.reportNumberOfDtcByStatusMask mask) fun d => d.can.uds.response =
      some ([0x59, 0x01, 0x7F, 0x01] ++ natBe 2 (s.dev.dtcMatching mask).length)) ∧
    (s.Does (.reportDtcByStatusMask mask) fun d => d.can.uds.response =
      some ([0x59, 0x02, 0x7F] ++ (s.dev.dtcMatching mask).flatMap fun x => Dev.dtcReply x.1 x.2)) ∧
    (s.Does .reportSupportedDtc fun d => d.can.uds.response =
      some ([0x59, 0x0A, 0x7F] ++ (s.dev.dtcReport.filter fun x => s.dev.dtcSupported x.1).flatMap fun x => Dev.dtcReply x.1 x.2))) ∧
  (∀ (c : BitVec 24) (s : State), s.dev.power.state = .active →
    (∀ r : Byte, (r = 1 ∨ r = 2 ∨ r = 0xFF) → (∀ x ∈ Dev.storeDtcs s.dev.meas.store, x.code ≠ c.toNat) → s.Does (.reportDtcExtDataRecord c r) fun d =>
      d.can.uds.response = some ([0x59, 0x06] ++ Dev.dtcReply c.toNat 0)) ∧
    ((∃ x ∈ Dev.storeDtcs s.dev.meas.store, x.code = c.toNat) → s.Does (.reportDtcExtDataRecord c 1) fun d =>
      d.can.uds.response = some ([0x59, 0x06] ++ Dev.dtcReply c.toNat ((s.dev.dtcOf c.toNat).status &&& 0x7F) ++
        [0x01, byte (min 255 (s.dev.dtcOf c.toNat).occurrences)]))) ∧
  (∀ (ids : List U16) (f : U16 → List Byte) (s : State), s.dev.power.state = .active → ids ≠ [] → ids.length ≤ 4 →
    (∀ i ∈ ids, s.dev.didBytes i = some (f i)) → s.Does (.readDataByIdentifier ids) fun d =>
      d.can.uds.response = some (0x62 :: ids.flatMap fun i => natBe 2 i.toNat ++ f i)) ∧
  (∀ (s : State), s.dev.power.state = .active → s.dev.can.uds.session = 1 ∨ s.dev.can.uds.session = 2 →
    (s.dev.can.uds.delaying = true → s.Does .requestSeed fun d => d.can.uds.response = some [0x7F, 0x27, 0x37]) ∧
    (s.dev.can.uds.delaying = false → s.dev.can.tester.secret = none → s.Does .requestSeed fun d =>
      d.can.uds.unlocked = true ∧ d.can.uds.response = some [0x67, 0x01, 0, 0, 0, 0]) ∧
    (s.dev.can.uds.delaying = false → s.dev.can.tester.secret ≠ none → s.Does .requestSeed fun d => ∃ seed : Word,
      seed ≠ 0 ∧ d.can.uds.seed = some seed ∧ d.can.uds.response = some ([0x67, 0x01] ++ wordsBe [seed]) ∧
      d.can.uds.unlocked = s.dev.can.uds.unlocked) ∧
    (∀ (key seed secret : Word), s.dev.can.uds.seed = some seed → s.dev.can.tester.secret = some secret →
      (key = securityKey seed secret → s.Does (.sendKey key) fun d => d.can.uds.unlocked = true ∧ d.can.uds.wrong = 0 ∧
        d.can.uds.response = some [0x67, 0x02]) ∧
      (key ≠ securityKey seed secret → s.Does (.sendKey key) fun d => d.can.uds.unlocked = s.dev.can.uds.unlocked ∧
        d.can.uds.seed = none ∧ d.can.uds.response = some [0x7F, 0x27, if s.dev.can.uds.wrong = 2 then 0x36 else 0x35] ∧
        d.can.uds.delaying = (s.dev.can.uds.wrong == 2)))) ∧
  (∀ (l : List Byte) (s : State), s.dev.power.state = .active → s.dev.can.uds.session = 2 →
    (s.dev.can.uds.unlocked = false → s.Does (.startRoutine 0xFE01 l) fun d => d.can.uds.response = some [0x7F, 0x31, 0x33] ∧
      d.mail.lockHeld = s.dev.mail.lockHeld) ∧
    (s.dev.can.uds.unlocked = true →
      (s.Does (.startRoutine 0xFE01 l) fun d => d.mail.lockHeld = true ∧ d.can.uds.response = some [0x71, 0x01, 0xFE, 0x01]) ∧
      (s.Does (.stopRoutine 0xFE01) fun d => d.mail.lockHeld = false ∧ d.can.uds.response = some [0x71, 0x02, 0xFE, 0x01]) ∧
      (s.Does (.requestRoutineResults 0xFE01 l) fun d => d.mail.lockHeld = s.dev.mail.lockHeld ∧
        d.can.uds.response = some [0x71, 0x03, 0xFE, 0x01, if s.dev.mail.lockHeld then 1 else 0]))) ∧
  (∀ (x : FwuSession) (s : State), s.dev.power.state = .active → s.dev.can.uds.session = 1 → s.dev.can.uds.unlocked = true →
    s.dev.flash.session = some x → x.holder = .tester → x.erased = true → x.length ≤ 458752 →
    (s.Does (.requestDownload 0 0x44 0 (w32 x.length)) fun d => d.can.uds.download = true ∧ d.can.uds.counter = 0 ∧
      d.can.uds.response = some [0x74, 0x20, 0x00, 0xE2]) ∧
    (s.dev.can.uds.download = true → programInhibit s.dev = none →
      (∀ data : List Byte, 8 ≤ data.length → data.length ≤ 224 → data.length % 8 = 0 → 4 * x.received.length + data.length ≤ x.length →
        s.Does (.transferData (s.dev.can.uds.counter + 1) data) fun d => if Config.flashFails s.dev.cc = true
          then d.can.uds.counter = s.dev.can.uds.counter ∧ d.flash.session = some x ∧
            d.can.uds.response = some [0x7F, 0x36, 0x72]
          else d.can.uds.counter = s.dev.can.uds.counter + 1 ∧
            d.flash.session = some { x with received := x.received ++ beWords data } ∧
            d.can.uds.response = some [0x76, s.dev.can.uds.counter + 1]) ∧
      (x.length ≤ 4 * x.received.length → Config.sha256 x.received = x.digest → s.Does .requestTransferExit fun d =>
        if Config.flashFails s.dev.cc = true
          then d.flash.session = some x ∧ d.can.uds.download = true ∧ d.can.uds.response = some [0x7F, 0x37, 0x72]
          else d.flash.session = none ∧ d.can.uds.download = false ∧ d.can.uds.response = some [0x77]))) ∧
  (∀ (s : State), s.dev.power.state = .active →
    (s.Does (.testerPresent 0) fun d => d.can.uds.response = some [0x7E, 0x00]) ∧ exec (.testerPresent 0x80) s = .next s) ∧
  (∀ (src : Source) (req : Request) (s : State), s.dev.TakesUp src 0x0901 req → canTimingBad (req.word 8) (req.word 0x0C) = none →
    (req.persist = false ∨ s.dev.flashPermitted = true) →
    (s.dev.can.initAck = true → ∃ d, exec (.canSetup src req) s = .next (s.okay src 0x0901 req d [] (Dev.keptAs req 0x0900)) ∧
      d.reg Reg.CAN_NBT = req.word 8 &&& 0x7FFFFFFF ∧ d.reg Reg.CAN_DBT = req.word 0x0C &&& 0xFF83FFFF ∧
      d.rbit Reg.CAN_CTRL 0 = !req.bit 0x10 16) ∧
    (s.dev.can.initAck = false → s.Does (.canSetup src req) fun d => d.rbit Reg.CAN_CTRL 0 = true ∧ d.can.setup = s.dev.can.setup ++
      [⟨req.word 8 &&& 0x7FFFFFFF, req.word 0x0C &&& 0xFF83FFFF, req.word 0x10, req.bit 0x10 16, (src, req.tag)⟩])) ∧
  (∀ (src : Source) (req : Request) (s : State), s.dev.TakesUp src 0x0902 req → s.dev.can.uds.session = 0 →
    (req.persist = false ∨ s.dev.flashPermitted = true) →
    let ide := req.bit 8 31
    let a := canId (req.word 8) ide
    let b := canId (req.word 0x0C) ide
    let c := canId (req.word 0x10) ide
    a ≠ b → a ≠ c → b ≠ c → ∃ d, exec (.canTesterSet src req) s = .next (s.okay src 0x0902 req d [] (Dev.keptAs req 0x0901)) ∧
      d.can = { s.dev.can with tester := ⟨a, b, c, ide, req.bit 0x14 0, req.bit 0x14 1,
        if req.bit 0x14 0 then clampTxDl (req.fld 0x14 15 8) else 8, if req.bit 0x14 24 then some (req.word 0x18) else none⟩ } ∧
      d.rbit Reg.CAN_CTRL 8 = req.bit 0x14 16) ∧
  (∀ (src : Source) (req : Request) (n : Fin 32) (s : State), s.dev.TakesUp src 0x0903 req → req.fld 8 4 0 = n.val → 4 ≤ n.val →
    lengthOk (req.bit 8 11) (req.fld 8 22 16) = true → req.length = dataLength 12 (req.fld 8 22 16) →
    s.dev.can.objs[n].pending = false → (req.persist = false ∨ s.dev.flashPermitted = true) →
    ∃ d, exec (.canMoSet src req) s = .next (s.okay src 0x0903 req d [] (Dev.keptAs req (0x0910 + n.val))) ∧
      d.can.objs[n] = { s.dev.can.objs[n] with
        enable := req.bit 8 8, transmit := req.bit 8 9, ide := req.bit 8 10, fd := req.bit 8 11, brs := req.bit 8 12,
        oneShot := req.bit 8 13, id := canId (req.word 0x0C) (req.bit 8 10), mask := BitVec.ofNat 29 (req.fld 0x10 28 0),
        data := (wordBytes (req.payload.drop 3)).take (req.fld 8 22 16) } ∧
      ∀ m : Fin 32, m ≠ n → d.can.objs[m] = s.dev.can.objs[m]) ∧
  (∀ (src : Source) (req : Request) (n : Fin 32) (s : State), s.dev.TakesUp src 0x0904 req → req.fld 8 4 0 = n.val → 4 ≤ n.val →
    s.dev.can.objs[n].transmit = true → lengthOk s.dev.can.objs[n].fd (req.fld 8 22 16) = true →
    req.length = dataLength 4 (req.fld 8 22 16) →
    ∃ d, exec (.canMoSend src req) s = .next (s.okay src 0x0904 req d) ∧
      d.can.objs[n].data = (wordBytes (req.payload.drop 1)).take (req.fld 8 22 16) ∧
      d.can.objs[n].pending = !(s.dev.can.fc == .busOff && s.dev.rbit Reg.CAN_CTRL 5)) ∧
  (∀ (src : Source) (req : Request) (n : Fin 32) (s : State), s.dev.TakesUp src 0x0905 req → req.fld 8 4 0 = n.val → 4 ≤ n.val →
    (s.dev.can.objs[n].held = none → exec (.canMoRead src req) s = .next (s.okay src 0x0905 req s.dev [0, 0, 0])) ∧
    (∀ h, s.dev.can.objs[n].held = some h → h.frame.data.length ≤ 64 → ∃ d l, exec (.canMoRead src req) s = .next (s.okay src 0x0905 req d l) ∧
      d.can.objs[n].held = some { h with unread := false, lost := false } ∧ l.drop 3 = packWords h.frame.data ∧
      (l.getD 1 0).getLsbD 9 = h.unread ∧ (l.getD 1 0).getLsbD 10 = h.lost)) ∧
  (∀ (src : Source) (req : Request) (s : State), s.dev.TakesUp src 0x0906 req →
    exec (.canState src req) s = .next (s.okay src 0x0906 req s.dev
      [s.dev.canErrWord, s.dev.canStatusWord, w32 s.dev.can.ackRun, w32 s.dev.can.counters[(10 : Fin 16)]]))


/-- O57, tier 2. Levels, holds, locks, masked writes and the pin commands. Out of reset: PAD_LEVEL_CHANGE
recognises a pad level, and with debounce code 0 filters it at once; DEBOUNCE_CHANGE, once the level has stood
for the time of the code, takes it, flags the selected edge and, in QUIET, wakes by an enabled pin at its level;
PIN_HOLD_END, 2 cc after the change, releases the pad to its drivers and sets the conflict bit, an input function
then seeing its pin; of GPIO_LOCK_WRITE, three writes in sequence from one master lock a pin, any other write
ends the sequence with LOCK_SEQ_BAD, and no write unlocks a pin; GPIO_OUT_MW_WRITE writes the bytes of its lanes;
GPIO_PIN_CONFIG and GPIO_XBAR_SET configure and place a pin that is not locked, GPIO_OUTPUT writes latches under
a mask, GPIO_READ reads the pins, and GPIO_LOCK_PIN locks those of a mask. (R347, R350, R351, R352, R353, R355,
R356, R357, R358, R361, R370, Table 13.5) -/
def Obligations.PinRows : Prop :=
  (∀ (p : Fin 37) (level : Bool) (s : State), s.dev.Powered → s.Does (.padLevelChange p level) fun d =>
    let x := s.dev.gpio.pins[p]
    d.gpio.pins[p].raw = level ∧ d.gpio.pins[p].cfg = x.cfg ∧
    d.gpio.pins[p].since = (if level = x.raw then x.since else s.dev.cc) ∧
    (fld x.cfg 11 8 = 0 → (level ≠ x.raw ∨ x.since ≤ s.dev.cc) → d.gpio.pins[p].filt = level) ∧
    (fld x.cfg 11 8 ≠ 0 → d.gpio.pins[p].filt = x.filt) ∧
    ∀ q : Fin 37, q ≠ p → d.gpio.pins[q] = s.dev.gpio.pins[q]) ∧
  (∀ (p : Fin 37) (s : State), s.dev.Awake → s.dev.cc < s.dev.gpio.pins[p].since + Dev.debounceCc (fld s.dev.gpio.pins[p].cfg 11 8) →
    exec (.debounceChange p) s = .next s) ∧
  (∀ (p : Fin 37) (s : State), s.dev.Powered →
    s.dev.gpio.pins[p].since + Dev.debounceCc (fld s.dev.gpio.pins[p].cfg 11 8) ≤ s.dev.cc → s.Does (.debounceChange p) fun d =>
    let x := s.dev.gpio.pins[p]
    d.gpio.pins[p] = { x with filt := x.raw } ∧
    (x.filt = false → x.raw = true → fld x.cfg 13 12 % 2 = 1 → d.pairBit Reg.GPIO_IRQ_STATUS_LO p = true) ∧
    (x.filt = true → x.raw = false → 2 ≤ fld x.cfg 13 12 → d.pairBit Reg.GPIO_IRQ_STATUS_LO p = true) ∧
    (s.dev.power.state = .quiet → s.dev.power.wakePending = false → x.cfg.getLsbD 20 = true → x.raw = x.cfg.getLsbD 21 →
      d.power.wakePending = true ∧ (d.reg Reg.GPIO_MISC_STATUS).getLsbD 5 = true)) ∧
  (∀ (p : Fin 37) (s : State), s.dev.Powered →
    ((s.dev.gpio.pins[p].hold = none ∨ s.dev.cc < s.dev.gpio.pins[p].holdEnd) → exec (.pinHoldEnd p) s = .next s) ∧
    (s.dev.gpio.pins[p].hold ≠ none → s.dev.gpio.pins[p].holdEnd ≤ s.dev.cc → s.Does (.pinHoldEnd p) fun d =>
      d.gpio.pins[p] = { s.dev.gpio.pins[p] with hold := none, conflict := s.dev.pinConflict p } ∧
      (s.dev.pinConflict p = true → s.dev.gpio.pins[p].conflict = false → (d.reg Reg.GPIO_MISC_STATUS).getLsbD 0 = true) ∧
      ∀ f : Fin 25, s.dev.fnSource f = some p → d.gpio.source[f] = some p)) ∧
  (∀ (hearth : Bool) (w : Word) (s : State), (hearth = true → s.dev.Awake) → (hearth = false → s.dev.Writable) →
    let old := if hearth then s.dev.gpio.lockHearth else s.dev.gpio.lockHost
    s.Does (.gpioLockWrite hearth w) fun d =>
      let new := if hearth then d.gpio.lockHearth else d.gpio.lockHost
      (if hearth then d.gpio.lockHost = s.dev.gpio.lockHost else d.gpio.lockHearth = s.dev.gpio.lockHearth) ∧
      (w = 0x4C4B → new = .opened ∧ d.gpio.pins = s.dev.gpio.pins) ∧
      (∀ p : Fin 37, old = .opened → w = w32 p.val → new = .named p ∧ d.gpio.pins = s.dev.gpio.pins) ∧
      (∀ p : Fin 37, old = .named p → w = 0xB4B4 → new = .start ∧ (d.reg Reg.GPIO_MISC_STATUS).getLsbD 2 = true ∧
        ∀ q : Fin 37, d.gpio.pins[q].locked = (s.dev.gpio.pins[q].locked || q == p)) ∧
      (w ≠ 0x4C4B → (old = .start ∨ (old = .opened ∧ 37 ≤ w.toNat) ∨ (∃ p, old = .named p ∧ w ≠ 0xB4B4)) →
        new = .start ∧ d.gpio.pins = s.dev.gpio.pins ∧ (d.reg Reg.GPIO_MISC_STATUS).getLsbD 3 = true)) ∧
  (∀ (lanes : Fin 16) (w : Word) (s : State), s.dev.Writable → s.Does (.gpioOutMwWrite lanes w) fun d =>
    d.gpio = s.dev.gpio ∧ (∀ i < 32, (d.reg Reg.GPIO_OUT_LO).getLsbD i =
      if lanes.val.testBit (i / 8) then w.getLsbD i else (s.dev.reg Reg.GPIO_OUT_LO).getLsbD i) ∧
    ∀ a, a / 4 ≠ Reg.GPIO_OUT_LO / 4 → d.reg a = s.dev.reg a) ∧
  (∀ (src : Source) (req : Request) (p : Fin 37) (s : State), s.dev.TakesUp src 0x0A01 req → req.fld 8 5 0 = p.val →
    s.dev.pinLocked p = false → (16 ≤ p.val → req.fld 8 11 8 < 11) → (req.persist = false ∨ s.dev.flashPermitted = true) →
    ∃ d, exec (.gpioPinConfig src req) s = .next (s.okay src 0x0A01 req d [] (Dev.keptAs req (0x0A00 + p.val))) ∧
      d.gpio.pins[p].cfg = clampPinCfg (req.word 0x0C) ∧ d.pinDir p = req.bit 8 16 ∧
      d.pairBit Reg.GPIO_OUT_LO p = req.bit 8 17 ∧ (16 ≤ p.val → d.muxCode p = req.fld 8 11 8)) ∧
  (∀ (src : Source) (req : Request) (f : Fin 25) (s : State), s.dev.TakesUp src 0x0A02 req → req.fld 8 4 0 = f.val →
    let v := req.fld 8 11 8 + (if req.bit 8 16 then 128 else 0)
    s.dev.xbarBarred f v = false → (req.persist = false ∨ s.dev.flashPermitted = true) →
    ∃ d, exec (.gpioXbarSet src req) s = .next (s.okay src 0x0A02 req d [] (Dev.keptAs req (0x0A40 + f.val))) ∧
      d.xbarField f = v ∧ ∀ g : Fin 25, g ≠ f → d.xbarField g = s.dev.xbarField g) ∧
  (∀ (src : Source) (req : Request) (s : State), s.dev.TakesUp src 0x0A03 req →
    ∃ d, exec (.gpioOutput src req) s = .next (s.okay src 0x0A03 req d) ∧ d.gpio = s.dev.gpio ∧ ∀ p : Fin 37,
      d.pairBit Reg.GPIO_OUT_LO p = if pinBit (req.word 8) (req.word 0x0C) p then pinBit (req.word 0x10) (req.word 0x14) p
        else s.dev.pairBit Reg.GPIO_OUT_LO p) ∧
  (∀ (src : Source) (req : Request) (s : State), s.dev.TakesUp src 0x0A04 req →
    exec (.gpioRead src req) s = .next (s.okay src 0x0A04 req s.dev
      [(s.dev.pinWords (·.raw)).1, (s.dev.pinWords (·.raw)).2, s.dev.reg Reg.GPIO_OUT_LO, s.dev.reg Reg.GPIO_OUT_HI,
        (s.dev.pinWords (·.conflict)).1, (s.dev.pinWords (·.conflict)).2 ||| bitW 16 s.dev.gpio.inputMulti])) ∧
  (∀ (src : Source) (req : Request) (s : State), s.dev.TakesUp src 0x0A05 req → (req.persist = false ∨ s.dev.flashPermitted = true) →
    ∃ d l items, exec (.gpioLockPin src req) s = .next (s.okay src 0x0A05 req d l items) ∧ (req.persist = false → items = []) ∧
      l = [(d.pinWords (·.locked)).1, (d.pinWords (·.locked)).2] ∧ ∀ p : Fin 37, d.gpio.pins[p] = { s.dev.gpio.pins[p] with
        locked := s.dev.gpio.pins[p].locked || pinBit (req.word 8) (req.word 0x0C) p })


/-- O58, tier 2. The timer channels and the scheduler. On an awake device: TIMER_MATCH, an advance to the compare
value, sets MATCH and moves the output, but not in the cc after its load; TIMER_WRAP sets WRAP; TIMER_CAPTURE
takes a selected edge into a queue of eight or counts it lost, the third loss within 1 s of TMR3 under Keystone's
claim losing entry 5; TIMER_GATE_EVENT measures from start to stop; TMR_CLEAR zeroes a channel, but for the host
on a TMR3 that Keystone owns; TMR_CMP_WRITE of two halves takes effect together, late where the counter has
passed the value; TMR_COUNT_LO_READ and TMR_CAP_LO_READ latch for their master and the latter pops the queue.
SCHED_ENTRY_READY of a waiting entry whose time has come makes it act, fail or be missed with its lateness, and
holds it while TIME_VALID is 0; SCHED_HELD_RELEASE lets the held entries whose time has come act when it returns;
SCHED_CANCEL_WRITE ends the waiting entries it names, but those a control lock keeps; SCHED_SET, SCHED_CANCEL and
SCHED_STATUS arm, cancel and report. (R371, R373, R374, R375, R376, R377, R378, R380, R381, R382, R383, R391) -/
def Obligations.TimerAndSchedulerRows : Prop :=
  (∀ (n : Fin 4) (s : State), s.dev.Awake → s.dev.timers.ch[n].cmp < tmrLap →
    let c := s.dev.timers.ch[n]
    (c.loaded = true → c.next = c.cmp → exec (.timerMatch n) s = .next s) ∧
    (c.enable = true → c.half = none → c.counter < c.cmp → (c.loaded = false ∨ c.next ≠ c.cmp) → s.Does (.timerMatch n) fun d =>
      d.timers.ch[n].counter = c.cmp ∧ (d.reg Reg.TMR_IRQ_STATUS).getLsbD (8 * n.val) = true ∧
      (fld c.ctrl 26 24 = 0 → d.timers.ch[n].out = c.out) ∧ (fld c.ctrl 26 24 = 1 → d.timers.ch[n].out = true) ∧
      (fld c.ctrl 26 24 = 2 → d.timers.ch[n].out = false) ∧ (fld c.ctrl 26 24 = 3 → d.timers.ch[n].out = !c.out)) ∧
    (c.enable = true → c.half ≠ none ∨ c.cmp ≤ c.counter → s.Does (.timerWrap n) fun d =>
      d.timers.ch[n].counter = 0 ∧ (d.reg Reg.TMR_IRQ_STATUS).getLsbD (8 * n.val + 7) = true) ∧
    (c.enable = false → exec (.timerMatch n) s = .next s ∧ exec (.timerWrap n) s = .next s)) ∧
  (∀ (n : Fin 4) (falling : Bool) (s : State), s.dev.Awake →
    let c := s.dev.timers.ch[n]
    (fld c.ctrl 2 1 = 1 → c.ctrl.getLsbD (if falling then 17 else 16) = true → s.Does (.timerCapture n falling) fun d =>
      (d.reg Reg.TMR_IRQ_STATUS).getLsbD (8 * n.val + 1) = true ∧
      (c.queue.length < 8 → d.timers.ch[n] = { c with queue := c.queue ++ [⟨c.counter, falling, false⟩] }) ∧
      (8 ≤ c.queue.length → d.timers.ch[n] = { c with ovfCount := satInc 255 c.ovfCount } ∧
        (d.reg Reg.TMR_IRQ_STATUS).getLsbD (8 * n.val + 2) = true ∧
        (n = 3 → s.dev.timers.owned = true → ∀ a b, s.dev.timers.overflows = [a, b] → s.dev.cc ≤ a + 500000000 →
          s.dev.cc ≤ b + 500000000 → d.ks.refs[(5 : Fin 8)].lost = true))) ∧
    ((fld c.ctrl 2 1 ≠ 1 ∨ c.ctrl.getLsbD (if falling then 17 else 16) = false) → exec (.timerCapture n falling) s = .next s)) ∧
  (∀ (n : Fin 4) (s : State), s.dev.Awake → fld s.dev.timers.ch[n].ctrl 2 1 = 2 →
    let c := s.dev.timers.ch[n]
    (c.gate = none → s.Does (.timerGateEvent n true false) fun d => d.timers.ch[n] = { c with gate := some c.counter }) ∧
    (c.gate = none → s.Does (.timerGateEvent n false true) fun d => d.timers = s.dev.timers ∧
      (d.reg Reg.TMR_IRQ_STATUS).getLsbD (8 * n.val + 4) = true) ∧
    (c.gate = none → c.queue.length < 8 → s.Does (.timerGateEvent n true true) fun d =>
      d.timers.ch[n] = { c with queue := c.queue ++ [⟨0, false, true⟩] } ∧
      (d.reg Reg.TMR_IRQ_STATUS).getLsbD (8 * n.val + 3) = true) ∧
    (∀ start, c.gate = some start → c.queue.length < 8 → s.Does (.timerGateEvent n false true) fun d =>
      d.timers.ch[n] = { c with gate := none, queue := c.queue ++ [⟨(c.counter + tmrLap - start) % tmrLap, false, true⟩] })) ∧
  (∀ (hearth : Option (Fin 4)) (s : State), (hearth.isSome → s.dev.Awake) → (hearth = none → s.dev.Writable) →
    let n := s.dev.tmrSel hearth
    let c := s.dev.timers.ch[n]
    (hearth = none → n = 3 → s.dev.timers.owned = true → s.Does (.tmrClear hearth) fun d => d.timers = s.dev.timers ∧
      (d.reg Reg.TMR_IRQ_STATUS).getLsbD 29 = true) ∧
    ((hearth.isSome ∨ n ≠ 3 ∨ s.dev.timers.owned = false) →
      (s.Does (.tmrClear hearth) fun d => d.timers.ch[n].counter = 0 ∧ d.timers.ch[n].queue = [] ∧ d.timers.ch[n].gate = none ∧
        d.timers.ch[n].out = c.ctrl.getLsbD 27 ∧ d.timers.ch[n].ctrl = c.ctrl ∧ d.timers.ch[n].cmp = c.cmp) ∧
      (∀ (high : Bool) (w : Word), c.half ≠ some (!high) → s.Does (.tmrCmpWrite hearth high w) fun d =>
        d.timers.ch[n].half = some high ∧ d.timers.ch[n].cmp = c.cmp) ∧
      (∀ (high : Bool) (w : Word), c.half = some (!high) → s.Does (.tmrCmpWrite hearth high w) fun d =>
        let v := if high then (w.setWidth 16 : U16).toNat * 2 ^ 32 + c.cmpLo.toNat else c.cmpHi.toNat * 2 ^ 32 + w.toNat
        d.timers.ch[n].half = none ∧ d.timers.ch[n].counter = c.counter ∧ d.timers.ch[n].cmp = v ∧ d.timers.ch[n].loaded = true ∧
        ((c.next + tmrLap - v) % tmrLap < 2 ^ 47 → (d.reg Reg.TMR_IRQ_STATUS).getLsbD (8 * n.val + 6) = true)))) ∧
  (∀ (hearth : Option (Fin 4)) (s : State), s.dev.Awake →
    let n := s.dev.tmrSel hearth
    let m : Fin 2 := if hearth.isSome then 1 else 0
    let c := s.dev.timers.ch[n]
    (s.Does (.tmrCountLoRead hearth) fun d => d.timers.ch[n] = { c with
      countHi := c.countHi.set m (BitVec.ofNat 16 (c.counter / 2 ^ 32)) }) ∧
    (s.dev.tmrBarred hearth = false → ∀ full : Bool, s.Does (.tmrCapLoRead hearth full) fun d =>
      d.timers.ch[n].capture[m] = c.queue.head? ∧ d.timers.ch[n].queue = (if full then c.queue.drop 1 else c.queue)) ∧
    (s.dev.tmrBarred hearth = true → ∀ full : Bool, s.Does (.tmrCapLoRead hearth full) fun d =>
      d.timers.ch[n].capture[m] = none ∧ d.timers.ch[n].queue = c.queue)) ∧
  (∀ (e : Fin 32) (s : State), s.dev.Awake →
    let x := s.dev.sched[e]
    let late := (s.dev.ks.ns - x.time) / 1000
    ((x.waits = false ∨ s.dev.ks.ns < x.time) → exec (.schedEntryReady e) s = .next s) ∧
    (x.state = .armed → x.time ≤ s.dev.ks.ns → s.dev.ks.timeValid = false → s.Does (.schedEntryReady e) fun d =>
      d.sched[e] = { x with state := .held } ∧ (d.reg Reg.SCHED_MISC_STATUS).getLsbD 5 = true) ∧
    (x.waits = true → x.time ≤ s.dev.ks.ns → s.dev.ks.timeValid = true → s.Does (.schedEntryReady e) fun d =>
      d.sched[e].lateness = late ∧ (d.reg Reg.SCHED_IRQ_STATUS).getLsbD e.val = true ∧
      (∀ k : Fin 32, k ≠ e → d.sched[k] = s.dev.sched[k]) ∧
      (1000 * x.lateLimit < late → d.sched[e].state = .missed ∧ d.route = s.dev.route) ∧
      (late ≤ 1000 * x.lateLimit → d.sched[e].state = .done ∨ d.sched[e].state = .failed) ∧
      (late ≤ 1000 * x.lateLimit → x.action = 3 → s.dev.schedLockable 3 x.target = false → fld x.target 5 0 < 37 →
        d.sched[e].state = .done ∧ d.pairBit Reg.GPIO_OUT_LO (Dev.pinOf (fld x.target 5 0)) = x.target.getLsbD 8) ∧
      (late ≤ 1000 * x.lateLimit → x.action = 4 → s.dev.mail.lockHeld = false →
        ∀ k : Fin 64, fld x.target 5 0 = k.val → s.dev.route.dests[k].kind ≠ .unbound →
          d.sched[e].state = .done ∧ d.route.dests[k].gainTo = fldS x.target2 23 0))) ∧
  (∀ (s : State), s.dev.Awake →
    (s.dev.ks.timeValid = false → exec .schedHeldRelease s = .next s) ∧
    (s.dev.ks.timeValid = true → s.Does .schedHeldRelease fun d => ∀ e : Fin 32,
      ((s.dev.sched[e].state ≠ .held ∨ s.dev.ks.ns < s.dev.sched[e].time) → d.sched[e] = s.dev.sched[e]) ∧
      (s.dev.sched[e].state = .held → s.dev.sched[e].time ≤ s.dev.ks.ns → d.sched[e].state = .done ∨ d.sched[e].state = .failed ∨ d.sched[e].state = .missed))) ∧
  (∀ (w : Word) (s : State), s.dev.Writable → s.Does (.schedCancelWrite w) fun d => ∀ e : Fin 32,
    (w.getLsbD e.val = true → s.dev.sched[e].waits = true → (s.dev.mail.lockHeld = false ∨ s.dev.schedLocked e = false) →
      d.sched[e].state = .cancelled ∧
        d.sched[e].lateCancel = (s.dev.sched[e].state == .armed && decide (s.dev.sched[e].time ≤ s.dev.ks.ns))) ∧
    ((w.getLsbD e.val = false ∨ s.dev.sched[e].waits = false ∨ (s.dev.mail.lockHeld = true ∧ s.dev.schedLocked e = true)) →
      d.sched[e] = s.dev.sched[e])) ∧
  (∀ (src : Source) (req : Request) (e : Fin 32) (s : State), s.dev.TakesUp src 0x0B01 req → req.fld 8 4 0 = e.val →
    let action := req.fld 8 11 8
    let target := req.word 0x18
    let time := ((req.word 0x0C).toNat + req.fld 0x10 15 0 * 2 ^ 32) * 1000000000 + (req.word 0x14).toNat
    1 ≤ action → action ≤ 6 → schedTargetOk action target = true → s.dev.sched[e].waits = false → s.dev.ks.timeValid = true →
    s.dev.ks.ns < time → s.dev.schedGrouped action target = false → s.dev.schedOrderBad action target time = false →
    ∃ d, exec (.schedSet src req) s = .next (s.okay src 0x0B01 req d) ∧ d.sched[e] = ⟨.armed, action, req.fld 8 31 16, time, target,
      req.word 0x1C, s.dev.sourceClass src (s.dev.schedLockable action target), 0, false, false, 0, 0⟩ ∧
      ∀ k : Fin 32, k ≠ e → d.sched[k] = s.dev.sched[k]) ∧
  (∀ (src : Source) (req : Request) (s : State), s.dev.TakesUp src 0x0B02 req →
    let named := (allFin 32).filter fun e => (req.word 8).getLsbD e.val && s.dev.sched[e].waits
    ∃ d, exec (.schedCancel src req) s = .next (s.okay src 0x0B02 req d [orW (named.map fun e => bitW e.val true)]) ∧
      ∀ e : Fin 32, (e ∈ named → d.sched[e].state = .cancelled) ∧ (e ∉ named → d.sched[e] = s.dev.sched[e])) ∧
  (∀ (src : Source) (req : Request) (e : Fin 32) (s : State), s.dev.TakesUp src 0x0B03 req → req.fld 8 4 0 = e.val →
    ∃ l, exec (.schedStatus src req) s = .next (s.okay src 0x0B03 req s.dev l) ∧ l.length = 8 ∧
      l.getD 3 0 = w32 (s.dev.sched[e].time % 1000000000) ∧ l.getD 4 0 = s.dev.sched[e].target)


/-- O59, tier 1. The test access port and the field self-tests. Where no power-on reset holds the port: EXTEST,
CLAMP, HIGHZ, IDCODE, SAMPLE_PRELOAD and BYPASS are each in force once loaded; under EXTEST and CLAMP every
general-purpose pad is driven by its boundary cells, under HIGHZ none is; leaving them returns the pins through
the hold latch; a rising TCK_EDGE moves the controller and captures or shifts, IDCODE capturing the part's word;
a falling TCK_EDGE drives TDO in the two shift states alone, and takes an instruction or the cells in the update
states; TEST_LOGIC_RESET is reached by five TCKs with TMS high and loads IDCODE. SELFTEST_RUN starts a run with a
default mask of all, SELFTEST_DONE stores what ran and failed, SELFTEST_RESULT answers it. (R392, R393, R394, R398,
R399, R400, R402, R403, Table 15.1, Table 15.5) -/
def Obligations.TestPort : Prop :=
  (∀ (s : State), s.dev.power.porAsserted = false → s.dev.pinsTaken = false → ∀ p : Fin 37,
    (s.Does .extest fun d => d.tap = { s.dev.tap with ir := 0 } ∧ d.padDrive p =
      if s.dev.tap.cells.getLsbD (gpCell p) then some (s.dev.tap.cells.getLsbD (gpCell p + 1)) else none) ∧
    (s.Does .clamp fun d => d.tap = { s.dev.tap with ir := 4 } ∧ d.padDrive p =
      if s.dev.tap.cells.getLsbD (gpCell p) then some (s.dev.tap.cells.getLsbD (gpCell p + 1)) else none) ∧
    (s.Does .highz fun d => d.tap = { s.dev.tap with ir := 5 } ∧ d.padDrive p = none) ∧
    (s.Does .idcode fun d => d.tap = { s.dev.tap with ir := 1 } ∧ d.padDrive p = s.dev.padDrive p) ∧
    (s.Does .samplePreload fun d => d.tap = { s.dev.tap with ir := 2 } ∧ d.padDrive p = s.dev.padDrive p) ∧
    (s.Does .bypass fun d => d.tap = { s.dev.tap with ir := 15 } ∧ d.padDrive p = s.dev.padDrive p)) ∧
  (∀ (s : State), s.dev.power.porAsserted = false → s.dev.pinsTaken = true → s.Does .bypass fun d => d.tap.ir = 15 ∧
    ∀ p : Fin 37, d.gpio.pins[p].hold = some (s.dev.padDrive p)) ∧
  (∀ (s : State), s.Does .testLogicReset fun d => d.tap = { s.dev.tap with state := .reset, ir := 1, tdo := none }) ∧
  (∀ (tms tdi : Bool) (levels : BitVec 225) (s : State), s.dev.power.porAsserted = false →
    (s.dev.tap.state.next tms ≠ .reset → s.Does (.tckEdge true tms tdi levels) fun d => d.tap.state = s.dev.tap.state.next tms ∧
      d.tap.ir = s.dev.tap.ir ∧ d.tap.cells = s.dev.tap.cells ∧ d.tap.tdo = s.dev.tap.tdo ∧
      (s.dev.tap.state = .captureDr → s.dev.tap.ir = 1 → d.tap.ident = 0x4166474B) ∧
      (s.dev.tap.state = .captureDr → s.dev.tap.ir = 2 → d.tap.boundary = levels) ∧
      (s.dev.tap.state = .shiftDr → s.dev.tap.ir = 1 → d.tap.ident = (s.dev.tap.ident >>> 1 ||| bitW 31 tdi)) ∧
      (s.dev.tap.state = .captureIr → d.tap.irShift = (if s.dev.power.state = .off then 9 else if s.dev.power.state = .proofHold then 5 else 1)) ∧
      (s.dev.tap.state = .shiftIr → d.tap.irShift = (s.dev.tap.irShift >>> 1 ||| (if tdi then 8 else 0)))) ∧
    (s.dev.tap.state.next tms = .reset → s.Does (.tckEdge true tms tdi levels) fun d => d.tap.state = .reset ∧ d.tap.ir = 1) ∧
    (s.Does (.tckEdge false tms tdi levels) fun d =>
      (s.dev.tap.state = .shiftIr → d.tap.tdo = some (s.dev.tap.irShift.getLsbD 0)) ∧
      (s.dev.tap.state = .shiftDr → s.dev.tap.ir = 1 → d.tap.tdo = some (s.dev.tap.ident.getLsbD 0)) ∧
      (s.dev.tap.state ≠ .shiftIr → s.dev.tap.state ≠ .shiftDr → d.tap.tdo = none) ∧
      (s.dev.tap.state = .updateIr → d.tap.ir = s.dev.tap.irShift) ∧ (s.dev.tap.state ≠ .updateIr → d.tap.ir = s.dev.tap.ir) ∧
      (s.dev.tap.state = .updateDr → (s.dev.tap.ir = 0 ∨ s.dev.tap.ir = 2) → d.tap.cells = s.dev.tap.boundary))) ∧
  (∀ (rising tms tdi : Bool) (levels : BitVec 225) (s : State), s.dev.power.porAsserted = true →
    exec (.tckEdge rising tms tdi levels) s = .next s) ∧
  (∀ t : TapState, ((((t.next true).next true).next true).next true).next true = .reset) ∧
  (∀ (src : Source) (req : Request) (s : State), s.dev.TakesUp src 0x0C01 req → s.dev.selfTest.run = none →
    let m := (req.word 8).setWidth 8
    exec (.selftestRun src req) s = .next (s.accepted src 0x0C01 req { s.dev with selfTest := { s.dev.selfTest with
      run := some (if m = 0 then 0xFF else m, req.tag), state := 1 } })) ∧
  (∀ (r : SelfTestReadings) (s : State), s.dev.Awake →
    (s.dev.selfTest.run = none → exec (.selftestDone r) s = .next s) ∧
    (∀ mask tag, s.dev.selfTest.run = some (mask, tag) → s.Does (.selftestDone r) fun d => d.selfTest.run = none ∧
      d.selfTest.state = 2 ∧ d.selfTest.ran = mask ∧ d.selfTest.failed &&& ~~~mask = 0 ∧
      d.selfTest.failed.getLsbD 0 = (mask.getLsbD 0 && !r.romOk) ∧
      d.selfTest.failed.getLsbD 3 = (mask.getLsbD 3 && !s.dev.flash.factoryOk) ∧
      d.selfTest.failed.getLsbD 4 = (mask.getLsbD 4 && !r.adcRefOk))) ∧
  (∀ (src : Source) (req : Request) (s : State), s.dev.TakesUp src 0x0C02 req →
    exec (.selftestResult src req) s = .next (s.okay src 0x0C02 req s.dev
      [orW [s.dev.selfTest.ran.setWidth 32, at' 8 s.dev.selfTest.failed.toNat, at' 16 s.dev.selfTest.state],
        w32 s.dev.selfTest.uptime]))


/-- O60, tier 3. CHIP_ID never changes, and only its own rows and a power-on reset touch the test access
port. From every state whose CHIP_ID word is 0x1664_00B0, every step leads to such a state again, and
the word the host reads there is that value; the state after reset is such a state. No command but
POWER_ON_RESET and the rows of the test access port changes anything in the test access port: no other
reset source does. (R2, R398) -/
def Obligations.PromisesOfTheWholeDevice : Prop :=
  (∀ s t : State, s.dev.reg Reg.CHIP_ID = 0x166400B0 → step s = .next t →
    t.dev.reg Reg.CHIP_ID = 0x166400B0 ∧ t.dev.hostWord Reg.CHIP_ID = 0x166400B0) ∧
  State.reset.dev.reg Reg.CHIP_ID = 0x166400B0 ∧
  (∀ (i : Instr) (s t : State), (∀ r, i ≠ .powerOnReset r) → i ≠ .testLogicReset → i ≠ .extest → i ≠ .idcode → i ≠ .samplePreload →
    i ≠ .clamp → i ≠ .highz → i ≠ .bypass → (∀ a b c l, i ≠ .tckEdge a b c l) → exec i s = .next t → t.dev.tap = s.dev.tap)
end

