-- ==== Sys2Proof/Laws/Arms.lean ====
section
/-! SUPPORT.
Each arm of `exec` by name: what the command of a constructor is, and its effect on the state. -/

namespace Sys2Proof.Machine

theorem exec_powerOnReset (_x : Rail) (s : State) :
    exec (.powerOnReset _x) s = s.act fun d => d.powerOnReset := rfl
theorem exec_powerOnResetRelease (railsHeld : Bool) (s : State) :
    exec (.powerOnResetRelease railsHeld) s = s.act fun d => d.powerOnRelease railsHeld := rfl
theorem exec_rstNAssert (lowNs : Nat) (s : State) : exec (.rstNAssert lowNs) s = execRstNAssert lowNs s := rfl
theorem exec_rstNRelease (s : State) :
    exec .rstNRelease s = s.act fun d => d.pinRelease := rfl
theorem exec_corePllLockLoss (s : State) :
    exec .corePllLockLoss s = s.act fun d => d.pllLoss := rfl
theorem exec_hearthWatchdogExpiry (s : State) :
    exec .hearthWatchdogExpiry s = s.act fun d => d.watchdogExpiry := rfl
theorem exec_softwareReset (s : State) :
    exec .softwareReset s = s.act fun d => d.powered Dev.softwareReset := rfl
theorem exec_proofStart (s : State) : exec .proofStart s = execProofStart s := rfl
theorem exec_proofComplete (readings : ProofReadings) (s : State) :
    exec (.proofComplete readings) s = s.act fun d => d.proofComplete readings := rfl
theorem exec_bootStart (s : State) :
    exec .bootStart s = s.act fun d => d.bootStart := rfl
theorem exec_bootComplete (s : State) :
    exec .bootComplete s = s.act fun d => d.bootComplete := rfl
theorem exec_supervisorSample (sample : SupplySample) (s : State) :
    exec (.supervisorSample sample) s = s.act fun d => d.supervisorSample sample := rfl
theorem exec_supplyMuteRampEnd (s : State) :
    exec .supplyMuteRampEnd s = s.act fun d => d.powered Dev.supplyRampEnd := rfl
theorem exec_supplyMuteExit (s : State) :
    exec .supplyMuteExit s = s.act fun d => d.powered Dev.supplyMuteExit := rfl
theorem exec_vddioEFaultEnter (s : State) :
    exec .vddioEFaultEnter s = s.act fun d => d.powered Dev.vddioEnter := rfl
theorem exec_vddioEFaultExit (s : State) :
    exec .vddioEFaultExit s = s.act fun d => d.powered Dev.vddioExit := rfl
theorem exec_vbatOpenEnter (s : State) :
    exec .vbatOpenEnter s = s.act fun d => d.powered Dev.vbatOpenEnter := rfl
theorem exec_vbatOpenExit (s : State) :
    exec .vbatOpenExit s = s.act fun d => d.powered Dev.vbatOpenExit := rfl
theorem exec_journalRecordProgram (s : State) :
    exec .journalRecordProgram s = s.act fun d => d.journalProgram := rfl
theorem exec_journalRecordDone (s : State) :
    exec .journalRecordDone s = s.act fun d => d.powered fun d => d.journalDone.quietAdvance := rfl
theorem exec_journalCompactionDone (s : State) :
    exec .journalCompactionDone s = s.act fun d => d.powered fun d => d.compactDone.quietAdvance := rfl
theorem exec_flashEraseDone (target : EraseTarget) (s : State) :
    exec (.flashEraseDone target) s = s.act fun d => d.powered (·.eraseDone target) := rfl
theorem exec_quietEntryComplete (s : State) :
    exec .quietEntryComplete s = s.act fun d => d.quietComplete := rfl
theorem exec_quietDoorbellPass (s : State) :
    exec .quietDoorbellPass s = s.act fun d => d.quietPassStart := rfl
theorem exec_quietWake (event : WakeEvent) (s : State) :
    exec (.quietWake event) s = s.act fun d => d.powered (·.wakeEvent event) := rfl
theorem exec_pwrResetReqWrite (value : Word) (s : State) :
    exec (.pwrResetReqWrite value) s = s.act fun d => d.hostWrite Reg.PWR_RESET_REQ value := rfl
theorem exec_minRestart (s : State) :
    exec .minRestart s = s.act fun d => d.hostGuard Reg.PWR_CTRL Dev.minRestart := rfl
theorem exec_registerWrite (addr : U16) (value : Word) (hearth : Option Word) (s : State) :
    exec (.registerWrite addr value hearth) s = s.act fun d => d.powered (·.registerWrite addr value hearth) := rfl
theorem exec_spiTransactionStart (hsckHigh : Bool) (s : State) :
    exec (.spiTransactionStart hsckHigh) s = s.act fun d => d.spiStart hsckHigh := rfl
theorem exec_spiNop (s : State) :
    exec .spiNop s = s.act fun d => d.powered Dev.spiNop := rfl
theorem exec_spiWriteWord (header : Option U16) (value : Word) (s : State) :
    exec (.spiWriteWord header value) s = s.act fun d => d.powered (·.spiWrite header value) := rfl
theorem exec_spiReadWord (header : Option U16) (full : Bool) (s : State) :
    exec (.spiReadWord header full) s = s.act fun d => d.powered (·.spiRead header full) := rfl
theorem exec_snapshot (mask : U16) (events : List (Fin 3 × Fin 40)) (s : State) :
    exec (.snapshot mask events) s = s.act fun d => d.powered (·.spiSnapshot mask events) := rfl
theorem exec_badOpcode (opcode : Byte) (s : State) :
    exec (.badOpcode opcode) s = s.act fun d => d.powered (·.spiBadOpcode opcode) := rfl
theorem exec_spiTransactionEnd (header : Option U16) (partialWord : Bool) (s : State) :
    exec (.spiTransactionEnd header partialWord) s = s.act fun d => d.powered (·.spiEnd header partialWord) := rfl
theorem exec_overspeed (s : State) :
    exec .overspeed s = s.act fun d => d.powered Dev.spiOverspeed := rfl
theorem exec_aliasWrite (addr : U16) (value : Word) (s : State) :
    exec (.aliasWrite addr value) s = s.act fun d => d.powered (·.registerWrite addr value none) := rfl
theorem exec_dbgReadRequest (word : U16) (autoInc : Bool) (s : State) :
    exec (.dbgReadRequest word autoInc) s = s.act fun d => d.hostGuard Reg.SYS_DBG_ADDR (·.dbgAddr word autoInc true) := rfl
theorem exec_dbgWriteCommit (dataHi : Word) (s : State) :
    exec (.dbgWriteCommit dataHi) s = s.act fun d => d.hostWrite Reg.SYS_DBG_DATA_HI dataHi := rfl
theorem exec_dbgBeatDone (s : State) : exec .dbgBeatDone s = execDbgBeatDone s := rfl
theorem exec_eccLastClear (s : State) :
    exec .eccLastClear s = s.act fun d => d.hostWrite Reg.SYS_ECC_LAST (bitW 31 true) := rfl
theorem exec_statsClear (s : State) :
    exec .statsClear s = s.act fun d => d.hostWrite Reg.ARB_CTRL (bitW 0 true) := rfl
theorem exec_arbGrant (input : ArbInput) (s : State) : exec (.arbGrant input) s = execArbGrant input s := rfl
theorem exec_requestAged (requester : Fin 8) (s : State) :
    exec (.requestAged requester) s = s.act fun d => d.awake (·.requestAged requester) := rfl
theorem exec_mbDoorbell (mailbox : Fin 2) (value : Word) (s : State) :
    exec (.mbDoorbell mailbox value) s = s.act fun d => d.hostWrite (0x4FC + 0x200 * mailbox.val) value := rfl
theorem exec_mbRelease (mailbox : Fin 2) (full : Bool) (s : State) :
    exec (.mbRelease mailbox full) s = s.act fun d => d.hostRead (0x5FC + 0x200 * mailbox.val) full := rfl
theorem exec_servicePass (s : State) :
    exec .servicePass s = s.act fun d => d.servicePass := rfl
theorem exec_evqHeadRead (full : Bool) (s : State) :
    exec (.evqHeadRead full) s = s.act fun d => d.hostRead 0x7F0 full := rfl
theorem exec_evqArgRead (full : Bool) (s : State) :
    exec (.evqArgRead full) s = s.act fun d => d.hostRead 0x7F4 full := rfl
theorem exec_evqStateRead (full : Bool) (s : State) :
    exec (.evqStateRead full) s = s.act fun d => d.hostRead 0x7E8 full := rfl
theorem exec_status (src : Source) (req : Request) (s : State) :
    exec (.status src req) s = s.act fun d => d.serve src 0x0001 req := rfl
theorem exec_identity (src : Source) (req : Request) (s : State) :
    exec (.identity src req) s = s.act fun d => d.serve src 0x0002 req := rfl
theorem exec_failureReport (src : Source) (req : Request) (s : State) :
    exec (.failureReport src req) s = s.act fun d => d.serve src 0x0003 req := rfl
theorem exec_reset (src : Source) (req : Request) (s : State) :
    exec (.reset src req) s = s.act fun d => d.serve src 0x0004 req := rfl
theorem exec_quietEnter (src : Source) (req : Request) (s : State) :
    exec (.quietEnter src req) s = s.act fun d => d.serve src 0x0005 req := rfl
theorem exec_quietExit (src : Source) (req : Request) (s : State) :
    exec (.quietExit src req) s = s.act fun d => d.serve src 0x0006 req := rfl
theorem exec_eventMask (src : Source) (req : Request) (s : State) :
    exec (.eventMask src req) s = s.act fun d => d.serve src 0x0007 req := rfl
theorem exec_journalStatus (src : Source) (req : Request) (s : State) :
    exec (.journalStatus src req) s = s.act fun d => d.serve src 0x0101 req := rfl
theorem exec_journalRead (src : Source) (req : Request) (s : State) :
    exec (.journalRead src req) s = s.act fun d => d.serve src 0x0102 req := rfl
theorem exec_journalCompact (src : Source) (req : Request) (s : State) :
    exec (.journalCompact src req) s = s.act fun d => d.serve src 0x0103 req := rfl
theorem exec_journalDefaults (src : Source) (req : Request) (s : State) :
    exec (.journalDefaults src req) s = s.act fun d => d.serve src 0x0104 req := rfl
theorem exec_journalDefaultsDone (s : State) :
    exec .journalDefaultsDone s = s.act fun d => d.powered Dev.defaultsDone := rfl
theorem exec_fwuBegin (src : Source) (req : Request) (s : State) :
    exec (.fwuBegin src req) s = s.act fun d => d.serve src 0x0201 req := rfl
theorem exec_fwuEraseDone (s : State) :
    exec .fwuEraseDone s = s.act fun d => d.powered fun d => d.eraseDone (Flash.target d.flash) := rfl
theorem exec_fwuWrite (src : Source) (req : Request) (s : State) :
    exec (.fwuWrite src req) s = s.act fun d => d.serve src 0x0202 req := rfl
theorem exec_fwuFinish (src : Source) (req : Request) (s : State) :
    exec (.fwuFinish src req) s = s.act fun d => d.serve src 0x0203 req := rfl
theorem exec_fwuConfirm (src : Source) (req : Request) (s : State) :
    exec (.fwuConfirm src req) s = s.act fun d => d.serve src 0x0204 req := rfl
theorem exec_fwuAbort (src : Source) (req : Request) (s : State) :
    exec (.fwuAbort src req) s = s.act fun d => d.serve src 0x0205 req := rfl
theorem exec_ksTick (input : KsTickInput) (s : State) :
    exec (.ksTick input) s = s.act fun d => d.runs (·.keystoneTick input) := rfl
theorem exec_refQualified (entry : Fin 7) (s : State) :
    exec (.refQualified entry) s = s.act fun d => d.runs (·.refGain entry) := rfl
theorem exec_refLoss (entry : Fin 7) (s : State) :
    exec (.refLoss entry) s = s.act fun d => d.runs (·.refLose (entry.castLE (by omega)) false) := rfl
theorem exec_bwNarrowStep (s : State) :
    exec .bwNarrowStep s = s.act fun d => d.runs Dev.narrowStep := rfl
theorem exec_trackEntry (s : State) :
    exec .trackEntry s = s.act fun d => d.runs Dev.trackEntry := rfl
theorem exec_reacquire (offset : Int) (s : State) :
    exec (.reacquire offset) s = s.act fun d => d.runs fun d => Dev.relabelled (d.reacquire offset) := rfl
theorem exec_holdoverExpired (s : State) :
    exec .holdoverExpired s = s.act fun d => d.runs (·.withTime Dev.holdoverExpire) := rfl
theorem exec_timeValidLapse (s : State) :
    exec .timeValidLapse s = s.act fun d => d.runs (·.withTime Dev.timeValidLapse) := rfl
theorem exec_moveDone (s : State) :
    exec .moveDone s = s.act fun d => d.runs Dev.moveEnd := rfl
theorem exec_clkPhaseStepWrite (value : Word) (s : State) :
    exec (.clkPhaseStepWrite value) s = s.act fun d => d.hostWrite Reg.CLK_PHASE_STEP value := rfl
theorem exec_dcoSeedWrite (high : Bool) (value : Word) (s : State) :
    exec (.dcoSeedWrite high value) s = s.act fun d => d.hostWrite (if high then Reg.CLK_DCO_SEED_HI else Reg.CLK_DCO_SEED_LO) value := rfl
theorem exec_clkRefCommitWrite (value : Word) (s : State) :
    exec (.clkRefCommitWrite value) s = s.act fun d => d.hostWrite Reg.CLK_REF_COMMIT value := rfl
theorem exec_ksStatus (src : Source) (req : Request) (s : State) :
    exec (.ksStatus src req) s = s.act fun d => d.serve src 0x0301 req := rfl
theorem exec_ksSetRate (src : Source) (req : Request) (s : State) :
    exec (.ksSetRate src req) s = s.act fun d => d.serve src 0x0302 req := rfl
theorem exec_ksSetTable (src : Source) (req : Request) (s : State) :
    exec (.ksSetTable src req) s = s.act fun d => d.serve src 0x0303 req := rfl
theorem exec_ksSetLoop (src : Source) (req : Request) (s : State) :
    exec (.ksSetLoop src req) s = s.act fun d => d.serve src 0x0304 req := rfl
theorem exec_ksPhaseStep (src : Source) (req : Request) (s : State) :
    exec (.ksPhaseStep src req) s = s.act fun d => d.serve src 0x0305 req := rfl
theorem exec_ksSteer (src : Source) (req : Request) (s : State) :
    exec (.ksSteer src req) s = s.act fun d => d.serve src 0x0306 req := rfl
theorem exec_captureLock (port : Fin 3) (phase : BitVec 6) (s : State) :
    exec (.captureLock port phase) s = s.act fun d => d.runs (·.captureLock port phase) := rfl
theorem exec_captureUnlock (port : Fin 3) (frameInProgress : Bool) (s : State) :
    exec (.captureUnlock port frameInProgress) s = s.act fun d => d.awake (·.captureUnlock port frameInProgress) := rfl
theorem exec_captureUnlockTimeout (port : Fin 3) (s : State) :
    exec (.captureUnlockTimeout port) s = s.act fun d => d.awake (·.captureUnlockTimeout port) := rfl
theorem exec_ethFrameReceive (port : Fin 3) (frame : RxFrame) (s : State) :
    exec (.ethFrameReceive port frame) s = s.act fun d => d.awake (·.ethReceive port frame) := rfl
theorem exec_rxDescriptorRelease (port : Fin 3) (s : State) :
    exec (.rxDescriptorRelease port) s = s.act fun d => d.awake (·.rxRelease port) := rfl
theorem exec_txSubmit (port : Fin 3) (frame : TxFrame) (s : State) :
    exec (.txSubmit port frame) s = s.act fun d => d.awake (·.submit port frame) := rfl
theorem exec_txFrameStart (port : Fin 3) (s : State) :
    exec (.txFrameStart port) s = s.act fun d => d.awake (·.txStart port) := rfl
theorem exec_txFrameDone (port : Fin 3) (s : State) :
    exec (.txFrameDone port) s = s.act fun d => d.awake (·.txDone port) := rfl
theorem exec_pauseFrame (port : Fin 3) (quanta : U16) (s : State) :
    exec (.pauseFrame port quanta) s = s.act fun d => d.awake (·.pauseFrame port quanta.toNat) := rfl
theorem exec_pauseExpiry (port : Fin 3) (s : State) :
    exec (.pauseExpiry port) s = s.act fun d => d.awake (·.pauseExpire port) := rfl
theorem exec_phyPoll (port : Fin 3) (reading : PhyReading) (s : State) :
    exec (.phyPoll port reading) s = s.act fun d => d.awake (·.phyPoll port reading) := rfl
theorem exec_phyInterrupt (reading0 reading1 reading2 : PhyReading) (s : State) :
    exec (.phyInterrupt reading0 reading1 reading2) s = s.act fun d => d.awake (·.phyInterrupt [reading0, reading1, reading2]) := rfl
theorem exec_phyScriptRun (port : Fin 3) (script : PhyScript) (s : State) :
    exec (.phyScriptRun port script) s = s.act fun d => d.awake (·.phyScript port script) := rfl
theorem exec_utilWindowEnd (s : State) :
    exec .utilWindowEnd s = s.act fun d => d.awake Dev.utilWindow := rfl
theorem exec_easeFail (port : Fin 3) (s : State) :
    exec (.easeFail port) s = s.act fun d => d.awake (·.easeFail port) := rfl
theorem exec_linkHoldExpiry (port : Fin 3) (s : State) :
    exec (.linkHoldExpiry port) s = s.act fun d => d.awake (·.linkHoldExpire port) := rfl
theorem exec_portDisable (port : Fin 3) (s : State) :
    exec (.portDisable port) s = s.act fun d => d.hostGuard (Dev.ethReg port Reg.ETH0_CTRL) (·.portDisable port) := rfl
theorem exec_portIdle (port : Fin 3) (s : State) :
    exec (.portIdle port) s = s.act fun d => d.awake (·.portIdle port) := rfl
theorem exec_ethMacHiWrite (port : Fin 3) (value : Word) (s : State) :
    exec (.ethMacHiWrite port value) s = s.act fun d => d.hostWrite (Dev.ethReg port Reg.ETH0_MAC_HI) value := rfl
theorem exec_ethFiltWrite (port : Fin 3) (high : Bool) (value : Word) (s : State) :
    exec (.ethFiltWrite port high value) s = s.act fun d => d.hostWrite (Dev.ethReg port (if high then Reg.ETH0_FILT_HI else Reg.ETH0_FILT_LO)) value := rfl
theorem exec_remoteRequest (port : Fin 3) (frame : RemoteFrame) (s : State) :
    exec (.remoteRequest port frame) s = s.act fun d => d.awake (·.remoteRequest port frame) := rfl
theorem exec_ethPortStatus (src : Source) (req : Request) (s : State) :
    exec (.ethPortStatus src req) s = s.act fun d => d.serve src 0x0401 req := rfl
theorem exec_ethPortSetup (src : Source) (req : Request) (s : State) :
    exec (.ethPortSetup src req) s = s.act fun d => d.serve src 0x0402 req := rfl
theorem exec_ethPortDisable (src : Source) (req : Request) (s : State) :
    exec (.ethPortDisable src req) s = s.act fun d => d.serve src 0x0403 req := rfl
theorem exec_ethEaseSet (src : Source) (req : Request) (s : State) :
    exec (.ethEaseSet src req) s = s.act fun d => d.serve src 0x0404 req := rfl
theorem exec_ethMdio (src : Source) (req : Request) (readBack : U16) (s : State) :
    exec (.ethMdio src req readBack) s = s.act fun d => Dev.answer (d.serveWith src 0x0405 req fun _ => Dev.cmdMdio readBack) src := rfl
theorem exec_ethPhyScript (src : Source) (req : Request) (s : State) :
    exec (.ethPhyScript src req) s = s.act fun d => d.serve src 0x0406 req := rfl
theorem exec_ethRemoteSet (src : Source) (req : Request) (s : State) :
    exec (.ethRemoteSet src req) s = s.act fun d => d.serve src 0x0407 req := rfl
theorem exec_ethBadFrames (src : Source) (req : Request) (s : State) :
    exec (.ethBadFrames src req) s = s.act fun d => d.serve src 0x0408 req := rfl
theorem exec_gptpMessage (port : Fin 3) (domain ago : Nat) (message : GptpMessage) (s : State) :
    exec (.gptpMessage port domain ago message) s = s.act fun d => d.awake (·.gptpMessage port domain ago message) := rfl
theorem exec_syncReceiptTimeout (port : Fin 3) (s : State) :
    exec (.syncReceiptTimeout port) s = s.act fun d => d.awake (·.syncTimeout port) := rfl
theorem exec_announceReceiptTimeout (port : Fin 3) (s : State) :
    exec (.announceReceiptTimeout port) s = s.act fun d => d.awake (·.announceTimeout port) := rfl
theorem exec_pdelayReqSend (port : Fin 3) (s : State) :
    exec (.pdelayReqSend port) s = s.act fun d => d.awake (·.pdelaySend port) := rfl
theorem exec_aafFrame (frame : AafFrame) (s : State) :
    exec (.aafFrame frame) s = s.act fun d => d.awake (·.aafTaken frame) := rfl
theorem exec_crfFrame (frame : CrfFrame) (s : State) :
    exec (.crfFrame frame) s = s.act fun d => d.awake (·.crfFrame frame) := rfl
theorem exec_listenerStartPlay (listener : Fin 16) (s : State) :
    exec (.listenerStartPlay listener) s = s.act fun d => d.awake (·.listenerStartPlay listener) := rfl
theorem exec_listenerStarved (listener : Fin 16) (s : State) :
    exec (.listenerStarved listener) s = s.act fun d => d.awake (·.listenerStarve listener) := rfl
theorem exec_listenerResume (listener : Fin 16) (s : State) :
    exec (.listenerResume listener) s = s.act fun d => d.awake (·.listenerResume listener) := rfl
theorem exec_talkerStartSend (talker : Fin 8) (s : State) :
    exec (.talkerStartSend talker) s = s.act fun d => d.awake (·.talkerStartSend talker) := rfl
theorem exec_stopTimeReached (talker : Bool) (index : Fin 16) (s : State) :
    exec (.stopTimeReached talker index) s = s.act fun d => d.awake (·.stopTime talker index) := rfl
theorem exec_stopRampEnd (talker : Bool) (index : Fin 16) (s : State) :
    exec (.stopRampEnd talker index) s = s.act fun d => d.awake (·.stopRampEnd talker index) := rfl
theorem exec_talkerFrameSend (talker : Fin 8) (s : State) :
    exec (.talkerFrameSend talker) s = s.act fun d => d.awake (·.talkerFrameSend talker) := rfl
theorem exec_streamFault (listener : Fin 16) (kind : Fin 3) (s : State) :
    exec (.streamFault listener kind) s = s.act fun d => d.awake (·.streamFault listener kind) := rfl
theorem exec_rateRecovered (listener : Fin 16) (s : State) :
    exec (.rateRecovered listener) s = s.act fun d => d.awake (·.rateRecovered listener) := rfl
theorem exec_streamAutostart (s : State) :
    exec .streamAutostart s = s.act fun d => d.awake Dev.autostartAll := rfl
theorem exec_listenerSetup (src : Source) (req : Request) (s : State) :
    exec (.listenerSetup src req) s = s.act fun d => d.serve src 0x0501 req := rfl
theorem exec_talkerSetup (src : Source) (req : Request) (s : State) :
    exec (.talkerSetup src req) s = s.act fun d => d.serve src 0x0502 req := rfl
theorem exec_streamStart (src : Source) (req : Request) (s : State) :
    exec (.streamStart src req) s = s.act fun d => d.serve src 0x0503 req := rfl
theorem exec_streamStop (src : Source) (req : Request) (s : State) :
    exec (.streamStop src req) s = s.act fun d => d.serve src 0x0504 req := rfl
theorem exec_streamDelete (src : Source) (req : Request) (s : State) :
    exec (.streamDelete src req) s = s.act fun d => d.serve src 0x0505 req := rfl
theorem exec_streamStatus (src : Source) (req : Request) (s : State) :
    exec (.streamStatus src req) s = s.act fun d => d.serve src 0x0506 req := rfl
theorem exec_portStreamStatus (src : Source) (req : Request) (s : State) :
    exec (.portStreamStatus src req) s = s.act fun d => d.serve src 0x0507 req := rfl
theorem exec_gptpSet (src : Source) (req : Request) (s : State) :
    exec (.gptpSet src req) s = s.act fun d => d.serve src 0x0508 req := rfl
theorem exec_gptpStatus (src : Source) (req : Request) (s : State) :
    exec (.gptpStatus src req) s = s.act fun d => d.serve src 0x0509 req := rfl
theorem exec_lintelBeacon (group : Fin 8) (port : Fin 3) (payload : List Byte) (s : State) :
    exec (.lintelBeacon group port payload) s = s.act fun d => d.awake (·.lintelBeacon group port payload) := rfl
theorem exec_lintelTick (offsets : List Int) (s : State) :
    exec (.lintelTick offsets) s = s.act fun d => d.awake (·.lintelTick offsets) := rfl
theorem exec_fadeEnd (group : Fin 8) (s : State) :
    exec (.fadeEnd group) s = s.act fun d => d.awake (·.fadeEnd group) := rfl
theorem exec_revertHoldExpiry (group : Fin 8) (s : State) :
    exec (.revertHoldExpiry group) s = s.act fun d => d.awake (·.revertExpire group) := rfl
theorem exec_healthBlockEnd (group : Fin 8) (concealed : Bool) (energies : List (Nat × Nat)) (s : State) :
    exec (.healthBlockEnd group concealed energies) s = s.act fun d => d.awake (·.healthBlock group concealed energies) := rfl
theorem exec_lintelGroupSetup (src : Source) (req : Request) (s : State) :
    exec (.lintelGroupSetup src req) s = s.act fun d => d.serve src 0x0601 req := rfl
theorem exec_lintelGroupStart (src : Source) (req : Request) (s : State) :
    exec (.lintelGroupStart src req) s = s.act fun d => d.serve src 0x0602 req := rfl
theorem exec_lintelGroupStop (src : Source) (req : Request) (s : State) :
    exec (.lintelGroupStop src req) s = s.act fun d => d.serve src 0x0603 req := rfl
theorem exec_lintelGroupDelete (src : Source) (req : Request) (s : State) :
    exec (.lintelGroupDelete src req) s = s.act fun d => d.serve src 0x0604 req := rfl
theorem exec_lintelSwitch (src : Source) (req : Request) (s : State) :
    exec (.lintelSwitch src req) s = s.act fun d => d.serve src 0x0605 req := rfl
theorem exec_lintelGroupStatus (src : Source) (req : Request) (s : State) :
    exec (.lintelGroupStatus src req) s = s.act fun d => d.serve src 0x0606 req := rfl
theorem exec_lintelHealth (src : Source) (req : Request) (s : State) :
    exec (.lintelHealth src req) s = s.act fun d => d.serve src 0x0607 req := rfl
theorem exec_lintelTalkerSet (src : Source) (req : Request) (s : State) :
    exec (.lintelTalkerSet src req) s = s.act fun d => d.serve src 0x0608 req := rfl
theorem exec_tdmCommitApply (port : Fin 4) (s : State) :
    exec (.tdmCommitApply port) s = s.act fun d => d.awake (·.tdmApply port) := rfl
theorem exec_tdmPortStopped (port : Fin 4) (s : State) :
    exec (.tdmPortStopped port) s = s.act fun d => d.awake (·.tdmStopped port) := rfl
theorem exec_outUnderrun (port : Fin 4) (s : State) :
    exec (.outUnderrun port) s = s.act fun d => d.awake (·.tdmUnderrun port) := rfl
theorem exec_inOverrun (port : Fin 4) (s : State) :
    exec (.inOverrun port) s = s.act fun d => d.awake (·.tdmOverrun port) := rfl
theorem exec_senseStale (speaker : Fin 16) (s : State) :
    exec (.senseStale speaker) s = s.act fun d => d.awake (·.senseStale speaker) := rfl
theorem exec_senseRecovered (speaker : Fin 16) (s : State) :
    exec (.senseRecovered speaker) s = s.act fun d => d.awake (·.senseRecovered speaker) := rfl
theorem exec_delayChangeRampEnd (destination : Fin 64) (s : State) :
    exec (.delayChangeRampEnd destination) s = s.act fun d => d.awake (·.delayRampEnd destination) := rfl
theorem exec_tdmPortSet (src : Source) (req : Request) (s : State) :
    exec (.tdmPortSet src req) s = s.act fun d => d.serve src 0x0701 req := rfl
theorem exec_tdmPortDisable (src : Source) (req : Request) (s : State) :
    exec (.tdmPortDisable src req) s = s.act fun d => d.serve src 0x0702 req := rfl
theorem exec_tdmPortStatus (src : Source) (req : Request) (s : State) :
    exec (.tdmPortStatus src req) s = s.act fun d => d.serve src 0x0703 req := rfl
theorem exec_routeSourceBind (src : Source) (req : Request) (s : State) :
    exec (.routeSourceBind src req) s = s.act fun d => d.serve src 0x0704 req := rfl
theorem exec_routeDestBind (src : Source) (req : Request) (s : State) :
    exec (.routeDestBind src req) s = s.act fun d => d.serve src 0x0705 req := rfl
theorem exec_routeXpSet (src : Source) (req : Request) (s : State) :
    exec (.routeXpSet src req) s = s.act fun d => d.serve src 0x0706 req := rfl
theorem exec_routeCommit (src : Source) (req : Request) (s : State) :
    exec (.routeCommit src req) s = s.act fun d => d.serve src 0x0707 req := rfl
theorem exec_routeDestGain (src : Source) (req : Request) (s : State) :
    exec (.routeDestGain src req) s = s.act fun d => d.serve src 0x0708 req := rfl
theorem exec_routeMute (src : Source) (req : Request) (s : State) :
    exec (.routeMute src req) s = s.act fun d => d.serve src 0x0709 req := rfl
theorem exec_routeToneSet (src : Source) (req : Request) (s : State) :
    exec (.routeToneSet src req) s = s.act fun d => d.serve src 0x070A req := rfl
theorem exec_routePartition (src : Source) (req : Request) (s : State) :
    exec (.routePartition src req) s = s.act fun d => d.serve src 0x070B req := rfl
theorem exec_routeSenseBind (src : Source) (req : Request) (s : State) :
    exec (.routeSenseBind src req) s = s.act fun d => d.serve src 0x070C req := rfl
theorem exec_routeStatus (src : Source) (req : Request) (s : State) :
    exec (.routeStatus src req) s = s.act fun d => d.serve src 0x070D req := rfl
theorem exec_measSlotEnd (speaker : Fin 16) (s : State) :
    exec (.measSlotEnd speaker) s = s.act fun d => d.awake (·.slotEnd speaker) := rfl
theorem exec_foldbackEval (s : State) :
    exec .foldbackEval s = s.act fun d => d.awake Dev.foldEval := rfl
theorem exec_foldbackLimit (owner : FoldOwner) (s : State) :
    exec (.foldbackLimit owner) s = s.act fun d => d.awake (·.foldLimit owner) := rfl
theorem exec_dcTestSpeakerStart (speaker : Fin 16) (s : State) :
    exec (.dcTestSpeakerStart speaker) s = s.act fun d => d.awake (·.dcStart speaker) := rfl
theorem exec_dcTestNotQuiet (speaker : Fin 16) (s : State) :
    exec (.dcTestNotQuiet speaker) s = s.act fun d => d.awake (·.dcNotQuiet speaker) := rfl
theorem exec_dcTestSpeakerDone (speaker : Fin 16) (s : State) :
    exec (.dcTestSpeakerDone speaker) s = s.act fun d => d.awake (·.dcDone speaker) := rfl
theorem exec_dcTestAbort (speaker : Fin 16) (cause : DcAbort) (s : State) :
    exec (.dcTestAbort speaker cause) s = s.act fun d => d.awake (·.dcAbort speaker cause) := rfl
theorem exec_baselineLearnDone (speaker : Fin 16) (s : State) :
    exec (.baselineLearnDone speaker) s = s.act fun d => d.awake (·.learnDone speaker) := rfl
theorem exec_baselineLearnTimeout (speaker : Fin 16) (s : State) :
    exec (.baselineLearnTimeout speaker) s = s.act fun d => d.awake (·.learnTimeout speaker) := rfl
theorem exec_ampFaultAssert (amp : Fin 4) (s : State) :
    exec (.ampFaultAssert amp) s = s.act fun d => d.awake (·.faultPinAssert amp) := rfl
theorem exec_faultHoldExpiry (amp : Fin 4) (s : State) :
    exec (.faultHoldExpiry amp) s = s.act fun d => d.awake (·.faultHoldExpire amp) := rfl
theorem exec_ampScriptDone (amp : Fin 4) (s : State) :
    exec (.ampScriptDone amp) s = s.act fun d => d.awake (·.scriptDone amp) := rfl
theorem exec_i2cRetry (bus : Fin 2) (s : State) :
    exec (.i2cRetry bus) s = s.act fun d => d.awake (·.i2cRetry bus) := rfl
theorem exec_i2cStretchTimeout (bus : Fin 2) (s : State) :
    exec (.i2cStretchTimeout bus) s = s.act fun d => d.awake (·.i2cStretch bus) := rfl
theorem exec_muteLineCheck (s : State) :
    exec .muteLineCheck s = s.act fun d => d.awake Dev.muteCheckAll := rfl
theorem exec_dieSensorDisagree (s : State) :
    exec .dieSensorDisagree s = s.act fun d => d.awake Dev.dieDisagree := rfl
theorem exec_amonOutOfRange (s : State) :
    exec .amonOutOfRange s = s.act fun d => d.awake Dev.amonOut := rfl
theorem exec_amonBackInRange (s : State) :
    exec .amonBackInRange s = s.act fun d => d.awake Dev.amonBack := rfl
theorem exec_dtcStoreWrite (s : State) :
    exec .dtcStoreWrite s = s.act fun d => d.powered Dev.dtcStoreWrite := rfl
theorem exec_measSpeakerSet (src : Source) (req : Request) (s : State) :
    exec (.measSpeakerSet src req) s = s.act fun d => d.serve src 0x0801 req := rfl
theorem exec_measConfig (src : Source) (req : Request) (s : State) :
    exec (.measConfig src req) s = s.act fun d => d.serve src 0x0802 req := rfl
theorem exec_measResult (src : Source) (req : Request) (s : State) :
    exec (.measResult src req) s = s.act fun d => d.serve src 0x0803 req := rfl
theorem exec_measBaseline (src : Source) (req : Request) (s : State) :
    exec (.measBaseline src req) s = s.act fun d => d.serve src 0x0804 req := rfl
theorem exec_measDcTest (src : Source) (req : Request) (s : State) :
    exec (.measDcTest src req) s = s.act fun d => d.serve src 0x0805 req := rfl
theorem exec_measMonitors (src : Source) (req : Request) (s : State) :
    exec (.measMonitors src req) s = s.act fun d => d.serve src 0x0806 req := rfl
theorem exec_measDtcRead (src : Source) (req : Request) (s : State) :
    exec (.measDtcRead src req) s = s.act fun d => d.serve src 0x0807 req := rfl
theorem exec_measDtcClear (src : Source) (req : Request) (s : State) :
    exec (.measDtcClear src req) s = s.act fun d => d.serve src 0x0808 req := rfl
theorem exec_ampScriptSet (src : Source) (req : Request) (s : State) :
    exec (.ampScriptSet src req) s = s.act fun d => d.serve src 0x0809 req := rfl
theorem exec_ampScriptRun (src : Source) (req : Request) (s : State) :
    exec (.ampScriptRun src req) s = s.act fun d => d.serve src 0x080A req := rfl
theorem exec_ampLine (src : Source) (req : Request) (s : State) :
    exec (.ampLine src req) s = s.act fun d => d.serve src 0x080B req := rfl
theorem exec_ampI2c (src : Source) (req : Request) (s : State) :
    exec (.ampI2c src req) s = s.act fun d => d.serve src 0x080C req := rfl
theorem exec_canFrameReceive (frame : CanFrame) (s : State) :
    exec (.canFrameReceive frame) s = s.act fun d => d.awake (·.canReceive frame) := rfl
theorem exec_canTxStart (s : State) :
    exec .canTxStart s = s.act fun d => d.awake Dev.canTxStart := rfl
theorem exec_canTxComplete (outcome : TxOutcome) (s : State) :
    exec (.canTxComplete outcome) s = s.act fun d => d.awake (·.canTxComplete outcome) := rfl
theorem exec_canAloneDetect (s : State) :
    exec .canAloneDetect s = s.act fun d => d.awake Dev.canAlone := rfl
theorem exec_canRecoveryComplete (s : State) :
    exec .canRecoveryComplete s = s.act fun d => d.awake Dev.canRecovered := rfl
theorem exec_canInitEnter (s : State) :
    exec .canInitEnter s = s.act fun d => d.awake Dev.canInitEnter := rfl
theorem exec_canInitExit (s : State) :
    exec .canInitExit s = s.act fun d => d.awake Dev.canInitExit := rfl
theorem exec_canRecover (s : State) :
    exec .canRecover s = s.act fun d => d.hostGuard Reg.CAN_CTRL Dev.canRecover := rfl
theorem exec_canTxReq (value : Word) (s : State) :
    exec (.canTxReq value) s = s.act fun d => d.hostWrite Reg.CAN_TX_REQ value := rfl
theorem exec_canTxAbort (value : Word) (s : State) :
    exec (.canTxAbort value) s = s.act fun d => d.hostWrite Reg.CAN_TX_ABORT value := rfl
theorem exec_crxWake (s : State) :
    exec .crxWake s = s.act fun d => d.powered Dev.crxWakeRaise := rfl
theorem exec_isotpMessageComplete (s : State) :
    exec .isotpMessageComplete s = s.act fun d => d.awake Dev.udsComplete := rfl
theorem exec_isotpTimeout (s : State) :
    exec .isotpTimeout s = s.act fun d => d.awake Dev.isoTimeout := rfl
theorem exec_responsePending (s : State) :
    exec .responsePending s = s.act fun d => d.awake Dev.udsWait := rfl
theorem exec_s3Timeout (s : State) :
    exec .s3Timeout s = s.act fun d => d.awake Dev.s3Expire := rfl
theorem exec_securityDelayEnd (s : State) :
    exec .securityDelayEnd s = s.act fun d => d.awake Dev.delayEnd := rfl
theorem exec_diagnosticSessionControl (sub : Byte) (s : State) :
    exec (.diagnosticSessionControl sub) s = s.act fun d => d.udsRow 0x10 (·.udsSession sub) := rfl
theorem exec_ecuReset (sub : Byte) (s : State) :
    exec (.ecuReset sub) s = s.act fun d => d.udsRow 0x11 (·.udsReset sub) := rfl
theorem exec_clearDiagnosticInformation (group : BitVec 24) (s : State) :
    exec (.clearDiagnosticInformation group) s = s.act fun d => d.udsFree 0x14 (·.udsClear group) := rfl
theorem exec_reportNumberOfDtcByStatusMask (mask : Byte) (s : State) :
    exec (.reportNumberOfDtcByStatusMask mask) s = s.act fun d => d.udsRow 0x19 (·.udsDtcCount mask) := rfl
theorem exec_reportDtcByStatusMask (mask : Byte) (s : State) :
    exec (.reportDtcByStatusMask mask) s = s.act fun d => d.udsRow 0x19 (·.udsDtcList mask) := rfl
theorem exec_reportDtcExtDataRecord (dtc : BitVec 24) (record : Byte) (s : State) :
    exec (.reportDtcExtDataRecord dtc record) s = s.act fun d => d.udsRow 0x19 (·.udsDtcExt dtc record) := rfl
theorem exec_reportSupportedDtc (s : State) :
    exec .reportSupportedDtc s = s.act fun d => d.udsRow 0x19 Dev.udsDtcSupported := rfl
theorem exec_readDataByIdentifier (ids : List U16) (s : State) :
    exec (.readDataByIdentifier ids) s = s.act fun d => d.udsRow 0x22 (·.udsData ids) := rfl
theorem exec_requestSeed (s : State) :
    exec .requestSeed s = s.act fun d => d.udsFree 0x27 Dev.udsSeed := rfl
theorem exec_sendKey (key : Word) (s : State) :
    exec (.sendKey key) s = s.act fun d => d.udsFree 0x27 (·.udsKey key) := rfl
theorem exec_startRoutine (rid : U16) (record : List Byte) (s : State) :
    exec (.startRoutine rid record) s = s.act fun d => d.udsFree 0x31 (·.routineStart rid record) := rfl
theorem exec_stopRoutine (rid : U16) (s : State) :
    exec (.stopRoutine rid) s = s.act fun d => d.udsFree 0x31 (·.routineStop rid) := rfl
theorem exec_requestRoutineResults (rid : U16) (_x : List Byte) (s : State) :
    exec (.requestRoutineResults rid _x) s = s.act fun d => d.udsFree 0x31 (·.routineResults rid) := rfl
theorem exec_requestDownload (format : Byte) (alfid : Byte) (address : Word) (size : Word) (s : State) :
    exec (.requestDownload format alfid address size) s = s.act fun d => d.udsFree 0x34 (·.udsDownload format alfid address size) := rfl
theorem exec_transferData (counter : Byte) (data : List Byte) (s : State) :
    exec (.transferData counter data) s = s.act fun d => d.udsFree 0x36 (·.udsTransfer counter data) := rfl
theorem exec_requestTransferExit (s : State) :
    exec .requestTransferExit s = s.act fun d => d.udsFree 0x37 Dev.udsTransferExit := rfl
theorem exec_testerPresent (sub : Byte) (s : State) :
    exec (.testerPresent sub) s = s.act fun d => d.udsRow 0x3E (·.udsPresent sub) := rfl
theorem exec_canSetup (src : Source) (req : Request) (s : State) :
    exec (.canSetup src req) s = s.act fun d => d.serve src 0x0901 req := rfl
theorem exec_canTesterSet (src : Source) (req : Request) (s : State) :
    exec (.canTesterSet src req) s = s.act fun d => d.serve src 0x0902 req := rfl
theorem exec_canMoSet (src : Source) (req : Request) (s : State) :
    exec (.canMoSet src req) s = s.act fun d => d.serve src 0x0903 req := rfl
theorem exec_canMoSend (src : Source) (req : Request) (s : State) :
    exec (.canMoSend src req) s = s.act fun d => d.serve src 0x0904 req := rfl
theorem exec_canMoRead (src : Source) (req : Request) (s : State) :
    exec (.canMoRead src req) s = s.act fun d => d.serve src 0x0905 req := rfl
theorem exec_canState (src : Source) (req : Request) (s : State) :
    exec (.canState src req) s = s.act fun d => d.serve src 0x0906 req := rfl
theorem exec_debounceChange (pin : Fin 37) (s : State) :
    exec (.debounceChange pin) s = s.act fun d => d.powered fun d => (d.debounceChange pin).pinWakeRaise := rfl
theorem exec_pinHoldEnd (pin : Fin 37) (s : State) :
    exec (.pinHoldEnd pin) s = s.act fun d => d.powered (·.pinHoldEnd pin) := rfl
theorem exec_gpioLockWrite (hearth : Bool) (value : Word) (s : State) :
    exec (.gpioLockWrite hearth value) s = s.act fun d => if hearth then d.awake (·.lockWrite true value) else d.hostWrite Reg.GPIO_LOCK value := rfl
theorem exec_gpioOutMwWrite (lanes : Fin 16) (value : Word) (s : State) :
    exec (.gpioOutMwWrite lanes value) s = s.act fun d => d.hostWrite (0x380 + 4 * lanes.val) value := rfl
theorem exec_gpioPinConfig (src : Source) (req : Request) (s : State) :
    exec (.gpioPinConfig src req) s = s.act fun d => d.serve src 0x0A01 req := rfl
theorem exec_gpioXbarSet (src : Source) (req : Request) (s : State) :
    exec (.gpioXbarSet src req) s = s.act fun d => d.serve src 0x0A02 req := rfl
theorem exec_gpioOutput (src : Source) (req : Request) (s : State) :
    exec (.gpioOutput src req) s = s.act fun d => d.serve src 0x0A03 req := rfl
theorem exec_gpioRead (src : Source) (req : Request) (s : State) :
    exec (.gpioRead src req) s = s.act fun d => d.serve src 0x0A04 req := rfl
theorem exec_gpioLockPin (src : Source) (req : Request) (s : State) :
    exec (.gpioLockPin src req) s = s.act fun d => d.serve src 0x0A05 req := rfl
theorem exec_timerMatch (channel : Fin 4) (s : State) :
    exec (.timerMatch channel) s = s.act fun d => d.awake (·.timerMatch channel) := rfl
theorem exec_timerWrap (channel : Fin 4) (s : State) :
    exec (.timerWrap channel) s = s.act fun d => d.awake (·.timerWrap channel) := rfl
theorem exec_timerCapture (channel : Fin 4) (falling : Bool) (s : State) :
    exec (.timerCapture channel falling) s = s.act fun d => d.awake (·.timerCapture channel falling) := rfl
theorem exec_timerGateEvent (channel : Fin 4) (start stop : Bool) (s : State) :
    exec (.timerGateEvent channel start stop) s = s.act fun d => d.awake (·.timerGate channel start stop) := rfl
theorem exec_tmrClear (hearth : Option (Fin 4)) (s : State) :
    exec (.tmrClear hearth) s = s.act fun d => d.tmrRow hearth Reg.TMR_CTRL (·.tmrClear hearth) := rfl
theorem exec_tmrCmpWrite (hearth : Option (Fin 4)) (high : Bool) (value : Word) (s : State) :
    exec (.tmrCmpWrite hearth high value) s = s.act fun d => d.tmrRow hearth (if high then Reg.TMR_CMP_HI else Reg.TMR_CMP_LO) (·.tmrCmpWrite hearth high value) := rfl
theorem exec_tmrCountLoRead (hearth : Option (Fin 4)) (s : State) :
    exec (.tmrCountLoRead hearth) s = s.act fun d => if hearth.isSome then d.awake (·.tmrCountLo hearth) else d.hostRead Reg.TMR_COUNT_LO true := rfl
theorem exec_tmrCapLoRead (hearth : Option (Fin 4)) (full : Bool) (s : State) :
    exec (.tmrCapLoRead hearth full) s = s.act fun d => if hearth.isSome then d.awake (·.tmrCapLo hearth full) else d.hostRead Reg.TMR_CAP_LO full := rfl
theorem exec_clkTimeNsRead (full : Bool) (s : State) :
    exec (.clkTimeNsRead full) s = s.act fun d => d.hostRead Reg.CLK_TIME_NS full := rfl
theorem exec_clkWordLoRead (offset : Bool) (full : Bool) (s : State) :
    exec (.clkWordLoRead offset full) s = s.act fun d => d.hostRead (if offset then Reg.CLK_OFFSET_LO else Reg.CLK_MOVE_REMAIN_LO) full := rfl
theorem exec_schedEntryReady (entry : Fin 32) (s : State) :
    exec (.schedEntryReady entry) s = s.act fun d => d.awake (·.schedReady entry) := rfl
theorem exec_schedHeldRelease (s : State) :
    exec .schedHeldRelease s = s.act fun d => d.awake Dev.schedRelease := rfl
theorem exec_schedCancelWrite (value : Word) (s : State) :
    exec (.schedCancelWrite value) s = s.act fun d => d.hostWrite Reg.SCHED_CANCEL value := rfl
theorem exec_schedSet (src : Source) (req : Request) (s : State) :
    exec (.schedSet src req) s = s.act fun d => d.serve src 0x0B01 req := rfl
theorem exec_schedCancel (src : Source) (req : Request) (s : State) :
    exec (.schedCancel src req) s = s.act fun d => d.serve src 0x0B02 req := rfl
theorem exec_schedStatus (src : Source) (req : Request) (s : State) :
    exec (.schedStatus src req) s = s.act fun d => d.serve src 0x0B03 req := rfl
theorem exec_testLogicReset (s : State) :
    exec .testLogicReset s = s.act fun d => d.tapReset := rfl
theorem exec_extest (s : State) :
    exec .extest s = s.act fun d => d.tapInstruction 0 := rfl
theorem exec_idcode (s : State) :
    exec .idcode s = s.act fun d => d.tapInstruction 1 := rfl
theorem exec_samplePreload (s : State) :
    exec .samplePreload s = s.act fun d => d.tapInstruction 2 := rfl
theorem exec_clamp (s : State) :
    exec .clamp s = s.act fun d => d.tapInstruction 4 := rfl
theorem exec_highz (s : State) :
    exec .highz s = s.act fun d => d.tapInstruction 5 := rfl
theorem exec_bypass (s : State) :
    exec .bypass s = s.act fun d => d.tapInstruction 15 := rfl
theorem exec_selftestRun (src : Source) (req : Request) (s : State) :
    exec (.selftestRun src req) s = s.act fun d => d.serve src 0x0C01 req := rfl
theorem exec_selftestDone (readings : SelfTestReadings) (s : State) :
    exec (.selftestDone readings) s = s.act fun d => d.awake (·.selfTestDone readings) := rfl
theorem exec_selftestResult (src : Source) (req : Request) (s : State) :
    exec (.selftestResult src req) s = s.act fun d => d.serve src 0x0C02 req := rfl
theorem exec_frameBoundary (sdi : List (List Bool)) (s : State) :
    exec (.frameBoundary sdi) s = s.act fun d => d.gridPoint sdi := rfl
theorem exec_phaseDetectorCompare (lmtMinusRef : Int) (s : State) :
    exec (.phaseDetectorCompare lmtMinusRef) s = s.act fun d => d.runs (·.phaseCompare lmtMinusRef) := rfl
theorem exec_canReceiveError (error : CanError) (dominantAfter : Bool) (s : State) :
    exec (.canReceiveError error dominantAfter) s = s.act fun d => d.awake (·.canReceiveError error dominantAfter) := rfl
theorem exec_tckEdge (rising tms tdi : Bool) (levels : BitVec 225) (s : State) :
    exec (.tckEdge rising tms tdi levels) s = s.act fun d => d.tckEdge rising tms tdi levels := rfl
theorem exec_secondBoundary (s : State) :
    exec .secondBoundary s = s.act fun d => d.runs Dev.secondBoundary := rfl
theorem exec_padLevelChange (pin : Fin 37) (level : Bool) (s : State) :
    exec (.padLevelChange pin level) s = s.act fun d => d.powered fun d => (d.padLevel pin level).pinWakeRaise := rfl
theorem exec_i2cTransferDone (bus : Fin 2) (result : I2cResult) (s : State) :
    exec (.i2cTransferDone bus result) s = s.act fun d => d.awake (·.i2cDone bus result) := rfl

end Sys2Proof.Machine
end

