-- ==== Sys2Proof/Laws/Memory.lean ====
section
/-! SUPPORT.
The audio RAM: every write keeps the canonical form, a read after a write, and the frame of a write. -/

namespace Sys2Proof.Machine

/-- The canonical form in words: addresses rise strictly, lie inside the 512 KB, and no entry is at
the default. -/
theorem Memory.wf_iff (m : List Host.Cell) :
    Memory.wf m = true ↔ m.Pairwise (fun x y => x.1 < y.1) ∧ ∀ x ∈ m, x.1 < 524288 ∧ x.2 ≠ ramDefault := by
  induction m with
  | nil => simp [Memory.wf]
  | cons p t ih =>
    cases t with
    | nil => simp [Memory.wf]
    | cons q t =>
      obtain ⟨a, b⟩ := p
      obtain ⟨a', b'⟩ := q
      simp only [Memory.wf, Bool.and_eq_true, ih, decide_eq_true_eq, bne_iff_ne]
      constructor
      · rintro ⟨⟨hlt, hb⟩, hp, hall⟩
        refine ⟨List.pairwise_cons.mpr ⟨fun y hy => ?_, hp⟩, ?_⟩
        · rcases List.mem_cons.mp hy with rfl | hy
          · exact hlt
          · exact lt_trans hlt ((List.pairwise_cons.mp hp).1 y hy)
        · intro x hx
          rcases List.mem_cons.mp hx with rfl | hx
          · exact ⟨lt_trans hlt (hall (a', b') (by simp)).1, hb⟩
          · exact hall x hx
      · rintro ⟨hp, hall⟩
        have hp' := List.pairwise_cons.mp hp
        exact ⟨⟨hp'.1 (a', b') (by simp), (hall (a, b) (by simp)).2⟩, hp'.2,
          fun x hx => hall x (List.mem_cons_of_mem _ hx)⟩

/-- An entry of a written memory is an old one, or the one written. -/
theorem writeCell_mem (m : List Host.Cell) (a : Nat) (b : Byte) (x : Host.Cell) (h : x ∈ writeCell m a b) :
    x ∈ m ∨ (x = (a, b) ∧ b ≠ ramDefault) := by
  induction m with
  | nil =>
    unfold writeCell at h
    split at h <;> simp_all
  | cons p t ih =>
    obtain ⟨k, c⟩ := p
    unfold writeCell at h
    split at h
    · split at h
      · exact .inl (List.mem_cons_of_mem _ h)
      · rcases List.mem_cons.mp h with rfl | h
        · exact .inr ⟨rfl, by simp_all⟩
        · exact .inl (List.mem_cons_of_mem _ h)
    · split at h
      · split at h
        · exact .inl h
        · rcases List.mem_cons.mp h with rfl | h
          · exact .inr ⟨rfl, by simp_all⟩
          · exact .inl h
      · rcases List.mem_cons.mp h with rfl | h
        · exact .inl (by simp)
        · rcases ih h with h | h
          · exact .inl (List.mem_cons_of_mem _ h)
          · exact .inr h

/-- A write of one byte keeps the order of the addresses. -/
theorem writeCell_pairwise (m : List Host.Cell) (a : Nat) (b : Byte) (h : m.Pairwise (fun x y => x.1 < y.1)) :
    (writeCell m a b).Pairwise (fun x y => x.1 < y.1) := by
  induction m with
  | nil => unfold writeCell; split <;> simp
  | cons p t ih =>
    obtain ⟨k, c⟩ := p
    have hp := List.pairwise_cons.mp h
    unfold writeCell
    split
    · rename_i hk
      have hk : k = a := by simpa using hk
      subst hk
      split
      · exact hp.2
      · exact List.pairwise_cons.mpr ⟨fun y hy => hp.1 y hy, hp.2⟩
    · split
      · split
        · exact h
        · rename_i hlt _
          refine List.pairwise_cons.mpr ⟨fun y hy => ?_, h⟩
          rcases List.mem_cons.mp hy with rfl | hy
          · exact hlt
          · exact lt_trans hlt (hp.1 y hy)
      · rename_i hne hge
        refine List.pairwise_cons.mpr ⟨fun y hy => ?_, ih hp.2⟩
        rcases writeCell_mem t a b y hy with hy | ⟨rfl, _⟩
        · exact hp.1 y hy
        · have : k ≠ a := by simpa using hne
          show k < a
          omega

/-- A write of one byte inside the RAM keeps the canonical form. -/
theorem writeCell_wf {m : List Host.Cell} (h : Memory.wf m = true) {a : Nat} (ha : a < 524288) (b : Byte) :
    Memory.wf (writeCell m a b) = true := by
  rw [Memory.wf_iff] at h ⊢
  refine ⟨writeCell_pairwise m a b h.1, fun x hx => ?_⟩
  rcases writeCell_mem m a b x hx with hx | ⟨rfl, hb⟩
  · exact h.2 x hx
  · exact ⟨ha, hb⟩

/-- Bytes written inside the RAM keep the canonical form. -/
theorem writeBytes_wf {m : List Host.Cell} (h : Memory.wf m = true) (a : Nat) (l : List Byte) (ha : a + l.length ≤ 524288) :
    Memory.wf (writeBytes m a l) = true := by
  induction l generalizing m a with
  | nil => exact h
  | cons b t ih =>
    simp only [List.length_cons] at ha
    exact ih (writeCell_wf h (by omega) b) (a + 1) (by omega)

/-- A beat's write keeps the canonical form. -/
theorem writeWord64_wf {m : List Host.Cell} (h : Memory.wf m = true) (word : U16) (w : U64) :
    Memory.wf (writeWord64 m word w) = true := by
  have := word.isLt
  exact writeBytes_wf h _ _ (by simp [bytes64]; omega)

/-- Below its first entry a memory in order reads the default. -/
theorem readCell_below (m : List Host.Cell) (a : Nat) (h : ∀ x ∈ m, a < x.1) : readCell m a = ramDefault := by
  cases m with
  | nil => rfl
  | cons p t =>
    obtain ⟨k, b⟩ := p
    have hk : a < k := h (k, b) (by simp)
    simp [readCell, hk, Nat.ne_of_gt hk]

/-- A byte after a write of one byte: the byte written at its address, every other as before. -/
theorem readCell_writeCell (m : List Host.Cell) (h : m.Pairwise (fun x y => x.1 < y.1)) (a x : Nat) (b : Byte) :
    readCell (writeCell m a b) x = if x = a then b else readCell m x := by
  induction m with
  | nil =>
    unfold writeCell
    split
    · rename_i hb
      have hb : b = ramDefault := by simpa using hb
      subst hb
      simp [readCell]
    · by_cases hx : x = a
      · subst hx; simp [readCell]
      · have : (a == x) = false := by simpa using Ne.symm hx
        simp [readCell, hx, this]
  | cons p t ih =>
    obtain ⟨k, c⟩ := p
    have hp := List.pairwise_cons.mp h
    unfold writeCell
    split
    · rename_i hk
      have hk : k = a := by simpa using hk
      subst hk
      split
      · rename_i hb
        have hb : b = ramDefault := by simpa using hb
        subst hb
        by_cases hx : x = k
        · subst hx
          simp [readCell_below t x fun y hy => hp.1 y hy]
        · have hkx : (k == x) = false := by simpa using Ne.symm hx
          simp only [hx, if_false, readCell, hkx]
          by_cases hlt : x < k
          · simp [hlt, readCell_below t x fun y hy => lt_trans hlt (hp.1 y hy)]
          · simp [hlt]
      · by_cases hx : x = k
        · subst hx; simp [readCell]
        · have hkx : (k == x) = false := by simpa using Ne.symm hx
          simp [readCell, hx, hkx]
    · rename_i hne
      have hne : k ≠ a := by simpa using hne
      split
      · rename_i hlt
        split
        · rename_i hb
          have hb : b = ramDefault := by simpa using hb
          subst hb
          by_cases hx : x = a
          · subst hx
            have : readCell ((k, c) :: t) x = ramDefault :=
              readCell_below _ _ fun y hy => by
                rcases List.mem_cons.mp hy with rfl | hy
                · exact hlt
                · exact lt_trans hlt (hp.1 y hy)
            simp [this]
          · simp [hx]
        · by_cases hx : x = a
          · subst hx; simp [readCell]
          · have hax : (a == x) = false := by simpa using Ne.symm hx
            by_cases hxa : x < a
            · have : readCell ((k, c) :: t) x = ramDefault :=
                readCell_below _ _ fun y hy => by
                  rcases List.mem_cons.mp hy with rfl | hy
                  · exact lt_trans hxa hlt
                  · exact lt_trans (lt_trans hxa hlt) (hp.1 y hy)
              rw [if_neg hx, this, readCell]; simp [hax, hxa]
            · rw [if_neg hx]; conv_lhs => rw [readCell]
              simp [hax, hxa]
      · rename_i hge
        by_cases hxk : x = k
        · subst hxk
          simp [readCell, hne]
        · have hkx : (k == x) = false := by simpa using Ne.symm hxk
          by_cases hlt : x < k
          · have hxa : x ≠ a := by omega
            simp [readCell, hkx, hlt, hxa]
          · simp only [readCell, hkx, hlt, Bool.false_eq_true, if_false]
            exact ih hp.2

/-- A byte after a list of bytes is written: inside the list its byte, outside as before. -/
theorem readCell_writeBytes (m : List Host.Cell) (h : m.Pairwise (fun x y => x.1 < y.1)) (a x : Nat) (l : List Byte) :
    readCell (writeBytes m a l) x =
      if a ≤ x ∧ x < a + l.length then l.getD (x - a) ramDefault else readCell m x := by
  induction l generalizing m a with
  | nil =>
    have : ¬ (a ≤ x ∧ x < a + ([] : List Byte).length) := by simp
    rw [if_neg this]; rfl
  | cons b t ih =>
    rw [writeBytes, ih _ (writeCell_pairwise m a b h), readCell_writeCell m h]
    simp only [List.length_cons]
    by_cases h1 : a + 1 ≤ x ∧ x < a + 1 + t.length
    · rw [if_pos h1, if_pos (by omega)]
      obtain ⟨k, hk⟩ : ∃ k, x - a = k + 1 := ⟨x - a - 1, by omega⟩
      rw [hk, List.getD_cons_succ]
      congr 1; omega
    · rw [if_neg h1]
      by_cases hx : x = a
      · subst hx; simp
      · rw [if_neg hx, if_neg (by omega)]

/-- A byte after a beat's write. -/
theorem readCell_writeWord64 {m : List Host.Cell} (h : Memory.wf m = true) (word : U16) (w : U64) (x : Nat) :
    readCell (writeWord64 m word w) x =
      if 8 * word.toNat ≤ x ∧ x < 8 * word.toNat + 8 then w.extractLsb' (8 * (x - 8 * word.toNat)) 8 else readCell m x := by
  rw [writeWord64, readCell_writeBytes m ((Memory.wf_iff m).mp h).1]
  have hl : (bytes64 w).length = 8 := by simp [bytes64]
  rw [hl]
  split
  · rename_i hx
    have : x - 8 * word.toNat < 8 := by omega
    simp [bytes64, List.getD, this]
  · rfl

/-- The eight bytes a beat reads, put together again. -/
theorem word64_of_bytes (v : U64) :
    (List.range 8).foldr (fun (i : Nat) (w : U64) => w <<< 8 ||| (v.extractLsb' (8 * i) 8).setWidth 64) 0 = v := by
  simp only [List.range, List.range.loop, List.foldr]
  have step : ∀ (n : Nat) (w : U64), n ≤ 56 → w = v >>> (n + 8) → w <<< 8 ||| (v.extractLsb' n 8).setWidth 64 = v >>> n := by
    intro n w hn hw
    subst hw
    apply BitVec.eq_of_getLsbD_eq
    intro i hi
    simp only [BitVec.getLsbD_or, BitVec.getLsbD_shiftLeft, BitVec.getLsbD_setWidth, BitVec.getLsbD_extractLsb', BitVec.getLsbD_ushiftRight]
    by_cases h : i < 8
    · simp [h, hi]
    · simp [h, hi]; congr 1; omega
  have h8 : (0 : U64) = v >>> (56 + 8) := by apply BitVec.eq_of_getLsbD_eq; intro i hi; simp [BitVec.getLsbD_of_ge]
  rw [step 56 _ (by omega) h8, step 48 _ (by omega) rfl, step 40 _ (by omega) rfl, step 32 _ (by omega) rfl, step 24 _ (by omega) rfl, step 16 _ (by omega) rfl, step 8 _ (by omega) rfl, step 0 _ (by omega) rfl]
  simp

/-- A beat's read after a beat's write of the same word. -/
theorem readWord64_write_same {m : List Host.Cell} (h : Memory.wf m = true) (word : U16) (w : U64) :
    readWord64 (writeWord64 m word w) word = w := by
  conv_rhs => rw [← word64_of_bytes w]
  unfold readWord64
  have hin : ∀ i, i < 8 → readCell (writeWord64 m word w) (8 * word.toNat + i) = w.extractLsb' (8 * i) 8 := by
    intro i hi
    rw [readCell_writeWord64 h, if_pos ⟨by omega, by omega⟩, Nat.add_sub_cancel_left]
  simp only [List.range, List.range.loop, List.foldr]
  rw [hin 0 (by omega), hin 1 (by omega), hin 2 (by omega), hin 3 (by omega), hin 4 (by omega), hin 5 (by omega),
    hin 6 (by omega), hin 7 (by omega)]

/-- A beat's read after a beat's write of another word. -/
theorem readWord64_write_other {m : List Host.Cell} (h : Memory.wf m = true) {word other : U16} (hne : other ≠ word) (w : U64) :
    readWord64 (writeWord64 m word w) other = readWord64 m other := by
  have hne' : other.toNat ≠ word.toNat := fun e => hne (BitVec.eq_of_toNat_eq e)
  unfold readWord64
  simp only [List.range, List.range.loop, List.foldr, readCell_writeWord64 h]
  have hout : ∀ i < 8, ¬ (8 * word.toNat ≤ 8 * other.toNat + i ∧ 8 * other.toNat + i < 8 * word.toNat + 8) := by
    intro i hi; omega
  rw [if_neg (hout 0 (by omega)), if_neg (hout 1 (by omega)), if_neg (hout 2 (by omega)), if_neg (hout 3 (by omega)),
    if_neg (hout 4 (by omega)), if_neg (hout 5 (by omega)), if_neg (hout 6 (by omega)), if_neg (hout 7 (by omega))]

/-- The words of a burst, written in order, keep the canonical form. -/
theorem writeWords_wf {m : List Host.Cell} (h : Memory.wf m = true) (l : List (U16 × U64)) :
    Memory.wf (l.foldl (fun m w => writeWord64 m w.1 w.2) m) = true := by
  induction l generalizing m with
  | nil => exact h
  | cons w t ih => exact ih (writeWord64_wf h w.1 w.2)

/-- A byte outside the words of a burst reads as before it. -/
theorem readCell_writeWords {m : List Host.Cell} (h : Memory.wf m = true) (l : List (U16 × U64)) (x : Nat)
    (hx : ∀ w ∈ l, ¬ (8 * w.1.toNat ≤ x ∧ x < 8 * w.1.toNat + 8)) :
    readCell (l.foldl (fun m w => writeWord64 m w.1 w.2) m) x = readCell m x := by
  induction l generalizing m with
  | nil => rfl
  | cons w t ih =>
    rw [List.foldl_cons, ih (writeWord64_wf h w.1 w.2) fun v hv => hx v (List.mem_cons_of_mem _ hv),
      readCell_writeWord64 h, if_neg (hx w (by simp))]

end Sys2Proof.Machine
end

