-- ==== Sys2Proof/Laws/Exec.lean ====
section
/-! SUPPORT.
What a command can do, said once: all but four change the device alone; a debug beat and a granted burst
change the audio RAM too, the start of Proof clears it, and RST_N_ASSERT is the one that may stop. -/

namespace Sys2Proof.Machine

/-- Every command but four is an effect on the device. -/
theorem exec_shape (i : Instr) :
    (∃ f : Dev → Dev, ∀ s, exec i s = s.act f) ∨ i = .dbgBeatDone ∨ i = .proofStart ∨
      (∃ input, i = .arbGrant input) ∨ ∃ n, i = .rstNAssert n :=
  match i with
  | .powerOnReset _x => .inl ⟨_, exec_powerOnReset _x⟩
  | .powerOnResetRelease railsHeld => .inl ⟨_, exec_powerOnResetRelease railsHeld⟩
  | .rstNAssert lowNs => .inr (.inr (.inr (.inr ⟨lowNs, rfl⟩)))
  | .rstNRelease => .inl ⟨_, exec_rstNRelease⟩
  | .corePllLockLoss => .inl ⟨_, exec_corePllLockLoss⟩
  | .hearthWatchdogExpiry => .inl ⟨_, exec_hearthWatchdogExpiry⟩
  | .softwareReset => .inl ⟨_, exec_softwareReset⟩
  | .proofStart => .inr (.inr (.inl rfl))
  | .proofComplete readings => .inl ⟨_, exec_proofComplete readings⟩
  | .bootStart => .inl ⟨_, exec_bootStart⟩
  | .bootComplete => .inl ⟨_, exec_bootComplete⟩
  | .supervisorSample sample => .inl ⟨_, exec_supervisorSample sample⟩
  | .supplyMuteRampEnd => .inl ⟨_, exec_supplyMuteRampEnd⟩
  | .supplyMuteExit => .inl ⟨_, exec_supplyMuteExit⟩
  | .vddioEFaultEnter => .inl ⟨_, exec_vddioEFaultEnter⟩
  | .vddioEFaultExit => .inl ⟨_, exec_vddioEFaultExit⟩
  | .vbatOpenEnter => .inl ⟨_, exec_vbatOpenEnter⟩
  | .vbatOpenExit => .inl ⟨_, exec_vbatOpenExit⟩
  | .journalRecordProgram => .inl ⟨_, exec_journalRecordProgram⟩
  | .journalRecordDone => .inl ⟨_, exec_journalRecordDone⟩
  | .journalCompactionDone => .inl ⟨_, exec_journalCompactionDone⟩
  | .flashEraseDone target => .inl ⟨_, exec_flashEraseDone target⟩
  | .quietEntryComplete => .inl ⟨_, exec_quietEntryComplete⟩
  | .quietDoorbellPass => .inl ⟨_, exec_quietDoorbellPass⟩
  | .quietWake event => .inl ⟨_, exec_quietWake event⟩
  | .pwrResetReqWrite value => .inl ⟨_, exec_pwrResetReqWrite value⟩
  | .minRestart => .inl ⟨_, exec_minRestart⟩
  | .registerWrite addr value hearth => .inl ⟨_, exec_registerWrite addr value hearth⟩
  | .spiTransactionStart hsckHigh => .inl ⟨_, exec_spiTransactionStart hsckHigh⟩
  | .spiNop => .inl ⟨_, exec_spiNop⟩
  | .spiWriteWord header value => .inl ⟨_, exec_spiWriteWord header value⟩
  | .spiReadWord header full => .inl ⟨_, exec_spiReadWord header full⟩
  | .snapshot mask events => .inl ⟨_, exec_snapshot mask events⟩
  | .badOpcode opcode => .inl ⟨_, exec_badOpcode opcode⟩
  | .spiTransactionEnd header partialWord => .inl ⟨_, exec_spiTransactionEnd header partialWord⟩
  | .overspeed => .inl ⟨_, exec_overspeed⟩
  | .aliasWrite addr value => .inl ⟨_, exec_aliasWrite addr value⟩
  | .dbgReadRequest word autoInc => .inl ⟨_, exec_dbgReadRequest word autoInc⟩
  | .dbgWriteCommit dataHi => .inl ⟨_, exec_dbgWriteCommit dataHi⟩
  | .dbgBeatDone => .inr (.inl rfl)
  | .eccLastClear => .inl ⟨_, exec_eccLastClear⟩
  | .statsClear => .inl ⟨_, exec_statsClear⟩
  | .arbGrant input => .inr (.inr (.inr (.inl ⟨input, rfl⟩)))
  | .requestAged requester => .inl ⟨_, exec_requestAged requester⟩
  | .mbDoorbell mailbox value => .inl ⟨_, exec_mbDoorbell mailbox value⟩
  | .mbRelease mailbox full => .inl ⟨_, exec_mbRelease mailbox full⟩
  | .servicePass => .inl ⟨_, exec_servicePass⟩
  | .evqHeadRead full => .inl ⟨_, exec_evqHeadRead full⟩
  | .evqArgRead full => .inl ⟨_, exec_evqArgRead full⟩
  | .evqStateRead full => .inl ⟨_, exec_evqStateRead full⟩
  | .status src req => .inl ⟨_, exec_status src req⟩
  | .identity src req => .inl ⟨_, exec_identity src req⟩
  | .failureReport src req => .inl ⟨_, exec_failureReport src req⟩
  | .reset src req => .inl ⟨_, exec_reset src req⟩
  | .quietEnter src req => .inl ⟨_, exec_quietEnter src req⟩
  | .quietExit src req => .inl ⟨_, exec_quietExit src req⟩
  | .eventMask src req => .inl ⟨_, exec_eventMask src req⟩
  | .journalStatus src req => .inl ⟨_, exec_journalStatus src req⟩
  | .journalRead src req => .inl ⟨_, exec_journalRead src req⟩
  | .journalCompact src req => .inl ⟨_, exec_journalCompact src req⟩
  | .journalDefaults src req => .inl ⟨_, exec_journalDefaults src req⟩
  | .journalDefaultsDone => .inl ⟨_, exec_journalDefaultsDone⟩
  | .fwuBegin src req => .inl ⟨_, exec_fwuBegin src req⟩
  | .fwuEraseDone => .inl ⟨_, exec_fwuEraseDone⟩
  | .fwuWrite src req => .inl ⟨_, exec_fwuWrite src req⟩
  | .fwuFinish src req => .inl ⟨_, exec_fwuFinish src req⟩
  | .fwuConfirm src req => .inl ⟨_, exec_fwuConfirm src req⟩
  | .fwuAbort src req => .inl ⟨_, exec_fwuAbort src req⟩
  | .ksTick input => .inl ⟨_, exec_ksTick input⟩
  | .refQualified entry => .inl ⟨_, exec_refQualified entry⟩
  | .refLoss entry => .inl ⟨_, exec_refLoss entry⟩
  | .bwNarrowStep => .inl ⟨_, exec_bwNarrowStep⟩
  | .trackEntry => .inl ⟨_, exec_trackEntry⟩
  | .reacquire offset => .inl ⟨_, exec_reacquire offset⟩
  | .holdoverExpired => .inl ⟨_, exec_holdoverExpired⟩
  | .timeValidLapse => .inl ⟨_, exec_timeValidLapse⟩
  | .moveDone => .inl ⟨_, exec_moveDone⟩
  | .clkPhaseStepWrite value => .inl ⟨_, exec_clkPhaseStepWrite value⟩
  | .dcoSeedWrite high value => .inl ⟨_, exec_dcoSeedWrite high value⟩
  | .clkRefCommitWrite value => .inl ⟨_, exec_clkRefCommitWrite value⟩
  | .ksStatus src req => .inl ⟨_, exec_ksStatus src req⟩
  | .ksSetRate src req => .inl ⟨_, exec_ksSetRate src req⟩
  | .ksSetTable src req => .inl ⟨_, exec_ksSetTable src req⟩
  | .ksSetLoop src req => .inl ⟨_, exec_ksSetLoop src req⟩
  | .ksPhaseStep src req => .inl ⟨_, exec_ksPhaseStep src req⟩
  | .ksSteer src req => .inl ⟨_, exec_ksSteer src req⟩
  | .captureLock port phase => .inl ⟨_, exec_captureLock port phase⟩
  | .captureUnlock port frameInProgress => .inl ⟨_, exec_captureUnlock port frameInProgress⟩
  | .captureUnlockTimeout port => .inl ⟨_, exec_captureUnlockTimeout port⟩
  | .ethFrameReceive port frame => .inl ⟨_, exec_ethFrameReceive port frame⟩
  | .rxDescriptorRelease port => .inl ⟨_, exec_rxDescriptorRelease port⟩
  | .txSubmit port frame => .inl ⟨_, exec_txSubmit port frame⟩
  | .txFrameStart port => .inl ⟨_, exec_txFrameStart port⟩
  | .txFrameDone port => .inl ⟨_, exec_txFrameDone port⟩
  | .pauseFrame port quanta => .inl ⟨_, exec_pauseFrame port quanta⟩
  | .pauseExpiry port => .inl ⟨_, exec_pauseExpiry port⟩
  | .phyPoll port reading => .inl ⟨_, exec_phyPoll port reading⟩
  | .phyInterrupt reading0 reading1 reading2 => .inl ⟨_, exec_phyInterrupt reading0 reading1 reading2⟩
  | .phyScriptRun port script => .inl ⟨_, exec_phyScriptRun port script⟩
  | .utilWindowEnd => .inl ⟨_, exec_utilWindowEnd⟩
  | .easeFail port => .inl ⟨_, exec_easeFail port⟩
  | .linkHoldExpiry port => .inl ⟨_, exec_linkHoldExpiry port⟩
  | .portDisable port => .inl ⟨_, exec_portDisable port⟩
  | .portIdle port => .inl ⟨_, exec_portIdle port⟩
  | .ethMacHiWrite port value => .inl ⟨_, exec_ethMacHiWrite port value⟩
  | .ethFiltWrite port high value => .inl ⟨_, exec_ethFiltWrite port high value⟩
  | .remoteRequest port frame => .inl ⟨_, exec_remoteRequest port frame⟩
  | .ethPortStatus src req => .inl ⟨_, exec_ethPortStatus src req⟩
  | .ethPortSetup src req => .inl ⟨_, exec_ethPortSetup src req⟩
  | .ethPortDisable src req => .inl ⟨_, exec_ethPortDisable src req⟩
  | .ethEaseSet src req => .inl ⟨_, exec_ethEaseSet src req⟩
  | .ethMdio src req readBack => .inl ⟨_, exec_ethMdio src req readBack⟩
  | .ethPhyScript src req => .inl ⟨_, exec_ethPhyScript src req⟩
  | .ethRemoteSet src req => .inl ⟨_, exec_ethRemoteSet src req⟩
  | .ethBadFrames src req => .inl ⟨_, exec_ethBadFrames src req⟩
  | .gptpMessage port domain ago message => .inl ⟨_, exec_gptpMessage port domain ago message⟩
  | .syncReceiptTimeout port => .inl ⟨_, exec_syncReceiptTimeout port⟩
  | .announceReceiptTimeout port => .inl ⟨_, exec_announceReceiptTimeout port⟩
  | .pdelayReqSend port => .inl ⟨_, exec_pdelayReqSend port⟩
  | .aafFrame frame => .inl ⟨_, exec_aafFrame frame⟩
  | .crfFrame frame => .inl ⟨_, exec_crfFrame frame⟩
  | .listenerStartPlay listener => .inl ⟨_, exec_listenerStartPlay listener⟩
  | .listenerStarved listener => .inl ⟨_, exec_listenerStarved listener⟩
  | .listenerResume listener => .inl ⟨_, exec_listenerResume listener⟩
  | .talkerStartSend talker => .inl ⟨_, exec_talkerStartSend talker⟩
  | .stopTimeReached talker index => .inl ⟨_, exec_stopTimeReached talker index⟩
  | .stopRampEnd talker index => .inl ⟨_, exec_stopRampEnd talker index⟩
  | .talkerFrameSend talker => .inl ⟨_, exec_talkerFrameSend talker⟩
  | .streamFault listener kind => .inl ⟨_, exec_streamFault listener kind⟩
  | .rateRecovered listener => .inl ⟨_, exec_rateRecovered listener⟩
  | .streamAutostart => .inl ⟨_, exec_streamAutostart⟩
  | .listenerSetup src req => .inl ⟨_, exec_listenerSetup src req⟩
  | .talkerSetup src req => .inl ⟨_, exec_talkerSetup src req⟩
  | .streamStart src req => .inl ⟨_, exec_streamStart src req⟩
  | .streamStop src req => .inl ⟨_, exec_streamStop src req⟩
  | .streamDelete src req => .inl ⟨_, exec_streamDelete src req⟩
  | .streamStatus src req => .inl ⟨_, exec_streamStatus src req⟩
  | .portStreamStatus src req => .inl ⟨_, exec_portStreamStatus src req⟩
  | .gptpSet src req => .inl ⟨_, exec_gptpSet src req⟩
  | .gptpStatus src req => .inl ⟨_, exec_gptpStatus src req⟩
  | .lintelBeacon group port payload => .inl ⟨_, exec_lintelBeacon group port payload⟩
  | .lintelTick offsets => .inl ⟨_, exec_lintelTick offsets⟩
  | .fadeEnd group => .inl ⟨_, exec_fadeEnd group⟩
  | .revertHoldExpiry group => .inl ⟨_, exec_revertHoldExpiry group⟩
  | .healthBlockEnd group concealed energies => .inl ⟨_, exec_healthBlockEnd group concealed energies⟩
  | .lintelGroupSetup src req => .inl ⟨_, exec_lintelGroupSetup src req⟩
  | .lintelGroupStart src req => .inl ⟨_, exec_lintelGroupStart src req⟩
  | .lintelGroupStop src req => .inl ⟨_, exec_lintelGroupStop src req⟩
  | .lintelGroupDelete src req => .inl ⟨_, exec_lintelGroupDelete src req⟩
  | .lintelSwitch src req => .inl ⟨_, exec_lintelSwitch src req⟩
  | .lintelGroupStatus src req => .inl ⟨_, exec_lintelGroupStatus src req⟩
  | .lintelHealth src req => .inl ⟨_, exec_lintelHealth src req⟩
  | .lintelTalkerSet src req => .inl ⟨_, exec_lintelTalkerSet src req⟩
  | .tdmCommitApply port => .inl ⟨_, exec_tdmCommitApply port⟩
  | .tdmPortStopped port => .inl ⟨_, exec_tdmPortStopped port⟩
  | .outUnderrun port => .inl ⟨_, exec_outUnderrun port⟩
  | .inOverrun port => .inl ⟨_, exec_inOverrun port⟩
  | .senseStale speaker => .inl ⟨_, exec_senseStale speaker⟩
  | .senseRecovered speaker => .inl ⟨_, exec_senseRecovered speaker⟩
  | .delayChangeRampEnd destination => .inl ⟨_, exec_delayChangeRampEnd destination⟩
  | .tdmPortSet src req => .inl ⟨_, exec_tdmPortSet src req⟩
  | .tdmPortDisable src req => .inl ⟨_, exec_tdmPortDisable src req⟩
  | .tdmPortStatus src req => .inl ⟨_, exec_tdmPortStatus src req⟩
  | .routeSourceBind src req => .inl ⟨_, exec_routeSourceBind src req⟩
  | .routeDestBind src req => .inl ⟨_, exec_routeDestBind src req⟩
  | .routeXpSet src req => .inl ⟨_, exec_routeXpSet src req⟩
  | .routeCommit src req => .inl ⟨_, exec_routeCommit src req⟩
  | .routeDestGain src req => .inl ⟨_, exec_routeDestGain src req⟩
  | .routeMute src req => .inl ⟨_, exec_routeMute src req⟩
  | .routeToneSet src req => .inl ⟨_, exec_routeToneSet src req⟩
  | .routePartition src req => .inl ⟨_, exec_routePartition src req⟩
  | .routeSenseBind src req => .inl ⟨_, exec_routeSenseBind src req⟩
  | .routeStatus src req => .inl ⟨_, exec_routeStatus src req⟩
  | .measSlotEnd speaker => .inl ⟨_, exec_measSlotEnd speaker⟩
  | .foldbackEval => .inl ⟨_, exec_foldbackEval⟩
  | .foldbackLimit owner => .inl ⟨_, exec_foldbackLimit owner⟩
  | .dcTestSpeakerStart speaker => .inl ⟨_, exec_dcTestSpeakerStart speaker⟩
  | .dcTestNotQuiet speaker => .inl ⟨_, exec_dcTestNotQuiet speaker⟩
  | .dcTestSpeakerDone speaker => .inl ⟨_, exec_dcTestSpeakerDone speaker⟩
  | .dcTestAbort speaker cause => .inl ⟨_, exec_dcTestAbort speaker cause⟩
  | .baselineLearnDone speaker => .inl ⟨_, exec_baselineLearnDone speaker⟩
  | .baselineLearnTimeout speaker => .inl ⟨_, exec_baselineLearnTimeout speaker⟩
  | .ampFaultAssert amp => .inl ⟨_, exec_ampFaultAssert amp⟩
  | .faultHoldExpiry amp => .inl ⟨_, exec_faultHoldExpiry amp⟩
  | .ampScriptDone amp => .inl ⟨_, exec_ampScriptDone amp⟩
  | .i2cRetry bus => .inl ⟨_, exec_i2cRetry bus⟩
  | .i2cStretchTimeout bus => .inl ⟨_, exec_i2cStretchTimeout bus⟩
  | .muteLineCheck => .inl ⟨_, exec_muteLineCheck⟩
  | .dieSensorDisagree => .inl ⟨_, exec_dieSensorDisagree⟩
  | .amonOutOfRange => .inl ⟨_, exec_amonOutOfRange⟩
  | .amonBackInRange => .inl ⟨_, exec_amonBackInRange⟩
  | .dtcStoreWrite => .inl ⟨_, exec_dtcStoreWrite⟩
  | .measSpeakerSet src req => .inl ⟨_, exec_measSpeakerSet src req⟩
  | .measConfig src req => .inl ⟨_, exec_measConfig src req⟩
  | .measResult src req => .inl ⟨_, exec_measResult src req⟩
  | .measBaseline src req => .inl ⟨_, exec_measBaseline src req⟩
  | .measDcTest src req => .inl ⟨_, exec_measDcTest src req⟩
  | .measMonitors src req => .inl ⟨_, exec_measMonitors src req⟩
  | .measDtcRead src req => .inl ⟨_, exec_measDtcRead src req⟩
  | .measDtcClear src req => .inl ⟨_, exec_measDtcClear src req⟩
  | .ampScriptSet src req => .inl ⟨_, exec_ampScriptSet src req⟩
  | .ampScriptRun src req => .inl ⟨_, exec_ampScriptRun src req⟩
  | .ampLine src req => .inl ⟨_, exec_ampLine src req⟩
  | .ampI2c src req => .inl ⟨_, exec_ampI2c src req⟩
  | .canFrameReceive frame => .inl ⟨_, exec_canFrameReceive frame⟩
  | .canTxStart => .inl ⟨_, exec_canTxStart⟩
  | .canTxComplete outcome => .inl ⟨_, exec_canTxComplete outcome⟩
  | .canAloneDetect => .inl ⟨_, exec_canAloneDetect⟩
  | .canRecoveryComplete => .inl ⟨_, exec_canRecoveryComplete⟩
  | .canInitEnter => .inl ⟨_, exec_canInitEnter⟩
  | .canInitExit => .inl ⟨_, exec_canInitExit⟩
  | .canRecover => .inl ⟨_, exec_canRecover⟩
  | .canTxReq value => .inl ⟨_, exec_canTxReq value⟩
  | .canTxAbort value => .inl ⟨_, exec_canTxAbort value⟩
  | .crxWake => .inl ⟨_, exec_crxWake⟩
  | .isotpMessageComplete => .inl ⟨_, exec_isotpMessageComplete⟩
  | .isotpTimeout => .inl ⟨_, exec_isotpTimeout⟩
  | .responsePending => .inl ⟨_, exec_responsePending⟩
  | .s3Timeout => .inl ⟨_, exec_s3Timeout⟩
  | .securityDelayEnd => .inl ⟨_, exec_securityDelayEnd⟩
  | .diagnosticSessionControl sub => .inl ⟨_, exec_diagnosticSessionControl sub⟩
  | .ecuReset sub => .inl ⟨_, exec_ecuReset sub⟩
  | .clearDiagnosticInformation group => .inl ⟨_, exec_clearDiagnosticInformation group⟩
  | .reportNumberOfDtcByStatusMask mask => .inl ⟨_, exec_reportNumberOfDtcByStatusMask mask⟩
  | .reportDtcByStatusMask mask => .inl ⟨_, exec_reportDtcByStatusMask mask⟩
  | .reportDtcExtDataRecord dtc record => .inl ⟨_, exec_reportDtcExtDataRecord dtc record⟩
  | .reportSupportedDtc => .inl ⟨_, exec_reportSupportedDtc⟩
  | .readDataByIdentifier ids => .inl ⟨_, exec_readDataByIdentifier ids⟩
  | .requestSeed => .inl ⟨_, exec_requestSeed⟩
  | .sendKey key => .inl ⟨_, exec_sendKey key⟩
  | .startRoutine rid record => .inl ⟨_, exec_startRoutine rid record⟩
  | .stopRoutine rid => .inl ⟨_, exec_stopRoutine rid⟩
  | .requestRoutineResults rid _x => .inl ⟨_, exec_requestRoutineResults rid _x⟩
  | .requestDownload format alfid address size => .inl ⟨_, exec_requestDownload format alfid address size⟩
  | .transferData counter data => .inl ⟨_, exec_transferData counter data⟩
  | .requestTransferExit => .inl ⟨_, exec_requestTransferExit⟩
  | .testerPresent sub => .inl ⟨_, exec_testerPresent sub⟩
  | .canSetup src req => .inl ⟨_, exec_canSetup src req⟩
  | .canTesterSet src req => .inl ⟨_, exec_canTesterSet src req⟩
  | .canMoSet src req => .inl ⟨_, exec_canMoSet src req⟩
  | .canMoSend src req => .inl ⟨_, exec_canMoSend src req⟩
  | .canMoRead src req => .inl ⟨_, exec_canMoRead src req⟩
  | .canState src req => .inl ⟨_, exec_canState src req⟩
  | .debounceChange pin => .inl ⟨_, exec_debounceChange pin⟩
  | .pinHoldEnd pin => .inl ⟨_, exec_pinHoldEnd pin⟩
  | .gpioLockWrite hearth value => .inl ⟨_, exec_gpioLockWrite hearth value⟩
  | .gpioOutMwWrite lanes value => .inl ⟨_, exec_gpioOutMwWrite lanes value⟩
  | .gpioPinConfig src req => .inl ⟨_, exec_gpioPinConfig src req⟩
  | .gpioXbarSet src req => .inl ⟨_, exec_gpioXbarSet src req⟩
  | .gpioOutput src req => .inl ⟨_, exec_gpioOutput src req⟩
  | .gpioRead src req => .inl ⟨_, exec_gpioRead src req⟩
  | .gpioLockPin src req => .inl ⟨_, exec_gpioLockPin src req⟩
  | .timerMatch channel => .inl ⟨_, exec_timerMatch channel⟩
  | .timerWrap channel => .inl ⟨_, exec_timerWrap channel⟩
  | .timerCapture channel falling => .inl ⟨_, exec_timerCapture channel falling⟩
  | .timerGateEvent channel start stop => .inl ⟨_, exec_timerGateEvent channel start stop⟩
  | .tmrClear hearth => .inl ⟨_, exec_tmrClear hearth⟩
  | .tmrCmpWrite hearth high value => .inl ⟨_, exec_tmrCmpWrite hearth high value⟩
  | .tmrCountLoRead hearth => .inl ⟨_, exec_tmrCountLoRead hearth⟩
  | .tmrCapLoRead hearth full => .inl ⟨_, exec_tmrCapLoRead hearth full⟩
  | .clkTimeNsRead full => .inl ⟨_, exec_clkTimeNsRead full⟩
  | .clkWordLoRead offset full => .inl ⟨_, exec_clkWordLoRead offset full⟩
  | .schedEntryReady entry => .inl ⟨_, exec_schedEntryReady entry⟩
  | .schedHeldRelease => .inl ⟨_, exec_schedHeldRelease⟩
  | .schedCancelWrite value => .inl ⟨_, exec_schedCancelWrite value⟩
  | .schedSet src req => .inl ⟨_, exec_schedSet src req⟩
  | .schedCancel src req => .inl ⟨_, exec_schedCancel src req⟩
  | .schedStatus src req => .inl ⟨_, exec_schedStatus src req⟩
  | .testLogicReset => .inl ⟨_, exec_testLogicReset⟩
  | .extest => .inl ⟨_, exec_extest⟩
  | .idcode => .inl ⟨_, exec_idcode⟩
  | .samplePreload => .inl ⟨_, exec_samplePreload⟩
  | .clamp => .inl ⟨_, exec_clamp⟩
  | .highz => .inl ⟨_, exec_highz⟩
  | .bypass => .inl ⟨_, exec_bypass⟩
  | .selftestRun src req => .inl ⟨_, exec_selftestRun src req⟩
  | .selftestDone readings => .inl ⟨_, exec_selftestDone readings⟩
  | .selftestResult src req => .inl ⟨_, exec_selftestResult src req⟩
  | .frameBoundary sdi => .inl ⟨_, exec_frameBoundary sdi⟩
  | .phaseDetectorCompare lmtMinusRef => .inl ⟨_, exec_phaseDetectorCompare lmtMinusRef⟩
  | .canReceiveError error dominantAfter => .inl ⟨_, exec_canReceiveError error dominantAfter⟩
  | .tckEdge rising tms tdi levels => .inl ⟨_, exec_tckEdge rising tms tdi levels⟩
  | .secondBoundary => .inl ⟨_, exec_secondBoundary⟩
  | .padLevelChange pin level => .inl ⟨_, exec_padLevelChange pin level⟩
  | .i2cTransferDone bus result => .inl ⟨_, exec_i2cTransferDone bus result⟩

/-- RST_N low for a time the manual gives an effect (Table 3.2). -/
theorem rstNAssert_acts {n : Nat} (h : n < 200 ∨ 1000 ≤ n) :
    ∃ f : Dev → Dev, ∀ s, exec (.rstNAssert n) s = s.act f := by
  rcases h with h | h
  · exact ⟨fun d => d, fun s => by simp [exec, execRstNAssert, h]⟩
  · exact ⟨Dev.pinReset, fun s => by simp [exec, execRstNAssert, show ¬ n < 200 by omega, show ¬ n < 1000 by omega]⟩

/-- RST_N low for a time the manual calls undefined. -/
theorem rstNAssert_stops {n : Nat} (h1 : 200 ≤ n) (h2 : n < 1000) (s : State) :
    exec (.rstNAssert n) s = .fault .rstPulseUndefined := by
  simp [exec, execRstNAssert, show ¬ n < 200 by omega, h2]

/-- What a debug beat does to the audio RAM (R113): a pending write takes effect, unless the arbiter
has no clock. -/
theorem dbgDone_ram (d : Dev) (ram : List Host.Cell) :
    (d.dbgDone ram).2 = ram ∨
      ∃ w v, d.host.dbg = some (.write w v) ∧ (d.dbgDone ram).2 = writeWord64 ram w v := by
  unfold Dev.dbgDone
  simp only
  split
  · exact .inl rfl
  · cases h : d.host.dbg with
    | none => exact .inl rfl
    | some b => cases b with
      | read w => exact .inl rfl
      | write w v => exact .inr ⟨w, v, rfl, rfl⟩

/-- What the beats of a granted burst do to the audio RAM (R19): the words they write, in order. -/
theorem arbBeats_ram (d : Dev) (i : ArbInput) (ram : List Host.Cell) :
    ∃ l : List (U16 × U64), d.arbBeats i ram = l.foldl (fun m w => writeWord64 m w.1 w.2) ram := by
  unfold Dev.arbBeats
  split
  · exact ⟨[], rfl⟩
  · exact ⟨_, rfl⟩

/-- The beats of a granted burst keep the canonical form. -/
theorem arbBeats_wf (d : Dev) (i : ArbInput) {ram : List Host.Cell} (h : Memory.wf ram = true) :
    Memory.wf (d.arbBeats i ram) = true := by
  obtain ⟨l, e⟩ := arbBeats_ram d i ram
  rw [e]
  exact writeWords_wf h l

end Sys2Proof.Machine
end

