-- ==== Sys2Proof/Laws/State.lean ====
section
/-! SUPPORT.
What each update of the device leaves: one lemma per field of `Dev` and update, so that no proof
unfolds a record update. -/

namespace Sys2Proof.Machine
namespace Dev

/-! `setReg` changes the field `regs` alone. -/

@[simp] theorem setReg_host (d : Dev) (a : Nat) (w : Word) : (d.setReg a w).host = d.host := rfl
@[simp] theorem setReg_arb (d : Dev) (a : Nat) (w : Word) : (d.setReg a w).arb = d.arb := rfl
@[simp] theorem setReg_mail (d : Dev) (a : Nat) (w : Word) : (d.setReg a w).mail = d.mail := rfl
@[simp] theorem setReg_power (d : Dev) (a : Nat) (w : Word) : (d.setReg a w).power = d.power := rfl
@[simp] theorem setReg_flash (d : Dev) (a : Nat) (w : Word) : (d.setReg a w).flash = d.flash := rfl
@[simp] theorem setReg_journal (d : Dev) (a : Nat) (w : Word) : (d.setReg a w).journal = d.journal := rfl
@[simp] theorem setReg_sup (d : Dev) (a : Nat) (w : Word) : (d.setReg a w).sup = d.sup := rfl
@[simp] theorem setReg_ks (d : Dev) (a : Nat) (w : Word) : (d.setReg a w).ks = d.ks := rfl
@[simp] theorem setReg_clk (d : Dev) (a : Nat) (w : Word) : (d.setReg a w).clk = d.clk := rfl
@[simp] theorem setReg_eth (d : Dev) (a : Nat) (w : Word) : (d.setReg a w).eth = d.eth := rfl
@[simp] theorem setReg_remote (d : Dev) (a : Nat) (w : Word) : (d.setReg a w).remote = d.remote := rfl
@[simp] theorem setReg_gptp (d : Dev) (a : Nat) (w : Word) : (d.setReg a w).gptp = d.gptp := rfl
@[simp] theorem setReg_streams (d : Dev) (a : Nat) (w : Word) : (d.setReg a w).streams = d.streams := rfl
@[simp] theorem setReg_lintel (d : Dev) (a : Nat) (w : Word) : (d.setReg a w).lintel = d.lintel := rfl
@[simp] theorem setReg_tdm (d : Dev) (a : Nat) (w : Word) : (d.setReg a w).tdm = d.tdm := rfl
@[simp] theorem setReg_route (d : Dev) (a : Nat) (w : Word) : (d.setReg a w).route = d.route := rfl
@[simp] theorem setReg_meas (d : Dev) (a : Nat) (w : Word) : (d.setReg a w).meas = d.meas := rfl
@[simp] theorem setReg_can (d : Dev) (a : Nat) (w : Word) : (d.setReg a w).can = d.can := rfl
@[simp] theorem setReg_gpio (d : Dev) (a : Nat) (w : Word) : (d.setReg a w).gpio = d.gpio := rfl
@[simp] theorem setReg_timers (d : Dev) (a : Nat) (w : Word) : (d.setReg a w).timers = d.timers := rfl
@[simp] theorem setReg_sched (d : Dev) (a : Nat) (w : Word) : (d.setReg a w).sched = d.sched := rfl
@[simp] theorem setReg_tap (d : Dev) (a : Nat) (w : Word) : (d.setReg a w).tap = d.tap := rfl
@[simp] theorem setReg_selfTest (d : Dev) (a : Nat) (w : Word) : (d.setReg a w).selfTest = d.selfTest := rfl
@[simp] theorem setReg_cc (d : Dev) (a : Nat) (w : Word) : (d.setReg a w).cc = d.cc := rfl
@[simp] theorem setReg_freeIdx (d : Dev) (a : Nat) (w : Word) : (d.setReg a w).freeIdx = d.freeIdx := rfl

/-! `setRfld` changes the field `regs` alone. -/

@[simp] theorem setRfld_host (d : Dev) (a hi lo v : Nat) : (d.setRfld a hi lo v).host = d.host := rfl
@[simp] theorem setRfld_arb (d : Dev) (a hi lo v : Nat) : (d.setRfld a hi lo v).arb = d.arb := rfl
@[simp] theorem setRfld_mail (d : Dev) (a hi lo v : Nat) : (d.setRfld a hi lo v).mail = d.mail := rfl
@[simp] theorem setRfld_power (d : Dev) (a hi lo v : Nat) : (d.setRfld a hi lo v).power = d.power := rfl
@[simp] theorem setRfld_flash (d : Dev) (a hi lo v : Nat) : (d.setRfld a hi lo v).flash = d.flash := rfl
@[simp] theorem setRfld_journal (d : Dev) (a hi lo v : Nat) : (d.setRfld a hi lo v).journal = d.journal := rfl
@[simp] theorem setRfld_sup (d : Dev) (a hi lo v : Nat) : (d.setRfld a hi lo v).sup = d.sup := rfl
@[simp] theorem setRfld_ks (d : Dev) (a hi lo v : Nat) : (d.setRfld a hi lo v).ks = d.ks := rfl
@[simp] theorem setRfld_clk (d : Dev) (a hi lo v : Nat) : (d.setRfld a hi lo v).clk = d.clk := rfl
@[simp] theorem setRfld_eth (d : Dev) (a hi lo v : Nat) : (d.setRfld a hi lo v).eth = d.eth := rfl
@[simp] theorem setRfld_remote (d : Dev) (a hi lo v : Nat) : (d.setRfld a hi lo v).remote = d.remote := rfl
@[simp] theorem setRfld_gptp (d : Dev) (a hi lo v : Nat) : (d.setRfld a hi lo v).gptp = d.gptp := rfl
@[simp] theorem setRfld_streams (d : Dev) (a hi lo v : Nat) : (d.setRfld a hi lo v).streams = d.streams := rfl
@[simp] theorem setRfld_lintel (d : Dev) (a hi lo v : Nat) : (d.setRfld a hi lo v).lintel = d.lintel := rfl
@[simp] theorem setRfld_tdm (d : Dev) (a hi lo v : Nat) : (d.setRfld a hi lo v).tdm = d.tdm := rfl
@[simp] theorem setRfld_route (d : Dev) (a hi lo v : Nat) : (d.setRfld a hi lo v).route = d.route := rfl
@[simp] theorem setRfld_meas (d : Dev) (a hi lo v : Nat) : (d.setRfld a hi lo v).meas = d.meas := rfl
@[simp] theorem setRfld_can (d : Dev) (a hi lo v : Nat) : (d.setRfld a hi lo v).can = d.can := rfl
@[simp] theorem setRfld_gpio (d : Dev) (a hi lo v : Nat) : (d.setRfld a hi lo v).gpio = d.gpio := rfl
@[simp] theorem setRfld_timers (d : Dev) (a hi lo v : Nat) : (d.setRfld a hi lo v).timers = d.timers := rfl
@[simp] theorem setRfld_sched (d : Dev) (a hi lo v : Nat) : (d.setRfld a hi lo v).sched = d.sched := rfl
@[simp] theorem setRfld_tap (d : Dev) (a hi lo v : Nat) : (d.setRfld a hi lo v).tap = d.tap := rfl
@[simp] theorem setRfld_selfTest (d : Dev) (a hi lo v : Nat) : (d.setRfld a hi lo v).selfTest = d.selfTest := rfl
@[simp] theorem setRfld_cc (d : Dev) (a hi lo v : Nat) : (d.setRfld a hi lo v).cc = d.cc := rfl
@[simp] theorem setRfld_freeIdx (d : Dev) (a hi lo v : Nat) : (d.setRfld a hi lo v).freeIdx = d.freeIdx := rfl

/-! `setRbit` changes the field `regs` alone. -/

@[simp] theorem setRbit_host (d : Dev) (a i : Nat) (b : Bool) : (d.setRbit a i b).host = d.host := rfl
@[simp] theorem setRbit_arb (d : Dev) (a i : Nat) (b : Bool) : (d.setRbit a i b).arb = d.arb := rfl
@[simp] theorem setRbit_mail (d : Dev) (a i : Nat) (b : Bool) : (d.setRbit a i b).mail = d.mail := rfl
@[simp] theorem setRbit_power (d : Dev) (a i : Nat) (b : Bool) : (d.setRbit a i b).power = d.power := rfl
@[simp] theorem setRbit_flash (d : Dev) (a i : Nat) (b : Bool) : (d.setRbit a i b).flash = d.flash := rfl
@[simp] theorem setRbit_journal (d : Dev) (a i : Nat) (b : Bool) : (d.setRbit a i b).journal = d.journal := rfl
@[simp] theorem setRbit_sup (d : Dev) (a i : Nat) (b : Bool) : (d.setRbit a i b).sup = d.sup := rfl
@[simp] theorem setRbit_ks (d : Dev) (a i : Nat) (b : Bool) : (d.setRbit a i b).ks = d.ks := rfl
@[simp] theorem setRbit_clk (d : Dev) (a i : Nat) (b : Bool) : (d.setRbit a i b).clk = d.clk := rfl
@[simp] theorem setRbit_eth (d : Dev) (a i : Nat) (b : Bool) : (d.setRbit a i b).eth = d.eth := rfl
@[simp] theorem setRbit_remote (d : Dev) (a i : Nat) (b : Bool) : (d.setRbit a i b).remote = d.remote := rfl
@[simp] theorem setRbit_gptp (d : Dev) (a i : Nat) (b : Bool) : (d.setRbit a i b).gptp = d.gptp := rfl
@[simp] theorem setRbit_streams (d : Dev) (a i : Nat) (b : Bool) : (d.setRbit a i b).streams = d.streams := rfl
@[simp] theorem setRbit_lintel (d : Dev) (a i : Nat) (b : Bool) : (d.setRbit a i b).lintel = d.lintel := rfl
@[simp] theorem setRbit_tdm (d : Dev) (a i : Nat) (b : Bool) : (d.setRbit a i b).tdm = d.tdm := rfl
@[simp] theorem setRbit_route (d : Dev) (a i : Nat) (b : Bool) : (d.setRbit a i b).route = d.route := rfl
@[simp] theorem setRbit_meas (d : Dev) (a i : Nat) (b : Bool) : (d.setRbit a i b).meas = d.meas := rfl
@[simp] theorem setRbit_can (d : Dev) (a i : Nat) (b : Bool) : (d.setRbit a i b).can = d.can := rfl
@[simp] theorem setRbit_gpio (d : Dev) (a i : Nat) (b : Bool) : (d.setRbit a i b).gpio = d.gpio := rfl
@[simp] theorem setRbit_timers (d : Dev) (a i : Nat) (b : Bool) : (d.setRbit a i b).timers = d.timers := rfl
@[simp] theorem setRbit_sched (d : Dev) (a i : Nat) (b : Bool) : (d.setRbit a i b).sched = d.sched := rfl
@[simp] theorem setRbit_tap (d : Dev) (a i : Nat) (b : Bool) : (d.setRbit a i b).tap = d.tap := rfl
@[simp] theorem setRbit_selfTest (d : Dev) (a i : Nat) (b : Bool) : (d.setRbit a i b).selfTest = d.selfTest := rfl
@[simp] theorem setRbit_cc (d : Dev) (a i : Nat) (b : Bool) : (d.setRbit a i b).cc = d.cc := rfl
@[simp] theorem setRbit_freeIdx (d : Dev) (a i : Nat) (b : Bool) : (d.setRbit a i b).freeIdx = d.freeIdx := rfl

/-! `raise` changes the field `regs` alone. -/

@[simp] theorem raise_host (d : Dev) (a : Nat) (m : Word) : (d.raise a m).host = d.host := rfl
@[simp] theorem raise_arb (d : Dev) (a : Nat) (m : Word) : (d.raise a m).arb = d.arb := rfl
@[simp] theorem raise_mail (d : Dev) (a : Nat) (m : Word) : (d.raise a m).mail = d.mail := rfl
@[simp] theorem raise_power (d : Dev) (a : Nat) (m : Word) : (d.raise a m).power = d.power := rfl
@[simp] theorem raise_flash (d : Dev) (a : Nat) (m : Word) : (d.raise a m).flash = d.flash := rfl
@[simp] theorem raise_journal (d : Dev) (a : Nat) (m : Word) : (d.raise a m).journal = d.journal := rfl
@[simp] theorem raise_sup (d : Dev) (a : Nat) (m : Word) : (d.raise a m).sup = d.sup := rfl
@[simp] theorem raise_ks (d : Dev) (a : Nat) (m : Word) : (d.raise a m).ks = d.ks := rfl
@[simp] theorem raise_clk (d : Dev) (a : Nat) (m : Word) : (d.raise a m).clk = d.clk := rfl
@[simp] theorem raise_eth (d : Dev) (a : Nat) (m : Word) : (d.raise a m).eth = d.eth := rfl
@[simp] theorem raise_remote (d : Dev) (a : Nat) (m : Word) : (d.raise a m).remote = d.remote := rfl
@[simp] theorem raise_gptp (d : Dev) (a : Nat) (m : Word) : (d.raise a m).gptp = d.gptp := rfl
@[simp] theorem raise_streams (d : Dev) (a : Nat) (m : Word) : (d.raise a m).streams = d.streams := rfl
@[simp] theorem raise_lintel (d : Dev) (a : Nat) (m : Word) : (d.raise a m).lintel = d.lintel := rfl
@[simp] theorem raise_tdm (d : Dev) (a : Nat) (m : Word) : (d.raise a m).tdm = d.tdm := rfl
@[simp] theorem raise_route (d : Dev) (a : Nat) (m : Word) : (d.raise a m).route = d.route := rfl
@[simp] theorem raise_meas (d : Dev) (a : Nat) (m : Word) : (d.raise a m).meas = d.meas := rfl
@[simp] theorem raise_can (d : Dev) (a : Nat) (m : Word) : (d.raise a m).can = d.can := rfl
@[simp] theorem raise_gpio (d : Dev) (a : Nat) (m : Word) : (d.raise a m).gpio = d.gpio := rfl
@[simp] theorem raise_timers (d : Dev) (a : Nat) (m : Word) : (d.raise a m).timers = d.timers := rfl
@[simp] theorem raise_sched (d : Dev) (a : Nat) (m : Word) : (d.raise a m).sched = d.sched := rfl
@[simp] theorem raise_tap (d : Dev) (a : Nat) (m : Word) : (d.raise a m).tap = d.tap := rfl
@[simp] theorem raise_selfTest (d : Dev) (a : Nat) (m : Word) : (d.raise a m).selfTest = d.selfTest := rfl
@[simp] theorem raise_cc (d : Dev) (a : Nat) (m : Word) : (d.raise a m).cc = d.cc := rfl
@[simp] theorem raise_freeIdx (d : Dev) (a : Nat) (m : Word) : (d.raise a m).freeIdx = d.freeIdx := rfl

/-! `raiseBit` changes the field `regs` alone. -/

@[simp] theorem raiseBit_host (d : Dev) (a i : Nat) : (d.raiseBit a i).host = d.host := rfl
@[simp] theorem raiseBit_arb (d : Dev) (a i : Nat) : (d.raiseBit a i).arb = d.arb := rfl
@[simp] theorem raiseBit_mail (d : Dev) (a i : Nat) : (d.raiseBit a i).mail = d.mail := rfl
@[simp] theorem raiseBit_power (d : Dev) (a i : Nat) : (d.raiseBit a i).power = d.power := rfl
@[simp] theorem raiseBit_flash (d : Dev) (a i : Nat) : (d.raiseBit a i).flash = d.flash := rfl
@[simp] theorem raiseBit_journal (d : Dev) (a i : Nat) : (d.raiseBit a i).journal = d.journal := rfl
@[simp] theorem raiseBit_sup (d : Dev) (a i : Nat) : (d.raiseBit a i).sup = d.sup := rfl
@[simp] theorem raiseBit_ks (d : Dev) (a i : Nat) : (d.raiseBit a i).ks = d.ks := rfl
@[simp] theorem raiseBit_clk (d : Dev) (a i : Nat) : (d.raiseBit a i).clk = d.clk := rfl
@[simp] theorem raiseBit_eth (d : Dev) (a i : Nat) : (d.raiseBit a i).eth = d.eth := rfl
@[simp] theorem raiseBit_remote (d : Dev) (a i : Nat) : (d.raiseBit a i).remote = d.remote := rfl
@[simp] theorem raiseBit_gptp (d : Dev) (a i : Nat) : (d.raiseBit a i).gptp = d.gptp := rfl
@[simp] theorem raiseBit_streams (d : Dev) (a i : Nat) : (d.raiseBit a i).streams = d.streams := rfl
@[simp] theorem raiseBit_lintel (d : Dev) (a i : Nat) : (d.raiseBit a i).lintel = d.lintel := rfl
@[simp] theorem raiseBit_tdm (d : Dev) (a i : Nat) : (d.raiseBit a i).tdm = d.tdm := rfl
@[simp] theorem raiseBit_route (d : Dev) (a i : Nat) : (d.raiseBit a i).route = d.route := rfl
@[simp] theorem raiseBit_meas (d : Dev) (a i : Nat) : (d.raiseBit a i).meas = d.meas := rfl
@[simp] theorem raiseBit_can (d : Dev) (a i : Nat) : (d.raiseBit a i).can = d.can := rfl
@[simp] theorem raiseBit_gpio (d : Dev) (a i : Nat) : (d.raiseBit a i).gpio = d.gpio := rfl
@[simp] theorem raiseBit_timers (d : Dev) (a i : Nat) : (d.raiseBit a i).timers = d.timers := rfl
@[simp] theorem raiseBit_sched (d : Dev) (a i : Nat) : (d.raiseBit a i).sched = d.sched := rfl
@[simp] theorem raiseBit_tap (d : Dev) (a i : Nat) : (d.raiseBit a i).tap = d.tap := rfl
@[simp] theorem raiseBit_selfTest (d : Dev) (a i : Nat) : (d.raiseBit a i).selfTest = d.selfTest := rfl
@[simp] theorem raiseBit_cc (d : Dev) (a i : Nat) : (d.raiseBit a i).cc = d.cc := rfl
@[simp] theorem raiseBit_freeIdx (d : Dev) (a i : Nat) : (d.raiseBit a i).freeIdx = d.freeIdx := rfl

/-! `modArb` changes the field `arb` alone. -/

@[simp] theorem modArb_regs (d : Dev) (f : Arbiter → Arbiter) : (d.modArb f).regs = d.regs := rfl
@[simp] theorem modArb_host (d : Dev) (f : Arbiter → Arbiter) : (d.modArb f).host = d.host := rfl
@[simp] theorem modArb_mail (d : Dev) (f : Arbiter → Arbiter) : (d.modArb f).mail = d.mail := rfl
@[simp] theorem modArb_power (d : Dev) (f : Arbiter → Arbiter) : (d.modArb f).power = d.power := rfl
@[simp] theorem modArb_flash (d : Dev) (f : Arbiter → Arbiter) : (d.modArb f).flash = d.flash := rfl
@[simp] theorem modArb_journal (d : Dev) (f : Arbiter → Arbiter) : (d.modArb f).journal = d.journal := rfl
@[simp] theorem modArb_sup (d : Dev) (f : Arbiter → Arbiter) : (d.modArb f).sup = d.sup := rfl
@[simp] theorem modArb_ks (d : Dev) (f : Arbiter → Arbiter) : (d.modArb f).ks = d.ks := rfl
@[simp] theorem modArb_clk (d : Dev) (f : Arbiter → Arbiter) : (d.modArb f).clk = d.clk := rfl
@[simp] theorem modArb_eth (d : Dev) (f : Arbiter → Arbiter) : (d.modArb f).eth = d.eth := rfl
@[simp] theorem modArb_remote (d : Dev) (f : Arbiter → Arbiter) : (d.modArb f).remote = d.remote := rfl
@[simp] theorem modArb_gptp (d : Dev) (f : Arbiter → Arbiter) : (d.modArb f).gptp = d.gptp := rfl
@[simp] theorem modArb_streams (d : Dev) (f : Arbiter → Arbiter) : (d.modArb f).streams = d.streams := rfl
@[simp] theorem modArb_lintel (d : Dev) (f : Arbiter → Arbiter) : (d.modArb f).lintel = d.lintel := rfl
@[simp] theorem modArb_tdm (d : Dev) (f : Arbiter → Arbiter) : (d.modArb f).tdm = d.tdm := rfl
@[simp] theorem modArb_route (d : Dev) (f : Arbiter → Arbiter) : (d.modArb f).route = d.route := rfl
@[simp] theorem modArb_meas (d : Dev) (f : Arbiter → Arbiter) : (d.modArb f).meas = d.meas := rfl
@[simp] theorem modArb_can (d : Dev) (f : Arbiter → Arbiter) : (d.modArb f).can = d.can := rfl
@[simp] theorem modArb_gpio (d : Dev) (f : Arbiter → Arbiter) : (d.modArb f).gpio = d.gpio := rfl
@[simp] theorem modArb_timers (d : Dev) (f : Arbiter → Arbiter) : (d.modArb f).timers = d.timers := rfl
@[simp] theorem modArb_sched (d : Dev) (f : Arbiter → Arbiter) : (d.modArb f).sched = d.sched := rfl
@[simp] theorem modArb_tap (d : Dev) (f : Arbiter → Arbiter) : (d.modArb f).tap = d.tap := rfl
@[simp] theorem modArb_selfTest (d : Dev) (f : Arbiter → Arbiter) : (d.modArb f).selfTest = d.selfTest := rfl
@[simp] theorem modArb_cc (d : Dev) (f : Arbiter → Arbiter) : (d.modArb f).cc = d.cc := rfl
@[simp] theorem modArb_freeIdx (d : Dev) (f : Arbiter → Arbiter) : (d.modArb f).freeIdx = d.freeIdx := rfl

/-! `modMb` changes the field `mail` alone. -/

@[simp] theorem modMb_regs (d : Dev) (k : Fin 2) (f : Mailbox → Mailbox) : (d.modMb k f).regs = d.regs := rfl
@[simp] theorem modMb_host (d : Dev) (k : Fin 2) (f : Mailbox → Mailbox) : (d.modMb k f).host = d.host := rfl
@[simp] theorem modMb_arb (d : Dev) (k : Fin 2) (f : Mailbox → Mailbox) : (d.modMb k f).arb = d.arb := rfl
@[simp] theorem modMb_power (d : Dev) (k : Fin 2) (f : Mailbox → Mailbox) : (d.modMb k f).power = d.power := rfl
@[simp] theorem modMb_flash (d : Dev) (k : Fin 2) (f : Mailbox → Mailbox) : (d.modMb k f).flash = d.flash := rfl
@[simp] theorem modMb_journal (d : Dev) (k : Fin 2) (f : Mailbox → Mailbox) : (d.modMb k f).journal = d.journal := rfl
@[simp] theorem modMb_sup (d : Dev) (k : Fin 2) (f : Mailbox → Mailbox) : (d.modMb k f).sup = d.sup := rfl
@[simp] theorem modMb_ks (d : Dev) (k : Fin 2) (f : Mailbox → Mailbox) : (d.modMb k f).ks = d.ks := rfl
@[simp] theorem modMb_clk (d : Dev) (k : Fin 2) (f : Mailbox → Mailbox) : (d.modMb k f).clk = d.clk := rfl
@[simp] theorem modMb_eth (d : Dev) (k : Fin 2) (f : Mailbox → Mailbox) : (d.modMb k f).eth = d.eth := rfl
@[simp] theorem modMb_remote (d : Dev) (k : Fin 2) (f : Mailbox → Mailbox) : (d.modMb k f).remote = d.remote := rfl
@[simp] theorem modMb_gptp (d : Dev) (k : Fin 2) (f : Mailbox → Mailbox) : (d.modMb k f).gptp = d.gptp := rfl
@[simp] theorem modMb_streams (d : Dev) (k : Fin 2) (f : Mailbox → Mailbox) : (d.modMb k f).streams = d.streams := rfl
@[simp] theorem modMb_lintel (d : Dev) (k : Fin 2) (f : Mailbox → Mailbox) : (d.modMb k f).lintel = d.lintel := rfl
@[simp] theorem modMb_tdm (d : Dev) (k : Fin 2) (f : Mailbox → Mailbox) : (d.modMb k f).tdm = d.tdm := rfl
@[simp] theorem modMb_route (d : Dev) (k : Fin 2) (f : Mailbox → Mailbox) : (d.modMb k f).route = d.route := rfl
@[simp] theorem modMb_meas (d : Dev) (k : Fin 2) (f : Mailbox → Mailbox) : (d.modMb k f).meas = d.meas := rfl
@[simp] theorem modMb_can (d : Dev) (k : Fin 2) (f : Mailbox → Mailbox) : (d.modMb k f).can = d.can := rfl
@[simp] theorem modMb_gpio (d : Dev) (k : Fin 2) (f : Mailbox → Mailbox) : (d.modMb k f).gpio = d.gpio := rfl
@[simp] theorem modMb_timers (d : Dev) (k : Fin 2) (f : Mailbox → Mailbox) : (d.modMb k f).timers = d.timers := rfl
@[simp] theorem modMb_sched (d : Dev) (k : Fin 2) (f : Mailbox → Mailbox) : (d.modMb k f).sched = d.sched := rfl
@[simp] theorem modMb_tap (d : Dev) (k : Fin 2) (f : Mailbox → Mailbox) : (d.modMb k f).tap = d.tap := rfl
@[simp] theorem modMb_selfTest (d : Dev) (k : Fin 2) (f : Mailbox → Mailbox) : (d.modMb k f).selfTest = d.selfTest := rfl
@[simp] theorem modMb_cc (d : Dev) (k : Fin 2) (f : Mailbox → Mailbox) : (d.modMb k f).cc = d.cc := rfl
@[simp] theorem modMb_freeIdx (d : Dev) (k : Fin 2) (f : Mailbox → Mailbox) : (d.modMb k f).freeIdx = d.freeIdx := rfl

/-! `modJournal` changes the field `journal` alone. -/

@[simp] theorem modJournal_regs (d : Dev) (f : Journal → Journal) : (d.modJournal f).regs = d.regs := rfl
@[simp] theorem modJournal_host (d : Dev) (f : Journal → Journal) : (d.modJournal f).host = d.host := rfl
@[simp] theorem modJournal_arb (d : Dev) (f : Journal → Journal) : (d.modJournal f).arb = d.arb := rfl
@[simp] theorem modJournal_mail (d : Dev) (f : Journal → Journal) : (d.modJournal f).mail = d.mail := rfl
@[simp] theorem modJournal_power (d : Dev) (f : Journal → Journal) : (d.modJournal f).power = d.power := rfl
@[simp] theorem modJournal_flash (d : Dev) (f : Journal → Journal) : (d.modJournal f).flash = d.flash := rfl
@[simp] theorem modJournal_sup (d : Dev) (f : Journal → Journal) : (d.modJournal f).sup = d.sup := rfl
@[simp] theorem modJournal_ks (d : Dev) (f : Journal → Journal) : (d.modJournal f).ks = d.ks := rfl
@[simp] theorem modJournal_clk (d : Dev) (f : Journal → Journal) : (d.modJournal f).clk = d.clk := rfl
@[simp] theorem modJournal_eth (d : Dev) (f : Journal → Journal) : (d.modJournal f).eth = d.eth := rfl
@[simp] theorem modJournal_remote (d : Dev) (f : Journal → Journal) : (d.modJournal f).remote = d.remote := rfl
@[simp] theorem modJournal_gptp (d : Dev) (f : Journal → Journal) : (d.modJournal f).gptp = d.gptp := rfl
@[simp] theorem modJournal_streams (d : Dev) (f : Journal → Journal) : (d.modJournal f).streams = d.streams := rfl
@[simp] theorem modJournal_lintel (d : Dev) (f : Journal → Journal) : (d.modJournal f).lintel = d.lintel := rfl
@[simp] theorem modJournal_tdm (d : Dev) (f : Journal → Journal) : (d.modJournal f).tdm = d.tdm := rfl
@[simp] theorem modJournal_route (d : Dev) (f : Journal → Journal) : (d.modJournal f).route = d.route := rfl
@[simp] theorem modJournal_meas (d : Dev) (f : Journal → Journal) : (d.modJournal f).meas = d.meas := rfl
@[simp] theorem modJournal_can (d : Dev) (f : Journal → Journal) : (d.modJournal f).can = d.can := rfl
@[simp] theorem modJournal_gpio (d : Dev) (f : Journal → Journal) : (d.modJournal f).gpio = d.gpio := rfl
@[simp] theorem modJournal_timers (d : Dev) (f : Journal → Journal) : (d.modJournal f).timers = d.timers := rfl
@[simp] theorem modJournal_sched (d : Dev) (f : Journal → Journal) : (d.modJournal f).sched = d.sched := rfl
@[simp] theorem modJournal_tap (d : Dev) (f : Journal → Journal) : (d.modJournal f).tap = d.tap := rfl
@[simp] theorem modJournal_selfTest (d : Dev) (f : Journal → Journal) : (d.modJournal f).selfTest = d.selfTest := rfl
@[simp] theorem modJournal_cc (d : Dev) (f : Journal → Journal) : (d.modJournal f).cc = d.cc := rfl
@[simp] theorem modJournal_freeIdx (d : Dev) (f : Journal → Journal) : (d.modJournal f).freeIdx = d.freeIdx := rfl

/-! `modKs` changes the field `ks` alone. -/

@[simp] theorem modKs_regs (d : Dev) (f : Keystone → Keystone) : (d.modKs f).regs = d.regs := rfl
@[simp] theorem modKs_host (d : Dev) (f : Keystone → Keystone) : (d.modKs f).host = d.host := rfl
@[simp] theorem modKs_arb (d : Dev) (f : Keystone → Keystone) : (d.modKs f).arb = d.arb := rfl
@[simp] theorem modKs_mail (d : Dev) (f : Keystone → Keystone) : (d.modKs f).mail = d.mail := rfl
@[simp] theorem modKs_power (d : Dev) (f : Keystone → Keystone) : (d.modKs f).power = d.power := rfl
@[simp] theorem modKs_flash (d : Dev) (f : Keystone → Keystone) : (d.modKs f).flash = d.flash := rfl
@[simp] theorem modKs_journal (d : Dev) (f : Keystone → Keystone) : (d.modKs f).journal = d.journal := rfl
@[simp] theorem modKs_sup (d : Dev) (f : Keystone → Keystone) : (d.modKs f).sup = d.sup := rfl
@[simp] theorem modKs_clk (d : Dev) (f : Keystone → Keystone) : (d.modKs f).clk = d.clk := rfl
@[simp] theorem modKs_eth (d : Dev) (f : Keystone → Keystone) : (d.modKs f).eth = d.eth := rfl
@[simp] theorem modKs_remote (d : Dev) (f : Keystone → Keystone) : (d.modKs f).remote = d.remote := rfl
@[simp] theorem modKs_gptp (d : Dev) (f : Keystone → Keystone) : (d.modKs f).gptp = d.gptp := rfl
@[simp] theorem modKs_streams (d : Dev) (f : Keystone → Keystone) : (d.modKs f).streams = d.streams := rfl
@[simp] theorem modKs_lintel (d : Dev) (f : Keystone → Keystone) : (d.modKs f).lintel = d.lintel := rfl
@[simp] theorem modKs_tdm (d : Dev) (f : Keystone → Keystone) : (d.modKs f).tdm = d.tdm := rfl
@[simp] theorem modKs_route (d : Dev) (f : Keystone → Keystone) : (d.modKs f).route = d.route := rfl
@[simp] theorem modKs_meas (d : Dev) (f : Keystone → Keystone) : (d.modKs f).meas = d.meas := rfl
@[simp] theorem modKs_can (d : Dev) (f : Keystone → Keystone) : (d.modKs f).can = d.can := rfl
@[simp] theorem modKs_gpio (d : Dev) (f : Keystone → Keystone) : (d.modKs f).gpio = d.gpio := rfl
@[simp] theorem modKs_timers (d : Dev) (f : Keystone → Keystone) : (d.modKs f).timers = d.timers := rfl
@[simp] theorem modKs_sched (d : Dev) (f : Keystone → Keystone) : (d.modKs f).sched = d.sched := rfl
@[simp] theorem modKs_tap (d : Dev) (f : Keystone → Keystone) : (d.modKs f).tap = d.tap := rfl
@[simp] theorem modKs_selfTest (d : Dev) (f : Keystone → Keystone) : (d.modKs f).selfTest = d.selfTest := rfl
@[simp] theorem modKs_cc (d : Dev) (f : Keystone → Keystone) : (d.modKs f).cc = d.cc := rfl
@[simp] theorem modKs_freeIdx (d : Dev) (f : Keystone → Keystone) : (d.modKs f).freeIdx = d.freeIdx := rfl

/-! `modPort` changes the field `eth` alone. -/

@[simp] theorem modPort_regs (d : Dev) (p : Fin 3) (f : EthPort → EthPort) : (d.modPort p f).regs = d.regs := rfl
@[simp] theorem modPort_host (d : Dev) (p : Fin 3) (f : EthPort → EthPort) : (d.modPort p f).host = d.host := rfl
@[simp] theorem modPort_arb (d : Dev) (p : Fin 3) (f : EthPort → EthPort) : (d.modPort p f).arb = d.arb := rfl
@[simp] theorem modPort_mail (d : Dev) (p : Fin 3) (f : EthPort → EthPort) : (d.modPort p f).mail = d.mail := rfl
@[simp] theorem modPort_power (d : Dev) (p : Fin 3) (f : EthPort → EthPort) : (d.modPort p f).power = d.power := rfl
@[simp] theorem modPort_flash (d : Dev) (p : Fin 3) (f : EthPort → EthPort) : (d.modPort p f).flash = d.flash := rfl
@[simp] theorem modPort_journal (d : Dev) (p : Fin 3) (f : EthPort → EthPort) : (d.modPort p f).journal = d.journal := rfl
@[simp] theorem modPort_sup (d : Dev) (p : Fin 3) (f : EthPort → EthPort) : (d.modPort p f).sup = d.sup := rfl
@[simp] theorem modPort_ks (d : Dev) (p : Fin 3) (f : EthPort → EthPort) : (d.modPort p f).ks = d.ks := rfl
@[simp] theorem modPort_clk (d : Dev) (p : Fin 3) (f : EthPort → EthPort) : (d.modPort p f).clk = d.clk := rfl
@[simp] theorem modPort_remote (d : Dev) (p : Fin 3) (f : EthPort → EthPort) : (d.modPort p f).remote = d.remote := rfl
@[simp] theorem modPort_gptp (d : Dev) (p : Fin 3) (f : EthPort → EthPort) : (d.modPort p f).gptp = d.gptp := rfl
@[simp] theorem modPort_streams (d : Dev) (p : Fin 3) (f : EthPort → EthPort) : (d.modPort p f).streams = d.streams := rfl
@[simp] theorem modPort_lintel (d : Dev) (p : Fin 3) (f : EthPort → EthPort) : (d.modPort p f).lintel = d.lintel := rfl
@[simp] theorem modPort_tdm (d : Dev) (p : Fin 3) (f : EthPort → EthPort) : (d.modPort p f).tdm = d.tdm := rfl
@[simp] theorem modPort_route (d : Dev) (p : Fin 3) (f : EthPort → EthPort) : (d.modPort p f).route = d.route := rfl
@[simp] theorem modPort_meas (d : Dev) (p : Fin 3) (f : EthPort → EthPort) : (d.modPort p f).meas = d.meas := rfl
@[simp] theorem modPort_can (d : Dev) (p : Fin 3) (f : EthPort → EthPort) : (d.modPort p f).can = d.can := rfl
@[simp] theorem modPort_gpio (d : Dev) (p : Fin 3) (f : EthPort → EthPort) : (d.modPort p f).gpio = d.gpio := rfl
@[simp] theorem modPort_timers (d : Dev) (p : Fin 3) (f : EthPort → EthPort) : (d.modPort p f).timers = d.timers := rfl
@[simp] theorem modPort_sched (d : Dev) (p : Fin 3) (f : EthPort → EthPort) : (d.modPort p f).sched = d.sched := rfl
@[simp] theorem modPort_tap (d : Dev) (p : Fin 3) (f : EthPort → EthPort) : (d.modPort p f).tap = d.tap := rfl
@[simp] theorem modPort_selfTest (d : Dev) (p : Fin 3) (f : EthPort → EthPort) : (d.modPort p f).selfTest = d.selfTest := rfl
@[simp] theorem modPort_cc (d : Dev) (p : Fin 3) (f : EthPort → EthPort) : (d.modPort p f).cc = d.cc := rfl
@[simp] theorem modPort_freeIdx (d : Dev) (p : Fin 3) (f : EthPort → EthPort) : (d.modPort p f).freeIdx = d.freeIdx := rfl

/-! `modLink` changes the field `eth` alone. -/

@[simp] theorem modLink_regs (d : Dev) (p : Fin 3) (f : PortLink → PortLink) : (d.modLink p f).regs = d.regs := rfl
@[simp] theorem modLink_host (d : Dev) (p : Fin 3) (f : PortLink → PortLink) : (d.modLink p f).host = d.host := rfl
@[simp] theorem modLink_arb (d : Dev) (p : Fin 3) (f : PortLink → PortLink) : (d.modLink p f).arb = d.arb := rfl
@[simp] theorem modLink_mail (d : Dev) (p : Fin 3) (f : PortLink → PortLink) : (d.modLink p f).mail = d.mail := rfl
@[simp] theorem modLink_power (d : Dev) (p : Fin 3) (f : PortLink → PortLink) : (d.modLink p f).power = d.power := rfl
@[simp] theorem modLink_flash (d : Dev) (p : Fin 3) (f : PortLink → PortLink) : (d.modLink p f).flash = d.flash := rfl
@[simp] theorem modLink_journal (d : Dev) (p : Fin 3) (f : PortLink → PortLink) : (d.modLink p f).journal = d.journal := rfl
@[simp] theorem modLink_sup (d : Dev) (p : Fin 3) (f : PortLink → PortLink) : (d.modLink p f).sup = d.sup := rfl
@[simp] theorem modLink_ks (d : Dev) (p : Fin 3) (f : PortLink → PortLink) : (d.modLink p f).ks = d.ks := rfl
@[simp] theorem modLink_clk (d : Dev) (p : Fin 3) (f : PortLink → PortLink) : (d.modLink p f).clk = d.clk := rfl
@[simp] theorem modLink_remote (d : Dev) (p : Fin 3) (f : PortLink → PortLink) : (d.modLink p f).remote = d.remote := rfl
@[simp] theorem modLink_gptp (d : Dev) (p : Fin 3) (f : PortLink → PortLink) : (d.modLink p f).gptp = d.gptp := rfl
@[simp] theorem modLink_streams (d : Dev) (p : Fin 3) (f : PortLink → PortLink) : (d.modLink p f).streams = d.streams := rfl
@[simp] theorem modLink_lintel (d : Dev) (p : Fin 3) (f : PortLink → PortLink) : (d.modLink p f).lintel = d.lintel := rfl
@[simp] theorem modLink_tdm (d : Dev) (p : Fin 3) (f : PortLink → PortLink) : (d.modLink p f).tdm = d.tdm := rfl
@[simp] theorem modLink_route (d : Dev) (p : Fin 3) (f : PortLink → PortLink) : (d.modLink p f).route = d.route := rfl
@[simp] theorem modLink_meas (d : Dev) (p : Fin 3) (f : PortLink → PortLink) : (d.modLink p f).meas = d.meas := rfl
@[simp] theorem modLink_can (d : Dev) (p : Fin 3) (f : PortLink → PortLink) : (d.modLink p f).can = d.can := rfl
@[simp] theorem modLink_gpio (d : Dev) (p : Fin 3) (f : PortLink → PortLink) : (d.modLink p f).gpio = d.gpio := rfl
@[simp] theorem modLink_timers (d : Dev) (p : Fin 3) (f : PortLink → PortLink) : (d.modLink p f).timers = d.timers := rfl
@[simp] theorem modLink_sched (d : Dev) (p : Fin 3) (f : PortLink → PortLink) : (d.modLink p f).sched = d.sched := rfl
@[simp] theorem modLink_tap (d : Dev) (p : Fin 3) (f : PortLink → PortLink) : (d.modLink p f).tap = d.tap := rfl
@[simp] theorem modLink_selfTest (d : Dev) (p : Fin 3) (f : PortLink → PortLink) : (d.modLink p f).selfTest = d.selfTest := rfl
@[simp] theorem modLink_cc (d : Dev) (p : Fin 3) (f : PortLink → PortLink) : (d.modLink p f).cc = d.cc := rfl
@[simp] theorem modLink_freeIdx (d : Dev) (p : Fin 3) (f : PortLink → PortLink) : (d.modLink p f).freeIdx = d.freeIdx := rfl

/-! `modTraffic` changes the field `eth` alone. -/

@[simp] theorem modTraffic_regs (d : Dev) (p : Fin 3) (f : PortTraffic → PortTraffic) : (d.modTraffic p f).regs = d.regs := rfl
@[simp] theorem modTraffic_host (d : Dev) (p : Fin 3) (f : PortTraffic → PortTraffic) : (d.modTraffic p f).host = d.host := rfl
@[simp] theorem modTraffic_arb (d : Dev) (p : Fin 3) (f : PortTraffic → PortTraffic) : (d.modTraffic p f).arb = d.arb := rfl
@[simp] theorem modTraffic_mail (d : Dev) (p : Fin 3) (f : PortTraffic → PortTraffic) : (d.modTraffic p f).mail = d.mail := rfl
@[simp] theorem modTraffic_power (d : Dev) (p : Fin 3) (f : PortTraffic → PortTraffic) : (d.modTraffic p f).power = d.power := rfl
@[simp] theorem modTraffic_flash (d : Dev) (p : Fin 3) (f : PortTraffic → PortTraffic) : (d.modTraffic p f).flash = d.flash := rfl
@[simp] theorem modTraffic_journal (d : Dev) (p : Fin 3) (f : PortTraffic → PortTraffic) : (d.modTraffic p f).journal = d.journal := rfl
@[simp] theorem modTraffic_sup (d : Dev) (p : Fin 3) (f : PortTraffic → PortTraffic) : (d.modTraffic p f).sup = d.sup := rfl
@[simp] theorem modTraffic_ks (d : Dev) (p : Fin 3) (f : PortTraffic → PortTraffic) : (d.modTraffic p f).ks = d.ks := rfl
@[simp] theorem modTraffic_clk (d : Dev) (p : Fin 3) (f : PortTraffic → PortTraffic) : (d.modTraffic p f).clk = d.clk := rfl
@[simp] theorem modTraffic_remote (d : Dev) (p : Fin 3) (f : PortTraffic → PortTraffic) : (d.modTraffic p f).remote = d.remote := rfl
@[simp] theorem modTraffic_gptp (d : Dev) (p : Fin 3) (f : PortTraffic → PortTraffic) : (d.modTraffic p f).gptp = d.gptp := rfl
@[simp] theorem modTraffic_streams (d : Dev) (p : Fin 3) (f : PortTraffic → PortTraffic) : (d.modTraffic p f).streams = d.streams := rfl
@[simp] theorem modTraffic_lintel (d : Dev) (p : Fin 3) (f : PortTraffic → PortTraffic) : (d.modTraffic p f).lintel = d.lintel := rfl
@[simp] theorem modTraffic_tdm (d : Dev) (p : Fin 3) (f : PortTraffic → PortTraffic) : (d.modTraffic p f).tdm = d.tdm := rfl
@[simp] theorem modTraffic_route (d : Dev) (p : Fin 3) (f : PortTraffic → PortTraffic) : (d.modTraffic p f).route = d.route := rfl
@[simp] theorem modTraffic_meas (d : Dev) (p : Fin 3) (f : PortTraffic → PortTraffic) : (d.modTraffic p f).meas = d.meas := rfl
@[simp] theorem modTraffic_can (d : Dev) (p : Fin 3) (f : PortTraffic → PortTraffic) : (d.modTraffic p f).can = d.can := rfl
@[simp] theorem modTraffic_gpio (d : Dev) (p : Fin 3) (f : PortTraffic → PortTraffic) : (d.modTraffic p f).gpio = d.gpio := rfl
@[simp] theorem modTraffic_timers (d : Dev) (p : Fin 3) (f : PortTraffic → PortTraffic) : (d.modTraffic p f).timers = d.timers := rfl
@[simp] theorem modTraffic_sched (d : Dev) (p : Fin 3) (f : PortTraffic → PortTraffic) : (d.modTraffic p f).sched = d.sched := rfl
@[simp] theorem modTraffic_tap (d : Dev) (p : Fin 3) (f : PortTraffic → PortTraffic) : (d.modTraffic p f).tap = d.tap := rfl
@[simp] theorem modTraffic_selfTest (d : Dev) (p : Fin 3) (f : PortTraffic → PortTraffic) : (d.modTraffic p f).selfTest = d.selfTest := rfl
@[simp] theorem modTraffic_cc (d : Dev) (p : Fin 3) (f : PortTraffic → PortTraffic) : (d.modTraffic p f).cc = d.cc := rfl
@[simp] theorem modTraffic_freeIdx (d : Dev) (p : Fin 3) (f : PortTraffic → PortTraffic) : (d.modTraffic p f).freeIdx = d.freeIdx := rfl

/-! `modGptp` changes the field `gptp` alone. -/

@[simp] theorem modGptp_regs (d : Dev) (p : Fin 3) (f : Gptp → Gptp) : (d.modGptp p f).regs = d.regs := rfl
@[simp] theorem modGptp_host (d : Dev) (p : Fin 3) (f : Gptp → Gptp) : (d.modGptp p f).host = d.host := rfl
@[simp] theorem modGptp_arb (d : Dev) (p : Fin 3) (f : Gptp → Gptp) : (d.modGptp p f).arb = d.arb := rfl
@[simp] theorem modGptp_mail (d : Dev) (p : Fin 3) (f : Gptp → Gptp) : (d.modGptp p f).mail = d.mail := rfl
@[simp] theorem modGptp_power (d : Dev) (p : Fin 3) (f : Gptp → Gptp) : (d.modGptp p f).power = d.power := rfl
@[simp] theorem modGptp_flash (d : Dev) (p : Fin 3) (f : Gptp → Gptp) : (d.modGptp p f).flash = d.flash := rfl
@[simp] theorem modGptp_journal (d : Dev) (p : Fin 3) (f : Gptp → Gptp) : (d.modGptp p f).journal = d.journal := rfl
@[simp] theorem modGptp_sup (d : Dev) (p : Fin 3) (f : Gptp → Gptp) : (d.modGptp p f).sup = d.sup := rfl
@[simp] theorem modGptp_ks (d : Dev) (p : Fin 3) (f : Gptp → Gptp) : (d.modGptp p f).ks = d.ks := rfl
@[simp] theorem modGptp_clk (d : Dev) (p : Fin 3) (f : Gptp → Gptp) : (d.modGptp p f).clk = d.clk := rfl
@[simp] theorem modGptp_eth (d : Dev) (p : Fin 3) (f : Gptp → Gptp) : (d.modGptp p f).eth = d.eth := rfl
@[simp] theorem modGptp_remote (d : Dev) (p : Fin 3) (f : Gptp → Gptp) : (d.modGptp p f).remote = d.remote := rfl
@[simp] theorem modGptp_streams (d : Dev) (p : Fin 3) (f : Gptp → Gptp) : (d.modGptp p f).streams = d.streams := rfl
@[simp] theorem modGptp_lintel (d : Dev) (p : Fin 3) (f : Gptp → Gptp) : (d.modGptp p f).lintel = d.lintel := rfl
@[simp] theorem modGptp_tdm (d : Dev) (p : Fin 3) (f : Gptp → Gptp) : (d.modGptp p f).tdm = d.tdm := rfl
@[simp] theorem modGptp_route (d : Dev) (p : Fin 3) (f : Gptp → Gptp) : (d.modGptp p f).route = d.route := rfl
@[simp] theorem modGptp_meas (d : Dev) (p : Fin 3) (f : Gptp → Gptp) : (d.modGptp p f).meas = d.meas := rfl
@[simp] theorem modGptp_can (d : Dev) (p : Fin 3) (f : Gptp → Gptp) : (d.modGptp p f).can = d.can := rfl
@[simp] theorem modGptp_gpio (d : Dev) (p : Fin 3) (f : Gptp → Gptp) : (d.modGptp p f).gpio = d.gpio := rfl
@[simp] theorem modGptp_timers (d : Dev) (p : Fin 3) (f : Gptp → Gptp) : (d.modGptp p f).timers = d.timers := rfl
@[simp] theorem modGptp_sched (d : Dev) (p : Fin 3) (f : Gptp → Gptp) : (d.modGptp p f).sched = d.sched := rfl
@[simp] theorem modGptp_tap (d : Dev) (p : Fin 3) (f : Gptp → Gptp) : (d.modGptp p f).tap = d.tap := rfl
@[simp] theorem modGptp_selfTest (d : Dev) (p : Fin 3) (f : Gptp → Gptp) : (d.modGptp p f).selfTest = d.selfTest := rfl
@[simp] theorem modGptp_cc (d : Dev) (p : Fin 3) (f : Gptp → Gptp) : (d.modGptp p f).cc = d.cc := rfl
@[simp] theorem modGptp_freeIdx (d : Dev) (p : Fin 3) (f : Gptp → Gptp) : (d.modGptp p f).freeIdx = d.freeIdx := rfl

/-! `modStreams` changes the field `streams` alone. -/

@[simp] theorem modStreams_regs (d : Dev) (f : StreamEngine → StreamEngine) : (d.modStreams f).regs = d.regs := rfl
@[simp] theorem modStreams_host (d : Dev) (f : StreamEngine → StreamEngine) : (d.modStreams f).host = d.host := rfl
@[simp] theorem modStreams_arb (d : Dev) (f : StreamEngine → StreamEngine) : (d.modStreams f).arb = d.arb := rfl
@[simp] theorem modStreams_mail (d : Dev) (f : StreamEngine → StreamEngine) : (d.modStreams f).mail = d.mail := rfl
@[simp] theorem modStreams_power (d : Dev) (f : StreamEngine → StreamEngine) : (d.modStreams f).power = d.power := rfl
@[simp] theorem modStreams_flash (d : Dev) (f : StreamEngine → StreamEngine) : (d.modStreams f).flash = d.flash := rfl
@[simp] theorem modStreams_journal (d : Dev) (f : StreamEngine → StreamEngine) : (d.modStreams f).journal = d.journal := rfl
@[simp] theorem modStreams_sup (d : Dev) (f : StreamEngine → StreamEngine) : (d.modStreams f).sup = d.sup := rfl
@[simp] theorem modStreams_ks (d : Dev) (f : StreamEngine → StreamEngine) : (d.modStreams f).ks = d.ks := rfl
@[simp] theorem modStreams_clk (d : Dev) (f : StreamEngine → StreamEngine) : (d.modStreams f).clk = d.clk := rfl
@[simp] theorem modStreams_eth (d : Dev) (f : StreamEngine → StreamEngine) : (d.modStreams f).eth = d.eth := rfl
@[simp] theorem modStreams_remote (d : Dev) (f : StreamEngine → StreamEngine) : (d.modStreams f).remote = d.remote := rfl
@[simp] theorem modStreams_gptp (d : Dev) (f : StreamEngine → StreamEngine) : (d.modStreams f).gptp = d.gptp := rfl
@[simp] theorem modStreams_lintel (d : Dev) (f : StreamEngine → StreamEngine) : (d.modStreams f).lintel = d.lintel := rfl
@[simp] theorem modStreams_tdm (d : Dev) (f : StreamEngine → StreamEngine) : (d.modStreams f).tdm = d.tdm := rfl
@[simp] theorem modStreams_route (d : Dev) (f : StreamEngine → StreamEngine) : (d.modStreams f).route = d.route := rfl
@[simp] theorem modStreams_meas (d : Dev) (f : StreamEngine → StreamEngine) : (d.modStreams f).meas = d.meas := rfl
@[simp] theorem modStreams_can (d : Dev) (f : StreamEngine → StreamEngine) : (d.modStreams f).can = d.can := rfl
@[simp] theorem modStreams_gpio (d : Dev) (f : StreamEngine → StreamEngine) : (d.modStreams f).gpio = d.gpio := rfl
@[simp] theorem modStreams_timers (d : Dev) (f : StreamEngine → StreamEngine) : (d.modStreams f).timers = d.timers := rfl
@[simp] theorem modStreams_sched (d : Dev) (f : StreamEngine → StreamEngine) : (d.modStreams f).sched = d.sched := rfl
@[simp] theorem modStreams_tap (d : Dev) (f : StreamEngine → StreamEngine) : (d.modStreams f).tap = d.tap := rfl
@[simp] theorem modStreams_selfTest (d : Dev) (f : StreamEngine → StreamEngine) : (d.modStreams f).selfTest = d.selfTest := rfl
@[simp] theorem modStreams_cc (d : Dev) (f : StreamEngine → StreamEngine) : (d.modStreams f).cc = d.cc := rfl
@[simp] theorem modStreams_freeIdx (d : Dev) (f : StreamEngine → StreamEngine) : (d.modStreams f).freeIdx = d.freeIdx := rfl

/-! `modListener` changes the field `streams` alone. -/

@[simp] theorem modListener_regs (d : Dev) (i : Fin 16) (f : Listener → Listener) : (d.modListener i f).regs = d.regs := rfl
@[simp] theorem modListener_host (d : Dev) (i : Fin 16) (f : Listener → Listener) : (d.modListener i f).host = d.host := rfl
@[simp] theorem modListener_arb (d : Dev) (i : Fin 16) (f : Listener → Listener) : (d.modListener i f).arb = d.arb := rfl
@[simp] theorem modListener_mail (d : Dev) (i : Fin 16) (f : Listener → Listener) : (d.modListener i f).mail = d.mail := rfl
@[simp] theorem modListener_power (d : Dev) (i : Fin 16) (f : Listener → Listener) : (d.modListener i f).power = d.power := rfl
@[simp] theorem modListener_flash (d : Dev) (i : Fin 16) (f : Listener → Listener) : (d.modListener i f).flash = d.flash := rfl
@[simp] theorem modListener_journal (d : Dev) (i : Fin 16) (f : Listener → Listener) : (d.modListener i f).journal = d.journal := rfl
@[simp] theorem modListener_sup (d : Dev) (i : Fin 16) (f : Listener → Listener) : (d.modListener i f).sup = d.sup := rfl
@[simp] theorem modListener_ks (d : Dev) (i : Fin 16) (f : Listener → Listener) : (d.modListener i f).ks = d.ks := rfl
@[simp] theorem modListener_clk (d : Dev) (i : Fin 16) (f : Listener → Listener) : (d.modListener i f).clk = d.clk := rfl
@[simp] theorem modListener_eth (d : Dev) (i : Fin 16) (f : Listener → Listener) : (d.modListener i f).eth = d.eth := rfl
@[simp] theorem modListener_remote (d : Dev) (i : Fin 16) (f : Listener → Listener) : (d.modListener i f).remote = d.remote := rfl
@[simp] theorem modListener_gptp (d : Dev) (i : Fin 16) (f : Listener → Listener) : (d.modListener i f).gptp = d.gptp := rfl
@[simp] theorem modListener_lintel (d : Dev) (i : Fin 16) (f : Listener → Listener) : (d.modListener i f).lintel = d.lintel := rfl
@[simp] theorem modListener_tdm (d : Dev) (i : Fin 16) (f : Listener → Listener) : (d.modListener i f).tdm = d.tdm := rfl
@[simp] theorem modListener_route (d : Dev) (i : Fin 16) (f : Listener → Listener) : (d.modListener i f).route = d.route := rfl
@[simp] theorem modListener_meas (d : Dev) (i : Fin 16) (f : Listener → Listener) : (d.modListener i f).meas = d.meas := rfl
@[simp] theorem modListener_can (d : Dev) (i : Fin 16) (f : Listener → Listener) : (d.modListener i f).can = d.can := rfl
@[simp] theorem modListener_gpio (d : Dev) (i : Fin 16) (f : Listener → Listener) : (d.modListener i f).gpio = d.gpio := rfl
@[simp] theorem modListener_timers (d : Dev) (i : Fin 16) (f : Listener → Listener) : (d.modListener i f).timers = d.timers := rfl
@[simp] theorem modListener_sched (d : Dev) (i : Fin 16) (f : Listener → Listener) : (d.modListener i f).sched = d.sched := rfl
@[simp] theorem modListener_tap (d : Dev) (i : Fin 16) (f : Listener → Listener) : (d.modListener i f).tap = d.tap := rfl
@[simp] theorem modListener_selfTest (d : Dev) (i : Fin 16) (f : Listener → Listener) : (d.modListener i f).selfTest = d.selfTest := rfl
@[simp] theorem modListener_cc (d : Dev) (i : Fin 16) (f : Listener → Listener) : (d.modListener i f).cc = d.cc := rfl
@[simp] theorem modListener_freeIdx (d : Dev) (i : Fin 16) (f : Listener → Listener) : (d.modListener i f).freeIdx = d.freeIdx := rfl

/-! `modTalker` changes the field `streams` alone. -/

@[simp] theorem modTalker_regs (d : Dev) (i : Fin 8) (f : Talker → Talker) : (d.modTalker i f).regs = d.regs := rfl
@[simp] theorem modTalker_host (d : Dev) (i : Fin 8) (f : Talker → Talker) : (d.modTalker i f).host = d.host := rfl
@[simp] theorem modTalker_arb (d : Dev) (i : Fin 8) (f : Talker → Talker) : (d.modTalker i f).arb = d.arb := rfl
@[simp] theorem modTalker_mail (d : Dev) (i : Fin 8) (f : Talker → Talker) : (d.modTalker i f).mail = d.mail := rfl
@[simp] theorem modTalker_power (d : Dev) (i : Fin 8) (f : Talker → Talker) : (d.modTalker i f).power = d.power := rfl
@[simp] theorem modTalker_flash (d : Dev) (i : Fin 8) (f : Talker → Talker) : (d.modTalker i f).flash = d.flash := rfl
@[simp] theorem modTalker_journal (d : Dev) (i : Fin 8) (f : Talker → Talker) : (d.modTalker i f).journal = d.journal := rfl
@[simp] theorem modTalker_sup (d : Dev) (i : Fin 8) (f : Talker → Talker) : (d.modTalker i f).sup = d.sup := rfl
@[simp] theorem modTalker_ks (d : Dev) (i : Fin 8) (f : Talker → Talker) : (d.modTalker i f).ks = d.ks := rfl
@[simp] theorem modTalker_clk (d : Dev) (i : Fin 8) (f : Talker → Talker) : (d.modTalker i f).clk = d.clk := rfl
@[simp] theorem modTalker_eth (d : Dev) (i : Fin 8) (f : Talker → Talker) : (d.modTalker i f).eth = d.eth := rfl
@[simp] theorem modTalker_remote (d : Dev) (i : Fin 8) (f : Talker → Talker) : (d.modTalker i f).remote = d.remote := rfl
@[simp] theorem modTalker_gptp (d : Dev) (i : Fin 8) (f : Talker → Talker) : (d.modTalker i f).gptp = d.gptp := rfl
@[simp] theorem modTalker_lintel (d : Dev) (i : Fin 8) (f : Talker → Talker) : (d.modTalker i f).lintel = d.lintel := rfl
@[simp] theorem modTalker_tdm (d : Dev) (i : Fin 8) (f : Talker → Talker) : (d.modTalker i f).tdm = d.tdm := rfl
@[simp] theorem modTalker_route (d : Dev) (i : Fin 8) (f : Talker → Talker) : (d.modTalker i f).route = d.route := rfl
@[simp] theorem modTalker_meas (d : Dev) (i : Fin 8) (f : Talker → Talker) : (d.modTalker i f).meas = d.meas := rfl
@[simp] theorem modTalker_can (d : Dev) (i : Fin 8) (f : Talker → Talker) : (d.modTalker i f).can = d.can := rfl
@[simp] theorem modTalker_gpio (d : Dev) (i : Fin 8) (f : Talker → Talker) : (d.modTalker i f).gpio = d.gpio := rfl
@[simp] theorem modTalker_timers (d : Dev) (i : Fin 8) (f : Talker → Talker) : (d.modTalker i f).timers = d.timers := rfl
@[simp] theorem modTalker_sched (d : Dev) (i : Fin 8) (f : Talker → Talker) : (d.modTalker i f).sched = d.sched := rfl
@[simp] theorem modTalker_tap (d : Dev) (i : Fin 8) (f : Talker → Talker) : (d.modTalker i f).tap = d.tap := rfl
@[simp] theorem modTalker_selfTest (d : Dev) (i : Fin 8) (f : Talker → Talker) : (d.modTalker i f).selfTest = d.selfTest := rfl
@[simp] theorem modTalker_cc (d : Dev) (i : Fin 8) (f : Talker → Talker) : (d.modTalker i f).cc = d.cc := rfl
@[simp] theorem modTalker_freeIdx (d : Dev) (i : Fin 8) (f : Talker → Talker) : (d.modTalker i f).freeIdx = d.freeIdx := rfl

/-! `modGroup` changes the field `lintel` alone. -/

@[simp] theorem modGroup_regs (d : Dev) (g : Fin 8) (f : Group → Group) : (d.modGroup g f).regs = d.regs := rfl
@[simp] theorem modGroup_host (d : Dev) (g : Fin 8) (f : Group → Group) : (d.modGroup g f).host = d.host := rfl
@[simp] theorem modGroup_arb (d : Dev) (g : Fin 8) (f : Group → Group) : (d.modGroup g f).arb = d.arb := rfl
@[simp] theorem modGroup_mail (d : Dev) (g : Fin 8) (f : Group → Group) : (d.modGroup g f).mail = d.mail := rfl
@[simp] theorem modGroup_power (d : Dev) (g : Fin 8) (f : Group → Group) : (d.modGroup g f).power = d.power := rfl
@[simp] theorem modGroup_flash (d : Dev) (g : Fin 8) (f : Group → Group) : (d.modGroup g f).flash = d.flash := rfl
@[simp] theorem modGroup_journal (d : Dev) (g : Fin 8) (f : Group → Group) : (d.modGroup g f).journal = d.journal := rfl
@[simp] theorem modGroup_sup (d : Dev) (g : Fin 8) (f : Group → Group) : (d.modGroup g f).sup = d.sup := rfl
@[simp] theorem modGroup_ks (d : Dev) (g : Fin 8) (f : Group → Group) : (d.modGroup g f).ks = d.ks := rfl
@[simp] theorem modGroup_clk (d : Dev) (g : Fin 8) (f : Group → Group) : (d.modGroup g f).clk = d.clk := rfl
@[simp] theorem modGroup_eth (d : Dev) (g : Fin 8) (f : Group → Group) : (d.modGroup g f).eth = d.eth := rfl
@[simp] theorem modGroup_remote (d : Dev) (g : Fin 8) (f : Group → Group) : (d.modGroup g f).remote = d.remote := rfl
@[simp] theorem modGroup_gptp (d : Dev) (g : Fin 8) (f : Group → Group) : (d.modGroup g f).gptp = d.gptp := rfl
@[simp] theorem modGroup_streams (d : Dev) (g : Fin 8) (f : Group → Group) : (d.modGroup g f).streams = d.streams := rfl
@[simp] theorem modGroup_tdm (d : Dev) (g : Fin 8) (f : Group → Group) : (d.modGroup g f).tdm = d.tdm := rfl
@[simp] theorem modGroup_route (d : Dev) (g : Fin 8) (f : Group → Group) : (d.modGroup g f).route = d.route := rfl
@[simp] theorem modGroup_meas (d : Dev) (g : Fin 8) (f : Group → Group) : (d.modGroup g f).meas = d.meas := rfl
@[simp] theorem modGroup_can (d : Dev) (g : Fin 8) (f : Group → Group) : (d.modGroup g f).can = d.can := rfl
@[simp] theorem modGroup_gpio (d : Dev) (g : Fin 8) (f : Group → Group) : (d.modGroup g f).gpio = d.gpio := rfl
@[simp] theorem modGroup_timers (d : Dev) (g : Fin 8) (f : Group → Group) : (d.modGroup g f).timers = d.timers := rfl
@[simp] theorem modGroup_sched (d : Dev) (g : Fin 8) (f : Group → Group) : (d.modGroup g f).sched = d.sched := rfl
@[simp] theorem modGroup_tap (d : Dev) (g : Fin 8) (f : Group → Group) : (d.modGroup g f).tap = d.tap := rfl
@[simp] theorem modGroup_selfTest (d : Dev) (g : Fin 8) (f : Group → Group) : (d.modGroup g f).selfTest = d.selfTest := rfl
@[simp] theorem modGroup_cc (d : Dev) (g : Fin 8) (f : Group → Group) : (d.modGroup g f).cc = d.cc := rfl
@[simp] theorem modGroup_freeIdx (d : Dev) (g : Fin 8) (f : Group → Group) : (d.modGroup g f).freeIdx = d.freeIdx := rfl

/-! `modTdm` changes the field `tdm` alone. -/

@[simp] theorem modTdm_regs (d : Dev) (p : Fin 4) (f : TdmPort → TdmPort) : (d.modTdm p f).regs = d.regs := rfl
@[simp] theorem modTdm_host (d : Dev) (p : Fin 4) (f : TdmPort → TdmPort) : (d.modTdm p f).host = d.host := rfl
@[simp] theorem modTdm_arb (d : Dev) (p : Fin 4) (f : TdmPort → TdmPort) : (d.modTdm p f).arb = d.arb := rfl
@[simp] theorem modTdm_mail (d : Dev) (p : Fin 4) (f : TdmPort → TdmPort) : (d.modTdm p f).mail = d.mail := rfl
@[simp] theorem modTdm_power (d : Dev) (p : Fin 4) (f : TdmPort → TdmPort) : (d.modTdm p f).power = d.power := rfl
@[simp] theorem modTdm_flash (d : Dev) (p : Fin 4) (f : TdmPort → TdmPort) : (d.modTdm p f).flash = d.flash := rfl
@[simp] theorem modTdm_journal (d : Dev) (p : Fin 4) (f : TdmPort → TdmPort) : (d.modTdm p f).journal = d.journal := rfl
@[simp] theorem modTdm_sup (d : Dev) (p : Fin 4) (f : TdmPort → TdmPort) : (d.modTdm p f).sup = d.sup := rfl
@[simp] theorem modTdm_ks (d : Dev) (p : Fin 4) (f : TdmPort → TdmPort) : (d.modTdm p f).ks = d.ks := rfl
@[simp] theorem modTdm_clk (d : Dev) (p : Fin 4) (f : TdmPort → TdmPort) : (d.modTdm p f).clk = d.clk := rfl
@[simp] theorem modTdm_eth (d : Dev) (p : Fin 4) (f : TdmPort → TdmPort) : (d.modTdm p f).eth = d.eth := rfl
@[simp] theorem modTdm_remote (d : Dev) (p : Fin 4) (f : TdmPort → TdmPort) : (d.modTdm p f).remote = d.remote := rfl
@[simp] theorem modTdm_gptp (d : Dev) (p : Fin 4) (f : TdmPort → TdmPort) : (d.modTdm p f).gptp = d.gptp := rfl
@[simp] theorem modTdm_streams (d : Dev) (p : Fin 4) (f : TdmPort → TdmPort) : (d.modTdm p f).streams = d.streams := rfl
@[simp] theorem modTdm_lintel (d : Dev) (p : Fin 4) (f : TdmPort → TdmPort) : (d.modTdm p f).lintel = d.lintel := rfl
@[simp] theorem modTdm_route (d : Dev) (p : Fin 4) (f : TdmPort → TdmPort) : (d.modTdm p f).route = d.route := rfl
@[simp] theorem modTdm_meas (d : Dev) (p : Fin 4) (f : TdmPort → TdmPort) : (d.modTdm p f).meas = d.meas := rfl
@[simp] theorem modTdm_can (d : Dev) (p : Fin 4) (f : TdmPort → TdmPort) : (d.modTdm p f).can = d.can := rfl
@[simp] theorem modTdm_gpio (d : Dev) (p : Fin 4) (f : TdmPort → TdmPort) : (d.modTdm p f).gpio = d.gpio := rfl
@[simp] theorem modTdm_timers (d : Dev) (p : Fin 4) (f : TdmPort → TdmPort) : (d.modTdm p f).timers = d.timers := rfl
@[simp] theorem modTdm_sched (d : Dev) (p : Fin 4) (f : TdmPort → TdmPort) : (d.modTdm p f).sched = d.sched := rfl
@[simp] theorem modTdm_tap (d : Dev) (p : Fin 4) (f : TdmPort → TdmPort) : (d.modTdm p f).tap = d.tap := rfl
@[simp] theorem modTdm_selfTest (d : Dev) (p : Fin 4) (f : TdmPort → TdmPort) : (d.modTdm p f).selfTest = d.selfTest := rfl
@[simp] theorem modTdm_cc (d : Dev) (p : Fin 4) (f : TdmPort → TdmPort) : (d.modTdm p f).cc = d.cc := rfl
@[simp] theorem modTdm_freeIdx (d : Dev) (p : Fin 4) (f : TdmPort → TdmPort) : (d.modTdm p f).freeIdx = d.freeIdx := rfl

/-! `modRoute` changes the field `route` alone. -/

@[simp] theorem modRoute_regs (d : Dev) (f : Route → Route) : (d.modRoute f).regs = d.regs := rfl
@[simp] theorem modRoute_host (d : Dev) (f : Route → Route) : (d.modRoute f).host = d.host := rfl
@[simp] theorem modRoute_arb (d : Dev) (f : Route → Route) : (d.modRoute f).arb = d.arb := rfl
@[simp] theorem modRoute_mail (d : Dev) (f : Route → Route) : (d.modRoute f).mail = d.mail := rfl
@[simp] theorem modRoute_power (d : Dev) (f : Route → Route) : (d.modRoute f).power = d.power := rfl
@[simp] theorem modRoute_flash (d : Dev) (f : Route → Route) : (d.modRoute f).flash = d.flash := rfl
@[simp] theorem modRoute_journal (d : Dev) (f : Route → Route) : (d.modRoute f).journal = d.journal := rfl
@[simp] theorem modRoute_sup (d : Dev) (f : Route → Route) : (d.modRoute f).sup = d.sup := rfl
@[simp] theorem modRoute_ks (d : Dev) (f : Route → Route) : (d.modRoute f).ks = d.ks := rfl
@[simp] theorem modRoute_clk (d : Dev) (f : Route → Route) : (d.modRoute f).clk = d.clk := rfl
@[simp] theorem modRoute_eth (d : Dev) (f : Route → Route) : (d.modRoute f).eth = d.eth := rfl
@[simp] theorem modRoute_remote (d : Dev) (f : Route → Route) : (d.modRoute f).remote = d.remote := rfl
@[simp] theorem modRoute_gptp (d : Dev) (f : Route → Route) : (d.modRoute f).gptp = d.gptp := rfl
@[simp] theorem modRoute_streams (d : Dev) (f : Route → Route) : (d.modRoute f).streams = d.streams := rfl
@[simp] theorem modRoute_lintel (d : Dev) (f : Route → Route) : (d.modRoute f).lintel = d.lintel := rfl
@[simp] theorem modRoute_tdm (d : Dev) (f : Route → Route) : (d.modRoute f).tdm = d.tdm := rfl
@[simp] theorem modRoute_meas (d : Dev) (f : Route → Route) : (d.modRoute f).meas = d.meas := rfl
@[simp] theorem modRoute_can (d : Dev) (f : Route → Route) : (d.modRoute f).can = d.can := rfl
@[simp] theorem modRoute_gpio (d : Dev) (f : Route → Route) : (d.modRoute f).gpio = d.gpio := rfl
@[simp] theorem modRoute_timers (d : Dev) (f : Route → Route) : (d.modRoute f).timers = d.timers := rfl
@[simp] theorem modRoute_sched (d : Dev) (f : Route → Route) : (d.modRoute f).sched = d.sched := rfl
@[simp] theorem modRoute_tap (d : Dev) (f : Route → Route) : (d.modRoute f).tap = d.tap := rfl
@[simp] theorem modRoute_selfTest (d : Dev) (f : Route → Route) : (d.modRoute f).selfTest = d.selfTest := rfl
@[simp] theorem modRoute_cc (d : Dev) (f : Route → Route) : (d.modRoute f).cc = d.cc := rfl
@[simp] theorem modRoute_freeIdx (d : Dev) (f : Route → Route) : (d.modRoute f).freeIdx = d.freeIdx := rfl

/-! `modDest` changes the field `route` alone. -/

@[simp] theorem modDest_regs (d : Dev) (k : Fin 64) (f : Dest → Dest) : (d.modDest k f).regs = d.regs := rfl
@[simp] theorem modDest_host (d : Dev) (k : Fin 64) (f : Dest → Dest) : (d.modDest k f).host = d.host := rfl
@[simp] theorem modDest_arb (d : Dev) (k : Fin 64) (f : Dest → Dest) : (d.modDest k f).arb = d.arb := rfl
@[simp] theorem modDest_mail (d : Dev) (k : Fin 64) (f : Dest → Dest) : (d.modDest k f).mail = d.mail := rfl
@[simp] theorem modDest_power (d : Dev) (k : Fin 64) (f : Dest → Dest) : (d.modDest k f).power = d.power := rfl
@[simp] theorem modDest_flash (d : Dev) (k : Fin 64) (f : Dest → Dest) : (d.modDest k f).flash = d.flash := rfl
@[simp] theorem modDest_journal (d : Dev) (k : Fin 64) (f : Dest → Dest) : (d.modDest k f).journal = d.journal := rfl
@[simp] theorem modDest_sup (d : Dev) (k : Fin 64) (f : Dest → Dest) : (d.modDest k f).sup = d.sup := rfl
@[simp] theorem modDest_ks (d : Dev) (k : Fin 64) (f : Dest → Dest) : (d.modDest k f).ks = d.ks := rfl
@[simp] theorem modDest_clk (d : Dev) (k : Fin 64) (f : Dest → Dest) : (d.modDest k f).clk = d.clk := rfl
@[simp] theorem modDest_eth (d : Dev) (k : Fin 64) (f : Dest → Dest) : (d.modDest k f).eth = d.eth := rfl
@[simp] theorem modDest_remote (d : Dev) (k : Fin 64) (f : Dest → Dest) : (d.modDest k f).remote = d.remote := rfl
@[simp] theorem modDest_gptp (d : Dev) (k : Fin 64) (f : Dest → Dest) : (d.modDest k f).gptp = d.gptp := rfl
@[simp] theorem modDest_streams (d : Dev) (k : Fin 64) (f : Dest → Dest) : (d.modDest k f).streams = d.streams := rfl
@[simp] theorem modDest_lintel (d : Dev) (k : Fin 64) (f : Dest → Dest) : (d.modDest k f).lintel = d.lintel := rfl
@[simp] theorem modDest_tdm (d : Dev) (k : Fin 64) (f : Dest → Dest) : (d.modDest k f).tdm = d.tdm := rfl
@[simp] theorem modDest_meas (d : Dev) (k : Fin 64) (f : Dest → Dest) : (d.modDest k f).meas = d.meas := rfl
@[simp] theorem modDest_can (d : Dev) (k : Fin 64) (f : Dest → Dest) : (d.modDest k f).can = d.can := rfl
@[simp] theorem modDest_gpio (d : Dev) (k : Fin 64) (f : Dest → Dest) : (d.modDest k f).gpio = d.gpio := rfl
@[simp] theorem modDest_timers (d : Dev) (k : Fin 64) (f : Dest → Dest) : (d.modDest k f).timers = d.timers := rfl
@[simp] theorem modDest_sched (d : Dev) (k : Fin 64) (f : Dest → Dest) : (d.modDest k f).sched = d.sched := rfl
@[simp] theorem modDest_tap (d : Dev) (k : Fin 64) (f : Dest → Dest) : (d.modDest k f).tap = d.tap := rfl
@[simp] theorem modDest_selfTest (d : Dev) (k : Fin 64) (f : Dest → Dest) : (d.modDest k f).selfTest = d.selfTest := rfl
@[simp] theorem modDest_cc (d : Dev) (k : Fin 64) (f : Dest → Dest) : (d.modDest k f).cc = d.cc := rfl
@[simp] theorem modDest_freeIdx (d : Dev) (k : Fin 64) (f : Dest → Dest) : (d.modDest k f).freeIdx = d.freeIdx := rfl

/-! `modMeas` changes the field `meas` alone. -/

@[simp] theorem modMeas_regs (d : Dev) (f : Meas → Meas) : (d.modMeas f).regs = d.regs := rfl
@[simp] theorem modMeas_host (d : Dev) (f : Meas → Meas) : (d.modMeas f).host = d.host := rfl
@[simp] theorem modMeas_arb (d : Dev) (f : Meas → Meas) : (d.modMeas f).arb = d.arb := rfl
@[simp] theorem modMeas_mail (d : Dev) (f : Meas → Meas) : (d.modMeas f).mail = d.mail := rfl
@[simp] theorem modMeas_power (d : Dev) (f : Meas → Meas) : (d.modMeas f).power = d.power := rfl
@[simp] theorem modMeas_flash (d : Dev) (f : Meas → Meas) : (d.modMeas f).flash = d.flash := rfl
@[simp] theorem modMeas_journal (d : Dev) (f : Meas → Meas) : (d.modMeas f).journal = d.journal := rfl
@[simp] theorem modMeas_sup (d : Dev) (f : Meas → Meas) : (d.modMeas f).sup = d.sup := rfl
@[simp] theorem modMeas_ks (d : Dev) (f : Meas → Meas) : (d.modMeas f).ks = d.ks := rfl
@[simp] theorem modMeas_clk (d : Dev) (f : Meas → Meas) : (d.modMeas f).clk = d.clk := rfl
@[simp] theorem modMeas_eth (d : Dev) (f : Meas → Meas) : (d.modMeas f).eth = d.eth := rfl
@[simp] theorem modMeas_remote (d : Dev) (f : Meas → Meas) : (d.modMeas f).remote = d.remote := rfl
@[simp] theorem modMeas_gptp (d : Dev) (f : Meas → Meas) : (d.modMeas f).gptp = d.gptp := rfl
@[simp] theorem modMeas_streams (d : Dev) (f : Meas → Meas) : (d.modMeas f).streams = d.streams := rfl
@[simp] theorem modMeas_lintel (d : Dev) (f : Meas → Meas) : (d.modMeas f).lintel = d.lintel := rfl
@[simp] theorem modMeas_tdm (d : Dev) (f : Meas → Meas) : (d.modMeas f).tdm = d.tdm := rfl
@[simp] theorem modMeas_route (d : Dev) (f : Meas → Meas) : (d.modMeas f).route = d.route := rfl
@[simp] theorem modMeas_can (d : Dev) (f : Meas → Meas) : (d.modMeas f).can = d.can := rfl
@[simp] theorem modMeas_gpio (d : Dev) (f : Meas → Meas) : (d.modMeas f).gpio = d.gpio := rfl
@[simp] theorem modMeas_timers (d : Dev) (f : Meas → Meas) : (d.modMeas f).timers = d.timers := rfl
@[simp] theorem modMeas_sched (d : Dev) (f : Meas → Meas) : (d.modMeas f).sched = d.sched := rfl
@[simp] theorem modMeas_tap (d : Dev) (f : Meas → Meas) : (d.modMeas f).tap = d.tap := rfl
@[simp] theorem modMeas_selfTest (d : Dev) (f : Meas → Meas) : (d.modMeas f).selfTest = d.selfTest := rfl
@[simp] theorem modMeas_cc (d : Dev) (f : Meas → Meas) : (d.modMeas f).cc = d.cc := rfl
@[simp] theorem modMeas_freeIdx (d : Dev) (f : Meas → Meas) : (d.modMeas f).freeIdx = d.freeIdx := rfl

/-! `modSpeaker` changes the field `meas` alone. -/

@[simp] theorem modSpeaker_regs (d : Dev) (k : Fin 16) (f : Speaker → Speaker) : (d.modSpeaker k f).regs = d.regs := rfl
@[simp] theorem modSpeaker_host (d : Dev) (k : Fin 16) (f : Speaker → Speaker) : (d.modSpeaker k f).host = d.host := rfl
@[simp] theorem modSpeaker_arb (d : Dev) (k : Fin 16) (f : Speaker → Speaker) : (d.modSpeaker k f).arb = d.arb := rfl
@[simp] theorem modSpeaker_mail (d : Dev) (k : Fin 16) (f : Speaker → Speaker) : (d.modSpeaker k f).mail = d.mail := rfl
@[simp] theorem modSpeaker_power (d : Dev) (k : Fin 16) (f : Speaker → Speaker) : (d.modSpeaker k f).power = d.power := rfl
@[simp] theorem modSpeaker_flash (d : Dev) (k : Fin 16) (f : Speaker → Speaker) : (d.modSpeaker k f).flash = d.flash := rfl
@[simp] theorem modSpeaker_journal (d : Dev) (k : Fin 16) (f : Speaker → Speaker) : (d.modSpeaker k f).journal = d.journal := rfl
@[simp] theorem modSpeaker_sup (d : Dev) (k : Fin 16) (f : Speaker → Speaker) : (d.modSpeaker k f).sup = d.sup := rfl
@[simp] theorem modSpeaker_ks (d : Dev) (k : Fin 16) (f : Speaker → Speaker) : (d.modSpeaker k f).ks = d.ks := rfl
@[simp] theorem modSpeaker_clk (d : Dev) (k : Fin 16) (f : Speaker → Speaker) : (d.modSpeaker k f).clk = d.clk := rfl
@[simp] theorem modSpeaker_eth (d : Dev) (k : Fin 16) (f : Speaker → Speaker) : (d.modSpeaker k f).eth = d.eth := rfl
@[simp] theorem modSpeaker_remote (d : Dev) (k : Fin 16) (f : Speaker → Speaker) : (d.modSpeaker k f).remote = d.remote := rfl
@[simp] theorem modSpeaker_gptp (d : Dev) (k : Fin 16) (f : Speaker → Speaker) : (d.modSpeaker k f).gptp = d.gptp := rfl
@[simp] theorem modSpeaker_streams (d : Dev) (k : Fin 16) (f : Speaker → Speaker) : (d.modSpeaker k f).streams = d.streams := rfl
@[simp] theorem modSpeaker_lintel (d : Dev) (k : Fin 16) (f : Speaker → Speaker) : (d.modSpeaker k f).lintel = d.lintel := rfl
@[simp] theorem modSpeaker_tdm (d : Dev) (k : Fin 16) (f : Speaker → Speaker) : (d.modSpeaker k f).tdm = d.tdm := rfl
@[simp] theorem modSpeaker_route (d : Dev) (k : Fin 16) (f : Speaker → Speaker) : (d.modSpeaker k f).route = d.route := rfl
@[simp] theorem modSpeaker_can (d : Dev) (k : Fin 16) (f : Speaker → Speaker) : (d.modSpeaker k f).can = d.can := rfl
@[simp] theorem modSpeaker_gpio (d : Dev) (k : Fin 16) (f : Speaker → Speaker) : (d.modSpeaker k f).gpio = d.gpio := rfl
@[simp] theorem modSpeaker_timers (d : Dev) (k : Fin 16) (f : Speaker → Speaker) : (d.modSpeaker k f).timers = d.timers := rfl
@[simp] theorem modSpeaker_sched (d : Dev) (k : Fin 16) (f : Speaker → Speaker) : (d.modSpeaker k f).sched = d.sched := rfl
@[simp] theorem modSpeaker_tap (d : Dev) (k : Fin 16) (f : Speaker → Speaker) : (d.modSpeaker k f).tap = d.tap := rfl
@[simp] theorem modSpeaker_selfTest (d : Dev) (k : Fin 16) (f : Speaker → Speaker) : (d.modSpeaker k f).selfTest = d.selfTest := rfl
@[simp] theorem modSpeaker_cc (d : Dev) (k : Fin 16) (f : Speaker → Speaker) : (d.modSpeaker k f).cc = d.cc := rfl
@[simp] theorem modSpeaker_freeIdx (d : Dev) (k : Fin 16) (f : Speaker → Speaker) : (d.modSpeaker k f).freeIdx = d.freeIdx := rfl

/-! `modAmp` changes the field `meas` alone. -/

@[simp] theorem modAmp_regs (d : Dev) (k : Fin 4) (f : Amp → Amp) : (d.modAmp k f).regs = d.regs := rfl
@[simp] theorem modAmp_host (d : Dev) (k : Fin 4) (f : Amp → Amp) : (d.modAmp k f).host = d.host := rfl
@[simp] theorem modAmp_arb (d : Dev) (k : Fin 4) (f : Amp → Amp) : (d.modAmp k f).arb = d.arb := rfl
@[simp] theorem modAmp_mail (d : Dev) (k : Fin 4) (f : Amp → Amp) : (d.modAmp k f).mail = d.mail := rfl
@[simp] theorem modAmp_power (d : Dev) (k : Fin 4) (f : Amp → Amp) : (d.modAmp k f).power = d.power := rfl
@[simp] theorem modAmp_flash (d : Dev) (k : Fin 4) (f : Amp → Amp) : (d.modAmp k f).flash = d.flash := rfl
@[simp] theorem modAmp_journal (d : Dev) (k : Fin 4) (f : Amp → Amp) : (d.modAmp k f).journal = d.journal := rfl
@[simp] theorem modAmp_sup (d : Dev) (k : Fin 4) (f : Amp → Amp) : (d.modAmp k f).sup = d.sup := rfl
@[simp] theorem modAmp_ks (d : Dev) (k : Fin 4) (f : Amp → Amp) : (d.modAmp k f).ks = d.ks := rfl
@[simp] theorem modAmp_clk (d : Dev) (k : Fin 4) (f : Amp → Amp) : (d.modAmp k f).clk = d.clk := rfl
@[simp] theorem modAmp_eth (d : Dev) (k : Fin 4) (f : Amp → Amp) : (d.modAmp k f).eth = d.eth := rfl
@[simp] theorem modAmp_remote (d : Dev) (k : Fin 4) (f : Amp → Amp) : (d.modAmp k f).remote = d.remote := rfl
@[simp] theorem modAmp_gptp (d : Dev) (k : Fin 4) (f : Amp → Amp) : (d.modAmp k f).gptp = d.gptp := rfl
@[simp] theorem modAmp_streams (d : Dev) (k : Fin 4) (f : Amp → Amp) : (d.modAmp k f).streams = d.streams := rfl
@[simp] theorem modAmp_lintel (d : Dev) (k : Fin 4) (f : Amp → Amp) : (d.modAmp k f).lintel = d.lintel := rfl
@[simp] theorem modAmp_tdm (d : Dev) (k : Fin 4) (f : Amp → Amp) : (d.modAmp k f).tdm = d.tdm := rfl
@[simp] theorem modAmp_route (d : Dev) (k : Fin 4) (f : Amp → Amp) : (d.modAmp k f).route = d.route := rfl
@[simp] theorem modAmp_can (d : Dev) (k : Fin 4) (f : Amp → Amp) : (d.modAmp k f).can = d.can := rfl
@[simp] theorem modAmp_gpio (d : Dev) (k : Fin 4) (f : Amp → Amp) : (d.modAmp k f).gpio = d.gpio := rfl
@[simp] theorem modAmp_timers (d : Dev) (k : Fin 4) (f : Amp → Amp) : (d.modAmp k f).timers = d.timers := rfl
@[simp] theorem modAmp_sched (d : Dev) (k : Fin 4) (f : Amp → Amp) : (d.modAmp k f).sched = d.sched := rfl
@[simp] theorem modAmp_tap (d : Dev) (k : Fin 4) (f : Amp → Amp) : (d.modAmp k f).tap = d.tap := rfl
@[simp] theorem modAmp_selfTest (d : Dev) (k : Fin 4) (f : Amp → Amp) : (d.modAmp k f).selfTest = d.selfTest := rfl
@[simp] theorem modAmp_cc (d : Dev) (k : Fin 4) (f : Amp → Amp) : (d.modAmp k f).cc = d.cc := rfl
@[simp] theorem modAmp_freeIdx (d : Dev) (k : Fin 4) (f : Amp → Amp) : (d.modAmp k f).freeIdx = d.freeIdx := rfl

/-! `modCan` changes the field `can` alone. -/

@[simp] theorem modCan_regs (d : Dev) (f : Can → Can) : (d.modCan f).regs = d.regs := rfl
@[simp] theorem modCan_host (d : Dev) (f : Can → Can) : (d.modCan f).host = d.host := rfl
@[simp] theorem modCan_arb (d : Dev) (f : Can → Can) : (d.modCan f).arb = d.arb := rfl
@[simp] theorem modCan_mail (d : Dev) (f : Can → Can) : (d.modCan f).mail = d.mail := rfl
@[simp] theorem modCan_power (d : Dev) (f : Can → Can) : (d.modCan f).power = d.power := rfl
@[simp] theorem modCan_flash (d : Dev) (f : Can → Can) : (d.modCan f).flash = d.flash := rfl
@[simp] theorem modCan_journal (d : Dev) (f : Can → Can) : (d.modCan f).journal = d.journal := rfl
@[simp] theorem modCan_sup (d : Dev) (f : Can → Can) : (d.modCan f).sup = d.sup := rfl
@[simp] theorem modCan_ks (d : Dev) (f : Can → Can) : (d.modCan f).ks = d.ks := rfl
@[simp] theorem modCan_clk (d : Dev) (f : Can → Can) : (d.modCan f).clk = d.clk := rfl
@[simp] theorem modCan_eth (d : Dev) (f : Can → Can) : (d.modCan f).eth = d.eth := rfl
@[simp] theorem modCan_remote (d : Dev) (f : Can → Can) : (d.modCan f).remote = d.remote := rfl
@[simp] theorem modCan_gptp (d : Dev) (f : Can → Can) : (d.modCan f).gptp = d.gptp := rfl
@[simp] theorem modCan_streams (d : Dev) (f : Can → Can) : (d.modCan f).streams = d.streams := rfl
@[simp] theorem modCan_lintel (d : Dev) (f : Can → Can) : (d.modCan f).lintel = d.lintel := rfl
@[simp] theorem modCan_tdm (d : Dev) (f : Can → Can) : (d.modCan f).tdm = d.tdm := rfl
@[simp] theorem modCan_route (d : Dev) (f : Can → Can) : (d.modCan f).route = d.route := rfl
@[simp] theorem modCan_meas (d : Dev) (f : Can → Can) : (d.modCan f).meas = d.meas := rfl
@[simp] theorem modCan_gpio (d : Dev) (f : Can → Can) : (d.modCan f).gpio = d.gpio := rfl
@[simp] theorem modCan_timers (d : Dev) (f : Can → Can) : (d.modCan f).timers = d.timers := rfl
@[simp] theorem modCan_sched (d : Dev) (f : Can → Can) : (d.modCan f).sched = d.sched := rfl
@[simp] theorem modCan_tap (d : Dev) (f : Can → Can) : (d.modCan f).tap = d.tap := rfl
@[simp] theorem modCan_selfTest (d : Dev) (f : Can → Can) : (d.modCan f).selfTest = d.selfTest := rfl
@[simp] theorem modCan_cc (d : Dev) (f : Can → Can) : (d.modCan f).cc = d.cc := rfl
@[simp] theorem modCan_freeIdx (d : Dev) (f : Can → Can) : (d.modCan f).freeIdx = d.freeIdx := rfl

/-! `modObj` changes the field `can` alone. -/

@[simp] theorem modObj_regs (d : Dev) (n : Fin 32) (f : CanObj → CanObj) : (d.modObj n f).regs = d.regs := rfl
@[simp] theorem modObj_host (d : Dev) (n : Fin 32) (f : CanObj → CanObj) : (d.modObj n f).host = d.host := rfl
@[simp] theorem modObj_arb (d : Dev) (n : Fin 32) (f : CanObj → CanObj) : (d.modObj n f).arb = d.arb := rfl
@[simp] theorem modObj_mail (d : Dev) (n : Fin 32) (f : CanObj → CanObj) : (d.modObj n f).mail = d.mail := rfl
@[simp] theorem modObj_power (d : Dev) (n : Fin 32) (f : CanObj → CanObj) : (d.modObj n f).power = d.power := rfl
@[simp] theorem modObj_flash (d : Dev) (n : Fin 32) (f : CanObj → CanObj) : (d.modObj n f).flash = d.flash := rfl
@[simp] theorem modObj_journal (d : Dev) (n : Fin 32) (f : CanObj → CanObj) : (d.modObj n f).journal = d.journal := rfl
@[simp] theorem modObj_sup (d : Dev) (n : Fin 32) (f : CanObj → CanObj) : (d.modObj n f).sup = d.sup := rfl
@[simp] theorem modObj_ks (d : Dev) (n : Fin 32) (f : CanObj → CanObj) : (d.modObj n f).ks = d.ks := rfl
@[simp] theorem modObj_clk (d : Dev) (n : Fin 32) (f : CanObj → CanObj) : (d.modObj n f).clk = d.clk := rfl
@[simp] theorem modObj_eth (d : Dev) (n : Fin 32) (f : CanObj → CanObj) : (d.modObj n f).eth = d.eth := rfl
@[simp] theorem modObj_remote (d : Dev) (n : Fin 32) (f : CanObj → CanObj) : (d.modObj n f).remote = d.remote := rfl
@[simp] theorem modObj_gptp (d : Dev) (n : Fin 32) (f : CanObj → CanObj) : (d.modObj n f).gptp = d.gptp := rfl
@[simp] theorem modObj_streams (d : Dev) (n : Fin 32) (f : CanObj → CanObj) : (d.modObj n f).streams = d.streams := rfl
@[simp] theorem modObj_lintel (d : Dev) (n : Fin 32) (f : CanObj → CanObj) : (d.modObj n f).lintel = d.lintel := rfl
@[simp] theorem modObj_tdm (d : Dev) (n : Fin 32) (f : CanObj → CanObj) : (d.modObj n f).tdm = d.tdm := rfl
@[simp] theorem modObj_route (d : Dev) (n : Fin 32) (f : CanObj → CanObj) : (d.modObj n f).route = d.route := rfl
@[simp] theorem modObj_meas (d : Dev) (n : Fin 32) (f : CanObj → CanObj) : (d.modObj n f).meas = d.meas := rfl
@[simp] theorem modObj_gpio (d : Dev) (n : Fin 32) (f : CanObj → CanObj) : (d.modObj n f).gpio = d.gpio := rfl
@[simp] theorem modObj_timers (d : Dev) (n : Fin 32) (f : CanObj → CanObj) : (d.modObj n f).timers = d.timers := rfl
@[simp] theorem modObj_sched (d : Dev) (n : Fin 32) (f : CanObj → CanObj) : (d.modObj n f).sched = d.sched := rfl
@[simp] theorem modObj_tap (d : Dev) (n : Fin 32) (f : CanObj → CanObj) : (d.modObj n f).tap = d.tap := rfl
@[simp] theorem modObj_selfTest (d : Dev) (n : Fin 32) (f : CanObj → CanObj) : (d.modObj n f).selfTest = d.selfTest := rfl
@[simp] theorem modObj_cc (d : Dev) (n : Fin 32) (f : CanObj → CanObj) : (d.modObj n f).cc = d.cc := rfl
@[simp] theorem modObj_freeIdx (d : Dev) (n : Fin 32) (f : CanObj → CanObj) : (d.modObj n f).freeIdx = d.freeIdx := rfl

/-! `modUds` changes the field `can` alone. -/

@[simp] theorem modUds_regs (d : Dev) (f : Uds → Uds) : (d.modUds f).regs = d.regs := rfl
@[simp] theorem modUds_host (d : Dev) (f : Uds → Uds) : (d.modUds f).host = d.host := rfl
@[simp] theorem modUds_arb (d : Dev) (f : Uds → Uds) : (d.modUds f).arb = d.arb := rfl
@[simp] theorem modUds_mail (d : Dev) (f : Uds → Uds) : (d.modUds f).mail = d.mail := rfl
@[simp] theorem modUds_power (d : Dev) (f : Uds → Uds) : (d.modUds f).power = d.power := rfl
@[simp] theorem modUds_flash (d : Dev) (f : Uds → Uds) : (d.modUds f).flash = d.flash := rfl
@[simp] theorem modUds_journal (d : Dev) (f : Uds → Uds) : (d.modUds f).journal = d.journal := rfl
@[simp] theorem modUds_sup (d : Dev) (f : Uds → Uds) : (d.modUds f).sup = d.sup := rfl
@[simp] theorem modUds_ks (d : Dev) (f : Uds → Uds) : (d.modUds f).ks = d.ks := rfl
@[simp] theorem modUds_clk (d : Dev) (f : Uds → Uds) : (d.modUds f).clk = d.clk := rfl
@[simp] theorem modUds_eth (d : Dev) (f : Uds → Uds) : (d.modUds f).eth = d.eth := rfl
@[simp] theorem modUds_remote (d : Dev) (f : Uds → Uds) : (d.modUds f).remote = d.remote := rfl
@[simp] theorem modUds_gptp (d : Dev) (f : Uds → Uds) : (d.modUds f).gptp = d.gptp := rfl
@[simp] theorem modUds_streams (d : Dev) (f : Uds → Uds) : (d.modUds f).streams = d.streams := rfl
@[simp] theorem modUds_lintel (d : Dev) (f : Uds → Uds) : (d.modUds f).lintel = d.lintel := rfl
@[simp] theorem modUds_tdm (d : Dev) (f : Uds → Uds) : (d.modUds f).tdm = d.tdm := rfl
@[simp] theorem modUds_route (d : Dev) (f : Uds → Uds) : (d.modUds f).route = d.route := rfl
@[simp] theorem modUds_meas (d : Dev) (f : Uds → Uds) : (d.modUds f).meas = d.meas := rfl
@[simp] theorem modUds_gpio (d : Dev) (f : Uds → Uds) : (d.modUds f).gpio = d.gpio := rfl
@[simp] theorem modUds_timers (d : Dev) (f : Uds → Uds) : (d.modUds f).timers = d.timers := rfl
@[simp] theorem modUds_sched (d : Dev) (f : Uds → Uds) : (d.modUds f).sched = d.sched := rfl
@[simp] theorem modUds_tap (d : Dev) (f : Uds → Uds) : (d.modUds f).tap = d.tap := rfl
@[simp] theorem modUds_selfTest (d : Dev) (f : Uds → Uds) : (d.modUds f).selfTest = d.selfTest := rfl
@[simp] theorem modUds_cc (d : Dev) (f : Uds → Uds) : (d.modUds f).cc = d.cc := rfl
@[simp] theorem modUds_freeIdx (d : Dev) (f : Uds → Uds) : (d.modUds f).freeIdx = d.freeIdx := rfl

/-! `modGpio` changes the field `gpio` alone. -/

@[simp] theorem modGpio_regs (d : Dev) (f : Gpio → Gpio) : (d.modGpio f).regs = d.regs := rfl
@[simp] theorem modGpio_host (d : Dev) (f : Gpio → Gpio) : (d.modGpio f).host = d.host := rfl
@[simp] theorem modGpio_arb (d : Dev) (f : Gpio → Gpio) : (d.modGpio f).arb = d.arb := rfl
@[simp] theorem modGpio_mail (d : Dev) (f : Gpio → Gpio) : (d.modGpio f).mail = d.mail := rfl
@[simp] theorem modGpio_power (d : Dev) (f : Gpio → Gpio) : (d.modGpio f).power = d.power := rfl
@[simp] theorem modGpio_flash (d : Dev) (f : Gpio → Gpio) : (d.modGpio f).flash = d.flash := rfl
@[simp] theorem modGpio_journal (d : Dev) (f : Gpio → Gpio) : (d.modGpio f).journal = d.journal := rfl
@[simp] theorem modGpio_sup (d : Dev) (f : Gpio → Gpio) : (d.modGpio f).sup = d.sup := rfl
@[simp] theorem modGpio_ks (d : Dev) (f : Gpio → Gpio) : (d.modGpio f).ks = d.ks := rfl
@[simp] theorem modGpio_clk (d : Dev) (f : Gpio → Gpio) : (d.modGpio f).clk = d.clk := rfl
@[simp] theorem modGpio_eth (d : Dev) (f : Gpio → Gpio) : (d.modGpio f).eth = d.eth := rfl
@[simp] theorem modGpio_remote (d : Dev) (f : Gpio → Gpio) : (d.modGpio f).remote = d.remote := rfl
@[simp] theorem modGpio_gptp (d : Dev) (f : Gpio → Gpio) : (d.modGpio f).gptp = d.gptp := rfl
@[simp] theorem modGpio_streams (d : Dev) (f : Gpio → Gpio) : (d.modGpio f).streams = d.streams := rfl
@[simp] theorem modGpio_lintel (d : Dev) (f : Gpio → Gpio) : (d.modGpio f).lintel = d.lintel := rfl
@[simp] theorem modGpio_tdm (d : Dev) (f : Gpio → Gpio) : (d.modGpio f).tdm = d.tdm := rfl
@[simp] theorem modGpio_route (d : Dev) (f : Gpio → Gpio) : (d.modGpio f).route = d.route := rfl
@[simp] theorem modGpio_meas (d : Dev) (f : Gpio → Gpio) : (d.modGpio f).meas = d.meas := rfl
@[simp] theorem modGpio_can (d : Dev) (f : Gpio → Gpio) : (d.modGpio f).can = d.can := rfl
@[simp] theorem modGpio_timers (d : Dev) (f : Gpio → Gpio) : (d.modGpio f).timers = d.timers := rfl
@[simp] theorem modGpio_sched (d : Dev) (f : Gpio → Gpio) : (d.modGpio f).sched = d.sched := rfl
@[simp] theorem modGpio_tap (d : Dev) (f : Gpio → Gpio) : (d.modGpio f).tap = d.tap := rfl
@[simp] theorem modGpio_selfTest (d : Dev) (f : Gpio → Gpio) : (d.modGpio f).selfTest = d.selfTest := rfl
@[simp] theorem modGpio_cc (d : Dev) (f : Gpio → Gpio) : (d.modGpio f).cc = d.cc := rfl
@[simp] theorem modGpio_freeIdx (d : Dev) (f : Gpio → Gpio) : (d.modGpio f).freeIdx = d.freeIdx := rfl

/-! `modPin` changes the field `gpio` alone. -/

@[simp] theorem modPin_regs (d : Dev) (p : Fin 37) (f : GpioPin → GpioPin) : (d.modPin p f).regs = d.regs := rfl
@[simp] theorem modPin_host (d : Dev) (p : Fin 37) (f : GpioPin → GpioPin) : (d.modPin p f).host = d.host := rfl
@[simp] theorem modPin_arb (d : Dev) (p : Fin 37) (f : GpioPin → GpioPin) : (d.modPin p f).arb = d.arb := rfl
@[simp] theorem modPin_mail (d : Dev) (p : Fin 37) (f : GpioPin → GpioPin) : (d.modPin p f).mail = d.mail := rfl
@[simp] theorem modPin_power (d : Dev) (p : Fin 37) (f : GpioPin → GpioPin) : (d.modPin p f).power = d.power := rfl
@[simp] theorem modPin_flash (d : Dev) (p : Fin 37) (f : GpioPin → GpioPin) : (d.modPin p f).flash = d.flash := rfl
@[simp] theorem modPin_journal (d : Dev) (p : Fin 37) (f : GpioPin → GpioPin) : (d.modPin p f).journal = d.journal := rfl
@[simp] theorem modPin_sup (d : Dev) (p : Fin 37) (f : GpioPin → GpioPin) : (d.modPin p f).sup = d.sup := rfl
@[simp] theorem modPin_ks (d : Dev) (p : Fin 37) (f : GpioPin → GpioPin) : (d.modPin p f).ks = d.ks := rfl
@[simp] theorem modPin_clk (d : Dev) (p : Fin 37) (f : GpioPin → GpioPin) : (d.modPin p f).clk = d.clk := rfl
@[simp] theorem modPin_eth (d : Dev) (p : Fin 37) (f : GpioPin → GpioPin) : (d.modPin p f).eth = d.eth := rfl
@[simp] theorem modPin_remote (d : Dev) (p : Fin 37) (f : GpioPin → GpioPin) : (d.modPin p f).remote = d.remote := rfl
@[simp] theorem modPin_gptp (d : Dev) (p : Fin 37) (f : GpioPin → GpioPin) : (d.modPin p f).gptp = d.gptp := rfl
@[simp] theorem modPin_streams (d : Dev) (p : Fin 37) (f : GpioPin → GpioPin) : (d.modPin p f).streams = d.streams := rfl
@[simp] theorem modPin_lintel (d : Dev) (p : Fin 37) (f : GpioPin → GpioPin) : (d.modPin p f).lintel = d.lintel := rfl
@[simp] theorem modPin_tdm (d : Dev) (p : Fin 37) (f : GpioPin → GpioPin) : (d.modPin p f).tdm = d.tdm := rfl
@[simp] theorem modPin_route (d : Dev) (p : Fin 37) (f : GpioPin → GpioPin) : (d.modPin p f).route = d.route := rfl
@[simp] theorem modPin_meas (d : Dev) (p : Fin 37) (f : GpioPin → GpioPin) : (d.modPin p f).meas = d.meas := rfl
@[simp] theorem modPin_can (d : Dev) (p : Fin 37) (f : GpioPin → GpioPin) : (d.modPin p f).can = d.can := rfl
@[simp] theorem modPin_timers (d : Dev) (p : Fin 37) (f : GpioPin → GpioPin) : (d.modPin p f).timers = d.timers := rfl
@[simp] theorem modPin_sched (d : Dev) (p : Fin 37) (f : GpioPin → GpioPin) : (d.modPin p f).sched = d.sched := rfl
@[simp] theorem modPin_tap (d : Dev) (p : Fin 37) (f : GpioPin → GpioPin) : (d.modPin p f).tap = d.tap := rfl
@[simp] theorem modPin_selfTest (d : Dev) (p : Fin 37) (f : GpioPin → GpioPin) : (d.modPin p f).selfTest = d.selfTest := rfl
@[simp] theorem modPin_cc (d : Dev) (p : Fin 37) (f : GpioPin → GpioPin) : (d.modPin p f).cc = d.cc := rfl
@[simp] theorem modPin_freeIdx (d : Dev) (p : Fin 37) (f : GpioPin → GpioPin) : (d.modPin p f).freeIdx = d.freeIdx := rfl

/-! `modTmr` changes the field `timers` alone. -/

@[simp] theorem modTmr_regs (d : Dev) (n : Fin 4) (f : TimerCh → TimerCh) : (d.modTmr n f).regs = d.regs := rfl
@[simp] theorem modTmr_host (d : Dev) (n : Fin 4) (f : TimerCh → TimerCh) : (d.modTmr n f).host = d.host := rfl
@[simp] theorem modTmr_arb (d : Dev) (n : Fin 4) (f : TimerCh → TimerCh) : (d.modTmr n f).arb = d.arb := rfl
@[simp] theorem modTmr_mail (d : Dev) (n : Fin 4) (f : TimerCh → TimerCh) : (d.modTmr n f).mail = d.mail := rfl
@[simp] theorem modTmr_power (d : Dev) (n : Fin 4) (f : TimerCh → TimerCh) : (d.modTmr n f).power = d.power := rfl
@[simp] theorem modTmr_flash (d : Dev) (n : Fin 4) (f : TimerCh → TimerCh) : (d.modTmr n f).flash = d.flash := rfl
@[simp] theorem modTmr_journal (d : Dev) (n : Fin 4) (f : TimerCh → TimerCh) : (d.modTmr n f).journal = d.journal := rfl
@[simp] theorem modTmr_sup (d : Dev) (n : Fin 4) (f : TimerCh → TimerCh) : (d.modTmr n f).sup = d.sup := rfl
@[simp] theorem modTmr_ks (d : Dev) (n : Fin 4) (f : TimerCh → TimerCh) : (d.modTmr n f).ks = d.ks := rfl
@[simp] theorem modTmr_clk (d : Dev) (n : Fin 4) (f : TimerCh → TimerCh) : (d.modTmr n f).clk = d.clk := rfl
@[simp] theorem modTmr_eth (d : Dev) (n : Fin 4) (f : TimerCh → TimerCh) : (d.modTmr n f).eth = d.eth := rfl
@[simp] theorem modTmr_remote (d : Dev) (n : Fin 4) (f : TimerCh → TimerCh) : (d.modTmr n f).remote = d.remote := rfl
@[simp] theorem modTmr_gptp (d : Dev) (n : Fin 4) (f : TimerCh → TimerCh) : (d.modTmr n f).gptp = d.gptp := rfl
@[simp] theorem modTmr_streams (d : Dev) (n : Fin 4) (f : TimerCh → TimerCh) : (d.modTmr n f).streams = d.streams := rfl
@[simp] theorem modTmr_lintel (d : Dev) (n : Fin 4) (f : TimerCh → TimerCh) : (d.modTmr n f).lintel = d.lintel := rfl
@[simp] theorem modTmr_tdm (d : Dev) (n : Fin 4) (f : TimerCh → TimerCh) : (d.modTmr n f).tdm = d.tdm := rfl
@[simp] theorem modTmr_route (d : Dev) (n : Fin 4) (f : TimerCh → TimerCh) : (d.modTmr n f).route = d.route := rfl
@[simp] theorem modTmr_meas (d : Dev) (n : Fin 4) (f : TimerCh → TimerCh) : (d.modTmr n f).meas = d.meas := rfl
@[simp] theorem modTmr_can (d : Dev) (n : Fin 4) (f : TimerCh → TimerCh) : (d.modTmr n f).can = d.can := rfl
@[simp] theorem modTmr_gpio (d : Dev) (n : Fin 4) (f : TimerCh → TimerCh) : (d.modTmr n f).gpio = d.gpio := rfl
@[simp] theorem modTmr_sched (d : Dev) (n : Fin 4) (f : TimerCh → TimerCh) : (d.modTmr n f).sched = d.sched := rfl
@[simp] theorem modTmr_tap (d : Dev) (n : Fin 4) (f : TimerCh → TimerCh) : (d.modTmr n f).tap = d.tap := rfl
@[simp] theorem modTmr_selfTest (d : Dev) (n : Fin 4) (f : TimerCh → TimerCh) : (d.modTmr n f).selfTest = d.selfTest := rfl
@[simp] theorem modTmr_cc (d : Dev) (n : Fin 4) (f : TimerCh → TimerCh) : (d.modTmr n f).cc = d.cc := rfl
@[simp] theorem modTmr_freeIdx (d : Dev) (n : Fin 4) (f : TimerCh → TimerCh) : (d.modTmr n f).freeIdx = d.freeIdx := rfl

/-! `modSched` changes the field `sched` alone. -/

@[simp] theorem modSched_regs (d : Dev) (e : Fin 32) (f : SchedEntry → SchedEntry) : (d.modSched e f).regs = d.regs := rfl
@[simp] theorem modSched_host (d : Dev) (e : Fin 32) (f : SchedEntry → SchedEntry) : (d.modSched e f).host = d.host := rfl
@[simp] theorem modSched_arb (d : Dev) (e : Fin 32) (f : SchedEntry → SchedEntry) : (d.modSched e f).arb = d.arb := rfl
@[simp] theorem modSched_mail (d : Dev) (e : Fin 32) (f : SchedEntry → SchedEntry) : (d.modSched e f).mail = d.mail := rfl
@[simp] theorem modSched_power (d : Dev) (e : Fin 32) (f : SchedEntry → SchedEntry) : (d.modSched e f).power = d.power := rfl
@[simp] theorem modSched_flash (d : Dev) (e : Fin 32) (f : SchedEntry → SchedEntry) : (d.modSched e f).flash = d.flash := rfl
@[simp] theorem modSched_journal (d : Dev) (e : Fin 32) (f : SchedEntry → SchedEntry) : (d.modSched e f).journal = d.journal := rfl
@[simp] theorem modSched_sup (d : Dev) (e : Fin 32) (f : SchedEntry → SchedEntry) : (d.modSched e f).sup = d.sup := rfl
@[simp] theorem modSched_ks (d : Dev) (e : Fin 32) (f : SchedEntry → SchedEntry) : (d.modSched e f).ks = d.ks := rfl
@[simp] theorem modSched_clk (d : Dev) (e : Fin 32) (f : SchedEntry → SchedEntry) : (d.modSched e f).clk = d.clk := rfl
@[simp] theorem modSched_eth (d : Dev) (e : Fin 32) (f : SchedEntry → SchedEntry) : (d.modSched e f).eth = d.eth := rfl
@[simp] theorem modSched_remote (d : Dev) (e : Fin 32) (f : SchedEntry → SchedEntry) : (d.modSched e f).remote = d.remote := rfl
@[simp] theorem modSched_gptp (d : Dev) (e : Fin 32) (f : SchedEntry → SchedEntry) : (d.modSched e f).gptp = d.gptp := rfl
@[simp] theorem modSched_streams (d : Dev) (e : Fin 32) (f : SchedEntry → SchedEntry) : (d.modSched e f).streams = d.streams := rfl
@[simp] theorem modSched_lintel (d : Dev) (e : Fin 32) (f : SchedEntry → SchedEntry) : (d.modSched e f).lintel = d.lintel := rfl
@[simp] theorem modSched_tdm (d : Dev) (e : Fin 32) (f : SchedEntry → SchedEntry) : (d.modSched e f).tdm = d.tdm := rfl
@[simp] theorem modSched_route (d : Dev) (e : Fin 32) (f : SchedEntry → SchedEntry) : (d.modSched e f).route = d.route := rfl
@[simp] theorem modSched_meas (d : Dev) (e : Fin 32) (f : SchedEntry → SchedEntry) : (d.modSched e f).meas = d.meas := rfl
@[simp] theorem modSched_can (d : Dev) (e : Fin 32) (f : SchedEntry → SchedEntry) : (d.modSched e f).can = d.can := rfl
@[simp] theorem modSched_gpio (d : Dev) (e : Fin 32) (f : SchedEntry → SchedEntry) : (d.modSched e f).gpio = d.gpio := rfl
@[simp] theorem modSched_timers (d : Dev) (e : Fin 32) (f : SchedEntry → SchedEntry) : (d.modSched e f).timers = d.timers := rfl
@[simp] theorem modSched_tap (d : Dev) (e : Fin 32) (f : SchedEntry → SchedEntry) : (d.modSched e f).tap = d.tap := rfl
@[simp] theorem modSched_selfTest (d : Dev) (e : Fin 32) (f : SchedEntry → SchedEntry) : (d.modSched e f).selfTest = d.selfTest := rfl
@[simp] theorem modSched_cc (d : Dev) (e : Fin 32) (f : SchedEntry → SchedEntry) : (d.modSched e f).cc = d.cc := rfl
@[simp] theorem modSched_freeIdx (d : Dev) (e : Fin 32) (f : SchedEntry → SchedEntry) : (d.modSched e f).freeIdx = d.freeIdx := rfl

/-! `modTap` changes the field `tap` alone. -/

@[simp] theorem modTap_regs (d : Dev) (f : Tap → Tap) : (d.modTap f).regs = d.regs := rfl
@[simp] theorem modTap_host (d : Dev) (f : Tap → Tap) : (d.modTap f).host = d.host := rfl
@[simp] theorem modTap_arb (d : Dev) (f : Tap → Tap) : (d.modTap f).arb = d.arb := rfl
@[simp] theorem modTap_mail (d : Dev) (f : Tap → Tap) : (d.modTap f).mail = d.mail := rfl
@[simp] theorem modTap_power (d : Dev) (f : Tap → Tap) : (d.modTap f).power = d.power := rfl
@[simp] theorem modTap_flash (d : Dev) (f : Tap → Tap) : (d.modTap f).flash = d.flash := rfl
@[simp] theorem modTap_journal (d : Dev) (f : Tap → Tap) : (d.modTap f).journal = d.journal := rfl
@[simp] theorem modTap_sup (d : Dev) (f : Tap → Tap) : (d.modTap f).sup = d.sup := rfl
@[simp] theorem modTap_ks (d : Dev) (f : Tap → Tap) : (d.modTap f).ks = d.ks := rfl
@[simp] theorem modTap_clk (d : Dev) (f : Tap → Tap) : (d.modTap f).clk = d.clk := rfl
@[simp] theorem modTap_eth (d : Dev) (f : Tap → Tap) : (d.modTap f).eth = d.eth := rfl
@[simp] theorem modTap_remote (d : Dev) (f : Tap → Tap) : (d.modTap f).remote = d.remote := rfl
@[simp] theorem modTap_gptp (d : Dev) (f : Tap → Tap) : (d.modTap f).gptp = d.gptp := rfl
@[simp] theorem modTap_streams (d : Dev) (f : Tap → Tap) : (d.modTap f).streams = d.streams := rfl
@[simp] theorem modTap_lintel (d : Dev) (f : Tap → Tap) : (d.modTap f).lintel = d.lintel := rfl
@[simp] theorem modTap_tdm (d : Dev) (f : Tap → Tap) : (d.modTap f).tdm = d.tdm := rfl
@[simp] theorem modTap_route (d : Dev) (f : Tap → Tap) : (d.modTap f).route = d.route := rfl
@[simp] theorem modTap_meas (d : Dev) (f : Tap → Tap) : (d.modTap f).meas = d.meas := rfl
@[simp] theorem modTap_can (d : Dev) (f : Tap → Tap) : (d.modTap f).can = d.can := rfl
@[simp] theorem modTap_gpio (d : Dev) (f : Tap → Tap) : (d.modTap f).gpio = d.gpio := rfl
@[simp] theorem modTap_timers (d : Dev) (f : Tap → Tap) : (d.modTap f).timers = d.timers := rfl
@[simp] theorem modTap_sched (d : Dev) (f : Tap → Tap) : (d.modTap f).sched = d.sched := rfl
@[simp] theorem modTap_selfTest (d : Dev) (f : Tap → Tap) : (d.modTap f).selfTest = d.selfTest := rfl
@[simp] theorem modTap_cc (d : Dev) (f : Tap → Tap) : (d.modTap f).cc = d.cc := rfl
@[simp] theorem modTap_freeIdx (d : Dev) (f : Tap → Tap) : (d.modTap f).freeIdx = d.freeIdx := rfl

/-! `push` changes the field `mail` at most. -/

@[simp] theorem push_regs (d : Dev) (code : Nat) (arg : Word) : (d.push code arg).regs = d.regs := by unfold push; split <;> rfl
@[simp] theorem push_host (d : Dev) (code : Nat) (arg : Word) : (d.push code arg).host = d.host := by unfold push; split <;> rfl
@[simp] theorem push_arb (d : Dev) (code : Nat) (arg : Word) : (d.push code arg).arb = d.arb := by unfold push; split <;> rfl
@[simp] theorem push_power (d : Dev) (code : Nat) (arg : Word) : (d.push code arg).power = d.power := by unfold push; split <;> rfl
@[simp] theorem push_flash (d : Dev) (code : Nat) (arg : Word) : (d.push code arg).flash = d.flash := by unfold push; split <;> rfl
@[simp] theorem push_journal (d : Dev) (code : Nat) (arg : Word) : (d.push code arg).journal = d.journal := by unfold push; split <;> rfl
@[simp] theorem push_sup (d : Dev) (code : Nat) (arg : Word) : (d.push code arg).sup = d.sup := by unfold push; split <;> rfl
@[simp] theorem push_ks (d : Dev) (code : Nat) (arg : Word) : (d.push code arg).ks = d.ks := by unfold push; split <;> rfl
@[simp] theorem push_clk (d : Dev) (code : Nat) (arg : Word) : (d.push code arg).clk = d.clk := by unfold push; split <;> rfl
@[simp] theorem push_eth (d : Dev) (code : Nat) (arg : Word) : (d.push code arg).eth = d.eth := by unfold push; split <;> rfl
@[simp] theorem push_remote (d : Dev) (code : Nat) (arg : Word) : (d.push code arg).remote = d.remote := by unfold push; split <;> rfl
@[simp] theorem push_gptp (d : Dev) (code : Nat) (arg : Word) : (d.push code arg).gptp = d.gptp := by unfold push; split <;> rfl
@[simp] theorem push_streams (d : Dev) (code : Nat) (arg : Word) : (d.push code arg).streams = d.streams := by unfold push; split <;> rfl
@[simp] theorem push_lintel (d : Dev) (code : Nat) (arg : Word) : (d.push code arg).lintel = d.lintel := by unfold push; split <;> rfl
@[simp] theorem push_tdm (d : Dev) (code : Nat) (arg : Word) : (d.push code arg).tdm = d.tdm := by unfold push; split <;> rfl
@[simp] theorem push_route (d : Dev) (code : Nat) (arg : Word) : (d.push code arg).route = d.route := by unfold push; split <;> rfl
@[simp] theorem push_meas (d : Dev) (code : Nat) (arg : Word) : (d.push code arg).meas = d.meas := by unfold push; split <;> rfl
@[simp] theorem push_can (d : Dev) (code : Nat) (arg : Word) : (d.push code arg).can = d.can := by unfold push; split <;> rfl
@[simp] theorem push_gpio (d : Dev) (code : Nat) (arg : Word) : (d.push code arg).gpio = d.gpio := by unfold push; split <;> rfl
@[simp] theorem push_timers (d : Dev) (code : Nat) (arg : Word) : (d.push code arg).timers = d.timers := by unfold push; split <;> rfl
@[simp] theorem push_sched (d : Dev) (code : Nat) (arg : Word) : (d.push code arg).sched = d.sched := by unfold push; split <;> rfl
@[simp] theorem push_tap (d : Dev) (code : Nat) (arg : Word) : (d.push code arg).tap = d.tap := by unfold push; split <;> rfl
@[simp] theorem push_selfTest (d : Dev) (code : Nat) (arg : Word) : (d.push code arg).selfTest = d.selfTest := by unfold push; split <;> rfl
@[simp] theorem push_cc (d : Dev) (code : Nat) (arg : Word) : (d.push code arg).cc = d.cc := by unfold push; split <;> rfl
@[simp] theorem push_freeIdx (d : Dev) (code : Nat) (arg : Word) : (d.push code arg).freeIdx = d.freeIdx := by unfold push; split <;> rfl

/-! `pushIf` changes the field `mail` at most. -/

@[simp] theorem pushIf_regs (d : Dev) (c : Bool) (code : Nat) (arg : Word) : (d.pushIf c code arg).regs = d.regs := by unfold pushIf; split <;> simp
@[simp] theorem pushIf_host (d : Dev) (c : Bool) (code : Nat) (arg : Word) : (d.pushIf c code arg).host = d.host := by unfold pushIf; split <;> simp
@[simp] theorem pushIf_arb (d : Dev) (c : Bool) (code : Nat) (arg : Word) : (d.pushIf c code arg).arb = d.arb := by unfold pushIf; split <;> simp
@[simp] theorem pushIf_power (d : Dev) (c : Bool) (code : Nat) (arg : Word) : (d.pushIf c code arg).power = d.power := by unfold pushIf; split <;> simp
@[simp] theorem pushIf_flash (d : Dev) (c : Bool) (code : Nat) (arg : Word) : (d.pushIf c code arg).flash = d.flash := by unfold pushIf; split <;> simp
@[simp] theorem pushIf_journal (d : Dev) (c : Bool) (code : Nat) (arg : Word) : (d.pushIf c code arg).journal = d.journal := by unfold pushIf; split <;> simp
@[simp] theorem pushIf_sup (d : Dev) (c : Bool) (code : Nat) (arg : Word) : (d.pushIf c code arg).sup = d.sup := by unfold pushIf; split <;> simp
@[simp] theorem pushIf_ks (d : Dev) (c : Bool) (code : Nat) (arg : Word) : (d.pushIf c code arg).ks = d.ks := by unfold pushIf; split <;> simp
@[simp] theorem pushIf_clk (d : Dev) (c : Bool) (code : Nat) (arg : Word) : (d.pushIf c code arg).clk = d.clk := by unfold pushIf; split <;> simp
@[simp] theorem pushIf_eth (d : Dev) (c : Bool) (code : Nat) (arg : Word) : (d.pushIf c code arg).eth = d.eth := by unfold pushIf; split <;> simp
@[simp] theorem pushIf_remote (d : Dev) (c : Bool) (code : Nat) (arg : Word) : (d.pushIf c code arg).remote = d.remote := by unfold pushIf; split <;> simp
@[simp] theorem pushIf_gptp (d : Dev) (c : Bool) (code : Nat) (arg : Word) : (d.pushIf c code arg).gptp = d.gptp := by unfold pushIf; split <;> simp
@[simp] theorem pushIf_streams (d : Dev) (c : Bool) (code : Nat) (arg : Word) : (d.pushIf c code arg).streams = d.streams := by unfold pushIf; split <;> simp
@[simp] theorem pushIf_lintel (d : Dev) (c : Bool) (code : Nat) (arg : Word) : (d.pushIf c code arg).lintel = d.lintel := by unfold pushIf; split <;> simp
@[simp] theorem pushIf_tdm (d : Dev) (c : Bool) (code : Nat) (arg : Word) : (d.pushIf c code arg).tdm = d.tdm := by unfold pushIf; split <;> simp
@[simp] theorem pushIf_route (d : Dev) (c : Bool) (code : Nat) (arg : Word) : (d.pushIf c code arg).route = d.route := by unfold pushIf; split <;> simp
@[simp] theorem pushIf_meas (d : Dev) (c : Bool) (code : Nat) (arg : Word) : (d.pushIf c code arg).meas = d.meas := by unfold pushIf; split <;> simp
@[simp] theorem pushIf_can (d : Dev) (c : Bool) (code : Nat) (arg : Word) : (d.pushIf c code arg).can = d.can := by unfold pushIf; split <;> simp
@[simp] theorem pushIf_gpio (d : Dev) (c : Bool) (code : Nat) (arg : Word) : (d.pushIf c code arg).gpio = d.gpio := by unfold pushIf; split <;> simp
@[simp] theorem pushIf_timers (d : Dev) (c : Bool) (code : Nat) (arg : Word) : (d.pushIf c code arg).timers = d.timers := by unfold pushIf; split <;> simp
@[simp] theorem pushIf_sched (d : Dev) (c : Bool) (code : Nat) (arg : Word) : (d.pushIf c code arg).sched = d.sched := by unfold pushIf; split <;> simp
@[simp] theorem pushIf_tap (d : Dev) (c : Bool) (code : Nat) (arg : Word) : (d.pushIf c code arg).tap = d.tap := by unfold pushIf; split <;> simp
@[simp] theorem pushIf_selfTest (d : Dev) (c : Bool) (code : Nat) (arg : Word) : (d.pushIf c code arg).selfTest = d.selfTest := by unfold pushIf; split <;> simp
@[simp] theorem pushIf_cc (d : Dev) (c : Bool) (code : Nat) (arg : Word) : (d.pushIf c code arg).cc = d.cc := by unfold pushIf; split <;> simp
@[simp] theorem pushIf_freeIdx (d : Dev) (c : Bool) (code : Nat) (arg : Word) : (d.pushIf c code arg).freeIdx = d.freeIdx := by unfold pushIf; split <;> simp

/-! `raiseIf` changes the field `regs` at most. -/

@[simp] theorem raiseIf_host (d : Dev) (c : Bool) (a i : Nat) : (d.raiseIf c a i).host = d.host := by unfold raiseIf; split <;> rfl
@[simp] theorem raiseIf_arb (d : Dev) (c : Bool) (a i : Nat) : (d.raiseIf c a i).arb = d.arb := by unfold raiseIf; split <;> rfl
@[simp] theorem raiseIf_mail (d : Dev) (c : Bool) (a i : Nat) : (d.raiseIf c a i).mail = d.mail := by unfold raiseIf; split <;> rfl
@[simp] theorem raiseIf_power (d : Dev) (c : Bool) (a i : Nat) : (d.raiseIf c a i).power = d.power := by unfold raiseIf; split <;> rfl
@[simp] theorem raiseIf_flash (d : Dev) (c : Bool) (a i : Nat) : (d.raiseIf c a i).flash = d.flash := by unfold raiseIf; split <;> rfl
@[simp] theorem raiseIf_journal (d : Dev) (c : Bool) (a i : Nat) : (d.raiseIf c a i).journal = d.journal := by unfold raiseIf; split <;> rfl
@[simp] theorem raiseIf_sup (d : Dev) (c : Bool) (a i : Nat) : (d.raiseIf c a i).sup = d.sup := by unfold raiseIf; split <;> rfl
@[simp] theorem raiseIf_ks (d : Dev) (c : Bool) (a i : Nat) : (d.raiseIf c a i).ks = d.ks := by unfold raiseIf; split <;> rfl
@[simp] theorem raiseIf_clk (d : Dev) (c : Bool) (a i : Nat) : (d.raiseIf c a i).clk = d.clk := by unfold raiseIf; split <;> rfl
@[simp] theorem raiseIf_eth (d : Dev) (c : Bool) (a i : Nat) : (d.raiseIf c a i).eth = d.eth := by unfold raiseIf; split <;> rfl
@[simp] theorem raiseIf_remote (d : Dev) (c : Bool) (a i : Nat) : (d.raiseIf c a i).remote = d.remote := by unfold raiseIf; split <;> rfl
@[simp] theorem raiseIf_gptp (d : Dev) (c : Bool) (a i : Nat) : (d.raiseIf c a i).gptp = d.gptp := by unfold raiseIf; split <;> rfl
@[simp] theorem raiseIf_streams (d : Dev) (c : Bool) (a i : Nat) : (d.raiseIf c a i).streams = d.streams := by unfold raiseIf; split <;> rfl
@[simp] theorem raiseIf_lintel (d : Dev) (c : Bool) (a i : Nat) : (d.raiseIf c a i).lintel = d.lintel := by unfold raiseIf; split <;> rfl
@[simp] theorem raiseIf_tdm (d : Dev) (c : Bool) (a i : Nat) : (d.raiseIf c a i).tdm = d.tdm := by unfold raiseIf; split <;> rfl
@[simp] theorem raiseIf_route (d : Dev) (c : Bool) (a i : Nat) : (d.raiseIf c a i).route = d.route := by unfold raiseIf; split <;> rfl
@[simp] theorem raiseIf_meas (d : Dev) (c : Bool) (a i : Nat) : (d.raiseIf c a i).meas = d.meas := by unfold raiseIf; split <;> rfl
@[simp] theorem raiseIf_can (d : Dev) (c : Bool) (a i : Nat) : (d.raiseIf c a i).can = d.can := by unfold raiseIf; split <;> rfl
@[simp] theorem raiseIf_gpio (d : Dev) (c : Bool) (a i : Nat) : (d.raiseIf c a i).gpio = d.gpio := by unfold raiseIf; split <;> rfl
@[simp] theorem raiseIf_timers (d : Dev) (c : Bool) (a i : Nat) : (d.raiseIf c a i).timers = d.timers := by unfold raiseIf; split <;> rfl
@[simp] theorem raiseIf_sched (d : Dev) (c : Bool) (a i : Nat) : (d.raiseIf c a i).sched = d.sched := by unfold raiseIf; split <;> rfl
@[simp] theorem raiseIf_tap (d : Dev) (c : Bool) (a i : Nat) : (d.raiseIf c a i).tap = d.tap := by unfold raiseIf; split <;> rfl
@[simp] theorem raiseIf_selfTest (d : Dev) (c : Bool) (a i : Nat) : (d.raiseIf c a i).selfTest = d.selfTest := by unfold raiseIf; split <;> rfl
@[simp] theorem raiseIf_cc (d : Dev) (c : Bool) (a i : Nat) : (d.raiseIf c a i).cc = d.cc := by unfold raiseIf; split <;> rfl
@[simp] theorem raiseIf_freeIdx (d : Dev) (c : Bool) (a i : Nat) : (d.raiseIf c a i).freeIdx = d.freeIdx := by unfold raiseIf; split <;> rfl

/-- A draw of a free value advances the model's own counter and nothing else. -/
@[simp] theorem fresh_regs (d : Dev) : d.fresh.2.regs = d.regs := rfl
@[simp] theorem fresh_host (d : Dev) : d.fresh.2.host = d.host := rfl
@[simp] theorem fresh_arb (d : Dev) : d.fresh.2.arb = d.arb := rfl
@[simp] theorem fresh_mail (d : Dev) : d.fresh.2.mail = d.mail := rfl
@[simp] theorem fresh_power (d : Dev) : d.fresh.2.power = d.power := rfl
@[simp] theorem fresh_flash (d : Dev) : d.fresh.2.flash = d.flash := rfl
@[simp] theorem fresh_journal (d : Dev) : d.fresh.2.journal = d.journal := rfl
@[simp] theorem fresh_sup (d : Dev) : d.fresh.2.sup = d.sup := rfl
@[simp] theorem fresh_ks (d : Dev) : d.fresh.2.ks = d.ks := rfl
@[simp] theorem fresh_clk (d : Dev) : d.fresh.2.clk = d.clk := rfl
@[simp] theorem fresh_eth (d : Dev) : d.fresh.2.eth = d.eth := rfl
@[simp] theorem fresh_remote (d : Dev) : d.fresh.2.remote = d.remote := rfl
@[simp] theorem fresh_gptp (d : Dev) : d.fresh.2.gptp = d.gptp := rfl
@[simp] theorem fresh_streams (d : Dev) : d.fresh.2.streams = d.streams := rfl
@[simp] theorem fresh_lintel (d : Dev) : d.fresh.2.lintel = d.lintel := rfl
@[simp] theorem fresh_tdm (d : Dev) : d.fresh.2.tdm = d.tdm := rfl
@[simp] theorem fresh_route (d : Dev) : d.fresh.2.route = d.route := rfl
@[simp] theorem fresh_meas (d : Dev) : d.fresh.2.meas = d.meas := rfl
@[simp] theorem fresh_can (d : Dev) : d.fresh.2.can = d.can := rfl
@[simp] theorem fresh_gpio (d : Dev) : d.fresh.2.gpio = d.gpio := rfl
@[simp] theorem fresh_timers (d : Dev) : d.fresh.2.timers = d.timers := rfl
@[simp] theorem fresh_sched (d : Dev) : d.fresh.2.sched = d.sched := rfl
@[simp] theorem fresh_tap (d : Dev) : d.fresh.2.tap = d.tap := rfl
@[simp] theorem fresh_selfTest (d : Dev) : d.fresh.2.selfTest = d.selfTest := rfl
@[simp] theorem fresh_cc (d : Dev) : d.fresh.2.cc = d.cc := rfl

/-! An update that leaves the field `regs` leaves every register word. -/

@[simp] theorem modArb_reg (d : Dev) (f : Arbiter → Arbiter) (x : Nat) : (d.modArb f).reg x = d.reg x := rfl
@[simp] theorem modMb_reg (d : Dev) (k : Fin 2) (f : Mailbox → Mailbox) (x : Nat) : (d.modMb k f).reg x = d.reg x := rfl
@[simp] theorem modJournal_reg (d : Dev) (f : Journal → Journal) (x : Nat) : (d.modJournal f).reg x = d.reg x := rfl
@[simp] theorem modKs_reg (d : Dev) (f : Keystone → Keystone) (x : Nat) : (d.modKs f).reg x = d.reg x := rfl
@[simp] theorem modPort_reg (d : Dev) (p : Fin 3) (f : EthPort → EthPort) (x : Nat) : (d.modPort p f).reg x = d.reg x := rfl
@[simp] theorem modLink_reg (d : Dev) (p : Fin 3) (f : PortLink → PortLink) (x : Nat) : (d.modLink p f).reg x = d.reg x := rfl
@[simp] theorem modTraffic_reg (d : Dev) (p : Fin 3) (f : PortTraffic → PortTraffic) (x : Nat) : (d.modTraffic p f).reg x = d.reg x := rfl
@[simp] theorem modGptp_reg (d : Dev) (p : Fin 3) (f : Gptp → Gptp) (x : Nat) : (d.modGptp p f).reg x = d.reg x := rfl
@[simp] theorem modStreams_reg (d : Dev) (f : StreamEngine → StreamEngine) (x : Nat) : (d.modStreams f).reg x = d.reg x := rfl
@[simp] theorem modListener_reg (d : Dev) (i : Fin 16) (f : Listener → Listener) (x : Nat) : (d.modListener i f).reg x = d.reg x := rfl
@[simp] theorem modTalker_reg (d : Dev) (i : Fin 8) (f : Talker → Talker) (x : Nat) : (d.modTalker i f).reg x = d.reg x := rfl
@[simp] theorem modGroup_reg (d : Dev) (g : Fin 8) (f : Group → Group) (x : Nat) : (d.modGroup g f).reg x = d.reg x := rfl
@[simp] theorem modTdm_reg (d : Dev) (p : Fin 4) (f : TdmPort → TdmPort) (x : Nat) : (d.modTdm p f).reg x = d.reg x := rfl
@[simp] theorem modRoute_reg (d : Dev) (f : Route → Route) (x : Nat) : (d.modRoute f).reg x = d.reg x := rfl
@[simp] theorem modDest_reg (d : Dev) (k : Fin 64) (f : Dest → Dest) (x : Nat) : (d.modDest k f).reg x = d.reg x := rfl
@[simp] theorem modMeas_reg (d : Dev) (f : Meas → Meas) (x : Nat) : (d.modMeas f).reg x = d.reg x := rfl
@[simp] theorem modSpeaker_reg (d : Dev) (k : Fin 16) (f : Speaker → Speaker) (x : Nat) : (d.modSpeaker k f).reg x = d.reg x := rfl
@[simp] theorem modAmp_reg (d : Dev) (k : Fin 4) (f : Amp → Amp) (x : Nat) : (d.modAmp k f).reg x = d.reg x := rfl
@[simp] theorem modCan_reg (d : Dev) (f : Can → Can) (x : Nat) : (d.modCan f).reg x = d.reg x := rfl
@[simp] theorem modObj_reg (d : Dev) (n : Fin 32) (f : CanObj → CanObj) (x : Nat) : (d.modObj n f).reg x = d.reg x := rfl
@[simp] theorem modUds_reg (d : Dev) (f : Uds → Uds) (x : Nat) : (d.modUds f).reg x = d.reg x := rfl
@[simp] theorem modGpio_reg (d : Dev) (f : Gpio → Gpio) (x : Nat) : (d.modGpio f).reg x = d.reg x := rfl
@[simp] theorem modPin_reg (d : Dev) (p : Fin 37) (f : GpioPin → GpioPin) (x : Nat) : (d.modPin p f).reg x = d.reg x := rfl
@[simp] theorem modTmr_reg (d : Dev) (n : Fin 4) (f : TimerCh → TimerCh) (x : Nat) : (d.modTmr n f).reg x = d.reg x := rfl
@[simp] theorem modSched_reg (d : Dev) (e : Fin 32) (f : SchedEntry → SchedEntry) (x : Nat) : (d.modSched e f).reg x = d.reg x := rfl
@[simp] theorem modTap_reg (d : Dev) (f : Tap → Tap) (x : Nat) : (d.modTap f).reg x = d.reg x := rfl
@[simp] theorem modBus_reg (d : Dev) (b : Fin 2) (f : Bus → Bus) (x : Nat) : (d.modBus b f).reg x = d.reg x := rfl
@[simp] theorem fresh_reg (d : Dev) (x : Nat) : d.fresh.2.reg x = d.reg x := rfl
@[simp] theorem push_reg (d : Dev) (code : Nat) (arg : Word) (x : Nat) : (d.push code arg).reg x = d.reg x := by unfold push; split <;> rfl
@[simp] theorem pushIf_reg (d : Dev) (c : Bool) (code : Nat) (arg : Word) (x : Nat) : (d.pushIf c code arg).reg x = d.reg x := by unfold pushIf; split <;> simp

/-! The field an update changes. -/

@[simp] theorem modArb_arb (d : Dev) (f : Arbiter → Arbiter) : (d.modArb f).arb = f d.arb := rfl
@[simp] theorem modMb_mail (d : Dev) (k : Fin 2) (f : Mailbox → Mailbox) : (d.modMb k f).mail = { d.mail with mb := upd d.mail.mb k f } := rfl
@[simp] theorem modJournal_journal (d : Dev) (f : Journal → Journal) : (d.modJournal f).journal = f d.journal := rfl
@[simp] theorem modKs_ks (d : Dev) (f : Keystone → Keystone) : (d.modKs f).ks = f d.ks := rfl
@[simp] theorem modPort_eth (d : Dev) (p : Fin 3) (f : EthPort → EthPort) : (d.modPort p f).eth = upd d.eth p f := rfl
@[simp] theorem modLink_eth (d : Dev) (p : Fin 3) (f : PortLink → PortLink) : (d.modLink p f).eth = upd d.eth p fun e => { e with link := f e.link } := rfl
@[simp] theorem modTraffic_eth (d : Dev) (p : Fin 3) (f : PortTraffic → PortTraffic) : (d.modTraffic p f).eth = upd d.eth p fun e => { e with traffic := f e.traffic } := rfl
@[simp] theorem modGptp_gptp (d : Dev) (p : Fin 3) (f : Gptp → Gptp) : (d.modGptp p f).gptp = upd d.gptp p f := rfl
@[simp] theorem modStreams_streams (d : Dev) (f : StreamEngine → StreamEngine) : (d.modStreams f).streams = f d.streams := rfl
@[simp] theorem modListener_streams (d : Dev) (i : Fin 16) (f : Listener → Listener) : (d.modListener i f).streams = { d.streams with listeners := upd d.streams.listeners i f } := rfl
@[simp] theorem modTalker_streams (d : Dev) (i : Fin 8) (f : Talker → Talker) : (d.modTalker i f).streams = { d.streams with talkers := upd d.streams.talkers i f } := rfl
@[simp] theorem modGroup_lintel (d : Dev) (g : Fin 8) (f : Group → Group) : (d.modGroup g f).lintel = { d.lintel with groups := upd d.lintel.groups g f } := rfl
@[simp] theorem modTdm_tdm (d : Dev) (p : Fin 4) (f : TdmPort → TdmPort) : (d.modTdm p f).tdm = upd d.tdm p f := rfl
@[simp] theorem modRoute_route (d : Dev) (f : Route → Route) : (d.modRoute f).route = f d.route := rfl
@[simp] theorem modDest_route (d : Dev) (k : Fin 64) (f : Dest → Dest) : (d.modDest k f).route = { d.route with dests := upd d.route.dests k f } := rfl
@[simp] theorem modMeas_meas (d : Dev) (f : Meas → Meas) : (d.modMeas f).meas = f d.meas := rfl
@[simp] theorem modSpeaker_meas (d : Dev) (k : Fin 16) (f : Speaker → Speaker) : (d.modSpeaker k f).meas = { d.meas with speakers := upd d.meas.speakers k f } := rfl
@[simp] theorem modAmp_meas (d : Dev) (k : Fin 4) (f : Amp → Amp) : (d.modAmp k f).meas = { d.meas with amps := upd d.meas.amps k f } := rfl
@[simp] theorem modBus_meas (d : Dev) (b : Fin 2) (f : Bus → Bus) : (d.modBus b f).meas = { d.meas with buses := upd d.meas.buses b f } := rfl
@[simp] theorem modCan_can (d : Dev) (f : Can → Can) : (d.modCan f).can = f d.can := rfl
@[simp] theorem modObj_can (d : Dev) (n : Fin 32) (f : CanObj → CanObj) : (d.modObj n f).can = { d.can with objs := upd d.can.objs n f } := rfl
@[simp] theorem modUds_can (d : Dev) (f : Uds → Uds) : (d.modUds f).can = { d.can with uds := f d.can.uds } := rfl
@[simp] theorem modGpio_gpio (d : Dev) (f : Gpio → Gpio) : (d.modGpio f).gpio = f d.gpio := rfl
@[simp] theorem modPin_gpio (d : Dev) (p : Fin 37) (f : GpioPin → GpioPin) : (d.modPin p f).gpio = { d.gpio with pins := upd d.gpio.pins p f } := rfl
@[simp] theorem modTmr_timers (d : Dev) (n : Fin 4) (f : TimerCh → TimerCh) : (d.modTmr n f).timers = { d.timers with ch := upd d.timers.ch n f } := rfl
@[simp] theorem modSched_sched (d : Dev) (e : Fin 32) (f : SchedEntry → SchedEntry) : (d.modSched e f).sched = upd d.sched e f := rfl
@[simp] theorem modTap_tap (d : Dev) (f : Tap → Tap) : (d.modTap f).tap = f d.tap := rfl
@[simp] theorem modBus_regs (d : Dev) (b : Fin 2) (f : Bus → Bus) : (d.modBus b f).regs = d.regs := rfl
@[simp] theorem modBus_host (d : Dev) (b : Fin 2) (f : Bus → Bus) : (d.modBus b f).host = d.host := rfl
@[simp] theorem modBus_arb (d : Dev) (b : Fin 2) (f : Bus → Bus) : (d.modBus b f).arb = d.arb := rfl
@[simp] theorem modBus_mail (d : Dev) (b : Fin 2) (f : Bus → Bus) : (d.modBus b f).mail = d.mail := rfl
@[simp] theorem modBus_power (d : Dev) (b : Fin 2) (f : Bus → Bus) : (d.modBus b f).power = d.power := rfl
@[simp] theorem modBus_flash (d : Dev) (b : Fin 2) (f : Bus → Bus) : (d.modBus b f).flash = d.flash := rfl
@[simp] theorem modBus_journal (d : Dev) (b : Fin 2) (f : Bus → Bus) : (d.modBus b f).journal = d.journal := rfl
@[simp] theorem modBus_sup (d : Dev) (b : Fin 2) (f : Bus → Bus) : (d.modBus b f).sup = d.sup := rfl
@[simp] theorem modBus_ks (d : Dev) (b : Fin 2) (f : Bus → Bus) : (d.modBus b f).ks = d.ks := rfl
@[simp] theorem modBus_clk (d : Dev) (b : Fin 2) (f : Bus → Bus) : (d.modBus b f).clk = d.clk := rfl
@[simp] theorem modBus_eth (d : Dev) (b : Fin 2) (f : Bus → Bus) : (d.modBus b f).eth = d.eth := rfl
@[simp] theorem modBus_remote (d : Dev) (b : Fin 2) (f : Bus → Bus) : (d.modBus b f).remote = d.remote := rfl
@[simp] theorem modBus_gptp (d : Dev) (b : Fin 2) (f : Bus → Bus) : (d.modBus b f).gptp = d.gptp := rfl
@[simp] theorem modBus_streams (d : Dev) (b : Fin 2) (f : Bus → Bus) : (d.modBus b f).streams = d.streams := rfl
@[simp] theorem modBus_lintel (d : Dev) (b : Fin 2) (f : Bus → Bus) : (d.modBus b f).lintel = d.lintel := rfl
@[simp] theorem modBus_tdm (d : Dev) (b : Fin 2) (f : Bus → Bus) : (d.modBus b f).tdm = d.tdm := rfl
@[simp] theorem modBus_route (d : Dev) (b : Fin 2) (f : Bus → Bus) : (d.modBus b f).route = d.route := rfl
@[simp] theorem modBus_can (d : Dev) (b : Fin 2) (f : Bus → Bus) : (d.modBus b f).can = d.can := rfl
@[simp] theorem modBus_gpio (d : Dev) (b : Fin 2) (f : Bus → Bus) : (d.modBus b f).gpio = d.gpio := rfl
@[simp] theorem modBus_timers (d : Dev) (b : Fin 2) (f : Bus → Bus) : (d.modBus b f).timers = d.timers := rfl
@[simp] theorem modBus_sched (d : Dev) (b : Fin 2) (f : Bus → Bus) : (d.modBus b f).sched = d.sched := rfl
@[simp] theorem modBus_tap (d : Dev) (b : Fin 2) (f : Bus → Bus) : (d.modBus b f).tap = d.tap := rfl
@[simp] theorem modBus_selfTest (d : Dev) (b : Fin 2) (f : Bus → Bus) : (d.modBus b f).selfTest = d.selfTest := rfl
@[simp] theorem modBus_cc (d : Dev) (b : Fin 2) (f : Bus → Bus) : (d.modBus b f).cc = d.cc := rfl
@[simp] theorem modBus_freeIdx (d : Dev) (b : Fin 2) (f : Bus → Bus) : (d.modBus b f).freeIdx = d.freeIdx := rfl

end Dev

/-- An entry of a table after an update. -/
theorem upd_get {α : Type} {n : Nat} (v : Vector α n) (i j : Fin n) (f : α → α) :
    (upd v i f)[j] = if i = j then f v[i] else v[j] := by
  simp only [upd, Fin.getElem_fin, Vector.getElem_set, Fin.ext_iff]

/-- The entry updated. -/
@[simp] theorem upd_same {α : Type} {n : Nat} (v : Vector α n) (i : Fin n) (f : α → α) : (upd v i f)[i] = f v[i] := by
  rw [upd_get, if_pos rfl]

/-- Another entry. -/
theorem upd_other {α : Type} {n : Nat} (v : Vector α n) {i j : Fin n} (h : i ≠ j) (f : α → α) : (upd v i f)[j] = v[j] := by
  rw [upd_get, if_neg h]

namespace Dev


end Dev
end Sys2Proof.Machine
end

