-- ==== Sys2Proof/Laws/Regs.lean ====
section
/-! SUPPORT.
The stored register words: a read after a write, by word, field and bit; and what a reset source leaves. -/

namespace Sys2Proof.Machine

/-! ### Fields of a word -/

/-- A bit of a field's mask. -/
theorem maskOf_bit (hi lo i : Nat) (h : hi < 32) : (maskOf hi lo).getLsbD i = decide (lo ≤ i ∧ i ≤ hi) := by
  unfold maskOf w32
  rw [BitVec.getLsbD_ofNat, Nat.testBit_shiftLeft, Nat.testBit_two_pow_sub_one]
  by_cases h1 : lo ≤ i ∧ i ≤ hi
  · simp [h1]; omega
  · rw [decide_eq_false h1]; simp; omega

/-- A bit of a number placed at a place of a word. -/
theorem at_bit (lo v i : Nat) : (at' lo v).getLsbD i = (decide (i < 32) && (decide (lo ≤ i) && v.testBit (i - lo))) := by
  unfold at' w32
  rw [BitVec.getLsbD_ofNat, Nat.testBit_shiftLeft]

/-- A bit of a word after a field is replaced. -/
theorem setFld_bit (w : Word) (hi lo v i : Nat) (h : hi < 32) :
    (setFld w hi lo v).getLsbD i = if lo ≤ i ∧ i ≤ hi then v.testBit (i - lo) else w.getLsbD i := by
  unfold setFld
  rw [BitVec.getLsbD_or, BitVec.getLsbD_and, BitVec.getLsbD_and, BitVec.getLsbD_not, maskOf_bit hi lo i h, at_bit]
  by_cases h1 : lo ≤ i ∧ i ≤ hi
  · rw [if_pos h1, decide_eq_true h1]; have : i < 32 := by omega
    simp [this, h1.1]
  · rw [if_neg h1, decide_eq_false h1]
    by_cases h32 : i < 32
    · simp [h32]
    · simp [h32, BitVec.getLsbD_of_ge w i (by omega)]

/-- A field as a number, bit by bit. -/
theorem fld_testBit (w : Word) (hi lo i : Nat) : (fld w hi lo).testBit i = (decide (i < hi + 1 - lo) && w.getLsbD (lo + i)) := by
  unfold fld
  rw [Nat.testBit_mod_two_pow, Nat.testBit_shiftRight, BitVec.getLsbD]

/-- A field just replaced reads as the number placed, as far as it fits. -/
theorem fld_setFld (w : Word) (hi lo v : Nat) (h : hi < 32) : fld (setFld w hi lo v) hi lo = v % 2 ^ (hi + 1 - lo) := by
  apply Nat.eq_of_testBit_eq
  intro i
  rw [fld_testBit, setFld_bit w hi lo v _ h, Nat.testBit_mod_two_pow]
  by_cases hb : i < hi + 1 - lo
  · rw [if_pos ⟨by omega, by omega⟩]; simp [hb]
  · simp [hb]

/-- A field apart from the one replaced. -/
theorem fld_setFld_other (w : Word) (hi lo v hi' lo' : Nat) (h : hi < 32) (hd : hi' < lo ∨ hi < lo') :
    fld (setFld w hi lo v) hi' lo' = fld w hi' lo' := by
  apply Nat.eq_of_testBit_eq
  intro i
  rw [fld_testBit, fld_testBit]
  by_cases hb : i < hi' + 1 - lo'
  · rw [setFld_bit w hi lo v _ h, if_neg (by omega)]
  · simp [hb]

/-- A flag placed at a bit. -/
theorem bitW_bit (i j : Nat) (b : Bool) (h : i < 32) : (bitW i b).getLsbD j = (b && decide (i = j)) := by
  unfold bitW
  cases b
  · simp
  · simp only [if_true, w32, BitVec.getLsbD_ofNat, Nat.testBit_shiftLeft]
    by_cases hj : i = j
    · subst hj; simp [h]
    · by_cases hj' : i ≤ j
      · have : j - i ≠ 0 := by omega
        simp [hj, Nat.testBit_one_eq_true_iff_self_eq_zero.not.mpr this]
      · simp [hj, hj']

namespace Dev

/-! ### The register file -/

/-- A stored word after a word is stored. -/
theorem reg_setReg (d : Dev) {a : Nat} (h : a / 4 < 256) (b : Nat) (w : Word) :
    (d.setReg a w).reg b = if a / 4 = b / 4 then w else d.reg b := by
  unfold reg setReg
  simp only [Vector.getElem?_setIfInBounds]
  split
  · simp
  · rfl

/-- The word just stored. -/
theorem reg_setReg_same (d : Dev) {a : Nat} (h : a / 4 < 256) (w : Word) : (d.setReg a w).reg a = w := by
  rw [reg_setReg d h, if_pos rfl]

/-- Another word. -/
theorem reg_setReg_other (d : Dev) {a b : Nat} (h : a / 4 < 256) (hne : a / 4 ≠ b / 4) (w : Word) :
    (d.setReg a w).reg b = d.reg b := by
  rw [reg_setReg d h, if_neg hne]

/-- The word of a field just stored. -/
theorem reg_setRfld (d : Dev) {a : Nat} (h : a / 4 < 256) (hi lo v b : Nat) :
    (d.setRfld a hi lo v).reg b = if a / 4 = b / 4 then setFld (d.reg a) hi lo v else d.reg b := reg_setReg d h b _

/-- Another word than that of a field stored. -/
theorem reg_setRfld_other (d : Dev) {a b : Nat} (h : a / 4 < 256) (hne : a / 4 ≠ b / 4) (hi lo v : Nat) :
    (d.setRfld a hi lo v).reg b = d.reg b := reg_setReg_other d h hne _

/-- Another word than that of a bit stored. -/
theorem reg_setRbit_other (d : Dev) {a b : Nat} (h : a / 4 < 256) (hne : a / 4 ≠ b / 4) (i : Nat) (v : Bool) :
    (d.setRbit a i v).reg b = d.reg b := reg_setReg_other d h hne _

/-- Another word than that of flags set by hardware. -/
theorem reg_raise_other (d : Dev) {a b : Nat} (h : a / 4 < 256) (hne : a / 4 ≠ b / 4) (m : Word) :
    (d.raise a m).reg b = d.reg b := reg_setReg_other d h hne _

/-- Another word than that of a flag set by hardware. -/
theorem reg_raiseBit_other (d : Dev) {a b : Nat} (h : a / 4 < 256) (hne : a / 4 ≠ b / 4) (i : Nat) :
    (d.raiseBit a i).reg b = d.reg b := reg_setReg_other d h hne _

/-- A field just stored. -/
theorem rfld_setRfld (d : Dev) {a : Nat} (h : a / 4 < 256) (hi lo v : Nat) (hh : hi < 32) :
    (d.setRfld a hi lo v).rfld a hi lo = v % 2 ^ (hi + 1 - lo) := by
  unfold rfld; rw [reg_setRfld d h, if_pos rfl, fld_setFld _ _ _ _ hh]

/-- A stored word after flags are set by hardware. -/
theorem reg_raise (d : Dev) {a : Nat} (h : a / 4 < 256) (m : Word) (b : Nat) :
    (d.raise a m).reg b = if a / 4 = b / 4 then d.reg a ||| m else d.reg b := reg_setReg d h b _

/-- A stored word after one flag is set by hardware. -/
theorem reg_raiseBit (d : Dev) {a : Nat} (h : a / 4 < 256) (i b : Nat) :
    (d.raiseBit a i).reg b = if a / 4 = b / 4 then d.reg a ||| bitW i true else d.reg b := reg_setReg d h b _

/-- The flag that hardware has set. -/
theorem rbit_raiseBit (d : Dev) {a : Nat} (h : a / 4 < 256) {i : Nat} (hi : i < 32) : (d.raiseBit a i).rbit a i = true := by
  unfold rbit; rw [reg_raiseBit d h, if_pos rfl, BitVec.getLsbD_or, bitW_bit _ _ _ hi]; simp

/-- A device put together of fields: its register words are those of its register file. -/
theorem reg_mk (regs : Vector Word 256) (host : HostPort) (arb : Arbiter) (mail : Mail) (power : Power) (flash : Flash)
    (journal : Journal) (sup : Supervisor) (ks : Keystone) (clk : ClkLatch) (eth : Vector EthPort 3) (remote : Remote)
    (gptp : Vector Gptp 3) (streams : StreamEngine) (lintel : Lintel) (tdm : Vector TdmPort 4) (route : Route) (meas : Meas)
    (can : Can) (gpio : Gpio) (timers : Timers) (sched : Vector SchedEntry 32) (tap : Tap) (selfTest : SelfTest)
    (cc freeIdx a : Nat) :
    (Dev.mk regs host arb mail power flash journal sup ks clk eth remote gptp streams lintel tdm route meas can gpio
      timers sched tap selfTest cc freeIdx).reg a = regs[a / 4]?.getD 0 := rfl

/-- A word of the register file. -/
theorem regs_word (d : Dev) (a : Nat) : d.regs[a / 4]?.getD 0 = d.reg a := rfl

/-- No other field of the device is a register word: the same words read. -/
theorem reg_congr {d e : Dev} (h : d.regs = e.regs) (a : Nat) : d.reg a = e.reg a := by
  unfold reg; rw [h]

/-! ### What a reset source leaves (R68) -/

theorem resetDev_power (d : Dev) (c : Cause) : (d.resetDev c).power = { resetPower with
    state := .off, porAsserted := d.power.porAsserted, rstLow := d.power.rstLow, pllLost := d.power.pllLost } := by
  cases c <;> simp [resetDev, Cause.clearsRws]
theorem resetDev_tap (d : Dev) (c : Cause) : (d.resetDev c).tap = d.tap := by
  cases c <;> simp [resetDev, Cause.clearsRws]
theorem resetDev_flash (d : Dev) (c : Cause) : (d.resetDev c).flash = d.flash.afterReset d.journal := by
  cases c <;> simp [resetDev, Cause.clearsRws]
theorem resetDev_journal (d : Dev) (c : Cause) : (d.resetDev c).journal = d.journal.afterReset := by
  cases c <;> simp [resetDev, Cause.clearsRws]
theorem resetDev_meas (d : Dev) (c : Cause) :
    (d.resetDev c).meas = { resetMeas with store := d.meas.store, cycle := d.meas.cycle } := by
  cases c <;> simp [resetDev, Cause.clearsRws]
/-- Every other block holds its reset value. -/
theorem resetDev_blocks (d : Dev) (c : Cause) :
    (d.resetDev c).host = resetHost ∧ (d.resetDev c).arb = resetArb ∧ (d.resetDev c).mail = resetMail ∧
    (d.resetDev c).sup = resetSup ∧ (d.resetDev c).ks = resetKs ∧ (d.resetDev c).eth = Vector.replicate 3 resetEth ∧
    (d.resetDev c).remote = resetRemote ∧ (d.resetDev c).gptp = Vector.replicate 3 resetGptp ∧
    (d.resetDev c).streams = resetStreams ∧ (d.resetDev c).lintel = resetLintel ∧
    (d.resetDev c).tdm = Vector.replicate 4 resetTdm ∧ (d.resetDev c).route = resetRoute ∧
    (d.resetDev c).can = resetCan ∧ (d.resetDev c).gpio = resetGpio ∧
    (d.resetDev c).timers = ⟨Vector.replicate 4 .reset, false, 0, []⟩ ∧
    (d.resetDev c).sched = Vector.replicate 32 .reset ∧ (d.resetDev c).selfTest = ⟨none, 0, 0, 0, 0⟩ ∧
    (d.resetDev c).cc = 0 := by
  cases c <;> simp [resetDev, Cause.clearsRws, Dev.initial]

/-- The register words after a reset source: PWR_RESET_CAUSE, the RWS flags it does not clear, and
every other word at its reset value. -/
theorem resetDev_reg (d : Dev) (c : Cause) (a : Nat) :
    (d.resetDev c).reg a =
      if Reg.PWR_RESET_CAUSE / 4 = a / 4 then (if d.power.state = .off then d.reg Reg.PWR_RESET_CAUSE else 0) ||| bitW c.bit true
      else if c.clearsRws = false ∧ Reg.PWR_STICKY / 4 = a / 4 then d.reg Reg.PWR_STICKY
      else if c.clearsRws = false ∧ Reg.SYS_FAULT / 4 = a / 4 then d.reg Reg.SYS_FAULT
      else Dev.initial.reg a := by
  unfold resetDev
  rw [reg_setReg _ (by decide)]
  split
  · rfl
  · cases hc : c.clearsRws
    · simp only [Bool.false_eq_true, if_false, true_and]
      rw [reg_setReg _ (by decide)]
      split
      · rfl
      · rw [reg_setReg _ (by decide)]; rfl
    · simp only [if_true, Bool.true_eq_false, false_and, if_false]; rfl

end Dev
end Sys2Proof.Machine
end

