-- ==== Sys2Proof/Laws/Service.lean ====
section
/-! SUPPORT.
What the shared operations of the rows do: a row's effect on the device, the guards of the device
states, and the service of one command. -/

namespace Sys2Proof.Machine

/-- A row changes the device alone. -/
theorem State.act_eq (s : State) (f : Dev → Dev) : s.act f = .next { s with dev := f s.dev } := rfl

namespace Dev

/-- A block with a clock acts. -/
theorem awake_act {d : Dev} (h : d.Awake) (f : Dev → Dev) : d.awake f = f d := by
  unfold awake; exact if_neg (not_or.mpr h)

/-- Keystone and the grid act where they run. -/
theorem runs_act {d : Dev} (h : d.Runs) (f : Dev → Dev) : d.runs f = f d := if_pos h

/-- Elsewhere they rest. -/
theorem runs_rest {d : Dev} (h : ¬ d.Runs) (f : Dev → Dev) : d.runs f = d := if_neg h

/-- The device that runs is awake. -/
theorem Runs.awake {d : Dev} (h : d.Runs) : d.Awake := by
  rcases h with h | h <;> simp [Awake, h]

/-- A block out of reset acts. -/
theorem powered_act {d : Dev} (h : d.Powered) (f : Dev → Dev) : d.powered f = f d := if_neg h

/-- A block with no clock rests. -/
theorem awake_rest {d : Dev} (h : d.power.state = .off ∨ d.power.state = .quiet) (f : Dev → Dev) : d.awake f = d := if_pos h

/-- In OFF nothing of a block acts. -/
theorem powered_rest {d : Dev} (h : d.power.state = .off) (f : Dev → Dev) : d.powered f = d := if_pos h

/-- In OFF the host's slave does not answer (R41). -/
theorem hostGuard_rest {d : Dev} (h : d.power.state = .off) (a : Nat) (f : Dev → Dev) : d.hostGuard a f = d := if_pos h

/-- In OFF the host writes nothing. -/
theorem hostWrite_rest {d : Dev} (h : d.power.state = .off) (a : Nat) (w : Word) : d.hostWrite a w = d := if_pos h

/-- In OFF the host reads nothing. -/
theorem hostRead_rest {d : Dev} (h : d.power.state = .off) (a : Nat) (full : Bool) : d.hostRead a full = d := if_pos h

/-- Where Ouvoso does not serve, a command is neither served nor answered. -/
theorem serveWith_rest {d : Dev} (h : d.serving = false) (src : Source) (op : Nat) (req : Request) (f : CmdSpec → CmdFn) :
    answer (d.serveWith src op req f) src = d := by simp [serveWith, h, answer]

/-- Where Ouvoso does not serve, a command row changes nothing. -/
theorem serve_rest {d : Dev} (h : d.serving = false) (src : Source) (op : Nat) (req : Request) : d.serve src op req = d :=
  serveWith_rest h src op req _

/-- The awake device is out of reset. -/
theorem Awake.powered {d : Dev} (h : d.Awake) : d.Powered := h.1

/-- The slave takes a write where the device state turns none away. -/
theorem hostGuard_act {d : Dev} (h : d.Writable) (a : Nat) (f : Dev → Dev) : d.hostGuard a f = f d := by
  unfold hostGuard; rw [if_neg h.1, if_neg]; exact fun x => h.2 x.1

/-- The slave takes a write of PROOF_HOLD's list. -/
theorem hostGuard_hold {d : Dev} (h : d.Powered) {a : Nat} (ha : a < 0x8000) (ok : holdAccepts a = true) (f : Dev → Dev) :
    d.hostGuard a f = f d := by
  unfold hostGuard; rw [if_neg h, if_neg]; simp [ha, ok]

/-- A write at an aligned address of a register that a chapter lays out. -/
theorem hostWrite_reg {d : Dev} (h : d.Writable) {a : Nat} {r : RegInfo} (ha : a < 0x400) (hr : regInfo a = some r) (w : Word) :
    d.hostWrite a w = d.regStore r w := by
  unfold hostWrite; rw [hostGuard_act h]; simp [writeEffect, ha, hr]

/-- A request that Ouvoso takes up passes the shared checks. -/
theorem serveCheck_ok {d : Dev} {src : Source} {op : Nat} {req : Request} {c : CmdSpec} (h : d.TakesUp src op req)
    (hc : cmdSpec op = some c) : d.serveCheck src op req = .ok c := by
  obtain ⟨ha, hl, c', hc', ht, hu, hf⟩ := h
  obtain rfl : c = c' := by simpa [hc] using hc'
  have hmb : ¬ (src = .mb1 ∧ ¬ c.urgent = true) := fun x => x.2 (hu x.1)
  simp [serveCheck, ha, hc, ht, hf, hl]
  intro hs; exact hu hs

/-- What a served command comes to, by the result of its effect. -/
theorem serve_run {d : Dev} {src : Source} {op : Nat} {req : Request} {c : CmdSpec} (h : d.TakesUp src op req)
    (hc : cmdSpec op = some c) : d.serve src op req = answer (d.settle src op req (c.run src req d)) src := by
  have : d.serving = true := by simp [serving, h.1]
  simp [serve, serveCore, serveWith, this, serveCheck_ok h hc]

/-- A command that completes is answered, where R81 withholds none of its records. -/
theorem serve_done {d d' : Dev} {src : Source} {op : Nat} {req : Request} {c : CmdSpec} {acc : Bool} {detail : Nat}
    {payload : List Word} {items : List JItem} (h : d.TakesUp src op req) (hc : cmdSpec op = some c)
    (hr : c.run src req d = .done acc detail payload items d') (hp : items = [] ∨ d.flashPermitted = true)
    (ho : op ≠ 0x0102) : d.serve src op req = d'.answered src op req acc detail payload items := by
  rw [serve_run h hc, hr]
  have hw : (!items.isEmpty && !d.flashPermitted) = false := by
    rcases hp with rfl | hp <;> simp_all
  have ho' : (op == 258) = false := by simpa using ho
  simp [settle, hw, ho', answer, answered]

/-- A command answered by the event that ends it changes the device and is not answered yet. -/
theorem serve_later {d d' : Dev} {src : Source} {op : Nat} {req : Request} {c : CmdSpec} {items : List JItem}
    (h : d.TakesUp src op req) (hc : cmdSpec op = some c) (hr : c.run src req d = .later items d')
    (hp : items = [] ∨ d.flashPermitted = true) : d.serve src op req = d'.journalAdd items := by
  rw [serve_run h hc, hr]
  have hw : (!items.isEmpty && !d.flashPermitted) = false := by
    rcases hp with rfl | hp <;> simp_all
  simp [settle, hw, answer]

/-- A refusal has no effect but on LAST_REFUSED, and is answered (R139). -/
theorem serve_refuse {d : Dev} {src : Source} {op : Nat} {req : Request} {c : CmdSpec} {st : Status} {detail : Nat}
    {payload : List Word} (h : d.TakesUp src op req) (hc : cmdSpec op = some c)
    (hr : c.run src req d = .refuse st detail payload) :
    d.serve src op req = answer (d.refused op req.tag st.code detail payload) src := by
  rw [serve_run h hc, hr]; rfl

end Dev
end Sys2Proof.Machine
end

