-- ==== Sys2Proof/Machine/Pads.lean ====
section
/-! DEFINITION.
The pins outside the general-purpose block, as an observer sees them: the states of Table 2.4 by state
set (R40, R41), HIRQ_N, and the format in which the TDM clocks run (R42, R257). -/

namespace Sys2Proof.Machine

/-- The state sets of Table 2.4. -/
inductive PinSet where
  | osc | analog | resetIn | jtagPu | jtagPd | jtagOut | spiIn | spiSel | spiOut | irqOut | canTx | canRx | faultIn
  | muteOut | i2cLine | gpioIn | mdioClk | mdioData | ethTx | ethRx | tdmClk | tdmOut | tdmIn
  deriving DecidableEq, Repr

/-- What Table 2.4 gives a pin. `function`: what the function that owns the pin does; `sleep`: the sleep state
programmed for it; `holdFormat`: the clocks of R42. -/
inductive PadState where
  | running | sampled | notSampled | input | ignored | watched | inputUp | inputDown | captureOff | highZ | highZUp | highZDown
  | released | low | high | holdFormat | sleep | function
  deriving DecidableEq, Repr

/-- A row of Table 2.4: the states in reset, PROOF, PROOF_HOLD and QUIET. -/
structure PinRow where
  reset : PadState
  proof : PadState
  hold : PadState
  quiet : PadState
  deriving DecidableEq, Repr

/-- The rows of Table 2.4. SPI_OUT is that of HCS_N high. -/
def PinSet.row : PinSet → PinRow
  | .osc => ⟨.running, .running, .running, .running⟩
  | .analog => ⟨.notSampled, .sampled, .sampled, .sampled⟩
  | .resetIn | .jtagPu | .spiSel => ⟨.inputUp, .inputUp, .inputUp, .inputUp⟩
  | .jtagPd | .spiIn | .tdmIn => ⟨.inputDown, .inputDown, .inputDown, .inputDown⟩
  | .jtagOut | .spiOut | .mdioData => ⟨.highZ, .highZ, .highZ, .highZ⟩
  | .irqOut => ⟨.released, .released, .low, .function⟩
  | .canTx => ⟨.highZUp, .high, .function, .high⟩
  | .canRx => ⟨.input, .ignored, .function, .watched⟩
  | .faultIn => ⟨.inputUp, .inputUp, .inputUp, .sleep⟩
  | .muteOut => ⟨.low, .low, .low, .sleep⟩
  | .i2cLine => ⟨.released, .released, .released, .sleep⟩
  | .gpioIn => ⟨.inputDown, .inputDown, .inputDown, .sleep⟩
  | .mdioClk | .ethTx => ⟨.highZDown, .low, .low, .low⟩
  | .ethRx => ⟨.captureOff, .captureOff, .captureOff, .captureOff⟩
  | .tdmClk => ⟨.highZDown, .low, .holdFormat, .low⟩
  | .tdmOut => ⟨.highZDown, .low, .low, .low⟩

/-- The output pins outside the general-purpose block (Table 2.3): the six of an RGMII transmit side, and per TDM
port its clocks and its two data lines. -/
inductive OutPin where
  | hmiso | hirqN | ctx | mdc | mdio | tdo
  | ethTx (port : Fin 3) (k : Fin 6)
  | mclk (m : Fin 2)
  | bclk (port : Fin 4) | fsync (port : Fin 4) | sdo (port : Fin 4) (line : Fin 2)
  deriving DecidableEq, Repr

/-- The set of an output pin (Table 2.3). -/
def OutPin.set : OutPin → PinSet
  | .hmiso => .spiOut | .hirqN => .irqOut | .ctx => .canTx | .mdc => .mdioClk | .mdio => .mdioData | .tdo => .jtagOut
  | .ethTx _ _ => .ethTx
  | .mclk _ | .bclk _ | .fsync _ => .tdmClk
  | .sdo _ _ => .tdmOut

/-- The first boundary cell of an output pin (R395); TDO is not in the chain. -/
def OutPin.cell : OutPin → Option Nat
  | .hmiso => some 39 | .hirqN => some 41 | .ctx => some 43 | .mdc => some 59 | .mdio => some 61 | .tdo => none
  | .ethTx p k => some (64 + 18 * p.val + 2 * k.val)
  | .mclk m => some (181 + 2 * m.val)
  | .bclk p => some (185 + 10 * p.val)
  | .fsync p => some (187 + 10 * p.val)
  | .sdo p l => some (189 + 10 * p.val + 2 * l.val)

/-- The Proof-hold format of R42: 48 kHz, 8 slots of 32 bits, 1-bit FSYNC (format 2, R257), no slot enabled, so
that every SDO pin is low. (DEDUCED, log 101) -/
def holdFormat : TdmCfg :=
  { enable := true, format := 2, width := 2, slots := 2, bclkInv := false, fsyncInv := false, sdiDelay := 0,
    outEn := 0, inEn := 0 }

/-- BCLK in a half bit period: low from its launch edge, with BCLK_INV high (R258). -/
def bclkBit (c : TdmCfg) (half : Nat) : Bool := (half % 2 == 1) != c.bclkInv

namespace Dev

/-- The configuration in which the clocks of a TDM port run, `none` while BCLK and FSYNC are low or not driven
(R42, R257, Table 10.2). (DEDUCED, log 101) -/
def tdmClocks (d : Dev) (p : Fin 4) : Option TdmCfg :=
  match d.power.state with
  | .proofHold => if d.power.holdStart.isSome then some holdFormat else none
  | .active | .quiet => if d.tdm[p].state = .off then none else some d.tdm[p].active
  | .off | .proof | .boot => none

/-- Half bit periods of a port since its frame began: BCLK divides the edge grid, of which 4096 points are a period
of 44.1 or 48 kHz (R155, R257); in PROOF_HOLD it is 12.288 MHz of the crystal (R42). -/
def halfBits (d : Dev) (p : Fin 4) : Nat :=
  if d.power.state = .proofHold then (d.cc - d.power.holdStart.getD d.cc) * 24576 / 500000
  else (d.ks.grid + 4096 - d.ks.frameGrid) % 4096 * 2 ^ (d.ks.rate.val / 2) * 2 * frameBits d.tdm[p].active / 4096

/-- The levels of BCLK, FSYNC and the SDO lines of a port (R42, R257, R258); low while its clocks do not run. -/
def tdmLevels (d : Dev) (p : Fin 4) : Bool × Bool × Vector Bool 2 :=
  match d.tdmClocks p with
  | none => (false, false, Vector.replicate 2 false)
  | some c =>
    let bit := d.halfBits p / 2 % frameBits c
    (bclkBit c (d.halfBits p), fsyncBit c bit,
      Vector.ofFn fun l => d.power.state != .proofHold && sdoBit d.tdm[p] l bit)

/-- The level of an MCLK output: its divider of the edge grid (R157), and in PROOF_HOLD 24.576 MHz from the start
of R42. -/
def mclkLevel (d : Dev) (m : Fin 2) : Bool :=
  match d.power.state with
  | .proofHold => d.power.holdStart.any fun s => (d.cc - s) * 49152 / 500000 % 2 == 0
  | .active => mclkHigh d.ks.mclk[m] d.ks.grid
  | _ => false

/-- HIRQ_N: `false` is driven low, `true` released (R114, Table 2.4). (DEDUCED, log 46) -/
def hirqN (d : Dev) : Bool :=
  match d.power.state with
  | .off | .proof | .boot => true
  | .proofHold => false
  | .active | .quiet => !d.hirq

/-- A driven level. -/
def driven (high : Bool) : PadState := if high then .high else .low

/-- The state Table 2.4 gives the pins of a set (R40): in BOOT they keep their PROOF state, and in ACTIVE the block
that owns them drives them. (DEDUCED, log 46) -/
def setState (d : Dev) (s : PinSet) : PadState :=
  match d.power.state with
  | .off => s.row.reset
  | .proof | .boot => s.row.proof
  | .proofHold => s.row.hold
  | .quiet => s.row.quiet
  | .active => .function

/-- What an output pin does. While the boundary cells hold the pins they drive it, and HIGHZ turns every driver off
(R400, Table 2.8); HIRQ_N is open-drain. Otherwise HMISO is driven only while HCS_N is low (R41), TDO only where the
TAP drives it, the transmit pins of a port that is DOWN are low (R203), and the TDM pins have the levels of their
clocks. (DEDUCED, log 46, 101) -/
def pinState (d : Dev) (o : OutPin) : PadState :=
  let core : PadState :=
    match o with
    | .hmiso => if d.power.state ≠ .off ∧ d.host.phase ≠ .closed then .function else .highZ
    | .tdo => d.tap.tdo.elim .highZ driven
    | .hirqN => if d.hirqN then .released else .low
    | .ethTx p _ => if d.power.state = .active ∧ d.eth[p].link.state = .down then .low else d.setState o.set
    | .bclk p => if d.power.state = .off then .highZDown else driven (d.tdmLevels p).1
    | .fsync p => if d.power.state = .off then .highZDown else driven (d.tdmLevels p).2.1
    | .sdo p l => if d.power.state = .off then .highZDown else driven (d.tdmLevels p).2.2[l]
    | .mclk m => if d.power.state = .off then .highZDown else driven (d.mclkLevel m)
    | _ => d.setState o.set
  match o.cell with
  | none => core
  | some c =>
    if ¬ d.pinsTaken then core
    else if d.tap.ir = 5 ∨ ¬ d.tap.cells.getLsbD c then .highZ
    else if o = .hirqN ∧ d.tap.cells.getLsbD (c + 1) then .released
    else driven (d.tap.cells.getLsbD (c + 1))

end Dev
end Sys2Proof.Machine
end

