-- ==== Sys2Proof/WellFormed.lean ====
section
/-! DEFINITION.
Well-formed commands: the operands that the manual's tables and limits admit, where their types admit
more. -/

namespace Sys2Proof

/-- A request as a mailbox window, the tester or a remote frame can carry it (Table 5.2): LENGTH is an
8-bit field, and the payload has its words, rounded up. -/
def Request.wf (r : Request) : Bool := r.length < 256 && r.payload.length == (r.length + 3) / 4

/-- A frame as the receiver sees it: of its bytes the first 128 at most are kept (R190), and its cells are
receive cells, one for each 256 bytes (Table 1.2). -/
def RxFrame.wf (f : RxFrame) : Bool :=
  f.head.length ≤ 128 && f.cells.all (· < 576) && f.cells.length ≤ (f.length + 255) / 256

/-- The data lengths a DLC encodes. -/
def canLengths : List Nat := [0, 1, 2, 3, 4, 5, 6, 7, 8, 12, 16, 20, 24, 32, 48, 64]

/-- A frame as CAN carries it: a base identifier has 11 bits, a data length is one a DLC encodes, at
most 8 in a classical frame, BRS and ESI are bits of an FD frame, and a remote frame is a classical
frame with no data (R314). -/
def CanFrame.wf (f : CanFrame) : Bool :=
  (f.ide || f.id.toNat < 2048) && canLengths.contains f.data.length && (f.fd || f.data.length ≤ 8) &&
  (f.fd || (!f.brs && !f.esi)) && (!f.remote || (!f.fd && f.data.isEmpty))

/-- A well-formed command. -/
def Instr.wf : Instr → Bool
  | .arbGrant input => input.requests.all fun r => 1 ≤ r.beats && r.beats ≤ 16
  | .ksTick input => input.offsets.length == 7
  | .ethFrameReceive _ frame => frame.wf
  | .txSubmit _ frame => 64 ≤ frame.length && frame.length ≤ 1522
  | .remoteRequest _ frame => frame.opcode < 65536 && frame.request.wf
  | .aafFrame frame => frame.data.length ≤ 1476
  | .gptpMessage _ domain _ _ => domain < 256
  | .stopTimeReached talker index => !talker || index.val < 8
  | .stopRampEnd talker index => !talker || index.val < 8
  | .lintelTick offsets => offsets.length == 3
  | .canFrameReceive frame => frame.wf
  | .readDataByIdentifier ids => !ids.isEmpty
  | .frameBoundary sdi => sdi.length == 4 && sdi.all fun l => l.length ≤ 1024
  | .status _ req => req.wf
  | .identity _ req => req.wf
  | .failureReport _ req => req.wf
  | .reset _ req => req.wf
  | .quietEnter _ req => req.wf
  | .quietExit _ req => req.wf
  | .eventMask _ req => req.wf
  | .journalStatus _ req => req.wf
  | .journalRead _ req => req.wf
  | .journalCompact _ req => req.wf
  | .journalDefaults _ req => req.wf
  | .fwuBegin _ req => req.wf
  | .fwuWrite _ req => req.wf
  | .fwuFinish _ req => req.wf
  | .fwuConfirm _ req => req.wf
  | .fwuAbort _ req => req.wf
  | .ksStatus _ req => req.wf
  | .ksSetRate _ req => req.wf
  | .ksSetTable _ req => req.wf
  | .ksSetLoop _ req => req.wf
  | .ksPhaseStep _ req => req.wf
  | .ksSteer _ req => req.wf
  | .ethPortStatus _ req => req.wf
  | .ethPortSetup _ req => req.wf
  | .ethPortDisable _ req => req.wf
  | .ethEaseSet _ req => req.wf
  | .ethMdio _ req _ => req.wf
  | .ethPhyScript _ req => req.wf
  | .ethRemoteSet _ req => req.wf
  | .ethBadFrames _ req => req.wf
  | .listenerSetup _ req => req.wf
  | .talkerSetup _ req => req.wf
  | .streamStart _ req => req.wf
  | .streamStop _ req => req.wf
  | .streamDelete _ req => req.wf
  | .streamStatus _ req => req.wf
  | .portStreamStatus _ req => req.wf
  | .gptpSet _ req => req.wf
  | .gptpStatus _ req => req.wf
  | .lintelGroupSetup _ req => req.wf
  | .lintelGroupStart _ req => req.wf
  | .lintelGroupStop _ req => req.wf
  | .lintelGroupDelete _ req => req.wf
  | .lintelSwitch _ req => req.wf
  | .lintelGroupStatus _ req => req.wf
  | .lintelHealth _ req => req.wf
  | .lintelTalkerSet _ req => req.wf
  | .tdmPortSet _ req => req.wf
  | .tdmPortDisable _ req => req.wf
  | .tdmPortStatus _ req => req.wf
  | .routeSourceBind _ req => req.wf
  | .routeDestBind _ req => req.wf
  | .routeXpSet _ req => req.wf
  | .routeCommit _ req => req.wf
  | .routeDestGain _ req => req.wf
  | .routeMute _ req => req.wf
  | .routeToneSet _ req => req.wf
  | .routePartition _ req => req.wf
  | .routeSenseBind _ req => req.wf
  | .routeStatus _ req => req.wf
  | .measSpeakerSet _ req => req.wf
  | .measConfig _ req => req.wf
  | .measResult _ req => req.wf
  | .measBaseline _ req => req.wf
  | .measDcTest _ req => req.wf
  | .measMonitors _ req => req.wf
  | .measDtcRead _ req => req.wf
  | .measDtcClear _ req => req.wf
  | .ampScriptSet _ req => req.wf
  | .ampScriptRun _ req => req.wf
  | .ampLine _ req => req.wf
  | .ampI2c _ req => req.wf
  | .canSetup _ req => req.wf
  | .canTesterSet _ req => req.wf
  | .canMoSet _ req => req.wf
  | .canMoSend _ req => req.wf
  | .canMoRead _ req => req.wf
  | .canState _ req => req.wf
  | .gpioPinConfig _ req => req.wf
  | .gpioXbarSet _ req => req.wf
  | .gpioOutput _ req => req.wf
  | .gpioRead _ req => req.wf
  | .gpioLockPin _ req => req.wf
  | .schedSet _ req => req.wf
  | .schedCancel _ req => req.wf
  | .schedStatus _ req => req.wf
  | .selftestRun _ req => req.wf
  | .selftestResult _ req => req.wf
  | .powerOnReset .. | .powerOnResetRelease .. | .rstNAssert .. | .rstNRelease .. | .corePllLockLoss ..
    | .hearthWatchdogExpiry .. | .softwareReset .. | .proofStart .. | .proofComplete .. | .bootStart ..
    | .bootComplete .. | .supervisorSample .. | .supplyMuteRampEnd .. | .supplyMuteExit ..
    | .vddioEFaultEnter .. | .vddioEFaultExit .. | .vbatOpenEnter .. | .vbatOpenExit ..
    | .journalRecordProgram .. | .journalRecordDone .. | .journalCompactionDone .. | .flashEraseDone ..
    | .quietEntryComplete .. | .quietDoorbellPass .. | .quietWake .. | .pwrResetReqWrite .. | .minRestart ..
    | .registerWrite .. | .spiTransactionStart .. | .spiNop .. | .spiWriteWord .. | .spiReadWord ..
    | .snapshot .. | .badOpcode .. | .spiTransactionEnd .. | .overspeed .. | .aliasWrite ..
    | .dbgReadRequest .. | .dbgWriteCommit .. | .dbgBeatDone .. | .eccLastClear .. | .statsClear ..
    | .requestAged .. | .mbDoorbell .. | .mbRelease .. | .servicePass .. | .evqHeadRead .. | .evqArgRead ..
    | .evqStateRead .. | .journalDefaultsDone .. | .fwuEraseDone .. | .refQualified .. | .refLoss ..
    | .bwNarrowStep .. | .trackEntry .. | .reacquire .. | .holdoverExpired .. | .timeValidLapse ..
    | .moveDone .. | .clkPhaseStepWrite .. | .dcoSeedWrite .. | .clkRefCommitWrite .. | .captureLock ..
    | .captureUnlock .. | .captureUnlockTimeout .. | .rxDescriptorRelease .. | .txFrameStart ..
    | .txFrameDone .. | .pauseFrame .. | .pauseExpiry .. | .phyPoll .. | .phyInterrupt .. | .phyScriptRun ..
    | .utilWindowEnd .. | .easeFail .. | .linkHoldExpiry .. | .portDisable .. | .portIdle ..
    | .ethMacHiWrite .. | .ethFiltWrite .. | .syncReceiptTimeout ..
    | .announceReceiptTimeout .. | .pdelayReqSend .. | .crfFrame .. | .listenerStartPlay ..
    | .listenerStarved .. | .listenerResume .. | .talkerStartSend .. | .talkerFrameSend .. | .streamFault ..
    | .rateRecovered .. | .streamAutostart .. | .lintelBeacon .. | .fadeEnd .. | .revertHoldExpiry ..
    | .healthBlockEnd .. | .tdmCommitApply .. | .tdmPortStopped .. | .outUnderrun .. | .inOverrun ..
    | .senseStale .. | .senseRecovered .. | .delayChangeRampEnd .. | .measSlotEnd .. | .foldbackEval ..
    | .foldbackLimit .. | .dcTestSpeakerStart .. | .dcTestNotQuiet .. | .dcTestSpeakerDone ..
    | .dcTestAbort .. | .baselineLearnDone .. | .baselineLearnTimeout .. | .ampFaultAssert ..
    | .faultHoldExpiry .. | .ampScriptDone .. | .i2cRetry .. | .i2cStretchTimeout .. | .muteLineCheck ..
    | .dieSensorDisagree .. | .amonOutOfRange .. | .amonBackInRange .. | .dtcStoreWrite .. | .canTxStart ..
    | .canTxComplete .. | .canAloneDetect .. | .canRecoveryComplete .. | .canInitEnter .. | .canInitExit ..
    | .canRecover .. | .canTxReq .. | .canTxAbort .. | .crxWake .. | .isotpMessageComplete ..
    | .isotpTimeout .. | .responsePending .. | .s3Timeout .. | .securityDelayEnd ..
    | .diagnosticSessionControl .. | .ecuReset .. | .clearDiagnosticInformation ..
    | .reportNumberOfDtcByStatusMask .. | .reportDtcByStatusMask .. | .reportDtcExtDataRecord ..
    | .reportSupportedDtc .. | .requestSeed .. | .sendKey .. | .startRoutine .. | .stopRoutine ..
    | .requestRoutineResults .. | .requestDownload .. | .transferData .. | .requestTransferExit ..
    | .testerPresent .. | .debounceChange .. | .pinHoldEnd .. | .gpioLockWrite .. | .gpioOutMwWrite ..
    | .timerMatch .. | .timerWrap .. | .timerCapture .. | .timerGateEvent .. | .tmrClear ..
    | .tmrCmpWrite .. | .tmrCountLoRead .. | .tmrCapLoRead .. | .clkTimeNsRead .. | .clkWordLoRead ..
    | .schedEntryReady .. | .schedHeldRelease .. | .schedCancelWrite .. | .testLogicReset .. | .extest ..
    | .idcode .. | .samplePreload .. | .clamp .. | .highz .. | .bypass .. | .selftestDone ..
    | .phaseDetectorCompare .. | .canReceiveError .. | .tckEdge .. | .secondBoundary .. | .padLevelChange ..
    | .i2cTransferDone .. => true

end Sys2Proof
end

