-- ==== Sys2Proof/Tests/Slice0.lean ====
section
/-! SUPPORT.
Tests of the model: single steps with values worked out by hand from the manual, ill-formed terms, and
for each statement with hypotheses a state and operands that meet them, clause by clause. -/

namespace Sys2Proof.Tests

open Sys2Proof Sys2Proof.Machine
set_option maxRecDepth 20000
set_option Elab.async false

/-- A device in ACTIVE, every stored register bit 0 but the hold-up estimate at which R81 lets the flash be
programmed. -/
def base : Dev :=
  { Dev.initial with regs := .replicate 256 0, power.state := .active, sup.nvwInhibit := false }.setReg Reg.PWR_HOLDUP_EST 3200
/-- A change of that device, with nothing in the audio RAM and no command waiting. -/
def up (f : Dev → Dev) : State := ⟨f base, [], []⟩
def st : State := up id
/-- A request of these payload words. -/
def rq (ws : List Word) : Request := ⟨7, false, 4 * ws.length, ws⟩
theorem takes_up {d : Dev} {src : Source} {op : Nat} {req : Request}
    (h : (d.power.state = .active ∧ d.mail.lockHeld = false) ∧ (cmdSpec op).any (fun c => c.takes src && (src != .mb1 || c.urgent) && c.length.fits req) = true) :
    d.TakesUp src op req := by
  obtain ⟨⟨a, l⟩, h⟩ := h
  cases hc : cmdSpec op with
  | none => simp [hc] at h
  | some c =>
    simp only [hc, Option.any_some, Bool.and_eq_true, Bool.or_eq_true, bne_iff_ne, ne_eq] at h
    exact ⟨a, l, c, hc, h.1.1, fun e => h.1.2.resolve_left (fun n => n e), h.2⟩
theorem awake_of {d : Dev} (h : d.power.state ≠ .off ∧ d.power.state ≠ .quiet) : d.Awake := h
theorem powered_of {d : Dev} (h : d.power.state ≠ .off) : d.Powered := h
theorem runs_of {d : Dev} (h : d.power.state = .boot ∨ d.power.state = .active) : d.Runs := h
theorem writable_of {d : Dev} (h : d.power.state ≠ .off ∧ d.power.state ≠ .proofHold) : d.Writable := h
def lis : ListenerSetup := ⟨0, false, false, false, 5, 0x91E0F0000001, 2, 2, 2000, 0⟩
def tks : TalkerSetup := ⟨0, false, false, 6, 0x91E0F0000002, 2, 2, 2000, 6, 2, 3⟩
def grp : GroupSetup := ⟨0, 15, true, false, false, false, 1, 200, 4, 0x91E0F0000003, 10, 20, 3⟩
def aaf : AafFrame := ⟨0, 5, 0, false, true, false, 0, 2, 5, 2, 32, 8, false, 2000000, .replicate 8 0⟩
def crf : CrfFrame := ⟨0, 5, 1, 0, 48000, 160, [1], false⟩
def rxf : RxFrame := ⟨0, 0, 0x22F0, none, 64, true, false, true, false, true, 1, 0, false, [], []⟩
def txf : TxFrame := ⟨.classA, 64, none, 0, 0x22F0, .other⟩
/-- Link up in register 1; register 0 names 100 Mbit/s, full duplex, without auto-negotiation. -/
def phy : PhyReading := ⟨4, 0x2100, 0, 0, 0, 0⟩
def sess : FwuSession := ⟨.mb0, 8, 2, Config.sha256 [1, 2], [1, 2], true, 7⟩
def scr : Script := ⟨0, 0x20, false, [⟨1, 1, 2, 0, 3⟩]⟩
def canf : CanFrame := ⟨0x123, false, false, false, false, false, [1]⟩
def good : ProofReadings := ⟨3300, 1100, 1800, 3300, 0, true, none, none, true, true, true, true, 50, 50, 0, 4⟩
def stest : SelfTestReadings := ⟨true, true, true, true, 100, 100⟩
def rfr : RemoteFrame := ⟨0x1122, 1, 0, 1, 0x0001, rq []⟩

/-- The device after one command, or as it was where the command stops. -/
def after (i : Instr) (s : State) : Dev :=
  match exec i s with
  | .next t => t.dev
  | _ => s.dev

/-- The state after one command, or as it was where the command stops. -/
def stateAfter (i : Instr) (s : State) : State :=
  match exec i s with
  | .next t => t
  | _ => s
theorem next_of {i : Instr} {s : State} (h : (exec i s matches .next _) = true) : exec i s = .next (stateAfter i s) := by
  unfold stateAfter
  revert h
  cases exec i s <;> simp

theorem arb_next (i : ArbInput) (s : State) :
    exec (.arbGrant i) s = .next { s with dev := s.dev.arbGrant i, ram := s.dev.arbBeats i s.ram } := rfl

/-! One step on small states. Each expected value is worked out by hand from the rule or table named. -/

/-- R233: the CRC of a beacon over "123456789". -/
theorem test_beacon_crc : crc16 [0x31, 0x32, 0x33, 0x34, 0x35, 0x36, 0x37, 0x38, 0x39] = 0x29B1 := by decide +kernel
/-- Chapter 12: the polynomial and the options named are those whose check value is 0xCBF43926. -/
theorem test_key_crc : crc32 [0x31, 0x32, 0x33, 0x34, 0x35, 0x36, 0x37, 0x38, 0x39] = 0xCBF43926 := by decide +kernel
/-- Table 3.9: CHIP_ID over the SPI slave. -/
theorem test_read_chip_id :
    (after (.spiReadWord (some 0) true) (up fun d => { d with regs := Dev.initial.regs, host.phase := .opcode })).host.hmiso = 0x166400B0 := by
  decide +kernel
/-- R107: an alias of SYS_SCRATCH touches its bit alone. -/
theorem test_alias_sets_one_bit :
    (after (.aliasWrite (BitVec.ofNat 16 (0x8000 + 0x80 * (Reg.SYS_SCRATCH / 4) + 4 * 5)) 1)
      (up fun d => d.setReg Reg.SYS_SCRATCH 0x80000001)).reg Reg.SYS_SCRATCH = 0x80000021 := by decide +kernel
/-- Table 3.2: RST_N low for 199 ns is filtered, for 1 µs it resets. -/
theorem test_rst_n_bounds :
    (after (.rstNAssert 199) st).power.state = .active ∧ (after (.rstNAssert 1000) st).power.state = .off := by decide +kernel
/-- R90: the key schedules a software reset, its neighbour does nothing. -/
theorem test_reset_key :
    (after (.pwrResetReqWrite 0xA5C3) st).power.resetScheduled = true ∧ 
    (after (.pwrResetReqWrite 0xA5C2) st).power.resetScheduled = false := by decide +kernel
/-- R19: the eight bytes of a word, the least significant at the lowest address, at the top of the 512 KB. -/
theorem test_beat_bytes : writeWord64 [] 65535 0x0100000000000200 = [(524281, 2), (524287, 1)] := by decide +kernel
/-- R156: the nominal words, F_T / 500 MHz × 2^48 rounded, F_T 98.304 MHz and 90.3168 MHz. -/
theorem test_nominal_words :
    nominalWord 1 = (98304000 * 2 ^ 48 + 250000000) / 500000000 ∧
    nominalWord 0 = (90316800 * 2 ^ 48 + 250000000) / 500000000 := by decide +kernel
/-- R156: the DCO stops at 500 ppm below nominal at the nearest word. -/
theorem test_word_of_ppt : wordOfPpt 1 0 = 0x3254E6E221C9 ∧ pptOfWord 1 (wordOfPpt 1 500000000) = 500000000 := by decide +kernel
/-- R171: a write to CLK_PHASE_STEP of 5 ps adds them to CLK_OFFSET. -/
theorem test_phase_step : (after (.clkPhaseStepWrite 5) st).ks.offset = 5 := by decide +kernel
/-- Table 5.9: a doorbell with the key and the tag of the request makes the mailbox BUSY. -/
theorem test_doorbell :
    (after (.mbDoorbell 1 0x0DB00007) (up fun d => { d with mail.mb := .replicate 2 { resetMailbox with
      request := (Vector.replicate 64 0).set 0 0x00070001 } })).mail.mb[(1 : Fin 2)].state = .busy := by decide +kernel
/-- R183: capture lock at one port says nothing of another. -/
theorem test_capture_lock :
    (after (.captureLock 2 63) st).eth[(2 : Fin 3)].link.locked = true ∧
    (after (.captureLock 2 63) st).eth[(1 : Fin 3)].link.locked = false := by decide +kernel
/-- Chapter 8, faults: a stream that no listener names is counted on its port. -/
theorem test_unknown_stream :
    (after (.aafFrame { aaf with port := 2 }) st).streams.unknown = #v[0, 0, 1] := by decide +kernel
/-- R322: an error of a transmission adds 8 to TEC. -/
theorem test_tec :
    (after (.canTxComplete (.failed .bit0 false)) (up fun d => { d with can := { resetCan with initAck := false, sending := some 31 } })).can.tec = 8 := by
  decide +kernel
/-- R358: the third write of the sequence locks the pin named, 0x24 the last. -/
theorem test_pin_lock :
    (after (.gpioLockWrite false 0xB4B4) (up fun d => { d with gpio := { resetGpio with lockHost := .named 36 } })).gpio.pins[(36 : Fin 37)].locked = true ∧
    (after (.gpioLockWrite false 0xB4B5) (up fun d => { d with gpio := { resetGpio with lockHost := .named 36 } })).gpio.pins[(36 : Fin 37)].locked = false := by
  decide +kernel
/-- R394: the device identification register. -/
theorem test_idcode : (after .idcode (up fun d => { d with tap := resetTap })).tap.ir = 1 := by decide +kernel
/-- A device in PROOF_HOLD whose clocks have started. -/
def held : Dev := { base with power.state := .proofHold, power.holdStart := some 0 }
/-- R42, R257, Table 2.4: in PROOF_HOLD the TDM clocks run in format 2 with 8 slots, and HIRQ_N is low. -/
theorem test_hold_clocks : (base.tdmClocks 0).isNone ∧
    (held.tdmClocks 3).map (fun c => (c.format, c.slots, c.width)) = some (2, 2, 2) ∧ held.hirqN = false := by decide +kernel
/-- R258 and stage 8: a result beyond the 24 bits of the slot stops at full scale. -/
theorem test_slot_code : Sys2Proof.Machine.slotValue 24 (2 ^ 40) = 2 ^ 23 - 1 ∧ Sys2Proof.Machine.slotValue 24 (-(2 ^ 40)) = -(2 ^ 23) := by decide +kernel

/-- Case 3.1: the hold-up estimate at VBAT 12.60 V, 5.20 V, 7.80 V and 13.80 V. -/
theorem test_holdup : [1260, 520, 780, 1380].map (fun v => ((base.setReg Reg.PWR_HOLDUP 0x7092C1D6).setReg Reg.PWR_VBAT v).holdupEst) =
    [12690, 1096, 5170, 14570] := by decide +kernel
/-- Case 1.1 at its cc 15: Hearth's burst of 16 beats ends; port 1 asked 10 cc ago, the TDM engine 12 cc ago. -/
def case11 : Dev :=
  { base with arb := { resetArb with burst := some (6, 16) } }.arbGrant ⟨[⟨1, 16, 10⟩, ⟨4, 8, 12⟩], 63, [], []⟩
/-- Case 1.1: the deadline wins at cc 15, and port 1's first beat comes 19 cc after its request. -/
theorem test_deadline : case11.arb.burst = some (4, 8) ∧ (case11.arbGrant ⟨[], 300, [], []⟩).arb.burst = some (1, 16) ∧
    (case11.arbGrant ⟨[], 300, [], []⟩).rfld Reg.ARB_WAIT_MAX_A 31 16 = 19 := by decide +kernel

/-! One ill-formed term for each check of `Instr.wf`. -/

theorem test_wf_burst : Instr.wf (.arbGrant ⟨[⟨0, 17, 0⟩], 0, [], []⟩) = false ∧ Instr.wf (.arbGrant ⟨[⟨0, 0, 0⟩], 0, [], []⟩) = false := by decide
theorem test_wf_ks_tick : Instr.wf (.ksTick ⟨0, [0, 0, 0, 0, 0, 0]⟩) = false := by decide
theorem test_wf_rx_frame : Instr.wf (.ethFrameReceive 0 { rxf with head := .replicate 129 0 }) = false := by decide
theorem test_wf_tx_frame : Instr.wf (.txSubmit 0 { txf with length := 63 }) = false ∧ Instr.wf (.txSubmit 0 { txf with length := 1523 }) = false := by
  decide
theorem test_wf_remote : Instr.wf (.remoteRequest 0 { rfr with opcode := 65536 }) = false ∧
    Instr.wf (.remoteRequest 0 { rfr with request := ⟨0, false, 4, []⟩ }) = false := by decide
theorem test_wf_aaf : Instr.wf (.aafFrame { aaf with data := .replicate 1477 0 }) = false := by decide
theorem test_wf_talker : Instr.wf (.stopTimeReached true 8) = false ∧ Instr.wf (.stopRampEnd true 8) = false := by decide
theorem test_wf_lintel_tick : Instr.wf (.lintelTick [0, 0]) = false := by decide
theorem test_wf_can_id : Instr.wf (.canFrameReceive { canf with id := 2048 }) = false := by decide
theorem test_wf_can_data : Instr.wf (.canFrameReceive { canf with data := .replicate 12 0 }) = false ∧
    Instr.wf (.canFrameReceive { canf with fd := true, data := .replicate 9 0 }) = false := by decide
theorem test_wf_can_flags : Instr.wf (.canFrameReceive { canf with brs := true }) = false ∧
    Instr.wf (.canFrameReceive { canf with remote := true }) = false := by decide
theorem test_wf_dids : Instr.wf (.readDataByIdentifier []) = false := by decide
theorem test_wf_frame_boundary : Instr.wf (.frameBoundary [[], [], []]) = false ∧
    Instr.wf (.frameBoundary [[], [], [], .replicate 1025 false]) = false := by decide +kernel
theorem test_wf_request : Instr.wf (.status .mb0 ⟨0, false, 256, .replicate 64 0⟩) = false ∧
    Instr.wf (.schedSet .mb0 ⟨0, false, 24, []⟩) = false := by decide
/-- A term of each kind that the checks admit. -/
theorem test_wf_admits : Instr.wf (.status .mb0 (rq [])) = true ∧ Instr.wf (.canFrameReceive canf) = true ∧
    Instr.wf (.aafFrame aaf) = true ∧ Instr.wf (.stopRampEnd true 7) = true ∧ Instr.wf (.arbGrant ⟨[⟨7, 16, 0⟩], 0, [], []⟩) = true := by decide

/-! For each statement with hypotheses, a state and operands that meet them, clause by clause. -/

theorem witness_StepTakesFront :
    ∃ (c : Instr) (rest : List Instr) (s : State), s.pending = c :: rest :=
  ⟨.spiNop, [.spiNop], { st with pending := [.spiNop, .spiNop] }, by decide +kernel⟩

theorem witness_IdleStep :
    (∃ s : State, s.pending = [] ∧ s.dev.power.state = .off) ∧
    (∃ s : State, s.pending = [] ∧ s.dev.power.state = .quiet) ∧
    (∃ s : State, s.pending = [] ∧ s.dev.Awake) :=
  ⟨⟨up fun d => { d with power.state := .off }, by decide +kernel⟩,
    ⟨up fun d => { d with power.state := .quiet }, by decide +kernel⟩,
    ⟨st, (by decide +kernel), (awake_of (by decide +kernel))⟩⟩

theorem witness_EveryCommandCompletes :
    (∃ i : Instr, (∀ n, i = .rstNAssert n → n < 200 ∨ 1000 ≤ n)) ∧
    (∃ n : Nat, 200 ≤ n ∧ n < 1000) :=
  ⟨⟨.spiNop, (fun _ h => nomatch h)⟩,
    ⟨999, by decide +kernel⟩⟩

theorem witness_QueueRunsInOrder :
    ∃ (i : Instr) (s : State) (t : State), exec i s = .next t :=
  ⟨.spiNop, st, st, rfl⟩

theorem witness_MemoryKeepsItsForm :
    ∃ (s : State) (t : State), s.Inv ∧ step s = .next t :=
  ⟨{ st with ram := [(524287, 1)], dev := { base with power.state := .off } },
      { st with ram := [(524287, 1)], dev := { base with power.state := .off } }, (by decide +kernel : Memory.wf _ = true), rfl⟩

theorem witness_MemoryFrame :
    (∃ (i : Instr) (s : State) (t : State) (_a : Nat), i ≠ .dbgBeatDone ∧ (∀ (input : ArbInput), i ≠ .arbGrant input) ∧ i ≠ .proofStart ∧
      exec i s = .next t) ∧
    (∃ (s : State) (t : State) (word : U16) (data : U64) (a : Nat), s.Inv ∧ exec .dbgBeatDone s = .next t ∧
      s.dev.host.dbg = some (.write word data) ∧ (a < 8 * BitVec.toNat word ∨ 8 * BitVec.toNat word + 8 ≤ a)) ∧
    (∃ (s : State) (t : State) (_a : Nat), s.Inv ∧ exec .dbgBeatDone s = .next t ∧ (∀ (word : U16) (data : U64),
      s.dev.host.dbg ≠ some (.write word data))) ∧
    (∃ (input : ArbInput) (s : State) (t : State) (a : Nat), s.Inv ∧ exec (.arbGrant input) s = .next t ∧ (∀ x ∈ input.writes,
      a < 8 * BitVec.toNat x.1 ∨ 8 * BitVec.toNat x.1 + 8 ≤ a)) :=
  ⟨⟨.spiNop, st, st, 0, nofun, nofun, nofun, rfl⟩,
    ⟨{ (up fun d => { d with host.dbg := some (.write 0 9) }) with ram := [(524287, 1)] }, _, 0, 9, 8,
        (by decide +kernel : Memory.wf _ = true), (next_of (by decide +kernel)), by decide +kernel⟩,
    ⟨{ (up fun d => { d with host.dbg := some (.read 0) }) with ram := [(524287, 1)] }, _, 8, (by decide +kernel : Memory.wf _ = true),
        (next_of (by decide +kernel)), nofun⟩,
    ⟨⟨[⟨0, 1, 0⟩], 0, [(0, 9)], []⟩, st, _, 8, (by decide +kernel : Memory.wf _ = true), (arb_next _ _),
        List.forall_mem_cons.2 ⟨by decide +kernel, nofun⟩⟩⟩

theorem witness_BeatReadsWhatBeatWrote :
    ∃ (m : List Host.Cell) (word : U16) (other : U16), Memory.wf m = true ∧ other ≠ word :=
  ⟨[(524287, 1)], 65535, 0, by decide +kernel⟩

theorem witness_OffRests :
    ∃ (i : Instr) (s : State), s.dev.power.state = .off ∧ actsInOff i = false :=
  ⟨.spiNop, up fun d => { d with power.state := .off }, by decide +kernel⟩

theorem witness_QuietStopsTheBlocks :
    ∃ (i : Instr) (s : State), s.dev.power.state = .quiet ∧ clocked i = true :=
  ⟨.timerWrap 3, up fun d => { d with power.state := .quiet }, by decide +kernel⟩

theorem witness_ResetSources :
    (∃ n : Nat, 1000 ≤ n) ∧
    (∃ n : Nat, n < 200) ∧
    (∃ s : State, s.dev.Powered ∧ (s.dev.power.state = .quiet → s.dev.power.quietPass = true)) ∧
    (∃ s : State, s.dev.Powered ∧ s.dev.power.resetScheduled = true) ∧
    (∃ (k : Fin 2) (s : State), s.dev.Powered ∧ k ∈ s.dev.mail.resetDue ∧ s.dev.mail.mb[k].state = .ready) :=
  ⟨⟨1000, by decide +kernel⟩,
    ⟨199, by decide +kernel⟩,
    ⟨up fun d => { d with power.state := .quiet, power.quietPass := true }, (powered_of (by decide +kernel)), by decide +kernel⟩,
    ⟨up fun d => { d with power.resetScheduled := true }, (powered_of (by decide +kernel)), by decide +kernel⟩,
    ⟨1, up fun d => { d with mail := { resetMail with resetDue := [1], mb := .replicate 2 { resetMailbox with state := .ready } } },
        (powered_of (by decide +kernel)), by decide +kernel⟩⟩

theorem witness_ReleaseProofAndBoot :
    (∃ s : State, s.dev.power.porAsserted = true) ∧
    (∃ s : State, s.dev.power.state = .off ∧ s.dev.power.porAsserted = false ∧ s.dev.power.rstLow = false ∧ s.dev.pinsTaken = false) ∧
    (∃ (b : Bool) (s : State), s.dev.power.state = .boot ∧ s.dev.power.slotStarted = false ∧
      Dev.bootSlot s.dev.flash s.dev.flashPermitted = some b) ∧
    (∃ s : State, s.dev.power.state = .boot ∧ s.dev.power.slotStarted = true) :=
  ⟨⟨up fun d => { d with power.porAsserted := true }, by decide +kernel⟩,
    ⟨up fun d => { d with power.state := .off }, by decide +kernel⟩,
    ⟨false, up fun d => { d with power.state := .boot }, by decide +kernel⟩,
    ⟨up fun d => { d with power := { d.power with state := .boot, slotStarted := true } }, by decide +kernel⟩⟩

theorem witness_BootSlotRule :
    (∃ (f : Flash) (permitted : Bool) (b : Bool), Dev.bootSlot f permitted = some b ∧
      let run := if b then f.slotB else f.slotA
      let other := if b then f.slotA else f.slotB
      Dev.Slot.onTrial run = true ∧ Dev.Slot.onTrial other = true) ∧
    (∃ (f : Flash) (permitted : Bool) (b : Bool), Dev.bootSlot f permitted = some b ∧
      let run := if b then f.slotB else f.slotA
      Dev.Slot.onTrial run = false ∧ permitted = true) ∧
    (∃ (f : Flash) (permitted : Bool) (b : Bool), Dev.bootSlot f permitted = some b ∧
      let run := if b then f.slotB else f.slotA
      let other := if b then f.slotA else f.slotB
      Dev.Slot.onTrial run = false ∧ run.confirmed = true ∧ other.valid = true ∧ other.confirmed = true) ∧
    (∃ (f : Flash) (permitted : Bool) (b : Bool), Dev.bootSlot f permitted = some b ∧
      let run := if b then f.slotB else f.slotA
      let other := if b then f.slotA else f.slotB
      Dev.Slot.onTrial run = false ∧ run.confirmed = false ∧ other.valid = true ∧ Dev.Slot.onTrial other = false) ∧
    (∃ (f : Flash) (permitted : Bool) (x : Slot), Dev.bootSlot f permitted = none ∧ (x = f.slotA ∨ x = f.slotB) ∧ x.valid = true) :=
  ⟨⟨{ resetFlash with slotA := ⟨true, 1, true, false, false, [], [], false⟩, slotB := ⟨true, 1, true, false, false, [], [], false⟩ }, true,
        false, (by decide +kernel), by decide +kernel⟩,
    ⟨{ resetFlash with slotA := ⟨true, 1, false, false, true, [], [], false⟩, slotB := ⟨false, 1, false, false, true, [], [], false⟩ },
        true, false, (by decide +kernel), by decide +kernel⟩,
    ⟨{ resetFlash with slotA := ⟨true, 1, false, false, true, [], [], false⟩, slotB := ⟨true, 2, false, false, true, [], [], false⟩ },
        false, true, (by decide +kernel), by decide +kernel⟩,
    ⟨{ resetFlash with slotA := ⟨true, 1, false, false, false, [], [], false⟩, slotB := ⟨true, 2, false, false, false, [], [], false⟩ },
        true, true, (by decide +kernel), by decide +kernel⟩,
    ⟨{ resetFlash with slotA := ⟨true, 1, true, false, false, [], [], false⟩, slotB := ⟨false, 1, false, false, true, [], [], false⟩ },
        false, ⟨true, 1, true, false, false, [], [], false⟩, (by decide +kernel), (.inl rfl), by decide +kernel⟩⟩

theorem witness_ProofResult :
    (∃ (r : ProofReadings) (s : State), s.dev.power.state = .proof ∧ s.dev.power.proofStopped = false ∧ s.dev.pinsTaken = false ∧
      (∀ x ∈ proofFailures r s.dev.flash, x.1 = false)) ∧
    (∃ (r : ProofReadings) (s : State), s.dev.power.state = .proof ∧ s.dev.power.proofStopped = false ∧ s.dev.pinsTaken = false ∧
      ∃ (k : Nat) (step : Nat) (code : Nat) (detail : Nat), (proofFailures r s.dev.flash)[k]? = some (true, step, code, detail) ∧
      (∀ (j : Nat) x, j < k → (proofFailures r s.dev.flash)[j]? = some x → x.1 = false)) :=
  ⟨⟨good, up fun d => { d with power.state := .proof }, by decide +kernel⟩,
    ⟨{ good with vddc := 1151, mutePads := 1 }, up fun d => { d with power.state := .proof }, (by decide +kernel), (by decide +kernel),
        (by decide +kernel), 1, 1, 2, 1151, (by decide +kernel), (fun j x hj h => by
    obtain rfl : j = 0 := by omega
    rw [← Option.some.inj h]; decide +kernel)⟩⟩

theorem witness_SupplyRows :
    (∃ s : State, s.dev.power.state ≠ .off ∧ s.dev.power.state ≠ .proof) ∧
    (∃ s : State, s.dev.Powered ∧ s.dev.sup.supplyMute = true ∧ 3050 ≤ s.dev.rfld Reg.PWR_RAILS_A 15 0) ∧
    (∃ s : State, s.dev.Powered ∧ s.dev.sup.vddioFault = false ∧ s.dev.ioeInside = false) ∧
    (∃ s : State, s.dev.Powered ∧ s.dev.sup.vddioFault = true ∧ s.dev.ioeInside = true) ∧
    (∃ (v : Nat) (w : Nat) (s : State), s.dev.Powered ∧ s.dev.sup.vbatOpen = false ∧ s.dev.sup.supplyMute = false ∧
      s.dev.sup.prev = some (v, w) ∧ v < 100) ∧
    (∃ (v : Nat) (w : Nat) (s : State), s.dev.Powered ∧ s.dev.sup.vbatOpen = true ∧ s.dev.sup.prev = some (v, w) ∧ 130 ≤ v) ∧
    (∃ w : Word, w ≠ 0xA5C3) ∧
    (∃ s : State, s.dev.Writable) :=
  ⟨⟨st, by decide +kernel⟩,
    ⟨up fun d => ({ d with sup.supplyMute := true } : Dev).setReg Reg.PWR_RAILS_A 3050, (powered_of (by decide +kernel)), by decide +kernel⟩,
    ⟨up fun d => ({ d with sup.ioeMode := 3 } : Dev), (powered_of (by decide +kernel)), by decide +kernel⟩,
    ⟨up fun d => ({ d with sup.vddioFault := true } : Dev), (powered_of (by decide +kernel)), by decide +kernel⟩,
    ⟨99, 0, up fun d => { d with sup.prev := some (99, 0) }, (powered_of (by decide +kernel)), by decide +kernel⟩,
    ⟨130, 0, up fun d => { d with sup := { d.sup with vbatOpen := true, prev := some (130, 0) } }, (powered_of (by decide +kernel)),
        by decide +kernel⟩,
    ⟨0, by decide +kernel⟩,
    ⟨st, (writable_of (by decide +kernel))⟩⟩

theorem witness_TwoSampleConditions :
    ∃ (w : Nat × Nat) (s : State), s.dev.power.state ≠ .off ∧ s.dev.power.state ≠ .proof ∧ s.dev.sup.prev = some w :=
  ⟨(599, 3000), up fun d => { d with sup.prev := some (599, 3000) }, by decide +kernel⟩

theorem witness_JournalRows :
    (∃ (it : JItem) (rest : List JItem) (s : State), s.dev.power.state = .active ∧ s.dev.power.quietEntry = none ∧
      s.dev.flashPermitted = true ∧ s.dev.journal.programming = none ∧ s.dev.journal.compacting = false ∧ s.dev.journal.defaultsTags = [] ∧
      .bankA ∉ s.dev.journal.erasing ∧ .bankB ∉ s.dev.journal.erasing ∧ s.dev.journal.pending = it :: rest ∧
      s.dev.journal.live.header = true ∧ s.dev.journal.full it = false) ∧
    (∃ (it : JItem) (s : State), s.dev.Powered ∧ s.dev.journal.programming = some it) ∧
    (∃ s : State, s.dev.Powered ∧ s.dev.journal.defaultsTags ≠ [] ∧ s.dev.journal.compacting = false) ∧
    (∃ (x : FwuSession) (s : State), s.dev.Powered ∧ s.dev.flash.session = some x ∧ x.erased = false ∧
      s.dev.flash.target ∈ s.dev.journal.erasing) ∧
    (∃ (it : JItem) (rest : List JItem) (s : State), s.dev.power.state = .active ∧ s.dev.power.quietEntry = none ∧
      s.dev.journal.programming = none ∧ s.dev.journal.compacting = false ∧ s.dev.journal.defaultsTags = [] ∧
      .bankA ∉ s.dev.journal.erasing ∧ .bankB ∉ s.dev.journal.erasing ∧ s.dev.journal.pending = it :: rest ∧
      s.dev.journal.live.header = true ∧ s.dev.sup.nvwInhibit = false ∧ s.dev.journal.full it = true) ∧
    (∃ (s : State), s.dev.Powered ∧ s.dev.journal.copying = true ∧ s.dev.flashPermitted = true ∧ s.dev.power.quietEntry = none) ∧
    (∃ (s : State), s.dev.Powered ∧ s.dev.journal.compacting = false ∧ .bankA ∈ s.dev.journal.erasing) ∧
    (∃ (s : State), s.dev.Powered ∧ s.dev.journal.compacting = false ∧ .bankB ∈ s.dev.journal.erasing) ∧
    (∃ (s : State), s.dev.Powered ∧ s.dev.journal.compacting = true ∧ s.dev.journal.copying = false ∧ s.dev.flashPermitted = true ∧
      (bankTarget !s.dev.journal.liveB) ∈ s.dev.journal.erasing ∧
      (bankTarget !s.dev.journal.liveB) ∉ s.dev.journal.erasing.erase (bankTarget !s.dev.journal.liveB)) ∧
    (∃ (b : Bool) (s : State), s.dev.Powered ∧ (if b then .slotB else .slotA) ∈ s.dev.journal.erasing) :=
  ⟨⟨⟨0x0301, some [1]⟩, [], up fun d =>
        { d with journal := { resetJournal with bankA := { emptyBank with header := true }, pending := [⟨0x0301, some [1]⟩] } },
        (by decide +kernel), (by decide +kernel), (by decide +kernel), (by decide +kernel), (by decide +kernel), (by decide +kernel),
        (by decide +kernel), (by decide +kernel), (by decide +kernel), (by decide +kernel), rfl⟩,
    ⟨⟨0x0301, some [1]⟩, up fun d => { d with journal.programming := some ⟨0x0301, some [1]⟩ }, (powered_of (by decide +kernel)),
        by decide +kernel⟩,
    ⟨up fun d => { d with journal.defaultsTags := [7] }, (powered_of (by decide +kernel)), by decide +kernel⟩,
    ⟨{ sess with erased := false }, up fun d => { d with flash.session := some { sess with erased := false }, journal.erasing := [.slotB] },
        (powered_of (by decide +kernel)), rfl, rfl, by decide +kernel⟩,
    ⟨⟨0x0301, some [1]⟩, [], up fun d =>
        { d with journal := { resetJournal with bankA := { emptyBank with header := true, records := [⟨1, ⟨0x0301, some [1]⟩, false⟩] }, pending := [⟨0x0301, some [1]⟩] } },
        (by decide +kernel), (by decide +kernel), (by decide +kernel), (by decide +kernel), (by decide +kernel), (by decide +kernel),
        (by decide +kernel), (by decide +kernel), (by decide +kernel), (by decide +kernel),
        (by rw [Journal.full, Bool.or_eq_true]; exact .inr (by decide +kernel))⟩,
    ⟨up fun d => { d with journal := { resetJournal with copying := true } }, (powered_of (by decide +kernel)), by decide +kernel⟩,
    ⟨up fun d => { d with journal := { resetJournal with erasing := [.bankA] } }, (powered_of (by decide +kernel)), by decide +kernel⟩,
    ⟨up fun d => { d with journal := { resetJournal with erasing := [.bankB] } }, (powered_of (by decide +kernel)), by decide +kernel⟩,
    ⟨up fun d => { d with journal := { resetJournal with compacting := true, erasing := [.bankB] } }, (powered_of (by decide +kernel)),
        by decide +kernel⟩,
    ⟨true, up fun d => { d with journal := { resetJournal with erasing := [.slotB] } }, (powered_of (by decide +kernel)), by decide +kernel⟩⟩

theorem witness_QuietRows :
    (∃ (k : Fin 2) (s : State), s.dev.power.state = .quiet ∧ s.dev.mail.mb[k].state = .busy ∧ s.dev.mail.mb[k].taken = false) ∧
    (∃ (who : Source × Byte) (s : State), (s.dev.power.state = .active ∧ s.dev.power.quietEntry = some who ∧ s.dev.power.quietBegun = true ∧
      s.dev.journalBusy = false ∧ (∀ (p : Fin 4), s.dev.tdm[p].state = .off) ∧ s.dev.can.initAck = true) ∧ s.dev.power.wakePending = false ∧
      (∀ (p : Fin 37), BitVec.getLsbD s.dev.gpio.pins[p].cfg 20 = false)) ∧
    (∃ (who : Source × Byte) (s : State), (s.dev.power.state = .active ∧ s.dev.power.quietEntry = some who ∧ s.dev.power.quietBegun = true ∧
      s.dev.journalBusy = false ∧ (∀ (p : Fin 4), s.dev.tdm[p].state = .off) ∧ s.dev.can.initAck = true) ∧ (s.dev.power.wakePending = true ∨
      ∃ p : Fin 37, s.dev.gpio.pins[p].cfg.getLsbD 20 = true ∧ s.dev.gpio.pins[p].filt = s.dev.gpio.pins[p].cfg.getLsbD 21) ∧
      s.dev.power.quietExit = none) ∧
    (∃ (s : State), s.dev.power.state = .quiet ∧ s.dev.power.quietPass = true ∧ s.dev.power.quietExit = none ∧ (∀ (k : Fin 2),
      s.dev.mail.mb[k].decode.1 ≠ 6) ∧ s.dev.can.uds.request = none ∧ s.dev.can.uds.awaiting = none) ∧
    (∃ (s : State), s.dev.power.state = .quiet ∧ (s.dev.power.wakePending = true ∨ s.dev.wakingPin.isSome = true)) ∧
    (∃ (who : Source × Byte) (s : State), s.dev.power.state = .quiet ∧ s.dev.power.quietExit = some who) ∧
    (∃ (s : State), s.dev.power.state = .active ∧ s.dev.power.quietEntry.isSome = true) :=
  ⟨⟨1, up fun d => { d with power.state := .quiet, mail.mb := .replicate 2 { resetMailbox with state := .busy } }, by decide +kernel⟩,
    ⟨(.mb0, 7), up fun d => { d with power := { d.power with quietEntry := some (.mb0, 7), quietBegun := true } }, by decide +kernel⟩,
    ⟨(.mb0, 7), up fun d => { d with power := { d.power with quietEntry := some (.mb0, 7), quietBegun := true, wakePending := true } },
        (by decide +kernel), (.inl (by decide +kernel)), by decide +kernel⟩,
    ⟨up fun d => { d with power := { d.power with state := .quiet, quietPass := true } }, by decide +kernel⟩,
    ⟨up fun d => { d with power := { d.power with state := .quiet, wakePending := true } }, by decide +kernel⟩,
    ⟨(.mb0, 7), up fun d => { d with power := { d.power with state := .quiet, quietExit := some (.mb0, 7) } }, by decide +kernel⟩,
    ⟨up fun d => { d with power.quietEntry := some (.mb0, 7) }, by decide +kernel⟩⟩

theorem witness_RegisterWriteCodes :
    ∃ (a : U16) (s : State), a.toNat ∈ plainRegs ∧ s.dev.Writable :=
  ⟨0, st, (by decide +kernel), (writable_of (by decide +kernel))⟩

theorem witness_ReservedAddresses :
    (∃ (a : U16) (s : State), Dev.isReserved a.toNat = true ∧ a.toNat % 4 = 0 ∧ s.dev.Powered ∧ s.dev.host.phase = .opcode) ∧
    (∃ (a : U16) (s : State), Dev.isReserved a.toNat = true ∧ a.toNat % 4 = 0 ∧ s.dev.Writable) :=
  ⟨⟨0x7FFC, up fun d => { d with host.phase := .opcode }, (by decide +kernel), (by decide +kernel), (powered_of (by decide +kernel)),
        by decide +kernel⟩,
    ⟨0x0C00, st, (by decide +kernel), (by decide +kernel), (writable_of (by decide +kernel))⟩⟩

theorem witness_RefusedWrites :
    (∃ (a : U16) (s : State), s.dev.Writable ∧ a.toNat % 4 = 0 ∧ ((0x500 ≤ a.toNat ∧ a.toNat < 0x600) ∨ (0x700 ≤ a.toNat ∧ a.toNat < 0xC00))) ∧
    (∃ (a : U16) (s : State), s.dev.power.state = .proofHold ∧ a.toNat % 4 = 0 ∧ a.toNat < 0x8000 ∧ Dev.holdAccepts a.toNat = false ∧
      Dev.isReserved a.toNat = false) ∧
    (∃ (a : U16) (b : U16) (s : State), s.dev.Powered ∧ b.toNat % 4 = 0 ∧ b.toNat < a.toNat ∧ a.toNat < b.toNat + 4) :=
  ⟨⟨0x0BFC, st, (writable_of (by decide +kernel)), by decide +kernel⟩,
    ⟨0, up fun d => { d with power.state := .proofHold }, by decide +kernel⟩,
    ⟨3, 0, st, (powered_of (by decide +kernel)), by decide +kernel⟩⟩

theorem witness_AliasWrites :
    ∃ (a : Nat) (i : Nat) (addr : U16) (s : State), a ∈ plainRegs ∧ i < 32 ∧ addr.toNat = 0x8000 + 0x80 * (a / 4) + 4 * i ∧ s.dev.Writable :=
  ⟨Reg.SYS_SCRATCH, 31, BitVec.ofNat 16 (0x8000 + 0x80 * (Reg.SYS_SCRATCH / 4) + 124), st, (by decide +kernel), (by decide +kernel),
      (by decide +kernel), (writable_of (by decide +kernel))⟩

theorem witness_SpiRows :
    (∃ (a : U16) (s : State), s.dev.Writable ∧ s.dev.host.phase = .opcode ∧ a.toNat ∈ plainRegs) ∧
    (∃ (a : U16) (s : State), s.dev.Writable ∧ s.dev.host.phase = .writing a ∧ a.toNat ∈ plainRegs) ∧
    (∃ (a : U16) (s : State), s.dev.Powered ∧ s.dev.host.phase = .opcode ∧ a.toNat ∈ plainRegs) ∧
    (∃ (o : Byte) (s : State), s.dev.Powered ∧ s.dev.host.phase = .opcode ∧ o ∉ Dev.spiOpcodes) ∧
    (∃ s : State, s.dev.Powered ∧ s.dev.host.phase ≠ .closed) :=
  ⟨⟨BitVec.ofNat 16 Reg.SYS_SCRATCH, up fun d => { d with host.phase := .opcode }, (writable_of (by decide +kernel)), by decide +kernel⟩,
    ⟨BitVec.ofNat 16 Reg.SYS_SCRATCH, up fun d => { d with host.phase := .writing (BitVec.ofNat 16 Reg.SYS_SCRATCH) },
        (writable_of (by decide +kernel)), by decide +kernel⟩,
    ⟨BitVec.ofNat 16 Reg.SYS_SCRATCH, up fun d => { d with host.phase := .opcode }, (powered_of (by decide +kernel)), by decide +kernel⟩,
    ⟨0xFF, up fun d => { d with host.phase := .opcode }, (powered_of (by decide +kernel)), by decide +kernel⟩,
    ⟨up fun d => { d with host.phase := .opcode }, (powered_of (by decide +kernel)), by decide +kernel⟩⟩

theorem witness_SnapshotCopy :
    ∃ s : State, s.dev.Powered ∧ s.dev.host.phase = .opcode :=
  ⟨up fun d => { d with host.phase := .opcode }, (powered_of (by decide +kernel)), by decide +kernel⟩

theorem witness_DebugPort :
    (∃ s : State, s.dev.Writable ∧ s.dev.host.dbg = none ∧ s.dev.arb.waiting[(7 : Fin 8)] = none) ∧
    (∃ s : State, s.dev.Writable ∧ s.dev.host.dbg.isSome) ∧
    (∃ (word : U16) (s : State), s.dev.Awake ∧ s.dev.host.dbg = some (.read word)) ∧
    (∃ (word : U16) (data : U64) (s : State), s.dev.Awake ∧ s.Inv ∧ s.dev.host.dbg = some (.write word data)) :=
  ⟨⟨st, (writable_of (by decide +kernel)), by decide +kernel⟩,
    ⟨up fun d => { d with host.dbg := some (.read 65535) }, (writable_of (by decide +kernel)), by decide +kernel⟩,
    ⟨65535, up fun d => { d with host.dbg := some (.read 65535) }, (awake_of (by decide +kernel)), by decide +kernel⟩,
    ⟨65535, 9, up fun d => { d with host.dbg := some (.write 65535 9) }, (awake_of (by decide +kernel)),
        (by decide +kernel : Memory.wf _ = true), by decide +kernel⟩⟩

theorem witness_ArbiterRows :
    (∃ s : State, s.dev.Awake) ∧
    (∃ s : State, s.dev.Writable) :=
  ⟨⟨st, (awake_of (by decide +kernel))⟩,
    ⟨st, (writable_of (by decide +kernel))⟩⟩

theorem witness_ArbiterDecision :
    (∃ (input : ArbInput) (s : State), s.dev.Awake ∧ (¬∃ l ∈ input.ecc, ∃ e ∈ l, ∃ w, e = .double w ∧ 61440 ≤ BitVec.toNat w)) ∧
    (∃ (input : ArbInput) (s : State), s.dev.Awake ∧ (∃ l ∈ input.ecc, ∃ e ∈ l, ∃ w, e = .double w ∧ 61440 ≤ BitVec.toNat w)) :=
  ⟨⟨⟨[⟨7, 16, 3⟩], 0, [], []⟩, st, (awake_of (by decide +kernel)), (fun ⟨_, h, _⟩ => nomatch h)⟩,
    ⟨⟨[], 0, [], [[.double 61440]]⟩, st, (awake_of (by decide +kernel)), ⟨_, List.mem_cons_self, _, List.mem_cons_self, 61440, rfl,
        by decide +kernel⟩⟩⟩

theorem witness_Doorbell :
    ∃ (i : Fin 64) (s : State), s.dev.Powered ∧ i.val < 62 :=
  ⟨0, st, (powered_of (by decide +kernel)), by decide +kernel⟩

theorem witness_MailboxRelease :
    ∃ s : State, s.dev.Powered :=
  ⟨st, (powered_of (by decide +kernel))⟩

theorem witness_EventMaskRule :
    (∃ d : Dev, ∃ code : Nat,
      let enabled := code / 256 = 0 ∨ d.mail.eventMask.getLsbD (code / 256) = true
      enabled) ∧
    (∃ d : Dev, ∃ code : Nat,
      let enabled := code / 256 = 0 ∨ d.mail.eventMask.getLsbD (code / 256) = true
      (¬ enabled)) :=
  ⟨⟨base, 0, by decide +kernel⟩,
    ⟨base, 0x1F00, by decide +kernel⟩⟩

theorem witness_EventQueue :
    (∃ m : Mail, m.queue.length < 32) ∧
    (∃ m : Mail, 32 ≤ m.queue.length ∧ m.lost ≤ 255) ∧
    (∃ (e : Event) (s : State), s.dev.Powered ∧ s.dev.mail.latch = some e) ∧
    (∃ s : State, s.dev.Powered ∧ s.dev.mail.latch = none) ∧
    (∃ s : State, s.dev.Powered ∧ s.dev.mail.queue.length ≤ 32 ∧ s.dev.mail.lost ≤ 255) :=
  ⟨⟨resetMail, by decide +kernel⟩,
    ⟨{ resetMail with queue := .replicate 32 ⟨1, 0, 0⟩, lost := 255 }, by decide +kernel⟩,
    ⟨⟨1, 0, 0⟩, up fun d => { d with mail.latch := some ⟨1, 0, 0⟩ }, (powered_of (by decide +kernel)), by decide +kernel⟩,
    ⟨st, (powered_of (by decide +kernel)), by decide +kernel⟩,
    ⟨st, (powered_of (by decide +kernel)), by decide +kernel⟩⟩

theorem witness_ServicePass :
    (∃ s : State, s.dev.power.state = .active ∧ s.dev.power.quietPass = false ∧ s.dev.mail.deferred = [] ∧ s.dev.remote.waiting = [] ∧
      s.dev.can.uds.request = none ∧ s.dev.can.uds.awaiting = none ∧
      let m (k : Fin 2) : Mailbox := s.dev.mail.mb[k]
      let waits (k : Fin 2) : Prop := (m k).state = .busy ∧ (m k).taken = false
      (¬ waits 0) ∧ (¬ waits 1)) ∧
    (∃ (s : State) (k : Fin 2) (d : Dev) (r : Response), s.dev.power.state = .active ∧ s.dev.power.quietPass = false ∧
      s.dev.mail.deferred = [] ∧ s.dev.remote.waiting = [] ∧ s.dev.can.uds.request = none ∧ s.dev.can.uds.awaiting = none ∧
      (s.dev.mail.mb[k].state = .busy ∧ s.dev.mail.mb[k].taken = false) ∧ ¬(s.dev.mail.mb[1 - k].state = .busy ∧
      s.dev.mail.mb[1 - k].taken = false) ∧
      s.dev.serveCore (if k = 0 then .mb0 else .mb1) s.dev.mail.mb[k].decode.1 s.dev.mail.mb[k].decode.2 = (d, some r)) ∧
    (∃ (s : State), s.dev.power.state = .active ∧ s.dev.power.quietPass = false ∧ s.dev.mail.deferred = [] ∧ s.dev.remote.waiting = [] ∧
      s.dev.can.uds.request = none ∧ s.dev.can.uds.awaiting = none ∧ (s.dev.mail.mb[0].state = .busy ∧ s.dev.mail.mb[0].taken = false) ∧
      (s.dev.mail.mb[1].state = .busy ∧ s.dev.mail.mb[1].taken = false) ∧
      (∀ x ∈ s.dev.jobTouches (.mailbox 0 s.dev.mail.mb[0].decode.1 s.dev.mail.mb[0].decode.2),
      x ∉ s.dev.jobTouches (.mailbox 1 s.dev.mail.mb[1].decode.1 s.dev.mail.mb[1].decode.2)) ∧
      releases s.dev.mail.mb[0].decode.1 s.dev.mail.mb[0].decode.2 = false ∧
      releases s.dev.mail.mb[1].decode.1 s.dev.mail.mb[1].decode.2 = false) ∧
    (∃ (s : State), s.dev.power.state = .active ∧ s.dev.power.quietPass = false ∧ s.dev.mail.deferred = [] ∧ s.dev.remote.waiting = [] ∧
      s.dev.can.uds.request = none ∧ s.dev.can.uds.awaiting = none ∧ (s.dev.mail.mb[0].state = .busy ∧ s.dev.mail.mb[0].taken = false) ∧
      (s.dev.mail.mb[1].state = .busy ∧ s.dev.mail.mb[1].taken = false) ∧
      (∃ x ∈ s.dev.jobTouches (.mailbox 0 s.dev.mail.mb[0].decode.1 s.dev.mail.mb[0].decode.2),
      x ∈ s.dev.jobTouches (.mailbox 1 s.dev.mail.mb[1].decode.1 s.dev.mail.mb[1].decode.2)) ∧
      releases s.dev.mail.mb[0].decode.1 s.dev.mail.mb[0].decode.2 = releases s.dev.mail.mb[1].decode.1 s.dev.mail.mb[1].decode.2) :=
  ⟨⟨st, (by decide +kernel), (by decide +kernel), (by decide +kernel), (by decide +kernel), (by decide +kernel), (by decide +kernel),
        by decide +kernel⟩,
    ⟨up fun d => { d with mail.mb := #v[{ resetMailbox with state := .busy }, resetMailbox] }, 0, _, _, (by decide +kernel),
        (by decide +kernel), (by decide +kernel), (by decide +kernel), (by decide +kernel), (by decide +kernel), (by decide +kernel),
        (by decide +kernel), rfl⟩,
    ⟨up fun d => { d with mail.mb := .replicate 2 { resetMailbox with state := .busy, request := (Vector.replicate 64 0).set 0 1 } },
        by decide +kernel⟩,
    ⟨up fun d =>
        { d with mail.mb := .replicate 2 { resetMailbox with state := .busy, request := (Vector.replicate 64 0).set 0 0x0605 |>.set 1 4 } },
        by decide +kernel⟩⟩

theorem witness_RefusalHasNoEffect :
    (∃ (src : Source) (op : Nat) (req : Request) (d : Dev) (d' : Dev) (r : Response), d.serveCore src op req = (d', some r) ∧
      0x10 ≤ r.status ∧ r.status ≠ 0x42) ∧
    (∃ (op : Nat) (c : CmdSpec) (d : Dev), d.power.state = .active ∧ cmdSpec op = some c ∧ c.urgent = false) ∧
    (∃ d : Dev, (d.power.state = .off ∨ d.power.state = .proof ∨ d.power.state = .boot)) :=
  ⟨⟨.mb0, 0xFFFF, rq [], base, (base.serveCore .mb0 0xFFFF (rq [])).1, ⟨0xFFFF, 7, 0x10, 0, false, []⟩, (Prod.ext rfl (by decide +kernel)),
        by decide +kernel⟩,
    ⟨0x0007, ⟨0x0007, false, false, .never, false, .exact 4, cmdEventMask⟩, base, (by decide +kernel), rfl, by decide +kernel⟩,
    ⟨Dev.initial, by decide +kernel⟩⟩

theorem witness_SystemCommands :
    (∃ (src : Source) (req : Request) (s : State), s.dev.TakesUp src 0x0001 req) ∧
    (∃ (src : Source) (req : Request) (s : State), s.dev.TakesUp src 0x0002 req) ∧
    (∃ (src : Source) (req : Request) (s : State), s.dev.TakesUp src 0x0003 req) ∧
    (∃ (src : Source) (req : Request) (s : State), s.dev.TakesUp src 0x0004 req ∧ req.fld 8 7 0 = 1 ∧ req.fld 8 31 16 = 0xA5C3) ∧
    (∃ (src : Source) (req : Request) (s : State), s.dev.TakesUp src 0x0005 req ∧ s.dev.flash.session = none) ∧
    (∃ (src : Source) (req : Request) (s : State), s.dev.TakesUp src 0x0006 req) ∧
    (∃ (src : Source) (req : Request) (s : State), s.dev.TakesUp src 0x0007 req) :=
  ⟨⟨.mb0, rq (.replicate 0 0), st, (takes_up (by decide +kernel))⟩,
    ⟨.mb0, rq (.replicate 0 0), st, (takes_up (by decide +kernel))⟩,
    ⟨.mb0, rq (.replicate 0 0), st, (takes_up (by decide +kernel))⟩,
    ⟨.mb0, rq [0xA5C30001], st, (takes_up (by decide +kernel)), by decide +kernel⟩,
    ⟨.mb0, rq (.replicate 0 0), st, (takes_up (by decide +kernel)), by decide +kernel⟩,
    ⟨.mb0, rq (.replicate 0 0), st, (takes_up (by decide +kernel))⟩,
    ⟨.mb0, rq (.replicate 1 0), st, (takes_up (by decide +kernel))⟩⟩

theorem witness_JournalAndUpdateCommands :
    (∃ (src : Source) (req : Request) (s : State), s.dev.TakesUp src 0x0101 req) ∧
    (∃ (src : Source) (req : Request) (s : State), s.dev.TakesUp src 0x0102 req) ∧
    (∃ (src : Source) (req : Request) (s : State), s.dev.TakesUp src 0x0103 req ∧ s.dev.sup.nvwInhibit = false ∧
      s.dev.journal.compacting = false) ∧
    (∃ (src : Source) (req : Request) (s : State), s.dev.TakesUp src 0x0104 req ∧ s.dev.sup.nvwInhibit = false ∧ req.word 8 = 0x44460001) ∧
    (∃ (src : Source) (req : Request) (s : State), s.dev.TakesUp src 0x0201 req ∧ s.dev.sup.nvwInhibit = false ∧ 8 ≤ (req.word 8).toNat ∧
      (req.word 8).toNat ≤ 458752 ∧ (req.word 8).toNat % 8 = 0 ∧ s.dev.flash.session = none ∧ (s.dev.flash.running.trial = true →
      s.dev.flash.running.confirmed = true)) ∧
    (∃ (src : Source) (req : Request) (x : FwuSession) (s : State), s.dev.TakesUp src 0x0202 req ∧ s.dev.flashPermitted = true ∧
      s.dev.flash.session = some x ∧ classOf x.holder = classOf src ∧ x.erased = true ∧ (req.word 8).toNat = 4 * x.received.length ∧
      4 * x.received.length + (req.length - 8) ≤ x.length) ∧
    (∃ (src : Source) (req : Request) (x : FwuSession) (s : State), s.dev.TakesUp src 0x0203 req ∧ s.dev.flashPermitted = true ∧
      s.dev.flash.session = some x ∧ classOf x.holder = classOf src ∧ x.erased = true ∧ x.length ≤ 4 * x.received.length ∧
      Config.sha256 x.received = x.digest) ∧
    (∃ (src : Source) (req : Request) (s : State), s.dev.TakesUp src 0x0204 req ∧ s.dev.flashPermitted = true ∧
      s.dev.flash.running.confirmed = false) ∧
    (∃ (src : Source) (req : Request) (x : FwuSession) (s : State), s.dev.TakesUp src 0x0205 req ∧ s.dev.flash.session = some x ∧
      classOf x.holder = classOf src) :=
  ⟨⟨.mb0, rq (.replicate 0 0), st, (takes_up (by decide +kernel))⟩,
    ⟨.mb0, rq (.replicate 1 0), st, (takes_up (by decide +kernel))⟩,
    ⟨.mb0, rq (.replicate 0 0), st, (takes_up (by decide +kernel)), by decide +kernel⟩,
    ⟨.mb0, rq [0x44460001], st, (takes_up (by decide +kernel)), by decide +kernel⟩,
    ⟨.mb0, rq (458752 :: List.replicate 9 0), st, (takes_up (by decide +kernel)), by decide +kernel⟩,
    ⟨.mb0, rq [0, 1, 3, 4], { sess with received := [] }, up fun d => { d with flash.session := some { sess with received := [] } },
        (takes_up (by decide +kernel)), (by decide +kernel), rfl, rfl, rfl, by decide +kernel⟩,
    ⟨.mb0, rq (.replicate 0 0), sess, up fun d => { d with flash.session := some sess }, (takes_up (by decide +kernel)),
        (by decide +kernel), rfl, rfl, rfl, (by decide +kernel), rfl⟩,
    ⟨.mb0, rq (.replicate 0 0), up fun d => { d with flash.slotA.confirmed := false }, (takes_up (by decide +kernel)), by decide +kernel⟩,
    ⟨.mb0, rq (.replicate 0 0), sess, up fun d => { d with flash.session := some sess }, (takes_up (by decide +kernel)), rfl, rfl⟩⟩

theorem witness_KeystoneEvents :
    (∃ (n : Fin 7) (s : State), s.dev.refReady n = false) ∧
    (∃ (n : Fin 7) (s : State), s.dev.Runs ∧ s.dev.ks.refs[(n.castLE (by decide) : Fin 8)].enable = true ∧
      s.dev.ks.refs[(n.castLE (by decide) : Fin 8)].qualified = false ∧ s.dev.refReady n = true) ∧
    (∃ (s : State), s.dev.Runs ∧ s.dev.ks.state = .acquire ∧ s.dev.ks.wide = true ∧ s.dev.ks.selected ≠ 6 ∧ s.dev.ks.bwStep < 8) ∧
    (∃ (s : State), s.dev.Runs ∧ s.dev.ks.state = .acquire ∧ (s.dev.ks.selected = 6 ∨ s.dev.ks.wide = false ∧ s.dev.ks.running = false)) ∧
    (∃ (_offset : Int) (s : State), s.dev.Runs ∧ s.dev.ks.state = .track) ∧
    (∃ (s : State), s.dev.Runs ∧ s.dev.ks.state = .holdover) ∧
    (∃ (s : State), s.dev.Runs ∧ s.dev.timeHeld = false) ∧
    (∃ (s : State), s.dev.Runs ∧ s.dev.ks.running = true) :=
  ⟨⟨0, st, by decide +kernel⟩,
    ⟨6, up fun d =>
        { d with gpio := { resetGpio with source := .replicate 25 (some 0) }, ks := { resetKs with refs := .replicate 8 ⟨0, true, 5, false, true, false, false⟩ } },
        (runs_of (by decide +kernel)), by decide +kernel⟩,
    ⟨up fun d => { d with ks := { resetKs with state := .acquire, wide := true, selected := 5, bwStep := 7 } },
        (runs_of (by decide +kernel)), by decide +kernel⟩,
    ⟨up fun d => { d with ks := { resetKs with state := .acquire, selected := 6 } }, (runs_of (by decide +kernel)), (by decide +kernel),
        (.inl (by decide +kernel))⟩,
    ⟨-1000000, up fun d => { d with ks := { resetKs with state := .track } }, (runs_of (by decide +kernel)), by decide +kernel⟩,
    ⟨up fun d => { d with ks := { resetKs with state := .holdover } }, (runs_of (by decide +kernel)), by decide +kernel⟩,
    ⟨st, (runs_of (by decide +kernel)), by decide +kernel⟩,
    ⟨up fun d => { d with ks := { resetKs with remain := -1 } }, (runs_of (by decide +kernel)), by decide +kernel⟩⟩

theorem witness_ClockWords :
    (∃ (v : Word) (s : State), s.dev.Writable ∧ (s.dev.ks.offset + v.toInt).natAbs ≤ 10 ^ 11 ∧ (s.dev.ks.remain + v.toInt).natAbs ≤ 10 ^ 11) ∧
    (∃ s : State, s.dev.Writable ∧ s.dev.ks.seedLo = false ∧ s.dev.ks.seedHi = false) ∧
    (∃ s : State, s.dev.Writable ∧ s.dev.ks.seedHi = true) ∧
    (∃ s : State, s.dev.Writable ∧ s.dev.ks.seedLo = true) ∧
    (∃ s : State, s.dev.Powered) ∧
    (∃ (_x : Int) (s : State), s.dev.Runs ∧ (s.dev.ks.state = .acquire ∨ s.dev.ks.state = .track)) :=
  ⟨⟨0, st, (writable_of (by decide +kernel)), by decide +kernel⟩,
    ⟨st, (writable_of (by decide +kernel)), by decide +kernel⟩,
    ⟨up fun d => { d with ks := { resetKs with seedHi := true } }, (writable_of (by decide +kernel)), by decide +kernel⟩,
    ⟨up fun d => { d with ks := { resetKs with seedLo := true } }, (writable_of (by decide +kernel)), by decide +kernel⟩,
    ⟨st, (powered_of (by decide +kernel))⟩,
    ⟨-1, up fun d => { d with ks := { resetKs with state := .acquire } }, (runs_of (by decide +kernel)), (.inl (by decide +kernel))⟩⟩

theorem witness_KeystoneSelection :
    (∃ d : Dev, ∃ named : Option (Fin 8),
      let k := d.ks
      let good (n : Fin 8) : Prop := k.refs[n].enable = true ∧ k.refs[n].qualified = true
      let follow (n : Fin 8) : Prop := d.rbit Reg.CLK_CTRL 2 = true ∧ named = some n ∧ good n
      let stay : Prop := d.rbit Reg.CLK_CTRL 0 = false ∧ k.selected ≠ 7 ∧ good k.selected ∧ k.state ≠ .free
      let seven : Prop := ∀ n : Fin 8, n ≠ 7 → k.refs[n].enable = true → k.refs[(7 : Fin 8)].prio < k.refs[n].prio
      (∀ n, ¬ follow n) ∧ (¬ stay) ∧ seven) ∧
    (∃ (d : Dev) (named : Option (Fin 8)) (n : Fin 8), (d.rbit Reg.CLK_CTRL 2 = true ∧ named = some n ∧ d.ks.refs[n].enable = true ∧
      d.ks.refs[n].qualified = true)) ∧
    (∃ (d : Dev) (named : Option (Fin 8)), (∀ (n : Fin 8), ¬(d.rbit Reg.CLK_CTRL 2 = true ∧ named = some n ∧ d.ks.refs[n].enable = true ∧
      d.ks.refs[n].qualified = true)) ∧ d.rbit Reg.CLK_CTRL 0 = false ∧ d.ks.selected ≠ 7 ∧ (d.ks.refs[d.ks.selected].enable = true ∧
      d.ks.refs[d.ks.selected].qualified = true) ∧ d.ks.state ≠ .free) ∧
    (∃ (d : Dev) (named : Option (Fin 8)) (n : Fin 8) (m : Fin 8), (∀ (n : Fin 8), ¬(d.rbit Reg.CLK_CTRL 2 = true ∧ named = some n ∧
      d.ks.refs[n].enable = true ∧ d.ks.refs[n].qualified = true)) ∧ ¬(d.rbit Reg.CLK_CTRL 0 = false ∧ d.ks.selected ≠ 7 ∧
      (d.ks.refs[d.ks.selected].enable = true ∧ d.ks.refs[d.ks.selected].qualified = true) ∧ d.ks.state ≠ .free) ∧ (¬∀ (n : Fin 8), n ≠ 7 →
      d.ks.refs[n].enable = true → d.ks.refs[7].prio < d.ks.refs[n].prio) ∧ d.selectRef named = some n ∧ m ≠ 7 ∧
      (d.ks.refs[m].enable = true ∧ d.ks.refs[m].qualified = true)) ∧
    (∃ (_input : KsTickInput) (s : State), s.dev.Runs ∧ s.dev.rbit Reg.CLK_CTRL 1 = true) ∧
    (∃ (_input : KsTickInput) (s : State), s.dev.Runs ∧ s.dev.rbit Reg.CLK_CTRL 1 = false ∧ s.dev.ks.commitPending = false ∧ (∀ (n : Fin 8),
      s.dev.ks.refs[n].lost = false ∧ (s.dev.ks.refs[n].enable = false → s.dev.ks.refs[n].qualified = false))) ∧
    (∃ (_input : KsTickInput) (s : State), s.dev.Runs ∧ s.dev.ks.commitPending = true) :=
  ⟨⟨base, none, (fun _ h => nomatch h.2.1), by decide +kernel⟩,
    ⟨({ base with ks := { resetKs with refs := .replicate 8 ⟨0, true, 5, true, true, false, false⟩ } } : Dev).setReg Reg.CLK_CTRL 4, some 6,
        6, ⟨by decide +kernel, rfl, by decide +kernel⟩⟩,
    ⟨({ base with ks := { resetKs with selected := 6, state := .track, refs := .replicate 8 ⟨0, true, 5, true, true, false, false⟩ } } : Dev).setReg Reg.CLK_CTRL 0,
        none, (fun _ h => nomatch h.2.1), by decide +kernel⟩,
    ⟨{ base with ks := { resetKs with refs := .replicate 8 ⟨0, true, 5, true, true, false, false⟩ } }, none, 0, 6, (fun _ h =>
        nomatch h.2.1), by decide +kernel⟩,
    ⟨⟨0, .replicate 7 0⟩, up fun d => d.setReg Reg.CLK_CTRL 2, (runs_of (by decide +kernel)), by decide +kernel⟩,
    ⟨⟨0, .replicate 7 0⟩, up fun d => d.setReg Reg.CLK_CTRL 0, (runs_of (by decide +kernel)), by decide +kernel⟩,
    ⟨⟨0, .replicate 7 0⟩, up fun d => { d with ks := { resetKs with commitPending := true } }, (runs_of (by decide +kernel)),
        by decide +kernel⟩⟩

theorem witness_ClockCommands :
    (∃ (src : Source) (req : Request) (s : State), s.dev.TakesUp src 0x0301 req) ∧
    (∃ (src : Source) (req : Request) (r : Fin 6) (s : State), s.dev.TakesUp src 0x0302 req ∧ req.fld 8 2 0 = r.val ∧
      s.dev.anyStreamStarted = false ∧ s.dev.anyTdmEnabled = false ∧ (req.persist = false ∨ s.dev.flashPermitted = true)) ∧
    (∃ (src : Source) (req : Request) (s : State), s.dev.TakesUp src 0x0303 req ∧ (req.persist = false ∨ s.dev.flashPermitted = true)) ∧
    (∃ (src : Source) (req : Request) (s : State), s.dev.TakesUp src 0x0304 req ∧ (req.persist = false ∨ s.dev.flashPermitted = true)) ∧
    (∃ (src : Source) (req : Request) (s : State), s.dev.TakesUp src 0x0305 req) ∧
    (∃ (src : Source) (req : Request) (s : State), s.dev.TakesUp src 0x0306 req) :=
  ⟨⟨.mb0, rq (.replicate 0 0), st, (takes_up (by decide +kernel))⟩,
    ⟨.mb0, rq (.replicate 1 0), 0, st, (takes_up (by decide +kernel)), by decide +kernel⟩,
    ⟨.mb0, rq (.replicate 5 0), st, (takes_up (by decide +kernel)), by decide +kernel⟩,
    ⟨.mb0, rq (.replicate 3 0), st, (takes_up (by decide +kernel)), by decide +kernel⟩,
    ⟨.mb0, rq (.replicate 1 0), st, (takes_up (by decide +kernel))⟩,
    ⟨.mb0, rq (.replicate 2 0), st, (takes_up (by decide +kernel))⟩⟩

theorem witness_PortEvents :
    (∃ (p : Fin 3) (s : State), s.dev.Awake ∧ s.dev.eth[p].link.locked = true) ∧
    (∃ (p : Fin 3) (s : State), s.dev.Awake ∧ s.dev.eth[p].link.locked = false ∧ s.dev.eth[p].link.state = .up) ∧
    (∃ (p : Fin 3) (r : PhyReading) (s : State), s.dev.Awake ∧ s.dev.ethEnabled p = true ∧ s.dev.eth[p].link.state = .up ∧
      r.reg1.getLsbD 2 = false) ∧
    (∃ (p : Fin 3) (r : PhyReading) (s : State), s.dev.Awake ∧ s.dev.ethEnabled p = true ∧ s.dev.eth[p].link.state = .training ∧
      r.reg1.getLsbD 2 = true ∧ r.reg1 ≠ 0xFFFF) ∧
    (∃ (p : Fin 3) (s : State), s.dev.Awake ∧ s.dev.eth[p].link.state = .easing) ∧
    (∃ (p : Fin 3) (s : State), s.dev.Writable ∧ s.dev.eth[p].link.state ≠ .down) ∧
    (∃ (p : Fin 3) (s : State), s.dev.Awake ∧ s.dev.eth[p].link.disabling = true ∧ s.dev.eth[p].traffic.onWire = none ∧
      s.dev.ethEnabled p = false) ∧
    (∃ (_p : Fin 3) (_phase : BitVec 6) (s : State), s.dev.Runs) :=
  ⟨⟨2, up fun d => { d with eth := .replicate 3 { resetEth with link := { resetEth.link with locked := true } } },
        (awake_of (by decide +kernel)), by decide +kernel⟩,
    ⟨2, up fun d => { d with eth := .replicate 3 { resetEth with link := { resetEth.link with state := .up } } },
        (awake_of (by decide +kernel)), by decide +kernel⟩,
    ⟨2, { phy with reg1 := 0 }, up fun d =>
        ({ d with eth := .replicate 3 { resetEth with link := { resetEth.link with state := .up } } } : Dev).setReg (Dev.ethReg 2 Reg.ETH0_CTRL) 1,
        (awake_of (by decide +kernel)), by decide +kernel⟩,
    ⟨2, phy, up fun d =>
        ({ d with eth := .replicate 3 { resetEth with link := { resetEth.link with state := .training } } } : Dev).setReg (Dev.ethReg 2 Reg.ETH0_CTRL) 1,
        (awake_of (by decide +kernel)), by decide +kernel⟩,
    ⟨2, up fun d => { d with eth := .replicate 3 { resetEth with link := { resetEth.link with state := .easing } } },
        (awake_of (by decide +kernel)), by decide +kernel⟩,
    ⟨2, up fun d => { d with eth := .replicate 3 { resetEth with link := { resetEth.link with state := .up } } },
        (writable_of (by decide +kernel)), by decide +kernel⟩,
    ⟨2, up fun d => { d with eth := .replicate 3 { resetEth with link := { resetEth.link with disabling := true } } },
        (awake_of (by decide +kernel)), by decide +kernel⟩,
    ⟨2, 63, st, (runs_of (by decide +kernel))⟩⟩

theorem witness_PortUpkeep :
    (∃ (p : Fin 3) (k : PhyScript) (s : State), s.dev.Awake ∧ s.dev.eth[p].link.runScript = some k) ∧
    (∃ (p : Fin 3) (s : State), s.dev.Awake ∧ s.dev.eth[p].link.state ≠ .up ∧ s.dev.eth[p].traffic.holding = true) ∧
    (∃ (_a : PhyReading) (_b : PhyReading) (_c : PhyReading) (s : State), s.dev.Awake ∧ s.dev.gpio.source[22].isSome = true ∧
      s.dev.fnLevel 22 = false) ∧
    (∃ (_a : PhyReading) (_b : PhyReading) (_c : PhyReading) (s : State), s.dev.Awake ∧ (s.dev.fnLevel 22 = true ∨
      s.dev.gpio.source[22] = none)) ∧
    (∃ (s : State), s.dev.Awake ∧ (∀ (p : Fin 3), s.dev.rbit (Dev.ethReg p Reg.ETH0_CTRL) 4 = false)) ∧
    (∃ (p : Fin 3) (s : State), s.dev.Awake ∧ s.dev.rbit (Dev.ethReg p Reg.ETH0_CTRL) 4 = true ∧ s.dev.eth[p].link.state = .up ∧
      s.dev.eth[p].link.disabling = false ∧ s.dev.eth[p].link.speed = 1 ∧ s.dev.eth[p].link.easedSince = true ∧
      5 * s.dev.rfld (Dev.ethReg p Reg.ETH0_EASE) 15 8 < s.dev.utilOf p ∧ s.dev.easePermitted p = true ∧ s.dev.sup.nvwInhibit = false ∧
      (∀ (q : Fin 3), q ≠ p → s.dev.eth[q].link.state ≠ .easing ∧ s.dev.rbit (Dev.ethReg q Reg.ETH0_CTRL) 4 = false)) :=
  ⟨⟨2, .to1000, up fun d => { d with eth := .replicate 3 { resetEth with link := { resetEth.link with runScript := some .to1000 } } },
        (awake_of (by decide +kernel)), by decide +kernel⟩,
    ⟨2, up fun d => { d with eth := .replicate 3 { resetEth with traffic := { resetEth.traffic with holding := true } } },
        (awake_of (by decide +kernel)), by decide +kernel⟩,
    ⟨phy, phy, phy, up fun d => { d with gpio := { resetGpio with source := .replicate 25 (some 36) } }, (awake_of (by decide +kernel)),
        by decide +kernel⟩,
    ⟨phy, phy, phy, up fun d => { d with gpio := { resetGpio with source := .replicate 25 none } }, (awake_of (by decide +kernel)),
        (.inr (by decide +kernel))⟩,
    ⟨st, (awake_of (by decide +kernel)), by decide +kernel⟩,
    ⟨1, up fun d =>
        (({ d with eth := .replicate 3 { resetEth with link := { resetEth.link with state := .up, speed := 1, easedSince := true }, traffic := { resetEth.traffic with rxBits := 1000000 } } } : Dev).setReg (Dev.ethReg 1 Reg.ETH0_CTRL) 16).setReg (Dev.ethReg 1 Reg.ETH0_EASE) 0x2800,
        (awake_of (by decide +kernel)), by decide +kernel⟩⟩

theorem witness_ReceiveChecks :
    (∃ (p : Fin 3) (f : RxFrame) (s : State), s.dev.Awake ∧ (s.dev.eth[p].link.state ≠ .down ∨ f.departed = true)) ∧
    (∃ (p : Fin 3) (f : RxFrame) (s : State), s.dev.eth[p].link.state = .down ∧ f.departed = false) :=
  ⟨⟨2, rxf, up fun d => { d with eth := .replicate 3 { resetEth with link := { resetEth.link with state := .up } } },
        (awake_of (by decide +kernel)), (.inl (by decide +kernel))⟩,
    ⟨0, rxf, st, by decide +kernel⟩⟩

theorem witness_PortTransfers :
    (∃ (p : Fin 3) (f : TxFrame) (s : State), s.dev.Awake ∧ s.dev.eth[p].link.state ≠ .up ∧ f.queue ≠ .bestEffort) ∧
    (∃ (p : Fin 3) (f : TxFrame) (s : State), s.dev.Awake ∧ s.dev.eth[p].traffic.onWire = some f ∧ s.dev.eth[p].link.disabling = false) ∧
    (∃ (p : Fin 3) (k : Fin 8) (s : State), s.dev.Writable ∧ s.dev.rfld (Dev.ethReg p Reg.ETH0_FILT_SEL) 2 0 = k.val) ∧
    (∃ (p : Fin 3) (f : RemoteFrame) (s : State), s.dev.Awake ∧ s.dev.rbit (Dev.ethReg p Reg.ETH0_CTRL) 5 = true ∧ f.version = 1 ∧
      f.source ∈ s.dev.remote.allow ∧ s.dev.remoteCached f.source f.seq = none ∧ s.dev.remote.waiting.length < 4) ∧
    (∃ (p : Fin 3) (f : RemoteFrame) (s : State), s.dev.Awake ∧ s.dev.rbit (Dev.ethReg p Reg.ETH0_CTRL) 5 = true ∧ f.version = 1 ∧
      f.source ∉ s.dev.remote.allow) ∧
    (∃ (p : Fin 3) (f : TxFrame) (s : State), s.dev.Awake ∧ s.dev.eth[p].link.state ≠ .up ∧ f.queue = .bestEffort ∧
      (Dev.PortTraffic.txFrames s.dev.eth[p].traffic).length < s.dev.eth[p].traffic.txSize ∧ s.dev.txCells + (f.length + 255) / 256 ≤ 320) ∧
    (∃ (p : Fin 3) (q : Fin 4) (f : TxFrame) (rest : List TxFrame) (s : State), s.dev.Awake ∧ s.dev.eth[p].link.state = .up ∧
      s.dev.eth[p].link.disabling = false ∧ s.dev.eth[p].traffic.onWire = none ∧ s.dev.eth[p].traffic.pauseQuanta = 0 ∧
      s.dev.eth[p].traffic.queues[q] = f :: rest ∧ (s.dev.eth[p].traffic.queues[q] ≠ [] ∧ (q = 1 → 0 ≤ s.dev.eth[p].traffic.credit[0]) ∧
      (q = 2 → 0 ≤ s.dev.eth[p].traffic.credit[1])) ∧ (∀ k < q, ¬(s.dev.eth[p].traffic.queues[k] ≠ [] ∧ (k = 1 →
      0 ≤ s.dev.eth[p].traffic.credit[0]) ∧ (k = 2 → 0 ≤ s.dev.eth[p].traffic.credit[1])))) ∧
    (∃ (p : Fin 3) (_n : U16) (s : State), s.dev.eth[p].link.state = .down) ∧
    (∃ (p : Fin 3) (_n : U16) (s : State), s.dev.Awake ∧ s.dev.eth[p].link.state ≠ .down) ∧
    (∃ (p : Fin 3) (f : RemoteFrame) (s : State) (c : RemoteCache), s.dev.Awake ∧ s.dev.rbit (Dev.ethReg p Reg.ETH0_CTRL) 5 = true ∧
      f.version = 1 ∧ f.source ∈ s.dev.remote.allow ∧ s.dev.remoteCached f.source f.seq = some c) :=
  ⟨⟨0, txf, st, (awake_of (by decide +kernel)), by decide +kernel⟩,
    ⟨0, txf, up fun d => { d with eth := .replicate 3 { resetEth with traffic := { resetEth.traffic with onWire := some txf } } },
        (awake_of (by decide +kernel)), by decide +kernel⟩,
    ⟨0, 0, st, (writable_of (by decide +kernel)), by decide +kernel⟩,
    ⟨0, rfr, up fun d => ({ d with remote := { resetRemote with allow := [0x1122] } } : Dev).setReg (Dev.ethReg 0 Reg.ETH0_CTRL) 32,
        (awake_of (by decide +kernel)), by decide +kernel⟩,
    ⟨0, rfr, up fun d => d.setReg (Dev.ethReg 0 Reg.ETH0_CTRL) 32, (awake_of (by decide +kernel)), by decide +kernel⟩,
    ⟨2, { txf with queue := .bestEffort }, up fun d =>
        { d with eth := .replicate 3 { resetEth with traffic := { resetEth.traffic with txSize := 1 } } }, (awake_of (by decide +kernel)),
        by decide +kernel⟩,
    ⟨2, 3, { txf with queue := .bestEffort }, [], up fun d =>
        { d with eth := .replicate 3 { resetEth with link := { resetEth.link with state := .up }, traffic := { resetEth.traffic with queues := #v[[], [], [], [{ txf with queue := .bestEffort }]] } } },
        (awake_of (by decide +kernel)), by decide +kernel⟩,
    ⟨2, 1, st, by decide +kernel⟩,
    ⟨2, 1, up fun d => { d with eth := .replicate 3 { resetEth with link := { resetEth.link with state := .up } } },
        (awake_of (by decide +kernel)), by decide +kernel⟩,
    ⟨0, rfr, up fun d =>
        ({ d with remote := { resetRemote with allow := [0x1122], cache := [⟨0x1122, 1, ⟨1, 0, 0, 0, false, []⟩⟩] } } : Dev).setReg (Dev.ethReg 0 Reg.ETH0_CTRL) 32,
        ⟨0x1122, 1, ⟨1, 0, 0, 0, false, []⟩⟩, (awake_of (by decide +kernel)), by decide +kernel⟩⟩

theorem witness_PortCommands :
    (∃ (src : Source) (req : Request) (p : Fin 3) (s : State), s.dev.TakesUp src 0x0401 req ∧ req.fld 8 1 0 = p.val) ∧
    (∃ (src : Source) (req : Request) (p : Fin 3) (s : State), s.dev.TakesUp src 0x0402 req ∧ req.fld 8 1 0 = p.val ∧ (req.persist = false ∨
      s.dev.flashPermitted = true) ∧ s.dev.ethEnabled p = false ∧ req.fld 8 24 24 = 0 ∧ (req.fld 8 9 8 < 2 ∨ s.dev.sup.ioeMode ≠ 3) ∧
      let rx := clampN 16 256 (req.fld 0x10 8 0)
      let tx := clampN 16 256 (req.fld 0x10 24 16)
      (((allFin 3).map fun q => if q = p then rx else s.dev.eth[q].traffic.rxSize).sum ≤ 256) ∧
        (((allFin 3).map fun q => if q = p then tx else s.dev.eth[q].traffic.txSize).sum ≤ 256)) ∧
    (∃ (src : Source) (req : Request) (p : Fin 3) (s : State), s.dev.TakesUp src 0x0403 req ∧ req.fld 8 1 0 = p.val ∧
      s.dev.eth[p].link.state = .down) ∧
    (∃ (src : Source) (req : Request) (p : Fin 3) (s : State), s.dev.TakesUp src 0x0403 req ∧ req.fld 8 1 0 = p.val ∧
      s.dev.eth[p].link.state ≠ .down) ∧
    (∃ (src : Source) (req : Request) (p : Fin 3) (s : State), s.dev.TakesUp src 0x0404 req ∧ req.fld 8 1 0 = p.val ∧ (req.persist = false ∨
      s.dev.flashPermitted = true)) ∧
    (∃ (src : Source) (req : Request) (s : State), s.dev.TakesUp src 0x0405 req) ∧
    (∃ (src : Source) (req : Request) (p : Fin 3) (k : Fin 3) (s : State), s.dev.TakesUp src 0x0406 req ∧ req.fld 8 1 0 = p.val ∧
      req.fld 8 9 8 = k.val ∧ (req.persist = false ∨ s.dev.flashPermitted = true)) ∧
    (∃ (src : Source) (req : Request) (s : State), s.dev.TakesUp src 0x0407 req ∧ (req.word 8).toNat ≤ 4 ∧ (req.persist = false ∨
      s.dev.flashPermitted = true)) ∧
    (∃ (src : Source) (req : Request) (p : Fin 3) (s : State), s.dev.TakesUp src 0x0408 req ∧ req.fld 8 1 0 = p.val) ∧
    (∃ (src : Source) (req : Request) (s : State), req.fld 8 1 0 = 3 ∧ (req.persist = false ∨ s.dev.flashPermitted = true) ∧
      s.dev.TakesUp src 0x0401 req) ∧
    (∃ (src : Source) (req : Request) (s : State), req.fld 8 1 0 = 3 ∧ (req.persist = false ∨ s.dev.flashPermitted = true) ∧
      s.dev.TakesUp src 0x0402 req) ∧
    (∃ (src : Source) (req : Request) (s : State), req.fld 8 1 0 = 3 ∧ (req.persist = false ∨ s.dev.flashPermitted = true) ∧
      s.dev.TakesUp src 0x0403 req) ∧
    (∃ (src : Source) (req : Request) (s : State), req.fld 8 1 0 = 3 ∧ (req.persist = false ∨ s.dev.flashPermitted = true) ∧
      s.dev.TakesUp src 0x0404 req) ∧
    (∃ (src : Source) (req : Request) (s : State), req.fld 8 1 0 = 3 ∧ (req.persist = false ∨ s.dev.flashPermitted = true) ∧
      s.dev.TakesUp src 0x0406 req) ∧
    (∃ (src : Source) (req : Request) (s : State), req.fld 8 1 0 = 3 ∧ (req.persist = false ∨ s.dev.flashPermitted = true) ∧
      s.dev.TakesUp src 0x0408 req) :=
  ⟨⟨.mb0, rq [2], 2, st, (takes_up (by decide +kernel)), by decide +kernel⟩,
    ⟨.mb0, rq (.replicate 6 0), 0, st, (takes_up (by decide +kernel)), (by decide +kernel), (by decide +kernel), (by decide +kernel),
        (by decide +kernel), (by decide +kernel), by decide +kernel⟩,
    ⟨.mb0, rq (.replicate 1 0), 0, st, (takes_up (by decide +kernel)), by decide +kernel⟩,
    ⟨.mb0, rq [2], 2, up fun d => { d with eth := .replicate 3 { resetEth with link := { resetEth.link with state := .up } } },
        (takes_up (by decide +kernel)), by decide +kernel⟩,
    ⟨.mb0, rq (.replicate 3 0), 0, st, (takes_up (by decide +kernel)), by decide +kernel⟩,
    ⟨.mb0, rq (.replicate 2 0), st, (takes_up (by decide +kernel))⟩,
    ⟨.mb0, rq (.replicate 1 0), 0, 0, st, (takes_up (by decide +kernel)), by decide +kernel⟩,
    ⟨.mb0, rq (.replicate 1 0), st, (takes_up (by decide +kernel)), by decide +kernel⟩,
    ⟨.mb0, rq (.replicate 1 0), 0, st, (takes_up (by decide +kernel)), by decide +kernel⟩,
    ⟨.mb0, rq [3], st, (by decide +kernel), (by decide +kernel), (takes_up (by decide +kernel))⟩,
    ⟨.mb0, rq (3 :: .replicate 5 0), st, (by decide +kernel), (by decide +kernel), (takes_up (by decide +kernel))⟩,
    ⟨.mb0, rq [3], st, (by decide +kernel), (by decide +kernel), (takes_up (by decide +kernel))⟩,
    ⟨.mb0, rq (3 :: .replicate 2 0), st, (by decide +kernel), (by decide +kernel), (takes_up (by decide +kernel))⟩,
    ⟨.mb0, rq [3], st, (by decide +kernel), (by decide +kernel), (takes_up (by decide +kernel))⟩,
    ⟨.mb0, rq [3], st, (by decide +kernel), (by decide +kernel), (takes_up (by decide +kernel))⟩⟩

theorem witness_GptpRows :
    (∃ (src : Source) (req : Request) (p : Fin 3) (s : State), s.dev.TakesUp src 0x0508 req ∧ req.fld 8 1 0 = p.val ∧ (req.persist = false ∨
      s.dev.flashPermitted = true)) ∧
    (∃ (src : Source) (req : Request) (p : Fin 3) (s : State), s.dev.TakesUp src 0x0509 req ∧ req.fld 8 1 0 = p.val) ∧
    (∃ (p : Fin 3) (dom : Nat) (_ago : Nat) (_m : GptpMessage) (s : State), (s.dev.gptpRuns p = false ∨ dom ≠ 0)) ∧
    (∃ (p : Fin 3) (_ago : Nat) (_gm : U64) (n : Nat) (s : State), s.dev.Awake ∧ s.dev.gptpRuns p = true ∧ n < 255) ∧
    (∃ (p : Fin 3) (_ago : Nat) (t : Int) (_info : SyncInfo) (s : State), s.dev.Awake ∧ s.dev.gptpRuns p = true ∧
      s.dev.gptp[p].syncRecv = some t) ∧
    (∃ (p : Fin 3) (_ago : Nat) (n : U16) (_origin : Int) (sent : Int) (back : Int) (peer : Int) (s : State), s.dev.Awake ∧
      s.dev.gptpRuns p = true ∧ s.dev.gptp[p].awaiting = true ∧ s.dev.gptp[p].pdelaySeq = n ∧ s.dev.gptp[p].reqSent = some sent ∧
      s.dev.gptp[p].respRecv = some (back, peer)) ∧
    (∃ (p : Fin 3) (s : State), s.dev.Awake ∧ s.dev.gptpRuns p = true ∧ s.dev.gptp[p].logPdelay ≠ 127) :=
  ⟨⟨.mb0, rq (.replicate 3 0), 0, st, (takes_up (by decide +kernel)), by decide +kernel⟩,
    ⟨.mb0, rq (.replicate 1 0), 0, st, (takes_up (by decide +kernel)), by decide +kernel⟩,
    ⟨2, 0, 0, .pdelayReq 0, st, (.inl (by decide +kernel))⟩,
    ⟨2, 0, 1, 254, up fun d =>
        { d with eth := .replicate 3 { resetEth with link := { resetEth.link with state := .up } }, gptp := .replicate 3 { resetGptp with enable := true } },
        (awake_of (by decide +kernel)), by decide +kernel⟩,
    ⟨2, 0, 5, ⟨0, 0⟩, up fun d =>
        { d with eth := .replicate 3 { resetEth with link := { resetEth.link with state := .up } }, gptp := .replicate 3 { resetGptp with enable := true, syncRecv := some 5 } },
        (awake_of (by decide +kernel)), by decide +kernel⟩,
    ⟨2, 0, 65535, 0, 1, 2, 3, up fun d =>
        { d with eth := .replicate 3 { resetEth with link := { resetEth.link with state := .up } }, gptp := .replicate 3 { resetGptp with enable := true, awaiting := true, pdelaySeq := 65535, reqSent := some 1, respRecv := some (2, 3) } },
        (awake_of (by decide +kernel)), by decide +kernel⟩,
    ⟨2, up fun d =>
        { d with eth := .replicate 3 { resetEth with link := { resetEth.link with state := .up } }, gptp := .replicate 3 { resetGptp with enable := true } },
        (awake_of (by decide +kernel)), by decide +kernel⟩⟩

theorem witness_FrameJudgement :
    (∃ (f : AafFrame) (s : State), s.dev.Awake ∧ s.dev.listenerOf f.port f.streamId = none) ∧
    (∃ (f : AafFrame) (i : Fin 16) (x : ListenerSetup) (s : State), s.dev.Awake ∧ s.dev.listenerOf f.port f.streamId = some i ∧
      s.dev.streams.listeners[i].setup = some x ∧ s.dev.streams.listeners[i].state ≠ .idle ∧ s.dev.ks.timeValid = false) ∧
    (∃ (f : AafFrame) (i : Fin 16) (x : ListenerSetup) (s : State), s.dev.Awake ∧ s.dev.listenerOf f.port f.streamId = some i ∧
      s.dev.streams.listeners[i].setup = some x ∧ s.dev.streams.listeners[i].state ≠ .idle ∧ s.dev.ks.timeValid = true ∧ x.crf = true) ∧
    (∃ (f : AafFrame) (i : Fin 16) (x : ListenerSetup) (s : State), s.dev.Awake ∧ s.dev.listenerOf f.port f.streamId = some i ∧
      s.dev.streams.listeners[i].setup = some x ∧ s.dev.streams.listeners[i].state ≠ .idle ∧ s.dev.ks.timeValid = true ∧ x.crf = false ∧
      f.tv = false) ∧
    (∃ (f : AafFrame) (i : Fin 16) (x : ListenerSetup) (s : State), s.dev.Awake ∧ s.dev.listenerOf f.port f.streamId = some i ∧
      s.dev.streams.listeners[i].setup = some x ∧ s.dev.streams.listeners[i].state ≠ .idle ∧ s.dev.ks.timeValid = true ∧ x.crf = false ∧
      f.tv = true ∧ s.dev.aafFits x f = false) ∧
    (∃ (f : AafFrame) (i : Fin 16) (x : ListenerSetup) (s : State), s.dev.Awake ∧ s.dev.listenerOf f.port f.streamId = some i ∧
      s.dev.streams.listeners[i].setup = some x ∧ s.dev.streams.listeners[i].state ≠ .idle ∧ s.dev.ks.timeValid = true ∧ x.crf = false ∧
      f.tv = true ∧ s.dev.aafFits x f = true) :=
  ⟨⟨aaf, st, (awake_of (by decide +kernel)), by decide +kernel⟩,
    ⟨aaf, 0, lis, up fun d => { d with streams.listeners := .replicate 16 { resetListener with setup := some lis, state := .playing } },
        (awake_of (by decide +kernel)), by decide +kernel⟩,
    ⟨aaf, 0, { lis with crf := true }, up fun d =>
        { d with streams.listeners := .replicate 16 { resetListener with setup := some { lis with crf := true }, state := .playing }, ks.timeValid := true },
        (awake_of (by decide +kernel)), by decide +kernel⟩,
    ⟨{ aaf with tv := false }, 0, lis, up fun d =>
        { d with streams.listeners := .replicate 16 { resetListener with setup := some lis, state := .playing }, ks.timeValid := true },
        (awake_of (by decide +kernel)), by decide +kernel⟩,
    ⟨{ aaf with channels := 3 }, 0, lis, up fun d =>
        { d with streams.listeners := .replicate 16 { resetListener with setup := some lis, state := .playing }, ks.timeValid := true },
        (awake_of (by decide +kernel)), by decide +kernel⟩,
    ⟨aaf, 0, lis, up fun d =>
        { d with streams.listeners := .replicate 16 { resetListener with setup := some lis, state := .playing }, ks.timeValid := true },
        (awake_of (by decide +kernel)), by decide +kernel⟩⟩

theorem witness_StreamStates :
    (∃ (i : Fin 16) (s : State), s.dev.Awake ∧ s.dev.streams.listeners[i].state = .playing ∧ 64 ≤ s.dev.streams.listeners[i].unfilledRun) ∧
    (∃ (i : Fin 16) (t : Nat) (s : State), s.dev.Awake ∧ s.dev.streams.listeners[i].group = none ∧
      s.dev.streams.listeners[i].stopAt = some t ∧ t ≤ s.dev.now ∧ s.dev.ks.timeValid = false) ∧
    (∃ (i : Fin 16) (t : Nat) (s : State), s.dev.Awake ∧ s.dev.streams.listeners[i].group = none ∧
      s.dev.streams.listeners[i].stopAt = some t ∧ t ≤ s.dev.now ∧ s.dev.ks.timeValid = true) ∧
    (∃ (i : Fin 16) (h : i.val < 8) (t : Nat) (s : State), s.dev.Awake ∧ s.dev.ks.timeValid = true ∧
      s.dev.streams.talkers[(⟨i.val, h⟩ : Fin 8)].stopAt = some t ∧ t ≤ s.dev.now ∧
      s.dev.streams.talkers[(⟨i.val, h⟩ : Fin 8)].state = .sending) ∧
    (∃ (i : Fin 16) (s : State), s.dev.Awake ∧ 64 ≤ s.dev.streams.listeners[i].lateRun ∧ s.dev.streams.listeners[i].toldTimebase = false) ∧
    (∃ (i : Fin 16) (s : State), s.dev.Awake ∧ 64 ≤ s.dev.streams.listeners[i].mismatchRun ∧ s.dev.streams.listeners[i].toldFormat = false) ∧
    (∃ s : State, s.dev.Awake ∧ s.dev.streams.autostart = true ∧ s.dev.ks.timeValid = false) ∧
    (∃ s : State, s.dev.Awake ∧ s.dev.streams.autostart = true ∧ s.dev.ks.timeValid = true ∧ s.dev.decodeUnits ≤ 128 ∧ (∀ g : Fin 8,
      s.dev.lintel.groups[g].setup.any (·.autostart) = false)) ∧
    (∃ (i : Fin 16) (s : State), s.dev.Awake ∧ s.dev.streams.listeners[i].state = .waiting ∧ s.dev.ks.timeValid = true ∧
      s.dev.streams.listeners[i].rateBad = false ∧ (∀ (t : Nat), s.dev.streams.listeners[i].startAt = some t → t ≤ s.dev.now) ∧
      (s.dev.atReadout i).isSome = true) ∧
    (∃ (i : Fin 16) (s : State), s.dev.Awake ∧ s.dev.streams.listeners[i].state = .starved ∧ (s.dev.atReadout i).isSome = true) ∧
    (∃ (i : Fin 16) (s : State), s.dev.atReadout i = none) ∧
    (∃ (i : Fin 8) (s : State), s.dev.Awake ∧ s.dev.streams.talkers[i].state = .waiting ∧ (∀ (t : Nat),
      s.dev.streams.talkers[i].startAt = some t → t ≤ s.dev.now ∧ s.dev.ks.timeValid = true)) ∧
    (∃ (i : Fin 16) (s : State), s.dev.Awake ∧ s.dev.streams.listeners[i].state = .stopping ∧ s.dev.streams.listeners[i].gain = 0) ∧
    (∃ (i : Fin 16) (s : State), s.dev.Awake ∧ s.dev.streams.listeners[i].state = .stopping ∧ s.dev.streams.listeners[i].gain ≠ 0) ∧
    (∃ (i : Fin 16) (h : i.val < 8) (s : State), s.dev.Awake ∧ s.dev.streams.talkers[(⟨i.val, h⟩ : Fin 8)].state = .stopping ∧
      s.dev.streams.talkers[(⟨i.val, h⟩ : Fin 8)].gain = 0) ∧
    (∃ (i : Fin 16) (h : i.val < 8) (s : State), s.dev.Awake ∧ s.dev.streams.talkers[(⟨i.val, h⟩ : Fin 8)].state = .stopping ∧
      s.dev.streams.talkers[(⟨i.val, h⟩ : Fin 8)].gain ≠ 0) ∧
    (∃ (i : Fin 16) (s : State), s.dev.Awake ∧ s.dev.streams.listeners[i].state = .playing ∧ s.dev.streams.listeners[i].rateBad = false ∧
      300000000 < s.dev.streams.listeners[i].rate.natAbs) ∧
    (∃ (i : Fin 8) (x : TalkerSetup) (f : TalkerFrame) (rest : List TalkerFrame) (s : State), s.dev.Awake ∧
      s.dev.streams.talkers[i].setup = some x ∧ s.dev.streams.talkers[i].ready = f :: rest) :=
  ⟨⟨15, up fun d =>
        { d with streams.listeners := .replicate 16 { resetListener with setup := some lis, state := .playing, unfilledRun := 64 } },
        (awake_of (by decide +kernel)), by decide +kernel⟩,
    ⟨15, 0, up fun d => { d with streams.listeners := .replicate 16 { resetListener with setup := some lis, stopAt := some 0 } },
        (awake_of (by decide +kernel)), by decide +kernel⟩,
    ⟨15, 0, up fun d =>
        { d with streams.listeners := .replicate 16 { resetListener with setup := some lis, stopAt := some 0 }, ks.timeValid := true },
        (awake_of (by decide +kernel)), by decide +kernel⟩,
    ⟨7, (by decide), 0, up fun d =>
        { d with streams.talkers := .replicate 8 { resetTalker with setup := some tks, state := .sending, stopAt := some 0 }, ks.timeValid := true },
        (awake_of (by decide +kernel)), by decide +kernel⟩,
    ⟨15, up fun d => { d with streams.listeners := .replicate 16 { resetListener with setup := some lis, lateRun := 64 } },
        (awake_of (by decide +kernel)), by decide +kernel⟩,
    ⟨15, up fun d => { d with streams.listeners := .replicate 16 { resetListener with setup := some lis, mismatchRun := 64 } },
        (awake_of (by decide +kernel)), by decide +kernel⟩,
    ⟨up fun d => { d with streams.autostart := true }, (awake_of (by decide +kernel)), by decide +kernel⟩,
    ⟨up fun d => { d with streams.autostart := true, ks.timeValid := true }, (awake_of (by decide +kernel)), by decide +kernel⟩,
    ⟨15, up fun d =>
        { d with streams.listeners := .replicate 16 { resetListener with setup := some lis, state := .waiting, filled := [⟨0, 0, [0, 0]⟩], anchor := some (0, 0) }, ks.timeValid := true },
        (awake_of (by decide +kernel)), (by decide +kernel), (by decide +kernel), (by decide +kernel), (fun _ h => nomatch h),
        by decide +kernel⟩,
    ⟨15, up fun d =>
        { d with streams.listeners := .replicate 16 { resetListener with setup := some lis, state := .starved, filled := [⟨0, 0, [0, 0]⟩], anchor := some (0, 0) } },
        (awake_of (by decide +kernel)), by decide +kernel⟩,
    ⟨15, st, by decide +kernel⟩,
    ⟨7, up fun d => { d with streams.talkers := .replicate 8 { resetTalker with setup := some tks, state := .waiting } },
        (awake_of (by decide +kernel)), (by decide +kernel), (fun _ h => nomatch h)⟩,
    ⟨15, up fun d => { d with streams.listeners := .replicate 16 { resetListener with setup := some lis, state := .stopping, gain := 0 } },
        (awake_of (by decide +kernel)), by decide +kernel⟩,
    ⟨15, up fun d => { d with streams.listeners := .replicate 16 { resetListener with setup := some lis, state := .stopping, gain := 1 } },
        (awake_of (by decide +kernel)), by decide +kernel⟩,
    ⟨7, (by decide), up fun d =>
        { d with streams.talkers := .replicate 8 { resetTalker with setup := some tks, state := .stopping, gain := 0 } },
        (awake_of (by decide +kernel)), by decide +kernel⟩,
    ⟨7, (by decide), up fun d =>
        { d with streams.talkers := .replicate 8 { resetTalker with setup := some tks, state := .stopping, gain := 1 } },
        (awake_of (by decide +kernel)), by decide +kernel⟩,
    ⟨15, up fun d =>
        { d with streams.listeners := .replicate 16 { resetListener with setup := some lis, state := .playing, rate := -300000001 } },
        (awake_of (by decide +kernel)), by decide +kernel⟩,
    ⟨7, tks, ⟨.replicate 6 [0, 0], 0, false⟩, [], up fun d =>
        { d with streams.talkers := .replicate 8 { resetTalker with setup := some tks, state := .sending, ready := [⟨.replicate 6 [0, 0], 0, false⟩] } },
        (awake_of (by decide +kernel)), by decide +kernel⟩⟩

theorem witness_StreamCommands :
    (∃ (src : Source) (req : Request) (i : Fin 16) (x : ListenerSetup) (s : State), s.dev.TakesUp src 0x0503 req ∧ req.bit 8 8 = false ∧
      req.fld 8 3 0 = i.val ∧ s.dev.streams.listeners[i].setup = some x ∧ s.dev.streams.listeners[i].state = .idle ∧
      s.dev.streams.listeners[i].group = none ∧ (req.time 0x0C = none ∨ s.dev.ks.timeValid = true) ∧ (x.crf = true ∨
      (s.dev.allocate (.listener i) false (s.dev.regionGranules x)).isSome = true) ∧
      s.dev.decodeUnits + (if x.crf then 0 else x.channels * rateUnits s.dev.ks.rate) ≤ 128) ∧
    (∃ (src : Source) (req : Request) (i : Fin 16) (s : State), s.dev.TakesUp src 0x0504 req ∧ req.bit 8 8 = false ∧ req.fld 8 3 0 = i.val ∧
      s.dev.streams.listeners[i].setup.isSome ∧ s.dev.streams.listeners[i].group = none ∧ req.time 0x0C = none ∧
      s.dev.streams.listeners[i].state = .waiting) ∧
    (∃ (src : Source) (req : Request) (i : Fin 16) (s : State), s.dev.TakesUp src 0x0505 req ∧ req.bit 8 8 = false ∧ req.fld 8 3 0 = i.val ∧
      s.dev.streams.listeners[i].setup.isSome ∧ s.dev.streams.listeners[i].group = none ∧ s.dev.streams.listeners[i].state = .idle ∧
      (req.persist = false ∨ s.dev.flashPermitted = true)) ∧
    (∃ (src : Source) (req : Request) (i : Fin 8) (s : State), s.dev.TakesUp src 0x0505 req ∧ req.bit 8 8 = true ∧ req.fld 8 3 0 = i.val ∧
      s.dev.streams.talkers[i].setup.isSome ∧ s.dev.streams.talkers[i].state = .idle ∧ (req.persist = false ∨ s.dev.flashPermitted = true)) ∧
    (∃ (src : Source) (req : Request) (i : Fin 16) (s : State), s.dev.TakesUp src 0x0506 req ∧ req.bit 8 8 = false ∧ req.fld 8 3 0 = i.val ∧
      s.dev.streams.listeners[i].setup.isSome) ∧
    (∃ (src : Source) (req : Request) (p : Fin 3) (s : State), s.dev.TakesUp src 0x0507 req ∧ req.fld 8 1 0 = p.val) ∧
    (∃ (src : Source) (req : Request) (i : Fin 16) (p : Fin 3) (s : State), s.dev.TakesUp src 0x0501 req ∧ req.fld 8 3 0 = i.val ∧
      req.fld 8 9 8 = p.val ∧ (req.persist = false ∨ s.dev.flashPermitted = true) ∧ 1 ≤ req.fld 0x18 4 0 ∧ req.fld 0x18 4 0 ≤ 16 ∧
      s.dev.streams.listeners[i].state = .idle ∧ s.dev.streams.listeners[i].group = none ∧ (∀ (j : Fin 16) (y : ListenerSetup), j ≠ i →
      s.dev.streams.listeners[j].setup = some y → y.port = p → y.streamId ≠ req.ident 0x0C) ∧ (req.bit 8 12 = true → ∀ (k : Fin 16),
      s.dev.streams.crfSlot[(if req.bit 8 16 then 1 else 0 : Fin 2)] = some k → k = i) ∧
      ((s.dev.listenerRelease i).takeFilter p (req.octets 0x14) (.listener i)).isSome = true) ∧
    (∃ (src : Source) (req : Request) (i : Fin 8) (p : Fin 3) (s : State), s.dev.TakesUp src 0x0502 req ∧ req.fld 8 2 0 = i.val ∧
      req.fld 8 9 8 = p.val ∧ (req.persist = false ∨ s.dev.flashPermitted = true) ∧ 1 ≤ req.fld 0x18 4 0 ∧ req.fld 0x18 4 0 ≤ 16 ∧
      (if req.fld 0x1C 23 16 = 0 then Dev.defaultSpf s.dev.fs (req.bit 8 12) else req.fld 0x1C 23 16) ≤ 64 ∧
      46 + (req.fld 0x18 4 0 * if req.fld 0x1C 23 16 = 0 then Dev.defaultSpf s.dev.fs (req.bit 8 12) else req.fld 0x1C 23 16) * Dev.sampleBytes (clampN 2 4 (req.fld 0x18 10 8)) ≤ 1522 ∧
      s.dev.streams.talkers[i].state = .idle) ∧
    (∃ (src : Source) (req : Request) (i : Fin 8) (x : TalkerSetup) (s : State), s.dev.TakesUp src 0x0503 req ∧ req.bit 8 8 = true ∧ req.fld 8 3 0 = i.val ∧ s.dev.streams.talkers[i].setup = some x ∧ s.dev.streams.talkers[i].state = .idle ∧ (req.time 0x0C = none ∨ s.dev.ks.timeValid = true) ∧ s.dev.talkerUnits + x.channels * rateUnits s.dev.ks.rate ≤ 64 ∧
      (let e := s.dev.modTalker i fun t => { t with state := .waiting }
       4 * (e.idleSlope x.port false + e.idleSlope x.port true) ≤ 3 * s.dev.portKbps x.port)) ∧
    (∃ (src : Source) (req : Request) (i : Fin 16) (s : State), s.dev.TakesUp src 0x0504 req ∧ req.bit 8 8 = false ∧ req.fld 8 3 0 = i.val ∧
      s.dev.streams.listeners[i].setup.isSome = true ∧ s.dev.streams.listeners[i].group = none ∧ req.time 0x0C = none ∧
      (s.dev.streams.listeners[i].state = .playing ∨ s.dev.streams.listeners[i].state = .starved)) ∧
    (∃ (src : Source) (req : Request) (i : Fin 8) (s : State), s.dev.TakesUp src 0x0504 req ∧ req.bit 8 8 = true ∧ req.fld 8 3 0 = i.val ∧
      s.dev.streams.talkers[i].setup.isSome = true ∧ req.time 0x0C = none ∧ s.dev.streams.talkers[i].state = .waiting) ∧
    (∃ (src : Source) (req : Request) (i : Fin 8) (s : State), s.dev.TakesUp src 0x0504 req ∧ req.bit 8 8 = true ∧ req.fld 8 3 0 = i.val ∧
      s.dev.streams.talkers[i].setup.isSome = true ∧ req.time 0x0C = none ∧ s.dev.streams.talkers[i].state = .sending) ∧
    (∃ (src : Source) (req : Request) (i : Fin 16) (t : Nat) (s : State), s.dev.TakesUp src 0x0504 req ∧ req.bit 8 8 = false ∧
      req.fld 8 3 0 = i.val ∧ s.dev.streams.listeners[i].setup.isSome = true ∧ s.dev.streams.listeners[i].group = none ∧
      req.time 0x0C = some t ∧ s.dev.now < t ∧ s.dev.ks.timeValid = true ∧ s.dev.streams.listeners[i].state ≠ .idle ∧ (∀ (x : Nat),
      s.dev.streams.listeners[i].startAt = some x → x < t)) ∧
    (∃ (src : Source) (req : Request) (i : Fin 8) (s : State), s.dev.TakesUp src 0x0506 req ∧ req.bit 8 8 = true ∧ req.fld 8 3 0 = i.val ∧
      s.dev.streams.talkers[i].setup.isSome = true) :=
  ⟨⟨.mb0, rq (.replicate 4 0), 0, lis, up fun d => { d with streams.listeners := .replicate 16 { resetListener with setup := some lis } },
        (takes_up (by decide +kernel)), by decide +kernel⟩,
    ⟨.mb0, rq [15, 0, 0, 0], 15, up fun d =>
        { d with streams.listeners := .replicate 16 { resetListener with setup := some lis, state := .waiting } },
        (takes_up (by decide +kernel)), by decide +kernel⟩,
    ⟨.mb0, rq [15], 15, up fun d => { d with streams.listeners := .replicate 16 { resetListener with setup := some lis } },
        (takes_up (by decide +kernel)), by decide +kernel⟩,
    ⟨.mb0, rq [0x107], 7, up fun d => { d with streams.talkers := .replicate 8 { resetTalker with setup := some tks } },
        (takes_up (by decide +kernel)), by decide +kernel⟩,
    ⟨.mb0, rq [15], 15, up fun d => { d with streams.listeners := .replicate 16 { resetListener with setup := some lis } },
        (takes_up (by decide +kernel)), by decide +kernel⟩,
    ⟨.mb0, rq (.replicate 1 0), 0, st, (takes_up (by decide +kernel)), by decide +kernel⟩,
    ⟨.mb0, rq [0x0000000F, 0, 5, 0x91E0F000, 0x00010202, 0], 15, 0, st, (takes_up (by decide +kernel)), (by decide +kernel),
        (by decide +kernel), (by decide +kernel), (by decide +kernel), (by decide +kernel), (by decide +kernel), (by decide +kernel),
        (fun j y _ h => nomatch ((by decide +kernel : ∀ j : Fin 16, st.dev.streams.listeners[j].setup = none) j).symm.trans h),
        by decide +kernel⟩,
    ⟨.mb0, rq [0x00000007, 0, 6, 0x91E0F000, 0x00020202, 0, 0], 7, 0, st, (takes_up (by decide +kernel)), by decide +kernel⟩,
    ⟨.mb0, rq [0x00000107, 0, 0, 0], 7, tks, up fun d => { d with streams.talkers := .replicate 8 { resetTalker with setup := some tks } },
        (takes_up (by decide +kernel)), (by decide +kernel), (by decide +kernel), (by decide +kernel), (by decide +kernel),
        (.inl (by decide +kernel)), by decide +kernel⟩,
    ⟨.mb0, rq [15, 0, 0, 0], 15, up fun d =>
        { d with streams.listeners := .replicate 16 { resetListener with setup := some lis, state := .playing } },
        (takes_up (by decide +kernel)), (by decide +kernel), (by decide +kernel), (by decide +kernel), (by decide +kernel),
        (by decide +kernel), (.inl (by decide +kernel))⟩,
    ⟨.mb0, rq [0x107, 0, 0, 0], 7, up fun d =>
        { d with streams.talkers := .replicate 8 { resetTalker with setup := some tks, state := .waiting } },
        (takes_up (by decide +kernel)), by decide +kernel⟩,
    ⟨.mb0, rq [0x107, 0, 0, 0], 7, up fun d =>
        { d with streams.talkers := .replicate 8 { resetTalker with setup := some tks, state := .sending } },
        (takes_up (by decide +kernel)), by decide +kernel⟩,
    ⟨.mb0, rq [15, 0, 0, 1], 15, 1, up fun d =>
        { d with streams.listeners := .replicate 16 { resetListener with setup := some lis, state := .playing }, ks.timeValid := true },
        (takes_up (by decide +kernel)), (by decide +kernel), (by decide +kernel), (by decide +kernel), (by decide +kernel),
        (by decide +kernel), (by decide +kernel), (by decide +kernel), (by decide +kernel), (fun _ h => nomatch h)⟩,
    ⟨.mb0, rq [0x107], 7, up fun d => { d with streams.talkers := .replicate 8 { resetTalker with setup := some tks } },
        (takes_up (by decide +kernel)), by decide +kernel⟩⟩

theorem witness_LintelTable :
    ∃ s : State, s.dev.Awake :=
  ⟨st, (awake_of (by decide +kernel))⟩

theorem witness_LintelRows :
    (∃ (g : Fin 8) (w : GroupSetup) (s : State), s.dev.Awake ∧ s.dev.lintel.groups[g].setup = some w ∧
      s.dev.lintel.groups[g].state = .primary ∧ s.dev.streams.listeners[w.primary].state = .playing ∧
      s.dev.streams.listeners[w.standby].state = .playing) ∧
    (∃ (src : Source) (req : Request) (g : Fin 8) (w : GroupSetup) (s : State), s.dev.TakesUp src 0x0603 req ∧ req.fld 8 2 0 = g.val ∧
      s.dev.lintel.groups[g].setup = some w ∧ s.dev.lintel.groups[g].state ≠ .stopped ∧ s.dev.streams.listeners[w.primary].state ≠ .idle ∧
      req.time 0x0C = none) ∧
    (∃ (src : Source) (req : Request) (g : Fin 8) (w : GroupSetup) (s : State), s.dev.TakesUp src 0x0605 req ∧ req.fld 8 2 0 = g.val ∧
      s.dev.lintel.groups[g].setup = some w ∧ s.dev.lintel.groups[g].state ≠ .stopped ∧ s.dev.lintel.groups[g].state ≠ .bothLost ∧
      let target : Fin 2 := if req.bit 8 8 then 1 else 0
      s.dev.lintel.groups[g].inUse = target) ∧
    (∃ (src : Source) (req : Request) (g : Fin 8) (s : State), s.dev.TakesUp src 0x0606 req ∧ req.fld 8 2 0 = g.val) ∧
    (∃ (src : Source) (req : Request) (g : Fin 8) (s : State), s.dev.TakesUp src 0x0607 req ∧ req.fld 8 2 0 = g.val) ∧
    (∃ (src : Source) (req : Request) (t : Fin 8) (pa : Fin 3) (pb : Fin 3) (x : TalkerSetup) (s : State), s.dev.TakesUp src 0x0608 req ∧
      req.fld 8 2 0 = t.val ∧ req.fld 0x0C 17 16 = pa.val ∧ req.fld 0x0C 19 18 = pb.val ∧ pa ≠ pb ∧
      s.dev.streams.talkers[t].setup = some x ∧ x.port = (if req.bit 8 8 then pb else pa) ∧ (req.persist = false ∨
      s.dev.flashPermitted = true)) ∧
    (∃ (g : Fin 8) (f : Fade) (s : State), s.dev.lintel.groups[g].fade = some f ∧ s.dev.fadeOver f = false) ∧
    (∃ (g : Fin 8) (f : Fade) (s : State), s.dev.Awake ∧ s.dev.lintel.groups[g].fade = some f ∧ s.dev.fadeOver f = true) ∧
    (∃ (g : Fin 8) (w : GroupSetup) (s : State), s.dev.Awake ∧ s.dev.lintel.groups[g].setup = some w ∧ w.revertive = true ∧
      s.dev.lintel.groups[g].state = .standby ∧ s.dev.lintel.groups[g].usable[0] = true ∧ s.dev.lintel.groups[g].hold = false ∧
      s.dev.groupWaits w = false) ∧
    (∃ (src : Source) (req : Request) (g : Fin 8) (a : Fin 16) (b : Fin 16) (x : ListenerSetup) (y : ListenerSetup) (s : State),
      s.dev.TakesUp src 0x0601 req ∧ req.fld 8 2 0 = g.val ∧ req.fld 8 11 8 = a.val ∧ req.fld 8 19 16 = b.val ∧ (req.persist = false ∨
      s.dev.flashPermitted = true) ∧ s.dev.streams.listeners[a].setup = some x ∧ s.dev.streams.listeners[b].setup = some y ∧
      s.dev.lintel.groups[g].state = .stopped ∧ s.dev.streams.listeners[a].state = .idle ∧ s.dev.streams.listeners[b].state = .idle ∧
      x.crf = false ∧ y.crf = false ∧ x.port ≠ y.port ∧ x.channels = y.channels ∧ (∀ (k : Fin 8),
      s.dev.streams.listeners[a].group = some k → k = g) ∧ (∀ (k : Fin 8), s.dev.streams.listeners[b].group = some k → k = g) ∧
      req.bit 8 25 = false ∧ (((s.dev.groupRelease g).takeFilter x.port (req.octets 0x10) (.group g)).bind fun d =>
      d.takeFilter y.port (req.octets 0x10) (.group g)).isSome = true) ∧
    (∃ (src : Source) (req : Request) (g : Fin 8) (w : GroupSetup) (s : State), s.dev.TakesUp src 0x0602 req ∧ req.fld 8 2 0 = g.val ∧
      s.dev.lintel.groups[g].setup = some w ∧ s.dev.lintel.groups[g].state = .stopped ∧ s.dev.streams.listeners[w.primary].state = .idle ∧
      s.dev.streams.listeners[w.standby].state = .idle ∧ req.time 0x0C = none ∧ (∃ d detail,
      s.dev.startListeners [w.primary, w.standby] none = .done false detail [] [] d)) ∧
    (∃ (src : Source) (req : Request) (g : Fin 8) (s : State), s.dev.TakesUp src 0x0604 req ∧ req.fld 8 2 0 = g.val ∧
      s.dev.lintel.groups[g].setup.isSome = true ∧ s.dev.lintel.groups[g].state = .stopped ∧ (req.persist = false ∨
      s.dev.flashPermitted = true)) ∧
    (∃ (src : Source) (req : Request) (g : Fin 8) (w : GroupSetup) (s : State), s.dev.TakesUp src 0x0605 req ∧ req.fld 8 2 0 = g.val ∧
      s.dev.lintel.groups[g].setup = some w ∧ s.dev.lintel.groups[g].state ≠ .stopped ∧ s.dev.lintel.groups[g].state ≠ .bothLost ∧
      s.dev.lintel.groups[g].inUse ≠ (if req.bit 8 8 then 1 else 0 : Fin 2) ∧
      s.dev.lintel.groups[g].usable[(if req.bit 8 8 then 1 else 0 : Fin 2)] = true ∧ s.dev.groupWaits w = false) :=
  ⟨⟨7, grp, up fun d =>
        { d with lintel.groups := .replicate 8 { idleGroup (some grp) with state := .primary }, streams.listeners := .replicate 16 { resetListener with setup := some lis, state := .playing } },
        (awake_of (by decide +kernel)), by decide +kernel⟩,
    ⟨.mb0, rq [7, 0, 0, 0], 7, grp, up fun d =>
        { d with lintel.groups := .replicate 8 { idleGroup (some grp) with state := .primary }, streams.listeners := .replicate 16 { resetListener with setup := some lis, state := .playing } },
        (takes_up (by decide +kernel)), by decide +kernel⟩,
    ⟨.mb0, rq [7], 7, grp, up fun d => { d with lintel.groups := .replicate 8 { idleGroup (some grp) with state := .primary } },
        (takes_up (by decide +kernel)), (by decide +kernel), (by decide +kernel), (by decide +kernel), (by decide +kernel),
        by decide +kernel⟩,
    ⟨.mb0, rq (.replicate 1 0), 0, st, (takes_up (by decide +kernel)), by decide +kernel⟩,
    ⟨.mb0, rq (.replicate 1 0), 0, st, (takes_up (by decide +kernel)), by decide +kernel⟩,
    ⟨.mb0, rq [7, 0x00040000, 0, 0], 7, 0, 1, tks, up fun d =>
        { d with streams.talkers := .replicate 8 { resetTalker with setup := some tks } }, (takes_up (by decide +kernel)),
        by decide +kernel⟩,
    ⟨7, ⟨0, 96, 0, 2 ^ 30, false, true⟩, up fun d =>
        { d with lintel.groups := .replicate 8 { idleGroup (some grp) with fade := some ⟨0, 96, 0, 2 ^ 30, false, true⟩ } },
        by decide +kernel⟩,
    ⟨7, ⟨0, 96, 0, 2 ^ 30, false, true⟩, up fun d =>
        { d with lintel.groups := .replicate 8 { idleGroup (some grp) with fade := some ⟨0, 96, 0, 2 ^ 30, false, true⟩ }, ks.ns := 2000000 },
        (awake_of (by decide +kernel)), by decide +kernel⟩,
    ⟨7, grp, up fun d =>
        { d with lintel.groups := .replicate 8 { idleGroup (some grp) with state := .standby, usable := .replicate 2 true } },
        (awake_of (by decide +kernel)), by decide +kernel⟩,
    ⟨.mb0, rq [0x000F0007, 0, 0x91E0F000, 3, 0], 7, 0, 15, lis, { lis with port := 1 }, up fun d =>
        { d with streams.listeners := (Vector.replicate 16 { resetListener with setup := some { lis with port := 1 } }).set 0 { resetListener with setup := some lis } },
        (takes_up (by decide +kernel)), by decide +kernel⟩,
    ⟨.mb0, rq [7, 0, 0, 0], 7, grp, up fun d =>
        { d with lintel.groups := .replicate 8 (idleGroup (some grp)), streams.listeners := .replicate 16 { resetListener with setup := some lis } },
        (takes_up (by decide +kernel)), (by decide +kernel), (by decide +kernel), (by decide +kernel), (by decide +kernel),
        (by decide +kernel), (by decide +kernel), ⟨_, _, rfl⟩⟩,
    ⟨.mb0, rq [7], 7, up fun d => { d with lintel.groups := .replicate 8 (idleGroup (some grp)) }, (takes_up (by decide +kernel)),
        by decide +kernel⟩,
    ⟨.mb0, rq [0x107], 7, grp, up fun d =>
        { d with lintel.groups := .replicate 8 { idleGroup (some grp) with state := .primary, usable := .replicate 2 true } },
        (takes_up (by decide +kernel)), by decide +kernel⟩⟩

theorem witness_PortsAndGrid :
    (∃ (p : Fin 4) (s : State), s.dev.Awake ∧ s.dev.tdm[p].quiet = false ∧ s.dev.tdm[p].pending = false) ∧
    (∃ (p : Fin 4) (s : State), s.dev.Awake ∧ s.dev.tdm[p].quiet = false ∧ s.dev.tdm[p].pending = true ∧ s.dev.tdm[p].state ≠ .stopping) ∧
    (∃ (p : Fin 4) (s : State), s.dev.Awake ∧ s.dev.tdm[p].state = .stopping) ∧
    (∃ (k : Fin 64) (n : Nat) (s : State), s.dev.Awake ∧ s.dev.route.dests[k].newDelay = some n ∧ s.dev.route.dests[k].muteStep = 0 ∧
      (s.dev.placeDelay k n).isSome) ∧
    (∃ bank : List Xp, (bank.Pairwise fun x y => x.src ≠ y.src ∨ x.dst ≠ y.dst) ∧ ∃ x, x ∈ bank) ∧
    (∃ (k : Fin 16) (b : SenseBind) (s : State), s.dev.Awake ∧ s.dev.route.sense[k].bind = some b ∧ b.tagged = true ∧
      s.dev.route.sense[k].stale = false ∧ 48 ≤ s.dev.route.sense[k].same) ∧
    (∃ (k : Fin 16) (b : SenseBind) (s : State), s.dev.Awake ∧ s.dev.route.sense[k].bind = some b ∧ b.tagged = true ∧
      s.dev.route.sense[k].stale = true ∧ 48 ≤ s.dev.route.sense[k].advanced) ∧
    (∃ (k : Fin 64) (n : Nat) (s : State), s.dev.Awake ∧ s.dev.route.dests[k].newDelay = some n ∧ s.dev.route.dests[k].muteStep ≠ 0) ∧
    (∃ (_sdi : List (List Bool)) (s : State), s.dev.power.state = .proofHold) ∧
    (∃ (_sdi : List (List Bool)) (s : State), s.dev.Runs) ∧
    (∃ (d : Dev) (x : Dest) (sum : Int), x.thresh = 127 ∧ x.gainFrom = 2 ^ 22 ∧ x.gainTo = 2 ^ 22 ∧ 0 < x.gainLen ∧ 0 < x.rampLen ∧
      0 < x.muteLen ∧ x.muteStep = x.muteLen ∧ x.newDelay = none ∧ d.destMuted x = false ∧ x.foldback = 0 ∧ d.foldDemand x = 0 ∧
      x.delay = 0 ∧ x.line = []) ∧
    (∃ (d : Dev) (x : Dest) (_sum : Int) (_six : Int) (_den : Nat), d.destMuted x = true ∧ (x.muteStep = 0 ∨ x.muteStep = 1 ∧ 1 < x.muteLen)) ∧
    (∃ (w : Nat) (x : Int), (w = 16 ∨ w = 24 ∨ w = 32) ∧ -2 ^ (w - 1) < Sys2Proof.Machine.slotValue w x ∧
      Sys2Proof.Machine.slotValue w x < 2 ^ (w - 1) - 1) :=
  ⟨⟨0, st, (awake_of (by decide +kernel)), by decide +kernel⟩,
    ⟨3, up fun d => { d with tdm := .replicate 4 { resetTdm with pending := true } }, (awake_of (by decide +kernel)), by decide +kernel⟩,
    ⟨3, up fun d => { d with tdm := .replicate 4 { resetTdm with state := .stopping } }, (awake_of (by decide +kernel)), by decide +kernel⟩,
    ⟨63, 0, up fun d => { d with route.dests := .replicate 64 { resetDest with newDelay := some 0, muteStep := 0 } },
        (awake_of (by decide +kernel)), by decide +kernel⟩,
    ⟨[⟨63, 63, 1⟩], (by decide +kernel), ⟨63, 63, 1⟩, by decide +kernel⟩,
    ⟨15, ⟨3, 1, 0, 15, true⟩, up fun d =>
        { d with route.sense := .replicate 16 { resetSense with bind := some ⟨3, 1, 0, 15, true⟩, same := 48 } },
        (awake_of (by decide +kernel)), by decide +kernel⟩,
    ⟨15, ⟨3, 1, 0, 15, true⟩, up fun d =>
        { d with route.sense := .replicate 16 { resetSense with bind := some ⟨3, 1, 0, 15, true⟩, advanced := 48, stale := true } },
        (awake_of (by decide +kernel)), by decide +kernel⟩,
    ⟨63, 4, up fun d => { d with route.dests := .replicate 64 { resetDest with newDelay := some 4, muteStep := 1 } },
        (awake_of (by decide +kernel)), by decide +kernel⟩,
    ⟨[[], [], [], []], up fun d => { d with power.state := .proofHold }, by decide +kernel⟩,
    ⟨[[], [], [], []], st, (runs_of (by decide +kernel))⟩,
    ⟨base, { resetDest with thresh := 127 }, 2 ^ 30, by decide +kernel⟩,
    ⟨base, { resetDest with muted := true, muteStep := 1 }, 2 ^ 30, 1, 1, (by decide +kernel), (.inr (by decide +kernel))⟩,
    ⟨16, 0, by decide +kernel⟩⟩

theorem witness_RouteCommands :
    (∃ (src : Source) (req : Request) (p : Fin 4) (s : State), s.dev.TakesUp src 0x0701 req ∧ req.fld 8 1 0 = p.val ∧ (req.persist = false ∨
      s.dev.flashPermitted = true) ∧
      let c : TdmCfg := ⟨req.bit 8 8, req.fld 8 17 16, req.fld 8 21 20, req.fld 8 25 24, req.bit 8 28, req.bit 8 29,
        req.fld 0x14 5 0, req.word 0x0C, req.word 0x10⟩
      c.width ≠ 3 ∧ (c.format < 2 → c.slots = 0) ∧ frameBits c * s.dev.fs ≤ 512 * (if rateIs441 s.dev.ks.rate then 44100 else 48000) ∧
        s.dev.slotsKept p c = true ∧ s.dev.tdmUnits p c true ≤ 64 ∧ s.dev.tdmUnits p c false ≤ 64) ∧
    (∃ (src : Source) (req : Request) (p : Fin 4) (s : State), s.dev.TakesUp src 0x0702 req ∧ req.fld 8 1 0 = p.val ∧
      s.dev.tdm[p].state = .off) ∧
    (∃ (src : Source) (req : Request) (p : Fin 4) (s : State), s.dev.TakesUp src 0x0702 req ∧ req.fld 8 1 0 = p.val ∧
      s.dev.tdm[p].state ≠ .off) ∧
    (∃ (src : Source) (req : Request) (p : Fin 4) (s : State), s.dev.TakesUp src 0x0703 req ∧ req.fld 8 1 0 = p.val) ∧
    (∃ (src : Source) (req : Request) (s : State), s.dev.TakesUp src 0x0707 req ∧ (req.persist = false ∨ s.dev.flashPermitted = true)) ∧
    (∃ (src : Source) (req : Request) (k : Fin 64) (s : State), s.dev.TakesUp src 0x0708 req ∧ req.fld 8 5 0 = k.val ∧
      (req.persist = false ∨ s.dev.flashPermitted = true)) ∧
    (∃ (src : Source) (req : Request) (s : State), s.dev.TakesUp src 0x0709 req) ∧
    (∃ (src : Source) (req : Request) (k : Fin 2) (s : State), s.dev.TakesUp src 0x070A req ∧ req.fld 8 0 0 = k.val ∧ (req.persist = false ∨
      s.dev.flashPermitted = true)) ∧
    (∃ (src : Source) (req : Request) (s : State), s.dev.TakesUp src 0x070B req ∧ (req.persist = false ∨ s.dev.flashPermitted = true) ∧
      let top := clampN 0 256 (req.fld 8 8 0)
      (∀ a ∈ s.dev.streams.mortar, ∀ i, a.owner = .listener i → a.first + a.count ≤ 256 - top)) ∧
    (∃ (src : Source) (req : Request) (k : Fin 16) (s : State), s.dev.TakesUp src 0x070C req ∧ req.fld 8 3 0 = k.val ∧
      (req.persist = false ∨ s.dev.flashPermitted = true) ∧ req.bit 8 8 = false) ∧
    (∃ (src : Source) (req : Request) (k : Fin 64) (s : State), s.dev.TakesUp src 0x070D req ∧ req.fld 8 5 0 = k.val) ∧
    (∃ (src : Source) (req : Request) (k : Fin 64) (x : SourceKind) (s : State), s.dev.TakesUp src 0x0704 req ∧ req.fld 8 5 0 = k.val ∧
      Dev.reqSource req = some x ∧ (req.persist = false ∨ s.dev.flashPermitted = true) ∧ (s.dev.route.sources[k] = x ∨
      s.dev.hasXp (some k) none = false) ∧ (∀ i c, x = .listener i c → s.dev.streams.listeners[i].group = none) ∧ (∀ y, x = .slot y →
      s.dev.slotStaged y false = true) ∧ (x = .pilot → ∀ j : Fin 64, j ≠ k → s.dev.route.sources[j] ≠ .pilot) ∧ (x = .pilot →
      (s.dev.modRoute fun r => { r with sources := r.sources.set k x }).pilotFits = true)) ∧
    (∃ (src : Source) (req : Request) (k : Fin 64) (kind : DestKind) (s : State), s.dev.TakesUp src 0x0705 req ∧ req.fld 8 5 0 = k.val ∧
      (req.persist = false ∨ s.dev.flashPermitted = true) ∧ (req.fld 8 10 8 = 0 ∧ kind = .unbound ∨ req.fld 8 10 8 = 1 ∧
      kind = .slot (Dev.slotRef (req.word 0x0C)) ∧ s.dev.slotStaged (Dev.slotRef (req.word 0x0C)) true = true ∨ req.fld 8 10 8 = 2 ∧ ∃ t c,
      kind = .talker t c ∧ fld (req.word 0x0C) 2 0 = t.val ∧ fld (req.word 0x0C) 19 16 = c.val) ∧ (∀ (y : SlotRef), kind = .slot y →
      ∀ (j : Fin 64), j ≠ k → s.dev.route.dests[j].kind ≠ .slot y) ∧ (s.dev.route.dests[k].kind = kind ∨
      s.dev.hasXp none (some k) = false) ∧ req.fld 0x10 11 0 ≤ s.dev.maxDelay ∧
      ((if kind = .unbound then 0 else req.fld 0x10 11 0) = s.dev.route.dests[k].newDelay.getD s.dev.route.dests[k].delay ∨
      (s.dev.placeDelay k (if kind = .unbound then 0 else req.fld 0x10 11 0)).isSome = true)) ∧
    (∃ (src : Source) (req : Request) (s : State), s.dev.TakesUp src 0x0706 req ∧ 1 ≤ (req.word 8).toNat ∧ (req.word 8).toNat ≤ 29 ∧ (∀ i < (req.word 8).toNat, s.dev.route.sources[fld (req.word (0x0C + 8 * i)) 5 0]? ≠ some .pilot) ∧
      let bank := (List.range (req.word 8).toNat).foldl (fun l i => Dev.setXp l
        ⟨⟨fld (req.word (0x0C + 8 * i)) 5 0 % 64, Nat.mod_lt _ (by decide)⟩,
         ⟨fld (req.word (0x0C + 8 * i)) 13 8 % 64, Nat.mod_lt _ (by decide)⟩, fldS (req.word (0x10 + 8 * i)) 23 0⟩) s.dev.route.staged
      bank.length + s.dev.pilotCount ≤ 256) ∧
    (∃ (src : Source) (req : Request) (k : Fin 16) (s : State), s.dev.TakesUp src 0x070C req ∧ req.fld 8 3 0 = k.val ∧ (req.persist = false ∨ s.dev.flashPermitted = true) ∧ req.bit 8 8 = true ∧
      let v := Dev.slotRef (req.word 0x0C)
      let current : Fin 16 := ⟨fld (req.word 0x0C) 19 16 % 16, Nat.mod_lt _ (by decide)⟩
      v.slot ≠ current ∧ s.dev.slotStaged v false = true ∧ s.dev.slotStaged { v with slot := current } false = true ∧ (req.bit 8 9 = true → s.dev.tdm[v.port].staged.width = 2)) :=
  ⟨⟨.mb0, rq (.replicate 4 0), 0, st, (takes_up (by decide +kernel)), (by decide +kernel), (by decide +kernel), by decide +kernel⟩,
    ⟨.mb0, rq (.replicate 1 0), 0, st, (takes_up (by decide +kernel)), by decide +kernel⟩,
    ⟨.mb0, rq [3], 3, up fun d => { d with tdm := .replicate 4 { resetTdm with state := .running } }, (takes_up (by decide +kernel)),
        by decide +kernel⟩,
    ⟨.mb0, rq (.replicate 1 0), 0, st, (takes_up (by decide +kernel)), by decide +kernel⟩,
    ⟨.mb0, rq (.replicate 1 0), st, (takes_up (by decide +kernel)), by decide +kernel⟩,
    ⟨.mb0, rq (.replicate 2 0), 0, st, (takes_up (by decide +kernel)), by decide +kernel⟩,
    ⟨.mb0, rq (.replicate 3 0), st, (takes_up (by decide +kernel))⟩,
    ⟨.mb0, rq (.replicate 2 0), 0, st, (takes_up (by decide +kernel)), by decide +kernel⟩,
    ⟨.mb0, rq (.replicate 1 0), st, (takes_up (by decide +kernel)), (by decide +kernel), by decide +kernel⟩,
    ⟨.mb0, rq (.replicate 2 0), 0, st, (takes_up (by decide +kernel)), by decide +kernel⟩,
    ⟨.mb0, rq (.replicate 1 0), 0, st, (takes_up (by decide +kernel)), by decide +kernel⟩,
    ⟨.mb0, rq [63, 0], 63, .unbound, st, (takes_up (by decide +kernel)), (by decide +kernel), (by decide +kernel), (by decide +kernel),
        (by decide +kernel), (fun _ _ h => nomatch h), (fun _ h => nomatch h), (fun h => nomatch h), (fun h => nomatch h)⟩,
    ⟨.mb0, rq [63, 0, 0, 0], 63, .unbound, st, (takes_up (by decide +kernel)), (by decide +kernel), (by decide +kernel),
        (.inl (by decide +kernel)), (fun _ h => nomatch h), by decide +kernel⟩,
    ⟨.mb0, rq [1, 0x3F3F, 0], st, (takes_up (by decide +kernel)), by decide +kernel⟩,
    ⟨.mb0, rq [0x10F, 0x00010000], 15, up fun d =>
        { d with tdm := .replicate 4 { resetTdm with staged := { resetTdmCfg with enable := true, inEn := 0xFFFFFFFF, outEn := 0xFFFFFFFF, slots := 3 } } },
        (takes_up (by decide +kernel)), by decide +kernel⟩⟩

theorem witness_MeasurementEvents :
    (∃ (k : Fin 16) (s : State), s.dev.Awake ∧
      let x := s.dev.meas.speakers[k]
      x.setup.enable = false) ∧
    (∃ (k : Fin 16) (l : Learn) (s : State), s.dev.Awake ∧ s.dev.meas.speakers[k].learn = some l ∧ 16 ≤ l.count) ∧
    (∃ (k : Fin 16) (l : Learn) (s : State), s.dev.Awake ∧ s.dev.meas.speakers[k].learn = some l ∧ l.count < 16) ∧
    (∃ (d : Dev) (code : Nat), d.dtcFailed code = false) ∧
    (∃ s : State, s.dev.power.state = .active ∧ (s.dev.sup.dieA - s.dev.sup.dieB).natAbs ≤ 32) ∧
    (∃ s : State, s.dev.power.state = .active ∧ 32 < (s.dev.sup.dieA - s.dev.sup.dieB).natAbs) ∧
    (∃ s : State, s.dev.Awake ∧ s.dev.meas.config.amonRatio ≠ 0 ∧
      let out := s.dev.sup.amon * s.dev.meas.config.amonRatio < 1000 * s.dev.meas.config.amonLow ∨
        1000 * s.dev.meas.config.amonHigh < s.dev.sup.amon * s.dev.meas.config.amonRatio
      out) ∧
    (∃ s : State, s.dev.Awake ∧ s.dev.meas.config.amonRatio ≠ 0 ∧
      let out := s.dev.sup.amon * s.dev.meas.config.amonRatio < 1000 * s.dev.meas.config.amonLow ∨
        1000 * s.dev.meas.config.amonHigh < s.dev.sup.amon * s.dev.meas.config.amonRatio
      (¬ out)) ∧
    (∃ (k : Fin 16) (s : State), s.dev.Awake ∧ s.dev.meas.speakers[k].setup.enable = true ∧ s.dev.rejection k ≠ 0) ∧
    (∃ (k : Fin 16) (s : State), s.dev.Awake ∧ s.dev.meas.speakers[k].setup.enable = true ∧ s.dev.rejection k = 0) ∧
    (∃ (k : Fin 16) (t : DcTest) (s : State), s.dev.Awake ∧ s.dev.meas.dcTest = some t ∧ t.queue.head? = some k ∧ t.started = false ∧
      s.dev.dcQuiet k = true ∧ s.dev.slotNumber % 16 ≠ k.val ∧ s.dev.driving = none ∧ s.dev.sup.nvwInhibit = false) ∧
    (∃ (k : Fin 16) (t : DcTest) (s : State), s.dev.Awake ∧ s.dev.meas.dcTest = some t ∧ t.queue.head? = some k ∧ s.dev.dcQuiet k = false) ∧
    (∃ (k : Fin 16) (t : DcTest) (s : State) (y : DcDrive), s.dev.Awake ∧ s.dev.meas.dcTest = some t ∧ t.queue.head? = some k ∧
      t.started = true ∧ s.dev.meas.drive = some y ∧ y.abort = none ∧ 120000000 ≤ s.dev.nsSince y.start) ∧
    (∃ (k : Fin 16) (t : DcTest) (s : State) (y : DcDrive), s.dev.Awake ∧ s.dev.meas.dcTest = some t ∧ t.queue.head? = some k ∧
      s.dev.meas.drive = some y ∧ s.dev.nsSince y.start < 120000000) ∧
    (∃ (k : Fin 16) (t : DcTest) (s : State) (c : DcAbort), s.dev.Awake ∧ s.dev.meas.dcTest = some t ∧ t.queue.head? = some k ∧
      t.started = true ∧ s.dev.dcCause k c = true) ∧
    (∃ (k : Fin 16) (t : DcTest) (s : State) (c : DcAbort), s.dev.Awake ∧ s.dev.meas.dcTest = some t ∧ t.queue.head? = some k ∧
      t.started = true ∧ s.dev.dcCause k c = false) ∧
    (∃ (k : Fin 4) (s : State), s.dev.Awake ∧ (s.dev.gpio.source[(⟨k.val, by omega⟩ : Fin 25)] = none ∨ s.dev.fnLevel ⟨k.val,
      by omega⟩ = true)) ∧
    (∃ (k : Fin 4) (s : State), s.dev.Awake ∧ s.dev.gpio.source[(⟨k.val, by omega⟩ : Fin 25)] ≠ none ∧ s.dev.fnLevel ⟨k.val,
      by omega⟩ = false ∧ s.dev.meas.amps[k].demand = false) ∧
    (∃ (k : Fin 4) (s : State), s.dev.Awake ∧ s.dev.meas.amps[k].demand = true ∧ s.dev.faultHeld k = true ∧
      s.dev.meas.amps[k].latched = false ∧ s.dev.scriptBusy k (some ScriptKind.fault) = false) ∧
    (∃ (k : Fin 4) (s : State), s.dev.Awake ∧ s.dev.faultHeld k = false) ∧
    (∃ (k : Fin 4) (b : Fin 2) (kind : ScriptKind) (step : Nat) (fails : Nat) (ok : Bool) (reply : Option Byte) (t : List BusJob) (s : State),
      s.dev.Awake ∧ s.dev.meas.buses[b].jobs = .script k kind step fails (some ok) reply :: t ∧ s.dev.meas.buses[b].delayEnd ≤ s.dev.cc ∧
      (∀ (c : Fin 2), c ≠ b → s.dev.meas.buses[c].jobs = [])) ∧
    (∃ (b : Fin 2) (s : State) (_r : I2cResult), s.dev.Awake ∧ s.dev.busTransfer b = none) ∧
    (∃ (b : Fin 2) (k : Fin 4) (kind : ScriptKind) (step : Nat) (fails : Nat) (reply : Option Byte) (t : List BusJob) (s : State) (x : Script) (a : ScriptStep) (_l : List Byte),
      s.dev.Awake ∧ (s.dev.busTransfer b).isSome = true ∧ s.dev.meas.buses[b].jobs = .script k kind step fails none reply :: t ∧
      s.dev.scriptOf k kind = some x ∧ x.steps[step]? = some a) ∧
    (∃ (b : Fin 2) (addr : Nat) (n : Nat) (fast : Bool) (wr : List Byte) (_l : List Byte) (tag : Byte) (t : List BusJob) (s : State),
      s.dev.Awake ∧ s.dev.meas.buses[b].retrying = false ∧ s.dev.meas.buses[b].delayEnd ≤ s.dev.cc ∧
      s.dev.meas.buses[b].jobs = .transfer addr fast wr n (.mb0, tag) :: t ∧ s.dev.mail.mb[0].state = .busy) ∧
    (∃ (s : State), s.dev.power.state ≠ .active) ∧
    (∃ (code : Nat) (rest : List Nat) (s : State), s.dev.Powered ∧ s.dev.meas.unsaved = code :: rest ∧ (s.dev.flashPermitted = false ∨
      s.dev.power.state ≠ .active)) ∧
    (∃ (code : Nat) (rest : List Nat) (s : State), s.dev.Powered ∧ s.dev.meas.unsaved = code :: rest ∧ s.dev.flashPermitted = true ∧
      s.dev.power.state = .active) :=
  ⟨⟨0, st, (awake_of (by decide +kernel)), by decide +kernel⟩,
    ⟨15, ⟨0, 0, 16, 7, false⟩, up fun d =>
        { d with meas := { resetMeas with speakers := .replicate 16 { resetSpeaker with setup := { resetSpeaker.setup with enable := true }, learn := some ⟨0, 0, 16, 7, false⟩ } } },
        (awake_of (by decide +kernel)), by decide +kernel⟩,
    ⟨15, ⟨0, 0, 15, 7, false⟩, up fun d =>
        { d with meas := { resetMeas with speakers := .replicate 16 { resetSpeaker with setup := { resetSpeaker.setup with enable := true }, learn := some ⟨0, 0, 15, 7, false⟩ } } },
        (awake_of (by decide +kernel)), by decide +kernel⟩,
    ⟨base, 0, by decide +kernel⟩,
    ⟨st, by decide +kernel⟩,
    ⟨up fun d => { d with sup.dieA := 33 }, by decide +kernel⟩,
    ⟨up fun d => { d with meas.config := { resetMeas.config with amonRatio := 1, amonLow := 1, amonHigh := 2 } },
        (awake_of (by decide +kernel)), (by decide +kernel), by decide +kernel⟩,
    ⟨up fun d => { d with meas.config := { resetMeas.config with amonRatio := 1, amonHigh := 2 } }, (awake_of (by decide +kernel)),
        (by decide +kernel), by decide +kernel⟩,
    ⟨15, up fun d =>
        { d with meas := { resetMeas with speakers := .replicate 16 { resetSpeaker with setup := { resetSpeaker.setup with enable := true } } } },
        (awake_of (by decide +kernel)), by decide +kernel⟩,
    ⟨15, up fun d =>
        { d with meas := { resetMeas with speakers := .replicate 16 { resetSpeaker with setup := { resetSpeaker.setup with enable := true } }, watch := .replicate 16 { freshWatch 0 with weight := 1, samples := 1, voltage := #v[(1, 0), (0, 0), (0, 0)], current := #v[(1, 0), (0, 0), (0, 0)] } }, route.sense := .replicate 16 { resetSense with bind := some ⟨0, 0, 0, 1, true⟩ } },
        (awake_of (by decide +kernel)), by decide +kernel⟩,
    ⟨15, ⟨[15], false, 7⟩, up fun d => { d with meas.dcTest := some ⟨[15], false, 7⟩, cc := 250000000 }, (awake_of (by decide +kernel)),
        by decide +kernel⟩,
    ⟨15, ⟨[15], false, 7⟩, up fun d => { d with meas.dcTest := some ⟨[15], false, 7⟩, cc := 249999999 }, (awake_of (by decide +kernel)),
        by decide +kernel⟩,
    ⟨15, ⟨[15], true, 7⟩, up fun d =>
        { d with meas := { resetMeas with dcTest := some ⟨[15], true, 7⟩, drive := some ⟨15, 0, ⟨0, 0, 0⟩, ⟨0, 0, 0⟩, none⟩ }, cc := 60000000 },
        ⟨15, 0, ⟨0, 0, 0⟩, ⟨0, 0, 0⟩, none⟩, (awake_of (by decide +kernel)), by decide +kernel⟩,
    ⟨15, ⟨[15], true, 7⟩, up fun d =>
        { d with meas := { resetMeas with dcTest := some ⟨[15], true, 7⟩, drive := some ⟨15, 0, ⟨0, 0, 0⟩, ⟨0, 0, 0⟩, none⟩ }, cc := 59999999 },
        ⟨15, 0, ⟨0, 0, 0⟩, ⟨0, 0, 0⟩, none⟩, (awake_of (by decide +kernel)), by decide +kernel⟩,
    ⟨15, ⟨[15], true, 7⟩, up fun d => { d with meas.dcTest := some ⟨[15], true, 7⟩, sup.nvwInhibit := true }, .supply,
        (awake_of (by decide +kernel)), by decide +kernel⟩,
    ⟨15, ⟨[15], true, 7⟩, up fun d => { d with meas.dcTest := some ⟨[15], true, 7⟩ }, .supply, (awake_of (by decide +kernel)),
        by decide +kernel⟩,
    ⟨3, up fun d => { d with gpio := { resetGpio with source := .replicate 25 none } }, (awake_of (by decide +kernel)),
        (.inl (by decide +kernel))⟩,
    ⟨3, up fun d =>
        { d with gpio := { resetGpio with pins := .replicate 37 { cfg := 0, locked := false, raw := false, filt := false, since := 0, hold := none, holdEnd := 0, sleepLatch := none, conflict := false, watch := ⟨0, 0, false⟩ } } },
        (awake_of (by decide +kernel)), by decide +kernel⟩,
    ⟨3, up fun d => { d with meas := { resetMeas with amps := .replicate 4 { resetAmp with demand := true } }, cc := 50000000 },
        (awake_of (by decide +kernel)), by decide +kernel⟩,
    ⟨3, up fun d => { d with meas := { resetMeas with amps := .replicate 4 { resetAmp with demand := true } }, cc := 49999999 },
        (awake_of (by decide +kernel)), by decide +kernel⟩,
    ⟨3, 0, .user, 0, 0, true, none, [], up fun d =>
        { d with meas := { resetMeas with buses := #v[⟨[.script 3 .user 0 0 (some true) none], false, 0, false⟩, ⟨[], false, 0, false⟩] } },
        (awake_of (by decide +kernel)), by decide +kernel⟩,
    ⟨0, st, .nack, (awake_of (by decide +kernel)), by decide +kernel⟩,
    ⟨0, 3, .user, 0, 0, none, [], up fun d =>
        { d with meas := { resetMeas with buses := #v[⟨[.script 3 .user 0 0 none none], false, 0, false⟩, ⟨[], false, 0, false⟩], amps := .replicate 4 { resetAmp with scripts := .replicate 3 (some scr) } } },
        scr, ⟨1, 1, 2, 0, 3⟩, [], (awake_of (by decide +kernel)), by decide +kernel⟩,
    ⟨0, 0x20, 1, false, [], [], 7, [], up fun d =>
        { d with meas := { resetMeas with buses := #v[⟨[.transfer 0x20 false [] 1 (.mb0, 7)], false, 0, false⟩, ⟨[], false, 0, false⟩] }, mail.mb := .replicate 2 { resetMailbox with state := .busy } },
        (awake_of (by decide +kernel)), by decide +kernel⟩,
    ⟨up fun d => { d with power.state := .boot }, by decide +kernel⟩,
    ⟨9, [], up fun d => { d with meas.unsaved := [9], sup.nvwInhibit := true }, (powered_of (by decide +kernel)), (by decide +kernel),
        (.inl (by decide +kernel))⟩,
    ⟨9, [], up fun d => { d with meas.unsaved := [9] }, (powered_of (by decide +kernel)), by decide +kernel⟩⟩

theorem witness_MeasCommands :
    (∃ (src : Source) (req : Request) (k : Fin 16) (s : State), s.dev.TakesUp src 0x0803 req ∧ req.fld 8 3 0 = k.val) ∧
    (∃ (src : Source) (req : Request) (k : Fin 16) (s : State), s.dev.TakesUp src 0x0804 req ∧ req.fld 8 3 0 = k.val ∧
      (req.persist = false ∨ s.dev.flashPermitted = true) ∧ req.fld 8 9 8 = 0 ∧ (∀ j < 5,
      s.dev.dtcFailed (Dev.speakerDtc k (j + 1)) = false)) ∧
    (∃ (src : Source) (req : Request) (k : Fin 16) (s : State), s.dev.TakesUp src 0x0804 req ∧ req.fld 8 3 0 = k.val ∧
      (req.persist = false ∨ s.dev.flashPermitted = true) ∧ req.fld 8 9 8 = 1) ∧
    (∃ (src : Source) (req : Request) (k : Fin 16) (s : State), s.dev.TakesUp src 0x0804 req ∧ req.fld 8 3 0 = k.val ∧
      (req.persist = false ∨ s.dev.flashPermitted = true) ∧ req.fld 8 9 8 = 2) ∧
    (∃ (src : Source) (req : Request) (k : Fin 16) (s : State), s.dev.TakesUp src 0x0804 req ∧ req.fld 8 3 0 = k.val ∧
      (req.persist = false ∨ s.dev.flashPermitted = true) ∧ req.fld 8 9 8 = 3) ∧
    (∃ (src : Source) (req : Request) (s : State), s.dev.TakesUp src 0x0805 req ∧ s.dev.sup.nvwInhibit = false ∧ s.dev.meas.dcTest = none ∧
      let ks := (allFin 16).filter fun k => (req.word 8).getLsbD k.val && s.dev.meas.speakers[k].setup.enable
      ks ≠ []) ∧
    (∃ (src : Source) (req : Request) (s : State), s.dev.TakesUp src 0x0805 req ∧ s.dev.sup.nvwInhibit = false ∧ s.dev.meas.dcTest = none ∧
      let ks := (allFin 16).filter fun k => (req.word 8).getLsbD k.val && s.dev.meas.speakers[k].setup.enable
      ks = []) ∧
    (∃ (src : Source) (req : Request) (s : State), s.dev.TakesUp src 0x0806 req) ∧
    (∃ (src : Source) (req : Request) (s : State), s.dev.TakesUp src 0x0807 req ∧ req.fld 8 5 0 < 48) ∧
    (∃ (src : Source) (req : Request) (s : State), s.dev.TakesUp src 0x0808 req ∧ s.dev.sup.nvwInhibit = false ∧ req.fld 8 23 0 = 0xFFFFFF) ∧
    (∃ (src : Source) (req : Request) (s : State), s.dev.TakesUp src 0x0808 req ∧ s.dev.sup.nvwInhibit = false ∧
      req.fld 8 23 0 ∈ Dev.dtcCodes) ∧
    (∃ (src : Source) (req : Request) (k : Fin 4) (kind : ScriptKind) (s : State), s.dev.TakesUp src 0x0809 req ∧ req.fld 8 1 0 = k.val ∧
      req.fld 8 9 8 = (Dev.kindIx kind).val ∧ req.fld 0x0C 4 0 ≤ 24 ∧ (req.persist = false ∨ s.dev.flashPermitted = true) ∧
      (∀ i < req.fld 0x0C 4 0, req.fld (0x10 + 8 * i) 2 0 ≤ 3)) ∧
    (∃ (src : Source) (req : Request) (k : Fin 4) (kind : ScriptKind) (s : State), s.dev.TakesUp src 0x080A req ∧ req.fld 8 1 0 = k.val ∧
      req.fld 8 9 8 = (Dev.kindIx kind).val ∧ s.dev.scriptOf k kind ≠ none ∧ s.dev.scriptBusy k none = false) ∧
    (∃ (src : Source) (req : Request) (s : State), s.dev.TakesUp src 0x080B req ∧ (req.persist = false ∨ s.dev.flashPermitted = true)) ∧
    (∃ (src : Source) (req : Request) (k : Fin 16) (a : Fin 4) (t : Fin 64) (s : State), s.dev.TakesUp src 0x0801 req ∧ req.fld 8 3 0 = k.val ∧ req.fld 8 13 12 = a.val ∧ req.fld 8 29 24 = t.val ∧ (req.persist = false ∨ s.dev.flashPermitted = true) ∧
      let c : SpeakerSetup := ⟨req.bit 8 8, a, min 2 (req.fld 8 17 16), t, req.fld 0x0C 15 0, req.fld 0x0C 31 16, fldS (req.word 0x10) 15 0,
        Dev.dflt (req.fld 0x14 15 0) 100 10 65535, Dev.dflt (req.fld 0x14 31 16) 4000 10 65535, Dev.dflt (req.fld 0x18 7 0) 160 110 255,
        Dev.dflt (req.fld 0x18 15 8) 25 5 90, Dev.dflt (req.fld 0x18 23 16) 20 5 90, Dev.dflt (req.fld 0x18 27 24) 4 1 15,
        Dev.dflt (req.fld 0x18 31 28) 8 1 15, Dev.dflt (req.fld 0x1C 15 0) 50 10 65535, Dev.dflt (req.fld 0x1C 31 16) 4000 10 65535,
        Dev.dflt (req.fld 0x20 7 0) 15 5 90⟩
      c.enable = true ∧ (∃ x, s.dev.route.dests[t].kind = .slot x) ∧
        (s.dev.modSpeaker k fun x => { x with setup := c }).pilotFits = true) ∧
    (∃ (src : Source) (req : Request) (s : State), s.dev.TakesUp src 0x0802 req ∧ (req.persist = false ∨ s.dev.flashPermitted = true) ∧
      let e : Dev := { s.dev with meas := { s.dev.meas with
        config := ⟨req.bit 8 0, Dev.dflt (req.fld 8 15 8) 110 60 150, Dev.dflt (req.fld 8 23 16) 10 1 50, Dev.dflt (req.fld 8 31 24) 60 0 240,
          Dev.dflt (req.fld 0x0C 7 0) 135 60 150, Dev.dflt (req.fld 0x0C 15 8) 15 1 50, Dev.dflt (req.fld 0x0C 23 16) 10 1 255,
          Dev.dflt (req.fld 0x0C 27 24) 3 0 15, req.fld 0x10 15 0, req.fld 0x14 15 0, req.fld 0x14 31 16,
          Dev.dflt (req.fld 0x18 7 0) 34 20 60, Dev.dflt (req.fld 0x18 15 8) 60 40 90⟩ } }
      req.bit 8 0 = true ∧ e.pilotFits = true) ∧
    (∃ (src : Source) (req : Request) (s : State), s.dev.TakesUp src 0x080C req ∧ req.fld 8 19 16 ≤ 8 ∧ req.fld 8 27 24 ≤ 8 ∧
      req.fld 8 27 24 ≤ (List.flatMap (fun w => natBe 4 (BitVec.toNat w)) (List.drop 1 req.payload)).length ∧
      s.dev.meas.buses[(if req.bit 8 0 then 1 else 0 : Fin 2)].stuck = false) :=
  ⟨⟨.mb0, rq (.replicate 1 0), 0, st, (takes_up (by decide +kernel)), by decide +kernel⟩,
    ⟨.mb0, rq (.replicate 3 0), 0, st, (takes_up (by decide +kernel)), by decide +kernel⟩,
    ⟨.mb0, rq [0x10F, 0, 0], 15, st, (takes_up (by decide +kernel)), by decide +kernel⟩,
    ⟨.mb0, rq [0x20F, 0, 0], 15, st, (takes_up (by decide +kernel)), by decide +kernel⟩,
    ⟨.mb0, rq [0x30F, 0, 0], 15, st, (takes_up (by decide +kernel)), by decide +kernel⟩,
    ⟨.mb0, rq [0x8000], up fun d =>
        { d with meas := { resetMeas with speakers := .replicate 16 { resetSpeaker with setup := { resetSpeaker.setup with enable := true } } } },
        (takes_up (by decide +kernel)), (by decide +kernel), (by decide +kernel), by decide +kernel⟩,
    ⟨.mb0, rq (.replicate 1 0), st, (takes_up (by decide +kernel)), (by decide +kernel), (by decide +kernel), by decide +kernel⟩,
    ⟨.mb0, rq (.replicate 0 0), st, (takes_up (by decide +kernel))⟩,
    ⟨.mb0, rq (.replicate 1 0), st, (takes_up (by decide +kernel)), by decide +kernel⟩,
    ⟨.mb0, rq [0xFFFFFF], st, (takes_up (by decide +kernel)), by decide +kernel⟩,
    ⟨.mb0, rq [BitVec.ofNat 32 (Dev.speakerDtc 15 1)], st, (takes_up (by decide +kernel)), by decide +kernel⟩,
    ⟨.mb0, rq [0x203, 0], 3, .user, st, (takes_up (by decide +kernel)), by decide +kernel⟩,
    ⟨.mb0, rq [0x203], 3, .user, up fun d =>
        { d with meas := { resetMeas with amps := .replicate 4 { resetAmp with scripts := .replicate 3 (some scr) } } },
        (takes_up (by decide +kernel)), by decide +kernel⟩,
    ⟨.mb0, rq (.replicate 1 0), st, (takes_up (by decide +kernel)), by decide +kernel⟩,
    ⟨.mb0, rq (0x3F00310F :: List.replicate 6 0), 15, 3, 63, up fun d =>
        { d with route.dests := .replicate 64 { resetDest with kind := .slot ⟨0, 0, 0⟩ } }, (takes_up (by decide +kernel)),
        (by decide +kernel), (by decide +kernel), (by decide +kernel), (by decide +kernel), (by decide +kernel), ⟨⟨0, 0, 0⟩,
        by decide +kernel⟩, by decide +kernel⟩,
    ⟨.mb0, rq (1 :: List.replicate 4 0), st, (takes_up (by decide +kernel)), (by decide +kernel), by decide +kernel⟩,
    ⟨.mb0, rq (.replicate 2 0), st, (takes_up (by decide +kernel)), by decide +kernel⟩⟩

theorem witness_CanController :
    (∃ (f : CanFrame) (s : State), s.dev.Awake ∧ (s.dev.canOn = false ∨ s.dev.can.sending ≠ none ∨ (f.fd = true ∧
      s.dev.rbit Reg.CAN_CTRL 1 = false))) ∧
    (∃ (f : CanFrame) (s : State), s.dev.Awake ∧ s.dev.canOn = true ∧ s.dev.can.sending = none ∧ (f.fd = true →
      s.dev.rbit Reg.CAN_CTRL 1 = true) ∧ s.dev.can.tec ≤ 255) ∧
    (∃ (n : Fin 32) (s : State), s.dev.Awake ∧ s.dev.can.sending = some n) ∧
    (∃ s : State, s.dev.Awake ∧ 64 ≤ s.dev.can.ackRun ∧ s.dev.can.alone = false) ∧
    (∃ s : State, s.dev.Awake ∧ s.dev.can.ackRun < 64) ∧
    (∃ s : State, s.dev.Awake ∧ s.dev.can.fc = .busOff ∧ s.dev.can.recovering = true ∧ s.dev.can.initAck = false) ∧
    (∃ s : State, s.dev.Awake ∧ s.dev.can.fc ≠ .busOff) ∧
    (∃ s : State, s.dev.Awake ∧ s.dev.can.sending = none ∧ s.dev.rbit Reg.CAN_CTRL 0 = true ∧ s.dev.can.initAck = false) ∧
    (∃ s : State, s.dev.Writable ∧ s.dev.can.fc = .busOff) ∧
    (∃ s : State, s.dev.Writable ∧ s.dev.can.fc ≠ .busOff) ∧
    (∃ s : State, s.dev.Powered ∧ (s.dev.power.state = .quiet ∨ s.dev.power.quietEntry.isSome)) ∧
    (∃ s : State, s.dev.Powered ∧ s.dev.power.state ≠ .quiet ∧ s.dev.power.quietEntry = none) ∧
    (∃ (s : State), s.dev.Awake ∧ s.dev.canOn = true ∧ s.dev.rbit Reg.CAN_CTRL 0 = false ∧ s.dev.can.listen = false ∧
      s.dev.can.sending = none ∧ s.dev.cc < s.dev.can.suspendEnd) ∧
    (∃ (s : State), s.dev.Awake ∧ s.dev.canOn = true ∧ s.dev.rbit Reg.CAN_CTRL 0 = false ∧ s.dev.can.listen = false ∧
      s.dev.can.sending = none ∧ s.dev.can.suspendEnd ≤ s.dev.cc) ∧
    (∃ (s : State), s.dev.Awake ∧ s.dev.can.sending = none ∧ s.dev.power.state = .boot) ∧
    (∃ (s : State), s.dev.Awake ∧ s.dev.can.sending = none ∧ s.dev.rbit Reg.CAN_CTRL 0 = false ∧ s.dev.can.initAck = true ∧
      s.dev.power.state ≠ .boot) :=
  ⟨⟨canf, st, (awake_of (by decide +kernel)), by decide +kernel⟩,
    ⟨canf, up fun d => { d with can := { resetCan with initAck := false, tec := 255 } }, (awake_of (by decide +kernel)), by decide +kernel⟩,
    ⟨31, up fun d => { d with can := { resetCan with sending := some 31 } }, (awake_of (by decide +kernel)), by decide +kernel⟩,
    ⟨up fun d => { d with can := { resetCan with ackRun := 64 } }, (awake_of (by decide +kernel)), by decide +kernel⟩,
    ⟨up fun d => { d with can := { resetCan with ackRun := 63 } }, (awake_of (by decide +kernel)), by decide +kernel⟩,
    ⟨up fun d => { d with can := { resetCan with initAck := false, fc := .busOff, recovering := true } }, (awake_of (by decide +kernel)),
        by decide +kernel⟩,
    ⟨st, (awake_of (by decide +kernel)), by decide +kernel⟩,
    ⟨up fun d => ({ d with can := { resetCan with initAck := false } } : Dev).setReg Reg.CAN_CTRL 1, (awake_of (by decide +kernel)),
        by decide +kernel⟩,
    ⟨up fun d => { d with can := { resetCan with fc := .busOff } }, (writable_of (by decide +kernel)), by decide +kernel⟩,
    ⟨st, (writable_of (by decide +kernel)), by decide +kernel⟩,
    ⟨up fun d => { d with power.state := .quiet }, (powered_of (by decide +kernel)), (.inl rfl)⟩,
    ⟨st, (powered_of (by decide +kernel)), by decide +kernel⟩,
    ⟨up fun d => ({ d with can := { resetCan with initAck := false, suspendEnd := 1 }, cc := 0 } : Dev).setReg Reg.CAN_CTRL 0,
        (awake_of (by decide +kernel)), by decide +kernel⟩,
    ⟨up fun d => ({ d with can := { resetCan with initAck := false, suspendEnd := 1 }, cc := 1 } : Dev).setReg Reg.CAN_CTRL 0,
        (awake_of (by decide +kernel)), by decide +kernel⟩,
    ⟨up fun d => { d with power.state := .boot }, (awake_of (by decide +kernel)), by decide +kernel⟩,
    ⟨up fun d => d.setReg Reg.CAN_CTRL 0, (awake_of (by decide +kernel)), by decide +kernel⟩⟩

theorem witness_TesterAndCanCommands :
    (∃ (r : IsoRx) (s : State), s.dev.power.state = .active ∧ s.dev.can.rx = some r ∧ r.bytes.length < r.length) ∧
    (∃ (r : IsoRx) (s : State), s.dev.power.state = .active ∧ s.dev.can.rx = some r ∧ r.length ≤ r.bytes.length ∧ s.dev.udsPending = none) ∧
    (∃ (r : IsoRx) (s : State), s.dev.power.state = .active ∧ s.dev.can.rx = some r ∧ r.length ≤ r.bytes.length ∧ s.dev.udsPending ≠ none ∧
      (r.functional = false) ∧ r.bytes ≠ [0x3E, 0x80]) ∧
    (∃ (sid : Byte) (s : State), s.dev.power.state = .active ∧ s.dev.udsPending = some sid) ∧
    (∃ s : State, s.dev.Awake ∧ s.dev.can.uds.session ≠ 0 ∧ s.dev.udsPending = none) ∧
    (∃ (sub : Byte) (s : State), s.dev.power.state = .active ∧ 1 ≤ sub.toNat % 128 ∧ sub.toNat % 128 ≤ 3) ∧
    (∃ (sub : Byte) (s : State), s.dev.power.state = .active ∧ sub.toNat % 128 = 1) ∧
    (∃ (g : BitVec 24) (s : State), s.dev.power.state = .active ∧ s.dev.can.uds.session = 2 ∧ s.dev.sup.nvwInhibit = false ∧
      g.toNat ∈ Dev.dtcCodes) ∧
    (∃ s : State, s.dev.power.state = .active ∧ s.dev.can.uds.session ≠ 2) ∧
    (∃ (ids : List U16) (f : U16 → List Byte) (s : State), s.dev.power.state = .active ∧ ids ≠ [] ∧ ids.length ≤ 4 ∧ (∀ i ∈ ids,
      s.dev.didBytes i = some (f i))) ∧
    (∃ s : State, s.dev.power.state = .active ∧ (s.dev.can.uds.session = 1 ∨ s.dev.can.uds.session = 2) ∧ s.dev.can.uds.delaying = true) ∧
    (∃ s : State, s.dev.power.state = .active ∧ (s.dev.can.uds.session = 1 ∨ s.dev.can.uds.session = 2) ∧ s.dev.can.uds.delaying = false ∧
      s.dev.can.tester.secret = none) ∧
    (∃ s : State, s.dev.power.state = .active ∧ (s.dev.can.uds.session = 1 ∨ s.dev.can.uds.session = 2) ∧ s.dev.can.uds.delaying = false ∧
      s.dev.can.tester.secret ≠ none) ∧
    (∃ s : State, s.dev.power.state = .active ∧ (s.dev.can.uds.session = 1 ∨ s.dev.can.uds.session = 2) ∧
      ∃ (key : Word) (seed : Word) (secret : Word), s.dev.can.uds.seed = some seed ∧ s.dev.can.tester.secret = some secret ∧
      key = securityKey seed secret) ∧
    (∃ s : State, s.dev.power.state = .active ∧ (s.dev.can.uds.session = 1 ∨ s.dev.can.uds.session = 2) ∧
      ∃ (key : Word) (seed : Word) (secret : Word), s.dev.can.uds.seed = some seed ∧ s.dev.can.tester.secret = some secret ∧
      key ≠ securityKey seed secret) ∧
    (∃ s : State, s.dev.power.state = .active ∧ s.dev.can.uds.session = 2 ∧ s.dev.can.uds.unlocked = false) ∧
    (∃ s : State, s.dev.power.state = .active ∧ s.dev.can.uds.session = 2 ∧ s.dev.can.uds.unlocked = true) ∧
    (∃ (x : FwuSession) (s : State), s.dev.power.state = .active ∧ s.dev.can.uds.session = 1 ∧ s.dev.can.uds.unlocked = true ∧
      s.dev.flash.session = some x ∧ x.holder = .tester ∧ x.erased = true ∧ x.length ≤ 458752 ∧ s.dev.can.uds.download = true ∧
      programInhibit s.dev = none ∧ ∃ data : List Byte, 8 ≤ data.length ∧ data.length ≤ 224 ∧ data.length % 8 = 0 ∧
      4 * x.received.length + data.length ≤ x.length) ∧
    (∃ (x : FwuSession) (s : State), s.dev.power.state = .active ∧ s.dev.can.uds.session = 1 ∧ s.dev.can.uds.unlocked = true ∧
      s.dev.flash.session = some x ∧ x.holder = .tester ∧ x.erased = true ∧ x.length ≤ 458752 ∧ s.dev.can.uds.download = true ∧
      programInhibit s.dev = none ∧ x.length ≤ 4 * x.received.length ∧ Config.sha256 x.received = x.digest) ∧
    (∃ (src : Source) (req : Request) (s : State), s.dev.TakesUp src 0x0901 req ∧ canTimingBad (req.word 8) (req.word 0x0C) = none ∧
      (req.persist = false ∨ s.dev.flashPermitted = true) ∧ s.dev.can.initAck = true) ∧
    (∃ (src : Source) (req : Request) (s : State), s.dev.TakesUp src 0x0901 req ∧ canTimingBad (req.word 8) (req.word 0x0C) = none ∧
      (req.persist = false ∨ s.dev.flashPermitted = true) ∧ s.dev.can.initAck = false) ∧
    (∃ (src : Source) (req : Request) (s : State), s.dev.TakesUp src 0x0902 req ∧ s.dev.can.uds.session = 0 ∧ (req.persist = false ∨
      s.dev.flashPermitted = true) ∧
      let ide := req.bit 8 31
      let a := canId (req.word 8) ide
      let b := canId (req.word 0x0C) ide
      let c := canId (req.word 0x10) ide
      a ≠ b ∧ a ≠ c ∧ b ≠ c) ∧
    (∃ (src : Source) (req : Request) (n : Fin 32) (s : State), s.dev.TakesUp src 0x0903 req ∧ req.fld 8 4 0 = n.val ∧ 4 ≤ n.val ∧
      lengthOk (req.bit 8 11) (req.fld 8 22 16) = true ∧ req.length = dataLength 12 (req.fld 8 22 16) ∧ s.dev.can.objs[n].pending = false ∧
      (req.persist = false ∨ s.dev.flashPermitted = true)) ∧
    (∃ (src : Source) (req : Request) (n : Fin 32) (s : State), s.dev.TakesUp src 0x0904 req ∧ req.fld 8 4 0 = n.val ∧ 4 ≤ n.val ∧
      s.dev.can.objs[n].transmit = true ∧ lengthOk s.dev.can.objs[n].fd (req.fld 8 22 16) = true ∧
      req.length = dataLength 4 (req.fld 8 22 16)) ∧
    (∃ (src : Source) (req : Request) (n : Fin 32) (s : State), s.dev.TakesUp src 0x0905 req ∧ req.fld 8 4 0 = n.val ∧ 4 ≤ n.val ∧
      s.dev.can.objs[n].held = none) ∧
    (∃ (src : Source) (req : Request) (n : Fin 32) (s : State), s.dev.TakesUp src 0x0905 req ∧ req.fld 8 4 0 = n.val ∧ 4 ≤ n.val ∧ ∃ h,
      s.dev.can.objs[n].held = some h ∧ h.frame.data.length ≤ 64) ∧
    (∃ (src : Source) (req : Request) (s : State), s.dev.TakesUp src 0x0906 req) ∧
    (∃ (c : BitVec 24) (s : State) (r : Byte), s.dev.power.state = .active ∧ (r = 1 ∨ r = 2 ∨ r = 255) ∧
      (∀ x ∈ Dev.storeDtcs s.dev.meas.store, x.code ≠ c.toNat)) ∧
    (∃ (c : BitVec 24) (s : State), s.dev.power.state = .active ∧ (∃ x ∈ Dev.storeDtcs s.dev.meas.store, x.code = c.toNat)) :=
  ⟨⟨⟨9, [1, 2, 3, 4, 5, 6], 1, 0, false⟩, up fun d => { d with can := { resetCan with rx := some ⟨9, [1, 2, 3, 4, 5, 6], 1, 0, false⟩ } },
        by decide +kernel⟩,
    ⟨⟨2, [0x3E, 0], 1, 0, false⟩, up fun d => { d with can := { resetCan with rx := some ⟨2, [0x3E, 0], 1, 0, false⟩ } }, by decide +kernel⟩,
    ⟨⟨2, [0x3E, 0], 1, 0, false⟩, up fun d =>
        { d with can := { resetCan with uds := { resetUds with awaiting := some 0x22 }, rx := some ⟨2, [0x3E, 0], 1, 0, false⟩ } },
        by decide +kernel⟩,
    ⟨0x22, up fun d => { d with can := { resetCan with uds := { resetUds with awaiting := some 0x22 } } }, by decide +kernel⟩,
    ⟨up fun d => { d with can := { resetCan with uds := { resetUds with session := 2 } } }, (awake_of (by decide +kernel)),
        by decide +kernel⟩,
    ⟨0x83, st, by decide +kernel⟩,
    ⟨0x81, st, by decide +kernel⟩,
    ⟨BitVec.ofNat 24 (Dev.speakerDtc 15 1), up fun d => { d with can := { resetCan with uds := { resetUds with session := 2 } } },
        by decide +kernel⟩,
    ⟨st, by decide +kernel⟩,
    ⟨[0xF187], fun _ => [0x51, 0x45, 0x31, 0x36, 0x36, 0x34, 0x2D, 0x42, 0x30], st, (by decide +kernel), (by decide +kernel),
        (by decide +kernel), (by intro i hi; obtain rfl := List.mem_singleton.mp hi; rfl)⟩,
    ⟨up fun d => { d with can := { resetCan with uds := { resetUds with session := 2, delaying := true } } }, by decide +kernel⟩,
    ⟨up fun d => { d with can := { resetCan with uds := { resetUds with session := 2 } } }, by decide +kernel⟩,
    ⟨up fun d =>
        { d with can := { resetCan with uds := { resetUds with session := 2 }, tester := { resetCan.tester with secret := some 9 } } },
        by decide +kernel⟩,
    ⟨up fun d =>
        { d with can := { resetCan with uds := { resetUds with session := 2, seed := some 1 }, tester := { resetCan.tester with secret := some 9 } } },
        (by decide +kernel), (by decide +kernel), securityKey 1 9, 1, 9, (by decide +kernel), (by decide +kernel), rfl⟩,
    ⟨up fun d =>
        { d with can := { resetCan with uds := { resetUds with session := 2, seed := some 1 }, tester := { resetCan.tester with secret := some 9 } } },
        (by decide +kernel), (by decide +kernel), securityKey 1 9 + 1, 1, 9, by decide +kernel⟩,
    ⟨up fun d => { d with can := { resetCan with uds := { resetUds with session := 2 } } }, by decide +kernel⟩,
    ⟨up fun d => { d with can := { resetCan with uds := { resetUds with session := 2, unlocked := true } } }, by decide +kernel⟩,
    ⟨{ sess with holder := .tester, length := 16 }, up fun d =>
        { d with can := { resetCan with uds := { resetUds with session := 1, unlocked := true, download := true } }, flash.session := some { sess with holder := .tester, length := 16 } },
        (by decide +kernel), (by decide +kernel), (by decide +kernel), rfl, rfl, rfl, (by decide +kernel), (by decide +kernel),
        (by decide +kernel), .replicate 8 0, by decide +kernel⟩,
    ⟨{ sess with holder := .tester }, up fun d =>
        { d with can := { resetCan with uds := { resetUds with session := 1, unlocked := true, download := true } }, flash.session := some { sess with holder := .tester } },
        (by decide +kernel), (by decide +kernel), (by decide +kernel), rfl, rfl, rfl, (by decide +kernel), (by decide +kernel),
        (by decide +kernel), (by decide +kernel), rfl⟩,
    ⟨.mb0, rq [0x00104E09, 0x8A9, 0], st, (takes_up (by decide +kernel)), by decide +kernel⟩,
    ⟨.mb0, rq [0x00104E09, 0x8A9, 0], up fun d => { d with can := { resetCan with initAck := false } }, (takes_up (by decide +kernel)),
        by decide +kernel⟩,
    ⟨.mb0, rq [1, 2, 3, 0, 0, 0], st, (takes_up (by decide +kernel)), (by decide +kernel), (by decide +kernel), by decide +kernel⟩,
    ⟨.mb0, rq [0x0000001F, 0, 0], 31, st, (takes_up (by decide +kernel)), by decide +kernel⟩,
    ⟨.mb0, rq [0x0000001F], 31, up fun d => { d with can := { resetCan with objs := .replicate 32 { resetObj with transmit := true } } },
        (takes_up (by decide +kernel)), by decide +kernel⟩,
    ⟨.mb0, rq [31], 31, st, (takes_up (by decide +kernel)), by decide +kernel⟩,
    ⟨.mb0, rq [31], 31, up fun d =>
        { d with can := { resetCan with objs := .replicate 32 { resetObj with held := some ⟨canf, 0, true, false⟩ } } },
        (takes_up (by decide +kernel)), (by decide +kernel), (by decide +kernel), ⟨canf, 0, true, false⟩, by decide +kernel⟩,
    ⟨.mb0, rq (.replicate 0 0), st, (takes_up (by decide +kernel))⟩,
    ⟨0, st, 0xFF, by decide +kernel⟩,
    ⟨BitVec.ofNat 24 (Dev.speakerDtc 15 1), up fun d =>
        { d with meas.store := ⟨⟨true, 1, [(Dev.speakerDtc 15 1, some ⟨Dev.speakerDtc 15 1, 0, 1, 0, 0, 0, 0, 0, 0⟩)]⟩, ⟨false, 0, []⟩, false⟩ },
        by decide +kernel⟩⟩

theorem witness_PinRows :
    (∃ (hearth : Bool) (s : State), (hearth = true → s.dev.Awake) ∧ (hearth = false → s.dev.Writable)) ∧
    (∃ s : State, s.dev.Writable) ∧
    (∃ (src : Source) (req : Request) (p : Fin 37) (s : State), s.dev.TakesUp src 0x0A01 req ∧ req.fld 8 5 0 = p.val ∧
      s.dev.pinLocked p = false ∧ (16 ≤ p.val → req.fld 8 11 8 < 11) ∧ (req.persist = false ∨ s.dev.flashPermitted = true)) ∧
    (∃ (src : Source) (req : Request) (f : Fin 25) (s : State), s.dev.TakesUp src 0x0A02 req ∧ req.fld 8 4 0 = f.val ∧
      let v := req.fld 8 11 8 + (if req.bit 8 16 then 128 else 0)
      s.dev.xbarBarred f v = false ∧ (req.persist = false ∨ s.dev.flashPermitted = true)) ∧
    (∃ (src : Source) (req : Request) (s : State), s.dev.TakesUp src 0x0A03 req) ∧
    (∃ (src : Source) (req : Request) (s : State), s.dev.TakesUp src 0x0A04 req) ∧
    (∃ (src : Source) (req : Request) (s : State), s.dev.TakesUp src 0x0A05 req ∧ (req.persist = false ∨ s.dev.flashPermitted = true)) ∧
    (∃ (p : Fin 37) (s : State), s.dev.Awake ∧ s.dev.cc < s.dev.gpio.pins[p].since + Dev.debounceCc (fld s.dev.gpio.pins[p].cfg 11 8)) ∧
    (∃ (p : Fin 37) (s : State), s.dev.Powered ∧ s.dev.gpio.pins[p].since + Dev.debounceCc (fld s.dev.gpio.pins[p].cfg 11 8) ≤ s.dev.cc) ∧
    (∃ (p : Fin 37) (s : State), s.dev.Powered ∧ (s.dev.gpio.pins[p].hold = none ∨ s.dev.cc < s.dev.gpio.pins[p].holdEnd)) ∧
    (∃ (p : Fin 37) (s : State), s.dev.Powered ∧ s.dev.gpio.pins[p].hold ≠ none ∧ s.dev.gpio.pins[p].holdEnd ≤ s.dev.cc) :=
  ⟨⟨false, st, (fun h => nomatch h), (fun _ => writable_of (by decide +kernel))⟩,
    ⟨st, (writable_of (by decide +kernel))⟩,
    ⟨.mb0, rq (.replicate 2 0), 0, st, (takes_up (by decide +kernel)), by decide +kernel⟩,
    ⟨.mb0, rq (.replicate 1 0), 0, st, (takes_up (by decide +kernel)), (by decide +kernel), by decide +kernel⟩,
    ⟨.mb0, rq (.replicate 4 0), st, (takes_up (by decide +kernel))⟩,
    ⟨.mb0, rq (.replicate 0 0), st, (takes_up (by decide +kernel))⟩,
    ⟨.mb0, rq (.replicate 2 0), st, (takes_up (by decide +kernel)), by decide +kernel⟩,
    ⟨36, up fun d =>
        { d with gpio := { resetGpio with pins := .replicate 37 { cfg := 0xF00, locked := false, raw := false, filt := false, since := 0, hold := none, holdEnd := 0, sleepLatch := none, conflict := false, watch := ⟨0, 0, false⟩ } }, cc := 1999999 },
        (awake_of (by decide +kernel)), by decide +kernel⟩,
    ⟨36, up fun d =>
        { d with gpio := { resetGpio with pins := .replicate 37 { cfg := 0xF00, locked := false, raw := false, filt := false, since := 0, hold := none, holdEnd := 0, sleepLatch := none, conflict := false, watch := ⟨0, 0, false⟩ } }, cc := 2000000 },
        (powered_of (by decide +kernel)), by decide +kernel⟩,
    ⟨0, up fun d =>
        { d with gpio := { resetGpio with pins := .replicate 37 { cfg := 0, locked := false, raw := false, filt := false, since := 0, hold := some none, holdEnd := 2, sleepLatch := none, conflict := false, watch := ⟨0, 0, false⟩ } }, cc := 1 },
        (powered_of (by decide +kernel)), (.inr (by decide +kernel))⟩,
    ⟨36, up fun d =>
        { d with gpio := { resetGpio with pins := .replicate 37 { cfg := 0, locked := false, raw := false, filt := false, since := 0, hold := some none, holdEnd := 2, sleepLatch := none, conflict := false, watch := ⟨0, 0, false⟩ } }, cc := 2 },
        (powered_of (by decide +kernel)), by decide +kernel⟩⟩

theorem witness_TimerAndSchedulerRows :
    (∃ (n : Fin 4) (s : State), s.dev.Awake ∧ s.dev.timers.ch[n].cmp < tmrLap ∧
      let c := s.dev.timers.ch[n]
      c.enable = true ∧ (c.half ≠ none ∨ c.cmp ≤ c.counter)) ∧
    (∃ (n : Fin 4) (s : State), s.dev.Awake ∧ s.dev.timers.ch[n].cmp < tmrLap ∧
      let c := s.dev.timers.ch[n]
      c.enable = false) ∧
    (∃ (n : Fin 4) (falling : Bool) (s : State), s.dev.Awake ∧
      let c := s.dev.timers.ch[n]
      fld c.ctrl 2 1 = 1 ∧ c.ctrl.getLsbD (if falling then 17 else 16) = true) ∧
    (∃ (n : Fin 4) (falling : Bool) (s : State), s.dev.Awake ∧
      let c := s.dev.timers.ch[n]
      (fld c.ctrl 2 1 ≠ 1 ∨ c.ctrl.getLsbD (if falling then 17 else 16) = false)) ∧
    (∃ (n : Fin 4) (s : State), s.dev.Awake ∧ fld s.dev.timers.ch[n].ctrl 2 1 = 2 ∧
      let c := s.dev.timers.ch[n]
      ∃ start, c.gate = some start ∧ c.queue.length < 8) ∧
    (∃ (hearth : Option (Fin 4)) (s : State), (hearth.isSome → s.dev.Awake) ∧ (hearth = none → s.dev.Writable) ∧
      let n := s.dev.tmrSel hearth
      hearth = none ∧ n = 3 ∧ s.dev.timers.owned = true) ∧
    (∃ (hearth : Option (Fin 4)) (s : State), (hearth.isSome → s.dev.Awake) ∧ (hearth = none → s.dev.Writable) ∧
      let n := s.dev.tmrSel hearth
      let c := s.dev.timers.ch[n]
      (hearth.isSome ∨ n ≠ 3 ∨ s.dev.timers.owned = false) ∧ ∃ high : Bool, c.half ≠ some (!high)) ∧
    (∃ (hearth : Option (Fin 4)) (s : State), (hearth.isSome → s.dev.Awake) ∧ (hearth = none → s.dev.Writable) ∧
      let n := s.dev.tmrSel hearth
      let c := s.dev.timers.ch[n]
      (hearth.isSome ∨ n ≠ 3 ∨ s.dev.timers.owned = false) ∧ ∃ high : Bool, c.half = some (!high)) ∧
    (∃ (hearth : Option (Fin 4)) (s : State), s.dev.Awake ∧ s.dev.tmrBarred hearth = false) ∧
    (∃ (hearth : Option (Fin 4)) (s : State), s.dev.Awake ∧ s.dev.tmrBarred hearth = true) ∧
    (∃ s : State, s.dev.Writable) ∧
    (∃ (src : Source) (req : Request) (e : Fin 32) (s : State), s.dev.TakesUp src 0x0B01 req ∧ req.fld 8 4 0 = e.val ∧
      let action := req.fld 8 11 8
      let target := req.word 0x18
      let time := ((req.word 0x0C).toNat + req.fld 0x10 15 0 * 2 ^ 32) * 1000000000 + (req.word 0x14).toNat
      1 ≤ action ∧ action ≤ 6 ∧ schedTargetOk action target = true ∧ s.dev.sched[e].waits = false ∧ s.dev.ks.timeValid = true ∧
        s.dev.ks.ns < time ∧ s.dev.schedGrouped action target = false ∧ s.dev.schedOrderBad action target time = false) ∧
    (∃ (src : Source) (req : Request) (s : State), s.dev.TakesUp src 0x0B02 req) ∧
    (∃ (src : Source) (req : Request) (e : Fin 32) (s : State), s.dev.TakesUp src 0x0B03 req ∧ req.fld 8 4 0 = e.val) ∧
    (∃ (n : Fin 4) (s : State), s.dev.Awake ∧ s.dev.timers.ch[n].cmp < tmrLap ∧ s.dev.timers.ch[n].loaded = true ∧
      s.dev.timers.ch[n].next = s.dev.timers.ch[n].cmp) ∧
    (∃ (n : Fin 4) (s : State), s.dev.Awake ∧ s.dev.timers.ch[n].cmp < tmrLap ∧ s.dev.timers.ch[n].enable = true ∧
      s.dev.timers.ch[n].half = none ∧ s.dev.timers.ch[n].counter < s.dev.timers.ch[n].cmp ∧ (s.dev.timers.ch[n].loaded = false ∨
      s.dev.timers.ch[n].next ≠ s.dev.timers.ch[n].cmp)) ∧
    (∃ (n : Fin 4) (s : State), s.dev.Awake ∧ fld s.dev.timers.ch[n].ctrl 2 1 = 2 ∧ s.dev.timers.ch[n].gate = none ∧
      s.dev.timers.ch[n].queue.length < 8) ∧
    (∃ (e : Fin 32) (s : State), s.dev.Awake ∧ (s.dev.sched[e].waits = false ∨ s.dev.ks.ns < s.dev.sched[e].time)) ∧
    (∃ (e : Fin 32) (s : State), s.dev.Awake ∧ s.dev.sched[e].state = .armed ∧ s.dev.sched[e].time ≤ s.dev.ks.ns ∧
      s.dev.ks.timeValid = false) ∧
    (∃ (e : Fin 32) (s : State), s.dev.Awake ∧ s.dev.sched[e].waits = true ∧ s.dev.sched[e].time ≤ s.dev.ks.ns ∧ s.dev.ks.timeValid = true) :=
  ⟨⟨3, up fun d => { d with timers := { d.timers with ch := .replicate 4 { TimerCh.reset with ctrl := 1 } } },
        (awake_of (by decide +kernel)), (by decide +kernel), (by decide +kernel), (.inr (by decide +kernel))⟩,
    ⟨0, st, (awake_of (by decide +kernel)), (by decide +kernel), by decide +kernel⟩,
    ⟨3, true, up fun d => { d with timers := { d.timers with ch := .replicate 4 { TimerCh.reset with ctrl := 0x20002 } } },
        (awake_of (by decide +kernel)), by decide +kernel⟩,
    ⟨0, false, st, (awake_of (by decide +kernel)), (.inl (by decide +kernel))⟩,
    ⟨3, up fun d => { d with timers := { d.timers with ch := .replicate 4 { TimerCh.reset with ctrl := 4, gate := some 0 } } },
        (awake_of (by decide +kernel)), (by decide +kernel), 0, by decide +kernel⟩,
    ⟨none, up fun d => ({ d with timers.owned := true } : Dev).setReg Reg.TMR_SEL 3, (fun h => nomatch h), (fun _ =>
        writable_of (by decide +kernel)), by decide +kernel⟩,
    ⟨none, st, (fun h => nomatch h), (fun _ => writable_of (by decide +kernel)), (by decide +kernel), true, by decide +kernel⟩,
    ⟨none, up fun d => { d with timers := { d.timers with ch := .replicate 4 { TimerCh.reset with half := some false } } }, (fun h =>
        nomatch h), (fun _ => writable_of (by decide +kernel)), (by decide +kernel), true, by decide +kernel⟩,
    ⟨none, st, (awake_of (by decide +kernel)), by decide +kernel⟩,
    ⟨none, up fun d => ({ d with timers.owned := true } : Dev).setReg Reg.TMR_SEL 3, (awake_of (by decide +kernel)), by decide +kernel⟩,
    ⟨st, (writable_of (by decide +kernel))⟩,
    ⟨.mb0, rq [0x61F, 1, 0, 0, 0x107, 0], 31, up fun d => { d with ks.timeValid := true }, (takes_up (by decide +kernel)),
        (by decide +kernel), by decide +kernel⟩,
    ⟨.mb0, rq (.replicate 1 0), st, (takes_up (by decide +kernel))⟩,
    ⟨.mb0, rq (.replicate 1 0), 0, st, (takes_up (by decide +kernel)), by decide +kernel⟩,
    ⟨3, up fun d =>
        { d with timers := { d.timers with ch := .replicate 4 { TimerCh.reset with ctrl := 1, counter := 4, cmp := 5, loaded := true } } },
        (awake_of (by decide +kernel)), by decide +kernel⟩,
    ⟨3, up fun d => { d with timers := { d.timers with ch := .replicate 4 { TimerCh.reset with ctrl := 1, cmp := tmrLap - 1 } } },
        (awake_of (by decide +kernel)), (by decide +kernel), (by decide +kernel), (by decide +kernel), (by decide +kernel),
        (.inl (by decide +kernel))⟩,
    ⟨3, up fun d => { d with timers := { d.timers with ch := .replicate 4 { TimerCh.reset with ctrl := 4 } } },
        (awake_of (by decide +kernel)), by decide +kernel⟩,
    ⟨31, up fun d => { d with sched := .replicate 32 { SchedEntry.reset with state := .armed, time := 1 } }, (awake_of (by decide +kernel)),
        (.inr (by decide +kernel))⟩,
    ⟨31, up fun d => { d with sched := .replicate 32 { SchedEntry.reset with state := .armed } }, (awake_of (by decide +kernel)),
        by decide +kernel⟩,
    ⟨31, up fun d => { d with sched := .replicate 32 { SchedEntry.reset with state := .armed }, ks.timeValid := true },
        (awake_of (by decide +kernel)), by decide +kernel⟩⟩

theorem witness_TestPort :
    (∃ s : State, s.dev.power.porAsserted = false ∧ s.dev.pinsTaken = false) ∧
    (∃ s : State, s.dev.power.porAsserted = false ∧ s.dev.pinsTaken = true) ∧
    (∃ (tms : Bool) (s : State), s.dev.power.porAsserted = false ∧ s.dev.tap.state.next tms ≠ .reset) ∧
    (∃ (tms : Bool) (s : State), s.dev.power.porAsserted = false ∧ s.dev.tap.state.next tms = .reset) ∧
    (∃ s : State, s.dev.power.porAsserted = true) ∧
    (∃ (src : Source) (req : Request) (s : State), s.dev.TakesUp src 0x0C01 req ∧ s.dev.selfTest.run = none) ∧
    (∃ s : State, s.dev.Awake ∧ s.dev.selfTest.run = none) ∧
    (∃ s : State, s.dev.Awake ∧ ∃ mask, ∃ tag, s.dev.selfTest.run = some (mask, tag)) ∧
    (∃ (src : Source) (req : Request) (s : State), s.dev.TakesUp src 0x0C02 req) :=
  ⟨⟨st, by decide +kernel⟩,
    ⟨up fun d => { d with tap.ir := 4 }, by decide +kernel⟩,
    ⟨false, st, by decide +kernel⟩,
    ⟨true, up fun d => { d with tap := resetTap }, by decide +kernel⟩,
    ⟨up fun d => { d with power.porAsserted := true }, by decide +kernel⟩,
    ⟨.mb0, rq (.replicate 1 0), st, (takes_up (by decide +kernel)), by decide +kernel⟩,
    ⟨st, (awake_of (by decide +kernel)), by decide +kernel⟩,
    ⟨up fun d => { d with selfTest.run := some (3, 7) }, (awake_of (by decide +kernel)), 3, 7, by decide +kernel⟩,
    ⟨.mb0, rq (.replicate 0 0), st, (takes_up (by decide +kernel))⟩⟩

theorem witness_PromisesOfTheWholeDevice :
    (∃ (s : State) (t : State), s.dev.reg Reg.CHIP_ID = 0x166400B0 ∧ step s = .next t) ∧
    (∃ (i : Instr) (s : State) (t : State), (∀ r, i ≠ .powerOnReset r) ∧ i ≠ .testLogicReset ∧ i ≠ .extest ∧ i ≠ .idcode ∧
      i ≠ .samplePreload ∧ i ≠ .clamp ∧ i ≠ .highz ∧ i ≠ .bypass ∧ (∀ a b c l, i ≠ .tckEdge a b c l) ∧ exec i s = .next t) :=
  ⟨⟨{ st with dev := Dev.initial, pending := [.spiNop] }, { st with dev := Dev.initial }, (by decide +kernel), rfl⟩,
    ⟨.spiNop, st, st, nofun, nofun, nofun, nofun, nofun, nofun, nofun, nofun, nofun, rfl⟩⟩

end Sys2Proof.Tests
end

section
/-!
# The state after reset

Every block of `State.reset` is a closed term, so each conjunct of O6 is an evaluation; the ones about a
vector of ports, streams or entries range over a small finite index.
-/
namespace Sys2Proof.Machine

/-- Settles O6: every field named is the reset value of its block, by evaluation of the reset state. -/
theorem resetState : Obligations.ResetState := by
  unfold Obligations.ResetState
  have hInv : State.reset.Inv := rfl
  refine ⟨hInv, rfl, rfl, rfl, ?_, ?_, ?_, rfl, rfl, rfl, ?_, ?_, ?_, ?_, ?_, ?_, ?_⟩ <;> decide +kernel

end Sys2Proof.Machine
end

section
/-!
# CHIP_ID and the test access port

What a step leaves as it is. Almost every function of the model leaves the test access port and CHIP_ID
alone, which `Dev.fixed` puts together; one rule per function says so, in the order of the model's files, and
the rule of a function follows from the rules of those it calls. The functions that can end in a reset keep the port too,
and CHIP_ID if it reads its reset value (`Dev.Keeps`).
-/
namespace Sys2Proof.Machine

/-- The device a UDS service leaves, whatever it answers. -/
def UdsResult.dev : UdsResult → Dev
  | .positive _ d | .negative _ d | .later d | .silent d => d

namespace Dev

/-- What all but a few commands leave as it is: the test access port and CHIP_ID. -/
def fixed (d : Dev) : Tap × Word := (d.tap, d.reg Reg.CHIP_ID)

/-! ### The rules of `fixed`

They rewrite from the outside in (`↓`): inside out, the field lemmas of `Laws/State` would take the
device under `fixed` apart before its own lemma could be used. A proof `(rfl)` keeps a rule out of
the definitional rewrites, which cannot serve as side conditions of other rules. -/

@[simp ↓] theorem fixed_mk (d : Dev) (host : HostPort) (arb : Arbiter) (mail : Mail) (power : Power) (flash : Flash)
    (journal : Journal) (sup : Supervisor) (ks : Keystone) (clk : ClkLatch) (eth : Vector EthPort 3) (remote : Remote)
    (gptp : Vector Gptp 3) (streams : StreamEngine) (lintel : Lintel) (tdm : Vector TdmPort 4) (route : Route) (meas : Meas)
    (can : Can) (gpio : Gpio) (timers : Timers) (sched : Vector SchedEntry 32) (selfTest : SelfTest)
    (cc freeIdx : Nat) :
    (Dev.mk d.regs host arb mail power flash journal sup ks clk eth remote gptp streams lintel tdm route meas can gpio
      timers sched d.tap selfTest cc freeIdx).fixed = d.fixed := (rfl)

@[simp ↓] theorem fixed_ite (c : Prop) [Decidable c] (d e : Dev) :
    (if c then d else e).fixed = if c then d.fixed else e.fixed := by split <;> rfl

@[simp ↓] theorem fixed_dite (c : Prop) [Decidable c] (d : c → Dev) (e : ¬ c → Dev) :
    (if h : c then d h else e h).fixed = if h : c then (d h).fixed else (e h).fixed := by split <;> rfl

/-- Both branches by their own lemmas, where `split` would rebuild a large goal at every branch. -/
theorem fixed_of_ite {c : Prop} [Decidable c] {d e : Dev} {x : Tap × Word} (hd : d.fixed = x) (he : e.fixed = x) :
    (if c then d else e).fixed = x := by split <;> assumption

@[simp ↓] theorem foldl_fixed {α : Type} (f : Dev → α → Dev) (h : ∀ d a, (f d a).fixed = d.fixed) (l : List α) (d : Dev) :
    (l.foldl f d).fixed = d.fixed := by
  induction l generalizing d with
  | nil => rfl
  | cons a l ih => rw [List.foldl_cons, ih, h]

@[simp ↓] theorem fresh_eq (d : Dev) : d.fresh = (d.freeIdx, { d with freeIdx := d.freeIdx + 1 }) := rfl

/-! ### Register writes: any word but the first -/

@[simp ↓] theorem setReg_fixed (d : Dev) {a : Nat} (h : 4 ≤ a) (w : Word) : (d.setReg a w).fixed = d.fixed := by
  have hid : (d.setReg a w).reg Reg.CHIP_ID = d.reg Reg.CHIP_ID := by
    simp only [reg, setReg, Vector.getElem?_setIfInBounds]
    rw [if_neg (by simp only [Reg.CHIP_ID]; omega)]
  rw [fixed, hid, setReg_tap, fixed]

@[simp ↓] theorem setRfld_fixed (d : Dev) {a : Nat} (h : 4 ≤ a) (hi lo v : Nat) : (d.setRfld a hi lo v).fixed = d.fixed :=
  setReg_fixed d h _

@[simp ↓] theorem setRbit_fixed (d : Dev) {a : Nat} (h : 4 ≤ a) (i : Nat) (b : Bool) : (d.setRbit a i b).fixed = d.fixed :=
  setReg_fixed d h _

@[simp ↓] theorem raise_fixed (d : Dev) {a : Nat} (h : 4 ≤ a) (m : Word) : (d.raise a m).fixed = d.fixed :=
  setReg_fixed d h _

@[simp ↓] theorem raiseBit_fixed (d : Dev) {a : Nat} (h : 4 ≤ a) (i : Nat) : (d.raiseBit a i).fixed = d.fixed :=
  setReg_fixed d h _

@[simp ↓] theorem raiseIf_fixed (d : Dev) (c : Bool) {a : Nat} (h : 4 ≤ a) (i : Nat) : (d.raiseIf c a i).fixed = d.fixed := by
  simp [raiseIf, h]

@[simp ↓] theorem four_le_ethReg (p : Fin 3) {a : Nat} (h : 4 ≤ a) : 4 ≤ ethReg p a := Nat.le_add_right_of_le h

@[simp ↓] theorem four_le_tdmReg (p : Fin 4) {a : Nat} (h : 4 ≤ a) : 4 ≤ tdmReg p a := Nat.le_add_right_of_le h

/-! ### The effect of a command -/

/-- The effect of the command leaves the test access port and CHIP_ID. -/
def CmdFixed (f : CmdFn) : Prop := ∀ (src : Source) (req : Request) (d : Dev), (d.effect (f src req d)).fixed = d.fixed

@[simp ↓] theorem effect_done (d e : Dev) (accepted : Bool) (detail : Nat) (payload : List Word) (items : List JItem) :
    d.effect (.done accepted detail payload items e) = e := rfl

@[simp ↓] theorem effect_later (d e : Dev) (items : List JItem) : d.effect (.later items e) = e := rfl

@[simp ↓] theorem effect_mismatch (d e : Dev) : d.effect (.mismatch e) = e := rfl

@[simp ↓] theorem effect_refuse (d : Dev) (st : Status) (detail : Nat) (payload : List Word) :
    d.effect (.refuse st detail payload) = d := rfl

@[simp ↓] theorem effect_badParam (d : Dev) (n : Nat) : d.effect (badParam n) = d := rfl

@[simp ↓] theorem effect_refusedState (d : Dev) (n : Nat) : d.effect (refusedState n) = d := rfl

@[simp ↓] theorem effect_okay (d e : Dev) : d.effect (okay e) = e := rfl

@[simp ↓] theorem effect_reply (d e : Dev) (l : List Word) : d.effect (reply l e) = e := rfl

@[simp ↓] theorem effect_okayKey (d e : Dev) (req : Request) (key : Nat) : d.effect (okayKey req key e) = e := rfl

@[simp ↓] theorem effect_okayRemove (d e : Dev) (req : Request) (key : Nat) : d.effect (okayRemove req key e) = e := rfl

@[simp ↓] theorem effect_ite (c : Prop) [Decidable c] (d : Dev) (r s : CmdResult) :
    d.effect (if c then r else s) = if c then d.effect r else d.effect s := by split <;> rfl

theorem effect_of_ite {c : Prop} [Decidable c] {d : Dev} {r s : CmdResult} {x : Tap × Word} (hr : (d.effect r).fixed = x)
    (hs : (d.effect s).fixed = x) : (d.effect (if c then r else s)).fixed = x := by split <;> assumption

@[simp ↓] theorem effect_withFin_fixed {d : Dev} {n v off : Nat} {k : Fin n → CmdResult}
    (hk : ∀ i, (d.effect (k i)).fixed = d.fixed) : (d.effect (withFin n v off k)).fixed = d.fixed := by
  unfold withFin
  split
  · exact hk _
  · rfl

/-! ### Effects under a condition of the device's state, and the results of UDS services -/

@[simp ↓] theorem awake_fixed {d : Dev} {f : Dev → Dev} (h : (f d).fixed = d.fixed) : (d.awake f).fixed = d.fixed := by
  simp [awake, h]

@[simp ↓] theorem runs_fixed {d : Dev} {f : Dev → Dev} (h : (f d).fixed = d.fixed) : (d.runs f).fixed = d.fixed := by
  simp [runs, h]

@[simp ↓] theorem powered_fixed {d : Dev} {f : Dev → Dev} (h : (f d).fixed = d.fixed) : (d.powered f).fixed = d.fixed := by
  simp [powered, h]

@[simp ↓] theorem dev_ite (c : Prop) [Decidable c] (r s : UdsResult) :
    (if c then r else s).dev = if c then r.dev else s.dev := by split <;> rfl

@[simp ↓] theorem dev_positive (l : List Byte) (d : Dev) : (UdsResult.positive l d).dev = d := rfl

@[simp ↓] theorem dev_negative (code : Nat) (d : Dev) : (UdsResult.negative code d).dev = d := rfl

@[simp ↓] theorem dev_later (d : Dev) : (UdsResult.later d).dev = d := rfl

@[simp ↓] theorem dev_silent (d : Dev) : (UdsResult.silent d).dev = d := rfl

end Dev
end Sys2Proof.Machine
end

section
namespace Sys2Proof.Machine
namespace Dev

/-! ### The operations on the device -/

@[simp ↓] theorem push_fixed (d : Dev) (code : Nat) (arg : Word) : (d.push code arg).fixed = d.fixed := by
  simp [push]

@[simp ↓] theorem pushIf_fixed (d : Dev) (c : Bool) (code : Nat) (arg : Word) : (d.pushIf c code arg).fixed = d.fixed := by
  simp [pushIf]

@[simp ↓] theorem opDone_fixed (d : Dev) (opcode status : Nat) (tag : Byte) : (d.opDone opcode status tag).fixed = d.fixed := by
  simp [opDone]

/-! ### Keystone -/

@[simp ↓] theorem modKs_fixed (d : Dev) (f : Keystone → Keystone) : (d.modKs f).fixed = d.fixed := (rfl)

@[simp ↓] theorem dcoCycle_fixed (d : Dev) : d.dcoCycle.fixed = d.fixed := by
  simp [dcoCycle]

@[simp ↓] theorem retune_fixed (d : Dev) : d.retune.fixed = d.fixed := by
  simp +decide [retune]

@[simp ↓] theorem ksEnter_fixed (d : Dev) (s : KsState) : (d.ksEnter s).fixed = d.fixed := by
  simp +decide [ksEnter]

@[simp ↓] theorem ksSelect_fixed (d : Dev) (e : Fin 8) : (d.ksSelect e).fixed = d.fixed := by
  simp +decide [ksSelect]

@[simp ↓] theorem noteMoveDone_fixed (d : Dev) : d.noteMoveDone.fixed = d.fixed := by
  simp +decide [noteMoveDone]

@[simp ↓] theorem setRemain_fixed (d : Dev) (r : Int) : (d.setRemain r).fixed = d.fixed := by
  simp [setRemain]

@[simp ↓] theorem addMove_fixed (d : Dev) (ps : Int) : (d.addMove ps).fixed = d.fixed := by
  simp [addMove]

@[simp ↓] theorem moveDone_fixed (d : Dev) : d.moveDone.fixed = d.fixed := by
  simp [moveDone]

@[simp ↓] theorem enterFree_fixed (d : Dev) (line : Bool) : (d.enterFree line).fixed = d.fixed := by
  simp [enterFree]

@[simp ↓] theorem relabel_fixed (d : Dev) (n : Int) : (d.relabel n).fixed = d.fixed := by
  simp +decide [relabel]

@[simp ↓] theorem enterAcquire_fixed (d : Dev) (e : Fin 8) (offset : Int) (wide : Bool) :
    (d.enterAcquire e offset wide).1.fixed = d.fixed := by
  simp [enterAcquire]

@[simp ↓] theorem enterTrack_fixed (d : Dev) : d.enterTrack.fixed = d.fixed := by
  simp [enterTrack]

@[simp ↓] theorem enterHoldover_fixed (d : Dev) : d.enterHoldover.fixed = d.fixed := by
  simp +decide [enterHoldover]

@[simp ↓] theorem enterExpired_fixed (d : Dev) : d.enterExpired.fixed = d.fixed := by
  simp +decide [enterExpired]

@[simp ↓] theorem enterSteer_fixed (d : Dev) : d.enterSteer.fixed = d.fixed := by
  simp [enterSteer]

@[simp ↓] theorem timeValidLapse_fixed (d : Dev) : d.timeValidLapse.fixed = d.fixed := by
  simp [timeValidLapse]

@[simp ↓] theorem holdoverExpire_fixed (d : Dev) : d.holdoverExpire.fixed = d.fixed := by
  simp [holdoverExpire]

@[simp ↓] theorem refQualify_fixed (d : Dev) (n : Fin 8) : (d.refQualify n).fixed = d.fixed := by
  simp +decide [refQualify]

@[simp ↓] theorem refLose_fixed (d : Dev) (n : Fin 8) (planned : Bool) : (d.refLose n planned).fixed = d.fixed := by
  simp [refLose]

@[simp ↓] theorem refUnqualify_fixed (d : Dev) (n : Fin 8) : (d.refUnqualify n).fixed = d.fixed := by
  simp +decide [refUnqualify]

@[simp ↓] theorem refCommit_fixed (d : Dev) : d.refCommit.fixed = d.fixed :=
  foldl_fixed _ (fun _ _ => modKs_fixed ..) _ _

@[simp ↓] theorem applySelection_fixed (d : Dev) (sel : Option (Fin 8)) (offset : Fin 8 → Int) :
    (d.applySelection sel offset).1.fixed = d.fixed := by
  fun_cases applySelection d sel offset <;> simp

@[simp ↓] theorem moveTick_fixed (d : Dev) : d.moveTick.fixed = d.fixed := by
  simp [moveTick]

@[simp ↓] theorem lineTick_fixed (d : Dev) : d.lineTick.fixed = d.fixed := by
  fun_cases lineTick d <;> simp

@[simp ↓] theorem averageTick_fixed (d : Dev) : d.averageTick.fixed = d.fixed := by
  simp [averageTick]

@[simp ↓] theorem ksElapse_fixed (d : Dev) : d.ksElapse.fixed = d.fixed := by
  simp [ksElapse]

@[simp ↓] theorem ksLimits_fixed (d : Dev) : d.ksLimits.fixed = d.fixed := by
  simp [ksLimits]

@[simp ↓] theorem ksTick_fixed (d : Dev) (input : KsTickInput) (named : Option (Fin 8)) :
    (d.ksTick input named).1.fixed = d.fixed := by
  unfold ksTick
  extract_lets committed present seen offset steer
  have hcommitted : committed.fixed = d.fixed := by simp [committed]
  have hpresent : present.fixed = committed.fixed := foldl_fixed _ (fun _ _ => modKs_fixed ..) _ _
  have hseen : seen.fixed = present.fixed := foldl_fixed _ (fun _ _ => refUnqualify_fixed ..) _ _
  generalize hp : (if steer then _ else _) = pair
  have hpair : pair.1.fixed = seen.fixed := by
    rw [← hp]
    split
    · simp
    · exact applySelection_fixed ..
  exact (ksLimits_fixed _).trans (hpair.trans (hseen.trans (hpresent.trans hcommitted)))

@[simp ↓] theorem ksQuietSave_fixed (d : Dev) : d.ksQuietSave.fixed = d.fixed := by
  simp [ksQuietSave]

@[simp ↓] theorem refDrop_fixed (d : Dev) (n : Fin 7) : (d.refDrop n).fixed = d.fixed := by
  simp [refDrop]

@[simp ↓] theorem ksQuietExit_fixed (d : Dev) (named : Option (Fin 8)) : (d.ksQuietExit named).fixed = d.fixed := by
  unfold ksQuietExit
  dsimp only
  repeat' split
  all_goals simp

@[simp ↓] theorem phaseStep_fixed (d : Dev) (ps : Int) : (d.phaseStep ps).fixed = d.fixed := by
  simp +decide [phaseStep]

@[simp ↓] theorem seedWrite_fixed (d : Dev) (high : Bool) : (d.seedWrite high).fixed = d.fixed := by
  simp +decide [seedWrite]

@[simp ↓] theorem steerAdjust_fixed (d : Dev) : d.steerAdjust.fixed = d.fixed := by
  simp [steerAdjust]

@[simp ↓] theorem setRate_fixed (d : Dev) (r : Fin 6) : (d.setRate r).fixed = d.fixed := by
  simp [setRate]

@[simp ↓] theorem narrowStep_fixed (d : Dev) : d.narrowStep.fixed = d.fixed := by
  simp [narrowStep]

@[simp ↓] theorem trackEntry_fixed (d : Dev) : d.trackEntry.fixed = d.fixed := by
  simp [trackEntry]

@[simp ↓] theorem reacquire_fixed (d : Dev) (offset : Int) : (d.reacquire offset).1.fixed = d.fixed := by
  unfold reacquire
  split <;> simp +decide

@[simp ↓] theorem phaseCompare_fixed (d : Dev) (lmtMinusRef : Int) : (d.phaseCompare lmtMinusRef).fixed = d.fixed := by
  simp [phaseCompare]

@[simp ↓] theorem clkCapture_fixed (d : Dev) (a : Nat) : (d.clkCapture a).fixed = d.fixed := by
  simp [clkCapture]

@[simp ↓] theorem clkWritten_fixed (d : Dev) (a : Nat) (w : Word) : (d.clkWritten a w).fixed = d.fixed := by
  simp [clkWritten]

end Dev
end Sys2Proof.Machine
end

section
namespace Sys2Proof.Machine
namespace Dev

/-! ### The ports -/

@[simp ↓] theorem modPort_fixed (d : Dev) (p : Fin 3) (f : EthPort → EthPort) : (d.modPort p f).fixed = d.fixed := (rfl)

@[simp ↓] theorem modLink_fixed (d : Dev) (p : Fin 3) (f : PortLink → PortLink) : (d.modLink p f).fixed = d.fixed := by
  simp [modLink]

@[simp ↓] theorem modTraffic_fixed (d : Dev) (p : Fin 3) (f : PortTraffic → PortTraffic) :
    (d.modTraffic p f).fixed = d.fixed := by
  simp [modTraffic]

@[simp ↓] theorem ethFlag_fixed (d : Dev) (p : Fin 3) (i : Nat) : (d.ethFlag p i).fixed = d.fixed := by
  simp +decide [ethFlag]

@[simp ↓] theorem halfFlag_fixed (d : Dev) (p : Fin 3) (k : Fin 40) (cross : Bool) :
    (d.halfFlag p k cross).fixed = d.fixed := by
  unfold halfFlag
  split <;> simp +decide

@[simp ↓] theorem countBy_fixed (d : Dev) (p : Fin 3) (k : Fin 40) (n : Nat) : (d.countBy p k n).fixed = d.fixed := by
  simp [countBy]

@[simp ↓] theorem count_fixed (d : Dev) (p : Fin 3) (k : Fin 40) : (d.count p k).fixed = d.fixed := by
  simp [count]

@[simp ↓] theorem modFilter_fixed (d : Dev) (p : Fin 3) (i : Fin 8) (f : Filter → Filter) :
    (d.modFilter p i f).fixed = d.fixed := by
  simp [modFilter]

/-- The search stands for any search: unfolding it, the kernel would compute with 48-bit addresses. -/
theorem takeFilter_fixed {d e : Dev} {p : Fin 3} {dest : BitVec 48} {user : FilterUser}
    (h : d.takeFilter p dest user = some e) : e.fixed = d.fixed := by
  have unfolded : @takeFilter = delta% @takeFilter := rfl
  generalize @findIdx? = find at unfolded
  rw [unfolded] at h
  dsimp only at h
  generalize find _ = held at h
  generalize find _ = listed at h
  generalize find _ = free at h
  rcases held with _ | i
  · rcases listed with _ | _
    · rcases free with _ | i
      · cases h
      · rw [← Option.some.inj h, modFilter_fixed]
    · rw [← Option.some.inj h]
  · rw [← Option.some.inj h, modFilter_fixed]

@[simp ↓] theorem freeFilter_fixed (d : Dev) (p : Fin 3) (user : FilterUser) : (d.freeFilter p user).fixed = d.fixed := by
  simp [freeFilter]

@[simp ↓] theorem talkerDiscard_fixed (d : Dev) (t : Option (Fin 8)) : (d.talkerDiscard t).fixed = d.fixed := by
  fun_cases talkerDiscard d t <;> simp

@[simp ↓] theorem submit_fixed (d : Dev) (p : Fin 3) (f : TxFrame) : (d.submit p f).fixed = d.fixed := by
  simp [submit]

/-! ### The streams -/

@[simp ↓] theorem modStreams_fixed (d : Dev) (f : StreamEngine → StreamEngine) : (d.modStreams f).fixed = d.fixed := (rfl)

@[simp ↓] theorem modListener_fixed (d : Dev) (i : Fin 16) (f : Listener → Listener) : (d.modListener i f).fixed = d.fixed := by
  simp [modListener]

@[simp ↓] theorem modTalker_fixed (d : Dev) (i : Fin 8) (f : Talker → Talker) : (d.modTalker i f).fixed = d.fixed := by
  simp [modTalker]

@[simp ↓] theorem modCounts_fixed (d : Dev) (i : Fin 16) (f : ListenerCounts → ListenerCounts) :
    (d.modCounts i f).fixed = d.fixed := by
  simp [modCounts]

theorem allocate_fixed {d e : Dev} {o : MortarOwner} {delay : Bool} {n : Nat} (h : d.allocate o delay n = some e) :
    e.fixed = d.fixed := by
  obtain ⟨_, _, rfl⟩ := Option.map_eq_some_iff.mp h
  simp

@[simp ↓] theorem release_fixed (d : Dev) (o : MortarOwner) : (d.release o).fixed = d.fixed := by
  simp [release]

@[simp ↓] theorem streamEvent_fixed (d : Dev) (talker : Bool) (i old new reason : Nat) :
    (d.streamEvent talker i old new reason).fixed = d.fixed := by
  simp [streamEvent]

@[simp ↓] theorem listenerEnter_fixed (d : Dev) (i : Fin 16) (s : StreamState) (reason : Nat) :
    (d.listenerEnter i s reason).fixed = d.fixed := by
  simp [listenerEnter]

@[simp ↓] theorem talkerEnter_fixed (d : Dev) (i : Fin 8) (s : StreamState) (reason : Nat) :
    (d.talkerEnter i s reason).fixed = d.fixed := by
  simp [talkerEnter]

@[simp ↓] theorem crfLost_fixed (d : Dev) (slot : Fin 2) : (d.crfLost slot).fixed = d.fixed := by
  simp [crfLost]

@[simp ↓] theorem listenerIdle_fixed (d : Dev) (i : Fin 16) (reason : Nat) : (d.listenerIdle i reason).fixed = d.fixed := by
  unfold listenerIdle
  split <;> simp

@[simp ↓] theorem talkerIdle_fixed (d : Dev) (i : Fin 8) (reason : Nat) : (d.talkerIdle i reason).fixed = d.fixed := by
  simp [talkerIdle]

@[simp ↓] theorem listenerWaiting_fixed (d : Dev) (i : Fin 16) (reason : Nat) :
    (d.listenerWaiting i reason).fixed = d.fixed := by
  simp [listenerWaiting]

@[simp ↓] theorem listenerWait_fixed (d : Dev) (i : Fin 16) (reason : Nat) : (d.listenerWait i reason).fixed = d.fixed := by
  fun_cases listenerWait d i reason <;> simp

@[simp ↓] theorem timeLost_fixed (d : Dev) : d.timeLost.fixed = d.fixed := by
  simp [timeLost]

@[simp ↓] theorem streamsRelabel_fixed (d : Dev) (n : Int) : (d.streamsRelabel n).fixed = d.fixed := by
  simp [streamsRelabel]

/-- Work on a device that may fail on the way, item by item. -/
theorem foldl_bind_fixed {α : Type} {step : Dev → α → Option Dev}
    (hstep : ∀ {d e a}, step d a = some e → e.fixed = d.fixed) {d e : Dev} :
    ∀ (l : List α) {o : Option Dev}, (∀ x, o = some x → x.fixed = d.fixed) →
      l.foldl (fun (o : Option Dev) a => o.bind fun x => step x a) o = some e → e.fixed = d.fixed
  | [], _, ho, h => ho e h
  | _ :: l, _, ho, h => by
    refine foldl_bind_fixed hstep l (fun y hy => ?_) h
    obtain ⟨x, hx, hy⟩ := Option.bind_eq_some_iff.mp hy
    rw [hstep hy, ho x hx]

@[simp ↓] theorem startListeners_fixed (d : Dev) (is : List (Fin 16)) (time : Option Nat) :
    (d.effect (d.startListeners is time)).fixed = d.fixed := by
  unfold startListeners
  dsimp only
  split
  · rfl
  · split
    · rfl
    · rename_i e he
      refine foldl_bind_fixed (d := d) (fun {x y i} h => ?_) is (fun x hx => by rw [Option.some.inj hx]) he
      split at h
      · rw [Option.some.inj h]
      · obtain ⟨z, hz, rfl⟩ := Option.map_eq_some_iff.mp h
        split at hz
        · simp [Option.some.inj hz]
        · simp [allocate_fixed hz]

@[simp ↓] theorem startTalker_fixed (d : Dev) (i : Fin 8) (time : Option Nat) :
    (d.effect (d.startTalker i time)).fixed = d.fixed := by
  unfold startTalker
  split <;> simp

@[simp ↓] theorem stopListener_fixed (d : Dev) (i : Fin 16) (reason : Nat) : (d.stopListener i reason).fixed = d.fixed := by
  unfold stopListener
  dsimp only
  repeat' split
  all_goals simp

@[simp ↓] theorem stopTalker_fixed (d : Dev) (i : Fin 8) (reason : Nat) : (d.stopTalker i reason).fixed = d.fixed := by
  unfold stopTalker
  dsimp only
  repeat' split
  all_goals simp

@[simp ↓] theorem streamStart_fixed (d : Dev) (talker : Bool) (index : Nat) (time : Option Nat) :
    (d.effect (d.streamStart talker index time)).fixed = d.fixed := by
  unfold streamStart
  split
  all_goals
    refine effect_withFin_fixed fun i => ?_
    dsimp only
    repeat' split
    all_goals simp

@[simp ↓] theorem streamStop_fixed (d : Dev) (talker : Bool) (index : Nat) (time : Option Nat) :
    (d.effect (d.streamStop talker index time)).fixed = d.fixed := by
  unfold streamStop
  dsimp only
  split
  all_goals
    refine effect_withFin_fixed fun i => ?_
    repeat' split
    all_goals simp

@[simp ↓] theorem listenerStartPlay_fixed (d : Dev) (i : Fin 16) : (d.listenerStartPlay i).fixed = d.fixed := by
  simp [listenerStartPlay]

@[simp ↓] theorem listenerStarve_fixed (d : Dev) (i : Fin 16) : (d.listenerStarve i).fixed = d.fixed := by
  unfold listenerStarve
  dsimp only
  repeat' split
  all_goals simp

@[simp ↓] theorem listenerResume_fixed (d : Dev) (i : Fin 16) : (d.listenerResume i).fixed = d.fixed := by
  simp [listenerResume]

@[simp ↓] theorem talkerStartSend_fixed (d : Dev) (i : Fin 8) : (d.talkerStartSend i).fixed = d.fixed := by
  simp [talkerStartSend]

@[simp ↓] theorem stopTimeReached_fixed (d : Dev) (talker : Bool) (index : Fin 16) :
    (d.stopTimeReached talker index).fixed = d.fixed := by
  simp [stopTimeReached]

@[simp ↓] theorem talkerGather_fixed (d : Dev) (i : Fin 8) (sample : List Word) :
    (d.talkerGather i sample).fixed = d.fixed := by
  fun_cases talkerGather d i sample <;> simp

@[simp ↓] theorem talkerFrameSend_fixed (d : Dev) (i : Fin 8) : (d.talkerFrameSend i).fixed = d.fixed := by
  unfold talkerFrameSend
  dsimp only
  repeat' split
  all_goals simp

@[simp ↓] theorem stopRampEnd_fixed (d : Dev) (talker : Bool) (index : Fin 16) :
    (d.stopRampEnd talker index).fixed = d.fixed := by
  simp [stopRampEnd]

@[simp ↓] theorem faultEvent_fixed (d : Dev) (i : Fin 16) (kind : Nat) : (d.faultEvent i kind).fixed = d.fixed := by
  simp [faultEvent]

@[simp ↓] theorem streamFault_fixed (d : Dev) (i : Fin 16) (kind : Fin 3) : (d.streamFault i kind).fixed = d.fixed := by
  fun_cases streamFault d i kind <;> simp

@[simp ↓] theorem rateRecovered_fixed (d : Dev) (i : Fin 16) : (d.rateRecovered i).fixed = d.fixed := by
  simp [rateRecovered]

@[simp ↓] theorem streamUnknown_fixed (d : Dev) (p : Fin 3) : (d.streamUnknown p).fixed = d.fixed := by
  simp [streamUnknown]

@[simp ↓] theorem frameTaken_fixed (d : Dev) (i : Fin 16) (f : AafFrame) (n : Nat) (pos first : Int) :
    (d.frameTaken i f n pos first).fixed = d.fixed := by
  simp [frameTaken]

@[simp ↓] theorem runsEnd_fixed (d : Dev) (i : Fin 16) (late mismatch : Bool) :
    (d.runsEnd i late mismatch).fixed = d.fixed := by
  simp [runsEnd]

@[simp ↓] theorem aafJudge_fixed (d : Dev) (i : Fin 16) (s : ListenerSetup) (f : AafFrame) (shift : Int) :
    (d.aafJudge i s f shift).fixed = d.fixed := by
  simp [aafJudge]

@[simp ↓] theorem formatMismatch_fixed (d : Dev) (i : Fin 16) : (d.formatMismatch i).fixed = d.fixed := by
  simp [formatMismatch]

@[simp ↓] theorem aafFrame_fixed (d : Dev) (f : AafFrame) (shift : Fin 16 → Int) : (d.aafFrame f shift).1.fixed = d.fixed := by
  unfold aafFrame
  repeat' split
  all_goals simp

@[simp ↓] theorem crfFrame_fixed (d : Dev) (f : CrfFrame) : (d.crfFrame f).fixed = d.fixed := by
  unfold crfFrame
  repeat' split
  all_goals simp

@[simp ↓] theorem listenerAdvance_fixed (d : Dev) (i : Fin 16) : (d.listenerAdvance i).fixed = d.fixed := by
  unfold listenerAdvance
  dsimp only
  repeat' split
  all_goals simp

@[simp ↓] theorem modGptp_fixed (d : Dev) (p : Fin 3) (f : Gptp → Gptp) : (d.modGptp p f).fixed = d.fixed := (rfl)

@[simp ↓] theorem gptpEvent_fixed (d : Dev) (p : Fin 3) : (d.gptpEvent p).fixed = d.fixed := by
  simp [gptpEvent]

@[simp ↓] theorem gptpSet_fixed (d : Dev) (p : Fin 3) (role : GptpRole) (cap : Bool) :
    (d.gptpSet p role cap).fixed = d.fixed := by
  simp [gptpSet]

@[simp ↓] theorem gptpSend_fixed (d : Dev) (p : Fin 3) (m : GptpSent) : (d.gptpSend p m).fixed = d.fixed := by
  simp [gptpSend]

@[simp ↓] theorem gptpLaunched_fixed (d : Dev) (p : Fin 3) (m : GptpSent) (at' : Int) :
    (d.gptpLaunched p m at').fixed = d.fixed := by
  fun_cases gptpLaunched d p m at' <;> simp

@[simp ↓] theorem syncTaken_fixed (d : Dev) (p : Fin 3) (received : Int) (info : SyncInfo) :
    (d.syncTaken p received info).fixed = d.fixed := by
  simp [syncTaken]

@[simp ↓] theorem gptpMessage_fixed (d : Dev) (p : Fin 3) (domain ago : Nat) (m : GptpMessage) :
    (d.gptpMessage p domain ago m).fixed = d.fixed := by
  unfold gptpMessage
  dsimp only
  repeat' split
  all_goals simp

@[simp ↓] theorem syncTimeout_fixed (d : Dev) (p : Fin 3) : (d.syncTimeout p).fixed = d.fixed := by
  simp [syncTimeout]

@[simp ↓] theorem announceTimeout_fixed (d : Dev) (p : Fin 3) : (d.announceTimeout p).fixed = d.fixed := by
  simp [announceTimeout]

@[simp ↓] theorem pdelaySend_fixed (d : Dev) (p : Fin 3) : (d.pdelaySend p).fixed = d.fixed := by
  simp [pdelaySend]

@[simp ↓] theorem gptpReset_fixed (d : Dev) (p : Fin 3) : (d.gptpReset p).fixed = d.fixed := by
  simp [gptpReset]

@[simp ↓] theorem listenerRelease_fixed (d : Dev) (i : Fin 16) : (d.listenerRelease i).fixed = d.fixed := by
  unfold listenerRelease
  split <;> simp

@[simp] theorem cmdListenerSetup_fixed : CmdFixed cmdListenerSetup := fun _ req d => by
  unfold cmdListenerSetup
  extract_lets channels crf
  refine effect_withFin_fixed fun i => effect_withFin_fixed fun p => ?_
  extract_lets s slot l
  iterate 6 split; · rfl
  generalize hf : takeFilter _ _ _ _ = found
  cases found with
  | none => rfl
  | some e => simp [takeFilter_fixed hf]

@[simp] theorem cmdTalkerSetup_fixed : CmdFixed cmdTalkerSetup := fun _ _ _ => by simp [cmdTalkerSetup]

@[simp] theorem cmdStreamStart_fixed : CmdFixed cmdStreamStart := fun _ _ _ => by simp [cmdStreamStart]

@[simp] theorem cmdStreamStop_fixed : CmdFixed cmdStreamStop := fun _ _ _ => by simp [cmdStreamStop]

@[simp] theorem cmdStreamDelete_fixed : CmdFixed cmdStreamDelete := fun _ _ _ => by simp [cmdStreamDelete]

@[simp] theorem cmdStreamStatus_fixed : CmdFixed cmdStreamStatus := fun _ req d => by
  unfold cmdStreamStatus
  split
  · refine effect_withFin_fixed fun i => ?_
    dsimp only
    split <;> rfl
  · refine effect_withFin_fixed fun i => ?_
    dsimp only
    split <;> rfl

@[simp] theorem cmdPortStreamStatus_fixed : CmdFixed cmdPortStreamStatus := fun _ _ _ => effect_withFin_fixed fun _ => rfl

@[simp] theorem cmdGptpSet_fixed : CmdFixed cmdGptpSet := fun _ req d => effect_withFin_fixed fun p => by
  dsimp only
  repeat' split
  all_goals simp

@[simp] theorem cmdGptpStatus_fixed : CmdFixed cmdGptpStatus := fun _ _ _ => effect_withFin_fixed fun _ => rfl

/-- The device a command leaves where it completes, and the one before it else. -/
theorem done_fixed {d : Dev} {r : CmdResult} (hr : (d.effect r).fixed = d.fixed) :
    (match r with | .done _ _ _ _ e => e | _ => d).fixed = d.fixed := by
  split
  · exact hr
  · rfl

@[simp ↓] theorem streamAutostart_fixed (d : Dev) : d.streamAutostart.fixed = d.fixed := by
  unfold streamAutostart
  split
  · rfl
  · refine (foldl_fixed _ (fun e i => ?_) _ _).trans ((foldl_fixed _ (fun e i => ?_) _ _).trans (by simp))
    all_goals
      dsimp only
      split
      · exact done_fixed (by simp)
      · rfl

end Dev
end Sys2Proof.Machine
end

section
namespace Sys2Proof.Machine
namespace Dev

/-! ### Lintel -/

@[simp ↓] theorem modGroup_fixed (d : Dev) (g : Fin 8) (f : Group → Group) : (d.modGroup g f).fixed = d.fixed := by
  simp [modGroup]

@[simp ↓] theorem modGroupCounts_fixed (d : Dev) (g : Fin 8) (f : GroupCounts → GroupCounts) :
    (d.modGroupCounts g f).fixed = d.fixed := by
  simp [modGroupCounts]

@[simp ↓] theorem lintelBeacon_fixed (d : Dev) (g : Fin 8) (port : Fin 3) (payload : List Byte) :
    (d.lintelBeacon g port payload).fixed = d.fixed := by
  fun_cases lintelBeacon d g port payload <;> simp +decide

@[simp ↓] theorem judgePath_fixed (d : Dev) (g : Fin 8) (s : GroupSetup) (path : Fin 2) :
    (d.judgePath g s path).fixed = d.fixed := by
  simp [judgePath]

@[simp ↓] theorem beaconTick_fixed (d : Dev) (g : Fin 8) : (d.beaconTick g).fixed = d.fixed := by
  simp [beaconTick]

@[simp ↓] theorem timeBaseTick_fixed (d : Dev) (g : Fin 8) (s : GroupSetup) (offsets : List Int) :
    (d.timeBaseTick g s offsets).fixed = d.fixed := by
  simp +decide [timeBaseTick]

@[simp ↓] theorem lintelShift_fixed (d : Dev) (ps : Int) : (d.lintelShift ps).fixed = d.fixed := by
  simp [lintelShift]

@[simp ↓] theorem groupEnter_fixed (d : Dev) (g : Fin 8) (st : GroupState) (bySwitch cut short quiet : Bool) :
    (d.groupEnter g st bySwitch cut short quiet).fixed = d.fixed := by
  unfold groupEnter
  split <;> simp +decide

@[simp ↓] theorem startFade_fixed (d : Dev) (g : Fin 8) (s : GroupSetup) (toStandby bySwitch : Bool) :
    (d.startFade g s toStandby bySwitch).fixed = d.fixed := by
  unfold startFade
  dsimp only
  repeat' split
  all_goals simp +decide

@[simp ↓] theorem endFade_fixed (d : Dev) (g : Fin 8) : (d.endFade g).fixed = d.fixed := by
  unfold endFade
  dsimp only
  repeat' split
  all_goals simp

@[simp ↓] theorem enterBothLost_fixed (d : Dev) (g : Fin 8) : (d.enterBothLost g).fixed = d.fixed := by
  simp [enterBothLost]

@[simp ↓] theorem leaveBothLost_fixed (d : Dev) (g : Fin 8) (path : Fin 2) : (d.leaveBothLost g path).fixed = d.fixed := by
  simp [leaveBothLost]

@[simp ↓] theorem groupStep_fixed (d : Dev) (g : Fin 8) (s : GroupSetup) : (d.groupStep g s).fixed = d.fixed := by
  fun_cases groupStep d g s <;> simp

@[simp ↓] theorem groupTimers_fixed (d : Dev) (g : Fin 8) : (d.groupTimers g).fixed = d.fixed := by
  simp [groupTimers]

@[simp ↓] theorem groupTick_fixed (d : Dev) (offsets : List Int) (g : Fin 8) : (d.groupTick offsets g).fixed = d.fixed := by
  unfold groupTick
  split <;> simp

@[simp ↓] theorem nameEntry_fixed (d : Dev) : d.nameEntry.fixed = d.fixed := by
  simp +decide [nameEntry]

@[simp ↓] theorem sendBeacons_fixed (d : Dev) (t : Fin 8) : (d.sendBeacons t).fixed = d.fixed := by
  unfold sendBeacons
  split <;> simp

@[simp ↓] theorem lintelTick_fixed (d : Dev) (offsets : List Int) : (d.lintelTick offsets).fixed = d.fixed := by
  simp [lintelTick]

@[simp ↓] theorem revertExpire_fixed (d : Dev) (g : Fin 8) : (d.revertExpire g).fixed = d.fixed := by
  fun_cases revertExpire d g <;> simp

@[simp ↓] theorem fadeEnd_fixed (d : Dev) (g : Fin 8) : (d.fadeEnd g).fixed = d.fixed := by
  simp [fadeEnd]

@[simp ↓] theorem groupAdvance_fixed (d : Dev) (g : Fin 8) : (d.groupAdvance g).fixed = d.fixed := by
  simp [groupAdvance]

@[simp ↓] theorem healthBlock_fixed (d : Dev) (g : Fin 8) (concealed : Bool) (energies : List (Nat × Nat)) :
    (d.healthBlock g concealed energies).fixed = d.fixed := by
  unfold healthBlock
  dsimp only
  repeat' split
  all_goals simp +decide

@[simp ↓] theorem groupRelease_fixed (d : Dev) (g : Fin 8) : (d.groupRelease g).fixed = d.fixed := by
  unfold groupRelease
  split <;> simp

@[simp] theorem cmdGroupSetup_fixed : CmdFixed cmdGroupSetup := fun _ req d => by
  refine effect_withFin_fixed fun g => effect_withFin_fixed fun a => effect_withFin_fixed fun b => ?_
  extract_lets -underBinder s la lb foreign
  split
  · iterate 6 split; · rfl
    generalize hf : Option.bind _ _ = found
    cases found with
    | none => rfl
    | some e =>
      obtain ⟨x, hx, he⟩ := Option.bind_eq_some_iff.mp hf
      simp [takeFilter_fixed he, takeFilter_fixed hx]
  · split <;> rfl

@[simp ↓] theorem groupStart_fixed (d : Dev) (g : Fin 8) (time : Option Nat) :
    (d.effect (d.groupStart g time)).fixed = d.fixed := by
  unfold groupStart
  extract_lets x
  split
  · rfl
  · rename_i s _
    have hl := startListeners_fixed d [s.primary, s.standby] time
    extract_lets busy
    iterate 2 split; · rfl
    split
    · rename_i e hr
      rw [hr, effect_done] at hl
      simp [hl]
    · exact hl

@[simp ↓] theorem groupHalt_fixed (d : Dev) (g : Fin 8) : (d.groupHalt g).fixed = d.fixed := by
  simp [groupHalt]

@[simp] theorem cmdGroupStart_fixed : CmdFixed cmdGroupStart := fun _ _ _ => by simp [cmdGroupStart]

@[simp] theorem cmdGroupStop_fixed : CmdFixed cmdGroupStop := fun _ req d => by
  refine effect_withFin_fixed fun g => ?_
  extract_lets -underBinder x
  split
  · rfl
  · extract_lets -underBinder time l
    split
    · rfl
    · generalize d.stopRefusal l.state l.startAt time = refusal
      cases refusal with
      | some k => rfl
      | none =>
        generalize time.filter _ = later
        cases later with
        | none => simp
        | some t => simp

@[simp] theorem cmdGroupDelete_fixed : CmdFixed cmdGroupDelete := fun _ _ _ => by simp [cmdGroupDelete]

@[simp] theorem cmdLintelSwitch_fixed : CmdFixed cmdLintelSwitch := fun _ req d => effect_withFin_fixed fun g => by
  dsimp only
  repeat' split
  all_goals simp

@[simp] theorem cmdGroupStatus_fixed : CmdFixed cmdGroupStatus := fun _ _ _ => effect_withFin_fixed fun _ => rfl

@[simp] theorem cmdLintelHealth_fixed : CmdFixed cmdLintelHealth := fun _ _ _ => effect_withFin_fixed fun _ => rfl

@[simp] theorem cmdLintelTalkerSet_fixed : CmdFixed cmdLintelTalkerSet := fun _ req d => by
  refine effect_withFin_fixed fun t => effect_withFin_fixed fun pa => effect_withFin_fixed fun pb => ?_
  split
  · rfl
  · rename_i s _
    extract_lets -underBinder standby
    generalize (if standby then pb else pa) = port
    iterate 2 split; · rfl
    rfl

@[simp ↓] theorem frameHeard_fixed (d : Dev) (i : Fin 16) : (d.frameHeard i).fixed = d.fixed := by
  fun_cases frameHeard d i <;> simp

/-! ### Frames, PHYs and gPTP -/

@[simp ↓] theorem linkEvent_fixed (d : Dev) (p : Fin 3) (old : LinkState) (planned : Bool) :
    (d.linkEvent p old planned).fixed = d.fixed := by
  simp [linkEvent]

@[simp ↓] theorem easeEvent_fixed (d : Dev) (p : Fin 3) (up : Bool) (result : Nat) :
    (d.easeEvent p up result).fixed = d.fixed := by
  simp [easeEvent]

@[simp ↓] theorem linkEnter_fixed (d : Dev) (p : Fin 3) (s : LinkState) (planned : Bool) :
    (d.linkEnter p s planned).fixed = d.fixed := by
  simp [linkEnter]

@[simp ↓] theorem discardQueue_fixed (d : Dev) (p : Fin 3) (fs : List TxFrame) : (d.discardQueue p fs).fixed = d.fixed := by
  simp [discardQueue]

@[simp ↓] theorem departUp_fixed (d : Dev) (p : Fin 3) : (d.departUp p).fixed = d.fixed := by
  simp [departUp]

@[simp ↓] theorem enterTraining_fixed (d : Dev) (p : Fin 3) : (d.enterTraining p).fixed = d.fixed := by
  simp [enterTraining]

@[simp ↓] theorem linkLoss_fixed (d : Dev) (p : Fin 3) : (d.linkLoss p).fixed = d.fixed := by
  simp [linkLoss]

@[simp ↓] theorem flushQueues_fixed (d : Dev) (p : Fin 3) : (d.flushQueues p).fixed = d.fixed := by
  simp [flushQueues]

@[simp ↓] theorem leaveDown_fixed (d : Dev) (p : Fin 3) : (d.leaveDown p).fixed = d.fixed := by
  simp [leaveDown]

@[simp ↓] theorem portDisable_fixed (d : Dev) (p : Fin 3) : (d.portDisable p).fixed = d.fixed := by
  simp +decide [portDisable]

@[simp ↓] theorem portIdle_fixed (d : Dev) (p : Fin 3) : (d.portIdle p).fixed = d.fixed := by
  unfold portIdle
  dsimp only
  repeat' split
  all_goals simp

@[simp ↓] theorem portForceDown_fixed (d : Dev) (p : Fin 3) (loss : Bool) : (d.portForceDown p loss).fixed = d.fixed := by
  simp [portForceDown]

@[simp ↓] theorem tryLinkUp_fixed (d : Dev) (p : Fin 3) : (d.tryLinkUp p).fixed = d.fixed := by
  unfold tryLinkUp
  dsimp only
  repeat' split
  all_goals simp

@[simp ↓] theorem captureLock_fixed (d : Dev) (p : Fin 3) (phase : BitVec 6) : (d.captureLock p phase).fixed = d.fixed := by
  simp [captureLock]

@[simp ↓] theorem captureUnlock_fixed (d : Dev) (p : Fin 3) (frameInProgress : Bool) :
    (d.captureUnlock p frameInProgress).fixed = d.fixed := by
  simp [captureUnlock]

@[simp ↓] theorem captureUnlockTimeout_fixed (d : Dev) (p : Fin 3) : (d.captureUnlockTimeout p).fixed = d.fixed := by
  simp [captureUnlockTimeout]

@[simp ↓] theorem phyPoll_fixed (d : Dev) (p : Fin 3) (r : PhyReading) : (d.phyPoll p r).fixed = d.fixed := by
  simp [phyPoll]

@[simp ↓] theorem phyScript_fixed (d : Dev) (p : Fin 3) (k : PhyScript) : (d.phyScript p k).fixed = d.fixed := by
  simp [phyScript]

@[simp ↓] theorem countDelivered_fixed (d : Dev) (p : Fin 3) (f : RxFrame) : (d.countDelivered p f).fixed = d.fixed := by
  simp [countDelivered]

@[simp ↓] theorem pauseFrame_fixed (d : Dev) (p : Fin 3) (quanta : Nat) : (d.pauseFrame p quanta).fixed = d.fixed := by
  simp [pauseFrame]

@[simp ↓] theorem pauseExpire_fixed (d : Dev) (p : Fin 3) : (d.pauseExpire p).fixed = d.fixed := (rfl)

@[simp ↓] theorem badFrame_fixed (d : Dev) (p : Fin 3) (f : RxFrame) (k : Fin 40) : (d.badFrame p f k).fixed = d.fixed := by
  simp [badFrame]

@[simp ↓] theorem receiveChecks_fixed (d : Dev) (p : Fin 3) (f : RxFrame) : (d.receiveChecks p f).fixed = d.fixed := by
  unfold receiveChecks
  extract_lets e lengthField
  iterate 3 refine fixed_of_ite (count_fixed ..) ?_
  iterate 5 refine fixed_of_ite (badFrame_fixed ..) ?_
  refine fixed_of_ite ((ethFlag_fixed ..).trans (count_fixed ..)) ?_
  iterate 2 refine fixed_of_ite (count_fixed ..) ?_
  refine fixed_of_ite (fixed_of_ite (countDelivered_fixed ..) (count_fixed ..)) ?_
  split
  · exact count_fixed ..
  · refine (modTraffic_fixed ..).trans ?_
    split
    · exact (count_fixed ..).trans (countDelivered_fixed ..)
    · exact countDelivered_fixed ..

@[simp ↓] theorem ethReceive_fixed (d : Dev) (p : Fin 3) (f : RxFrame) : (d.ethReceive p f).fixed = d.fixed := by
  simp [ethReceive]

@[simp ↓] theorem txSpoil_fixed (d : Dev) : d.txSpoil.fixed = d.fixed := by
  unfold txSpoil
  dsimp only
  repeat' split
  all_goals simp

@[simp ↓] theorem cellSpoil_fixed (d : Dev) (c : Nat) : (d.cellSpoil c).fixed = d.fixed := by
  fun_cases cellSpoil d c <;> simp

@[simp ↓] theorem rxRelease_fixed (d : Dev) (p : Fin 3) : (d.rxRelease p).fixed = d.fixed := (rfl)

@[simp ↓] theorem txStart_fixed (d : Dev) (p : Fin 3) : (d.txStart p).fixed = d.fixed := by
  unfold txStart
  dsimp only
  repeat' split
  all_goals simp

@[simp ↓] theorem txDone_fixed (d : Dev) (p : Fin 3) : (d.txDone p).fixed = d.fixed := by
  unfold txDone
  split <;> simp

@[simp ↓] theorem linkHoldExpire_fixed (d : Dev) (p : Fin 3) : (d.linkHoldExpire p).fixed = d.fixed := by
  simp [linkHoldExpire]

@[simp ↓] theorem easeStart_fixed (d : Dev) (p : Fin 3) (up : Bool) : (d.easeStart p up).fixed = d.fixed := by
  simp [easeStart]

@[simp ↓] theorem easeDecide_fixed (d : Dev) (p : Fin 3) (up : Bool) : (d.easeDecide p up).fixed = d.fixed := by
  simp [easeDecide]

@[simp ↓] theorem utilPort_fixed (d : Dev) (p : Fin 3) : (d.utilPort p).fixed = d.fixed := by
  simp [utilPort]

@[simp ↓] theorem utilWindow_fixed (d : Dev) : d.utilWindow.fixed = d.fixed := by
  simp [utilWindow]

@[simp ↓] theorem easeFail_fixed (d : Dev) (p : Fin 3) : (d.easeFail p).fixed = d.fixed := by
  simp +decide [easeFail]

@[simp ↓] theorem macHiWrite_fixed (d : Dev) (p : Fin 3) (w : Word) : (d.macHiWrite p w).fixed = d.fixed := by
  simp +decide [macHiWrite]

@[simp ↓] theorem filtWrite_fixed (d : Dev) (p : Fin 3) (high : Bool) (w : Word) : (d.filtWrite p high w).fixed = d.fixed := by
  fun_cases filtWrite d p high w <;> simp

@[simp ↓] theorem remoteSend_fixed (d : Dev) (p : Fin 3) (dest : BitVec 48) (seq : U16) (r : Response) :
    (d.remoteSend p dest seq r).fixed = d.fixed := by
  simp [remoteSend]

@[simp ↓] theorem remoteRequest_fixed (d : Dev) (p : Fin 3) (f : RemoteFrame) : (d.remoteRequest p f).fixed = d.fixed := by
  fun_cases remoteRequest d p f <;> simp

@[simp ↓] theorem ethCtrlStore_fixed (d : Dev) (p : Fin 3) (w : Word) : (d.ethCtrlStore p w).fixed = d.fixed := by
  simp +decide [ethCtrlStore]

@[simp] theorem cmdPortStatus_fixed : CmdFixed cmdPortStatus := fun _ _ _ => effect_withFin_fixed fun _ => rfl

@[simp] theorem cmdPortSetup_fixed : CmdFixed cmdPortSetup := fun _ req d => effect_withFin_fixed fun p => by
  dsimp only
  repeat' split
  all_goals simp +decide

@[simp] theorem cmdPortDisable_fixed : CmdFixed cmdPortDisable := fun _ _ _ => by simp [cmdPortDisable]

@[simp] theorem cmdEaseSet_fixed : CmdFixed cmdEaseSet := fun _ req d => effect_withFin_fixed fun p => by simp +decide

@[simp] theorem cmdMdio_fixed (readBack : U16) : CmdFixed (cmdMdio readBack) := fun _ _ _ => rfl

@[simp] theorem cmdPhyScript_fixed : CmdFixed cmdPhyScript := fun _ _ _ => by simp [cmdPhyScript]

@[simp] theorem cmdRemoteSet_fixed : CmdFixed cmdRemoteSet := fun _ _ _ => by simp [cmdRemoteSet]

@[simp] theorem cmdBadFrames_fixed : CmdFixed cmdBadFrames := fun _ req d => effect_withFin_fixed fun p => by split <;> rfl

end Dev
end Sys2Proof.Machine
end

section
namespace Sys2Proof.Machine
namespace Dev

/-! ### The journal -/

@[simp ↓] theorem modJournal_fixed (d : Dev) (f : Journal → Journal) : (d.modJournal f).fixed = d.fixed := (rfl)

@[simp ↓] theorem journalWithhold_fixed (d : Dev) : d.journalWithhold.fixed = d.fixed := by
  simp +decide [journalWithhold]

@[simp ↓] theorem journalAdd_fixed (d : Dev) (items : List JItem) : (d.journalAdd items).fixed = d.fixed := by
  simp [journalAdd]

@[simp ↓] theorem otherErase_fixed (d : Dev) : d.otherErase.fixed = d.fixed := by
  simp [otherErase]

@[simp ↓] theorem compactStart_fixed (d : Dev) : d.compactStart.fixed = d.fixed := by
  simp [compactStart]

@[simp ↓] theorem compactNext_fixed (d : Dev) : d.compactNext.fixed = d.fixed := by
  simp [compactNext]

@[simp ↓] theorem journalProgram_fixed (d : Dev) : d.journalProgram.fixed = d.fixed := by
  fun_cases journalProgram d <;> simp

@[simp ↓] theorem journalDone_fixed (d : Dev) : d.journalDone.fixed = d.fixed := by
  unfold journalDone
  split <;> simp

@[simp ↓] theorem compactDone_fixed (d : Dev) : d.compactDone.fixed = d.fixed := by
  simp [compactDone]

@[simp ↓] theorem eraseDone_fixed (d : Dev) (t : EraseTarget) : (d.eraseDone t).fixed = d.fixed := by
  unfold eraseDone
  dsimp only
  repeat' split
  all_goals simp

@[simp ↓] theorem defaultsDone_fixed (d : Dev) : d.defaultsDone.fixed = d.fixed := by
  simp [defaultsDone]

/-! ### The mailboxes and the event queue -/

@[simp ↓] theorem modMb_fixed (d : Dev) (k : Fin 2) (f : Mailbox → Mailbox) : (d.modMb k f).fixed = d.fixed := by
  simp [modMb]

@[simp ↓] theorem respondMb_fixed (d : Dev) (k : Fin 2) (r : Response) : (d.respondMb k r).fixed = d.fixed := by
  simp [respondMb]

@[simp ↓] theorem respondRemote_fixed (d : Dev) (w : RemoteWaiting) (r : Response) : (d.respondRemote w r).fixed = d.fixed := by
  simp [respondRemote]

@[simp ↓] theorem respond_fixed (d : Dev) (src : Source) (r : Response) : (d.respond src r).fixed = d.fixed := by
  unfold respond
  dsimp only
  repeat' split
  all_goals simp

@[simp ↓] theorem respondOk_fixed (d : Dev) (who : Source × Byte) (opcode : Nat) (payload : List Word) :
    (d.respondOk who opcode payload).fixed = d.fixed := by
  simp [respondOk]

@[simp ↓] theorem doorbell_fixed (d : Dev) (k : Fin 2) (w : Word) : (d.doorbell k w).fixed = d.fixed := by
  simp [doorbell]

@[simp ↓] theorem requestWrite_fixed (d : Dev) (k : Fin 2) (i : Fin 64) (w : Word) :
    (d.requestWrite k i w).fixed = d.fixed := by
  simp [requestWrite]

@[simp ↓] theorem mbRelease_fixed (d : Dev) (k : Fin 2) (full : Bool) : (d.mbRelease k full).fixed = d.fixed := by
  simp [mbRelease]

@[simp ↓] theorem evqHead_fixed (d : Dev) : d.evqHead.fixed = d.fixed := (rfl)

@[simp ↓] theorem evqArg_fixed (d : Dev) (full : Bool) : (d.evqArg full).fixed = d.fixed := by
  simp [evqArg]

@[simp ↓] theorem evqState_fixed (d : Dev) (full : Bool) : (d.evqState full).fixed = d.fixed := by
  simp [evqState]

@[simp ↓] theorem windowCapture_fixed (d : Dev) (k : Fin 2) (i : Fin 64) : (d.windowCapture k i).fixed = d.fixed := by
  simp [windowCapture]

@[simp ↓] theorem windowReadDone_fixed (d : Dev) (k : Fin 2) (i : Fin 64) : (d.windowReadDone k i).fixed = d.fixed := by
  simp [windowReadDone]

/-! ### The releases of the reset pins -/

@[simp ↓] theorem powerOnRelease_fixed (d : Dev) (held : Bool) : (d.powerOnRelease held).fixed = d.fixed := by
  simp [powerOnRelease]

@[simp ↓] theorem pinRelease_fixed (d : Dev) : d.pinRelease.fixed = d.fixed := (rfl)

/-! ### The TDM ports and routing -/

@[simp ↓] theorem modTdm_fixed (d : Dev) (p : Fin 4) (f : TdmPort → TdmPort) : (d.modTdm p f).fixed = d.fixed := (rfl)

@[simp ↓] theorem modRoute_fixed (d : Dev) (f : Route → Route) : (d.modRoute f).fixed = d.fixed := (rfl)

@[simp ↓] theorem modDest_fixed (d : Dev) (k : Fin 64) (f : Dest → Dest) : (d.modDest k f).fixed = d.fixed := by
  simp [modDest]

@[simp ↓] theorem modSense_fixed (d : Dev) (k : Fin 16) (f : Sense → Sense) : (d.modSense k f).fixed = d.fixed := by
  simp [modSense]

@[simp ↓] theorem tdmFlag_fixed (d : Dev) (p : Fin 4) (i : Nat) : (d.tdmFlag p i).fixed = d.fixed := by
  simp +decide [tdmFlag]

@[simp ↓] theorem tdmEnter_fixed (d : Dev) (p : Fin 4) (s : TdmState) : (d.tdmEnter p s).fixed = d.fixed := by
  simp [tdmEnter]

@[simp ↓] theorem senseRestart_fixed (d : Dev) (p : Fin 4) : (d.senseRestart p).fixed = d.fixed := by
  simp [senseRestart]

@[simp ↓] theorem tdmTake_fixed (d : Dev) (p : Fin 4) : (d.tdmTake p).fixed = d.fixed := by
  simp [tdmTake]

@[simp ↓] theorem tdmRun_fixed (d : Dev) (p : Fin 4) : (d.tdmRun p).fixed = d.fixed := by
  simp [tdmRun]

@[simp ↓] theorem tdmApply_fixed (d : Dev) (p : Fin 4) : (d.tdmApply p).fixed = d.fixed := by
  fun_cases tdmApply d p <;> simp

@[simp ↓] theorem tdmCommit_fixed (d : Dev) (p : Fin 4) : (d.tdmCommit p).fixed = d.fixed := by
  simp [tdmCommit]

@[simp ↓] theorem tdmStopped_fixed (d : Dev) (p : Fin 4) : (d.tdmStopped p).fixed = d.fixed := by
  simp [tdmStopped]

@[simp ↓] theorem tdmQuiet_fixed (d : Dev) (p : Fin 4) : (d.tdmQuiet p).fixed = d.fixed := by
  unfold tdmQuiet
  simp

@[simp ↓] theorem tdmWake_fixed (d : Dev) (p : Fin 4) : (d.tdmWake p).fixed = d.fixed := by
  unfold tdmWake
  simp

@[simp ↓] theorem tdmResume_fixed (d : Dev) (p : Fin 4) : (d.tdmResume p).fixed = d.fixed := by
  simp [tdmResume]

@[simp ↓] theorem tdmUnderrun_fixed (d : Dev) (p : Fin 4) : (d.tdmUnderrun p).fixed = d.fixed := by
  simp [tdmUnderrun]

@[simp ↓] theorem tdmOverrun_fixed (d : Dev) (p : Fin 4) : (d.tdmOverrun p).fixed = d.fixed := by
  simp [tdmOverrun]

@[simp ↓] theorem senseStale_fixed (d : Dev) (k : Fin 16) : (d.senseStale k).fixed = d.fixed := by
  fun_cases senseStale d k <;> simp

@[simp ↓] theorem senseRecovered_fixed (d : Dev) (k : Fin 16) : (d.senseRecovered k).fixed = d.fixed := by
  simp [senseRecovered]

@[simp ↓] theorem senseFrame_fixed (d : Dev) (k : Fin 16) : (d.senseFrame k).fixed = d.fixed := by
  unfold senseFrame
  split <;> simp

@[simp ↓] theorem routeSwap_fixed (d : Dev) : d.routeSwap.fixed = d.fixed := by
  unfold routeSwap
  split <;> simp

@[simp ↓] theorem takeInputs_fixed (d : Dev) (sdi : List (List Bool)) (p : Fin 4) : (d.takeInputs sdi p).fixed = d.fixed := by
  simp [takeInputs]

@[simp ↓] theorem destsTick_fixed (d : Dev) (samples : List Int) : (d.destsTick samples).fixed = d.fixed := by
  unfold destsTick
  refine foldl_fixed _ (fun e k => ?_) _ d
  dsimp only
  repeat' split
  all_goals simp

@[simp ↓] theorem frameStart_fixed (d : Dev) (p : Fin 4) : (d.frameStart p).fixed = d.fixed := by
  simp [frameStart]

@[simp ↓] theorem talkerTick_fixed (d : Dev) (i : Fin 8) : (d.talkerTick i).fixed = d.fixed := by
  fun_cases talkerTick d i <;> simp

@[simp ↓] theorem watchFrame_fixed (d : Dev) : d.watchFrame.fixed = d.fixed := by
  simp [watchFrame]

@[simp ↓] theorem dcFrame_fixed (d : Dev) : d.dcFrame.fixed = d.fixed := by
  simp [dcFrame]

@[simp ↓] theorem frameBoundary_fixed (d : Dev) (sdi : List (List Bool)) : (d.frameBoundary sdi).fixed = d.fixed := by
  simp [frameBoundary]

theorem placeDelay_fixed {d e : Dev} {k : Fin 64} {n : Nat} (h : d.placeDelay k n = some e) : e.fixed = d.fixed := by
  unfold placeDelay at h
  dsimp only at h
  split at h
  · simp [← Option.some.inj h]
  · simp [allocate_fixed h]

@[simp ↓] theorem clearLine_fixed (d : Dev) (k : Fin 64) (n : Nat) : (d.clearLine k n).fixed = d.fixed := by
  simp [clearLine]

@[simp ↓] theorem delayRampEnd_fixed (d : Dev) (k : Fin 64) : (d.delayRampEnd k).fixed = d.fixed := by
  fun_cases delayRampEnd d k <;> simp

@[simp ↓] theorem mortarSpoil_fixed (d : Dev) (word : Nat) : (d.mortarSpoil word).fixed = d.fixed := by
  unfold mortarSpoil
  dsimp only
  repeat' split
  all_goals simp

@[simp] theorem cmdTdmSet_fixed : CmdFixed cmdTdmSet := fun _ _ _ => by simp [cmdTdmSet]

@[simp] theorem cmdTdmDisable_fixed : CmdFixed cmdTdmDisable := fun _ _ _ => by simp [cmdTdmDisable]

@[simp] theorem cmdTdmStatus_fixed : CmdFixed cmdTdmStatus := fun _ _ _ => effect_withFin_fixed fun _ => rfl

@[simp] theorem cmdSourceBind_fixed : CmdFixed cmdSourceBind := fun _ req d => effect_withFin_fixed fun k => by
  split
  · rfl
  · extract_lets grouped off second
    iterate 5 refine effect_of_ite rfl ?_
    rfl

@[simp] theorem cmdDestBind_fixed : CmdFixed cmdDestBind := fun _ req d => effect_withFin_fixed fun k => by
  extract_lets -underBinder w kind? amp? x
  clear_value kind?
  cases kind? with
  | none => rfl
  | some kind =>
    dsimp -zeta only
    extract_lets -underBinder off taken delay ramp
    iterate 4 refine effect_of_ite rfl ?_
    extract_lets -underBinder
    generalize hp : (if delay = _ then some d else _) = placed
    cases placed with
    | none => rfl
    | some e =>
      have hplaced : e.fixed = d.fixed := by
        split at hp
        · rw [Option.some.inj hp]
        · exact placeDelay_fixed hp
      dsimp -zeta only
      extract_lets -underBinder cleared
      exact (modDest_fixed ..).trans ((by simp [cleared] : cleared.fixed = e.fixed).trans hplaced)

@[simp] theorem cmdXpSet_fixed : CmdFixed cmdXpSet := fun _ _ _ => by simp [cmdXpSet]

@[simp] theorem cmdCommit_fixed : CmdFixed cmdCommit := fun _ _ _ => rfl

@[simp ↓] theorem destGain_fixed (d : Dev) (k : Fin 64) (gain : Int) : (d.destGain k gain).fixed = d.fixed := by
  simp [destGain]

@[simp] theorem cmdDestGain_fixed : CmdFixed cmdDestGain := fun _ _ _ => effect_withFin_fixed fun _ => rfl

@[simp ↓] theorem routeMute_fixed (d : Dev) (lo hi : Word) (mute : Bool) : (d.routeMute lo hi mute).fixed = d.fixed := by
  simp [routeMute]

@[simp] theorem cmdMute_fixed : CmdFixed cmdMute := fun _ _ d => routeMute_fixed d _ _ _

@[simp] theorem cmdToneSet_fixed : CmdFixed cmdToneSet := fun _ _ _ => effect_withFin_fixed fun _ => rfl

@[simp] theorem cmdPartition_fixed : CmdFixed cmdPartition := fun _ _ _ => by simp [cmdPartition]

@[simp] theorem cmdSenseBind_fixed : CmdFixed cmdSenseBind := fun _ _ _ => by simp [cmdSenseBind]

@[simp] theorem cmdRouteStatus_fixed : CmdFixed cmdRouteStatus := fun _ _ _ => effect_withFin_fixed fun _ => rfl

/-! ### The arbiter, ECC and the debug port -/

@[simp ↓] theorem modArb_fixed (d : Dev) (f : Arbiter → Arbiter) : (d.modArb f).fixed = d.fixed := (rfl)

@[simp ↓] theorem arbRequest_fixed (d : Dev) (n : Fin 8) (beats ago : Nat) : (d.arbRequest n beats ago).fixed = d.fixed := by
  simp [arbRequest]

@[simp ↓] theorem waitMax_fixed (d : Dev) (n : Fin 8) (wait : Nat) : (d.waitMax n wait).fixed = d.fixed :=
  setRfld_fixed d (Nat.le_add_right_of_le (by decide)) _ _ _

@[simp ↓] theorem arbElapse_fixed (d : Dev) (n : Nat) : (d.arbElapse n).fixed = d.fixed := by
  simp [arbElapse]

@[simp ↓] theorem arbGrantTo_fixed (d : Dev) (n : Fin 8) (won : Nat) : (d.arbGrantTo n won).fixed = d.fixed := by
  unfold arbGrantTo
  split <;> simp +decide

@[simp ↓] theorem eccCount_fixed (d : Dev) (hi lo top : Nat) : (d.eccCount hi lo top).fixed = d.fixed := by
  simp +decide [eccCount]

@[simp ↓] theorem eccLast_fixed (d : Dev) (word : U16) (kind : Nat) : (d.eccLast word kind).fixed = d.fixed := by
  simp +decide [eccLast]

@[simp ↓] theorem ramWritten_fixed (d : Dev) (word : U16) : (d.ramWritten word).fixed = d.fixed := by
  simp [ramWritten]

@[simp ↓] theorem eccScrub_fixed (d : Dev) (word : U16) : (d.eccScrub word).fixed = d.fixed := by
  simp [eccScrub]

@[simp ↓] theorem eccRecord_fixed (d : Dev) (l : List EccEvent) : (d.eccRecord l).fixed = d.fixed := by
  fun_cases eccRecord d l <;> simp

@[simp ↓] theorem arbDecide_fixed (d : Dev) : d.arbDecide.fixed = d.fixed := by
  fun_cases arbDecide d <;> simp

@[simp ↓] theorem arbChoose_fixed (d : Dev) (i : ArbInput) : (d.arbChoose i).fixed = d.fixed := by
  simp [arbChoose]

@[simp ↓] theorem requestAged_fixed (d : Dev) (n : Fin 8) : (d.requestAged n).fixed = d.fixed := by
  simp [requestAged]

@[simp ↓] theorem arbTick_fixed (d : Dev) : d.arbTick.fixed = d.fixed := by
  unfold arbTick
  dsimp only
  repeat' split
  all_goals simp

@[simp ↓] theorem statsClear_fixed (d : Dev) : d.statsClear.fixed = d.fixed := by
  simp +decide [statsClear]

@[simp ↓] theorem eccClear_fixed (d : Dev) : d.eccClear.fixed = d.fixed := by
  simp +decide [eccClear]

@[simp ↓] theorem dbgCollide_fixed (d : Dev) : d.dbgCollide.fixed = d.fixed := by
  simp +decide [dbgCollide]

@[simp ↓] theorem dbgAddr_fixed (d : Dev) (word : U16) (autoInc read : Bool) :
    (d.dbgAddr word autoInc read).fixed = d.fixed := by
  unfold dbgAddr
  dsimp only
  repeat' split
  all_goals simp +decide

@[simp ↓] theorem dbgLo_fixed (d : Dev) (w : Word) : (d.dbgLo w).fixed = d.fixed := by
  simp +decide [dbgLo]

@[simp ↓] theorem dbgHi_fixed (d : Dev) (w : Word) : (d.dbgHi w).fixed = d.fixed := by
  unfold dbgHi
  split <;> simp +decide

@[simp ↓] theorem dbgDone_fixed (d : Dev) (ram : List Host.Cell) : (d.dbgDone ram).1.fixed = d.fixed := by
  unfold dbgDone
  extract_lets finish
  have hfinish (e : Dev) : (finish e).fixed = e.fixed := by simp +decide [finish]
  split
  · rfl
  · split
    · rfl
    · exact (hfinish _).trans (by simp +decide)
    · exact (hfinish _).trans (by simp +decide)

end Dev
end Sys2Proof.Machine
end

section
namespace Sys2Proof.Machine
namespace Dev

/-! ### The commands of Keystone -/

@[simp] theorem cmdKsStatus_fixed : CmdFixed cmdKsStatus := fun _ _ _ => rfl

@[simp] theorem cmdKsSetRate_fixed : CmdFixed cmdKsSetRate := by
  intro _ req d
  unfold cmdKsSetRate
  split <;> simp

@[simp] theorem cmdKsSetTable_fixed : CmdFixed cmdKsSetTable := fun _ req d => by
  have word (n : Nat) : 4 ≤ Reg.CLK_REF_0 + 4 * n := Nat.le_add_right_of_le (by decide)
  simp +decide [cmdKsSetTable, word]

@[simp] theorem cmdKsSetLoop_fixed : CmdFixed cmdKsSetLoop := fun _ _ _ => by simp +decide [cmdKsSetLoop]

@[simp] theorem cmdKsPhaseStep_fixed : CmdFixed cmdKsPhaseStep := fun _ _ _ => by simp [cmdKsPhaseStep]

@[simp] theorem cmdKsSteer_fixed : CmdFixed cmdKsSteer := fun _ _ _ => by simp +decide [cmdKsSteer]

/-! ### Measurement and the amplifiers -/

@[simp ↓] theorem modMeas_fixed (d : Dev) (f : Meas → Meas) : (d.modMeas f).fixed = d.fixed := (rfl)

@[simp ↓] theorem modSpeaker_fixed (d : Dev) (k : Fin 16) (f : Speaker → Speaker) : (d.modSpeaker k f).fixed = d.fixed := by
  simp [modSpeaker]

@[simp ↓] theorem modAmp_fixed (d : Dev) (k : Fin 4) (f : Amp → Amp) : (d.modAmp k f).fixed = d.fixed := by
  simp [modAmp]

@[simp ↓] theorem modBus_fixed (d : Dev) (b : Fin 2) (f : Bus → Bus) : (d.modBus b f).fixed = d.fixed := by
  simp [modBus]

@[simp ↓] theorem dtcEvent_fixed (d : Dev) (x : Dtc) : (d.dtcEvent x).fixed = d.fixed := by
  simp [dtcEvent]

@[simp ↓] theorem dtcUnsaved_fixed (d : Dev) (code : Nat) : (d.dtcUnsaved code).fixed = d.fixed := by
  simp [dtcUnsaved]

@[simp ↓] theorem qualify_fixed (d : Dev) (code : Nat) (value : Int) : (d.qualify code value).fixed = d.fixed := by
  simp [qualify]

@[simp ↓] theorem testDone_fixed (d : Dev) (code : Nat) : (d.testDone code).fixed = d.fixed := by
  simp [testDone]

@[simp ↓] theorem testPassed_fixed (d : Dev) (code : Nat) : (d.testPassed code).fixed = d.fixed := by
  simp [testPassed]

@[simp ↓] theorem dtcFollow_fixed (d : Dev) (code : Nat) (failed : Bool) (value : Int) :
    (d.dtcFollow code failed value).fixed = d.fixed := by
  simp [dtcFollow]

@[simp ↓] theorem dtcClear_fixed (d : Dev) (code : Nat) : (d.dtcClear code).fixed = d.fixed := by
  simp [dtcClear]

@[simp ↓] theorem cycleStart_fixed (d : Dev) : d.cycleStart.fixed = d.fixed := by
  simp [cycleStart]

@[simp ↓] theorem dtcStoreWrite_fixed (d : Dev) : d.dtcStoreWrite.fixed = d.fixed := by
  fun_cases dtcStoreWrite d <;> simp

@[simp ↓] theorem learnRefused_fixed (d : Dev) (k : Fin 16) : (d.learnRefused k).fixed = d.fixed := by
  fun_cases learnRefused d k <;> simp

@[simp ↓] theorem speakerQualify_fixed (d : Dev) (k : Fin 16) (n : Nat) (value : Int) :
    (d.speakerQualify k n value).fixed = d.fixed := by
  simp [speakerQualify]

@[simp ↓] theorem countTest_fixed (d : Dev) (k : Fin 16) (j : Fin 5) (failed : Bool) (value : Int) :
    (d.countTest k j failed value).fixed = d.fixed := by
  simp [countTest]

@[simp ↓] theorem runTests_fixed (k : Fin 16) (value : Int) :
    ∀ (l : List (Fin 5 × Bool × Bool)) (d : Dev), (d.runTests k value l).fixed = d.fixed
  | [], _ => rfl
  | (_, _, _) :: t, d => by simp [runTests, runTests_fixed k value t]

@[simp ↓] theorem slotAccept_fixed (d : Dev) (k : Fin 16) : (d.slotAccept k).fixed = d.fixed := by
  simp [slotAccept]

@[simp ↓] theorem slotReject_fixed (d : Dev) (k : Fin 16) (why : Nat) : (d.slotReject k why).fixed = d.fixed := by
  simp [slotReject]

@[simp ↓] theorem slotEnd_fixed (d : Dev) (k : Fin 16) : (d.slotEnd k).fixed = d.fixed := by
  simp [slotEnd]

@[simp ↓] theorem learnDone_fixed (d : Dev) (k : Fin 16) : (d.learnDone k).fixed = d.fixed := by
  unfold learnDone
  split <;> simp

@[simp ↓] theorem learnTimeout_fixed (d : Dev) (k : Fin 16) : (d.learnTimeout k).fixed = d.fixed := by
  simp [learnTimeout]

@[simp ↓] theorem dcNext_fixed (d : Dev) (k : Fin 16) (outcome : Nat) : (d.dcNext k outcome).fixed = d.fixed := by
  unfold dcNext
  split <;> simp

@[simp ↓] theorem dcStart_fixed (d : Dev) (k : Fin 16) : (d.dcStart k).fixed = d.fixed := by
  simp [dcStart]

@[simp ↓] theorem dcNotQuiet_fixed (d : Dev) (k : Fin 16) : (d.dcNotQuiet k).fixed = d.fixed := by
  simp [dcNotQuiet]

@[simp ↓] theorem dcFollow_fixed (d : Dev) (k : Fin 16) (n : Nat) (failed : Bool) (z : Nat) :
    (d.dcFollow k n failed z).fixed = d.fixed := by
  simp [dcFollow]

@[simp ↓] theorem dcDone_fixed (d : Dev) (k : Fin 16) : (d.dcDone k).fixed = d.fixed := by
  unfold dcDone
  split <;> simp

@[simp ↓] theorem dcAbort_fixed (d : Dev) (k : Fin 16) (c : DcAbort) : (d.dcAbort k c).fixed = d.fixed := by
  simp [dcAbort]

@[simp ↓] theorem dcSupply_fixed (d : Dev) : d.dcSupply.fixed = d.fixed := by
  fun_cases dcSupply d <;> simp

@[simp ↓] theorem measQuiet_fixed (d : Dev) : d.measQuiet.fixed = d.fixed := by
  unfold measQuiet
  split <;> simp

@[simp ↓] theorem foldEvent_fixed (d : Dev) (amp : Nat) (die : Bool) (target : Nat) :
    (d.foldEvent amp die target).fixed = d.fixed := by
  simp [foldEvent]

@[simp ↓] theorem foldAmp_fixed (d : Dev) (k : Fin 4) : (d.foldAmp k).fixed = d.fixed := by
  simp [foldAmp]

@[simp ↓] theorem foldEval_fixed (d : Dev) : d.foldEval.fixed = d.fixed := by
  simp [foldEval]

@[simp ↓] theorem foldLimit_fixed (d : Dev) (o : FoldOwner) : (d.foldLimit o).fixed = d.fixed := by
  fun_cases foldLimit d o <;> simp

@[simp ↓] theorem settleBus_fixed (d : Dev) (b : Fin 2) : (d.settleBus b).fixed = d.fixed := by
  simp [settleBus]

@[simp ↓] theorem addJob_fixed (d : Dev) (b : Fin 2) (j : BusJob) : (d.addJob b j).fixed = d.fixed := by
  simp [addJob]

@[simp ↓] theorem requestScript_fixed (d : Dev) (k : Fin 4) (kind : ScriptKind) (reply : Option Byte) :
    (d.requestScript k kind reply).fixed = d.fixed := by
  fun_cases requestScript d k kind reply <;> simp

@[simp ↓] theorem requestStarts_fixed (d : Dev) : d.requestStarts.fixed = d.fixed := by
  simp [requestStarts]

@[simp ↓] theorem abortScripts_fixed (d : Dev) (k : Fin 4) : (d.abortScripts k).fixed = d.fixed := by
  refine foldl_fixed _ (fun e b => ?_) _ d
  dsimp only
  repeat' split
  all_goals simp

@[simp ↓] theorem i2cAnswer_fixed (d : Dev) (who : Source × Byte) (r : I2cResult) : (d.i2cAnswer who r).fixed = d.fixed := by
  fun_cases i2cAnswer d who r <;> simp

@[simp ↓] theorem busStuck_fixed (d : Dev) (b : Fin 2) : (d.busStuck b).fixed = d.fixed := by
  refine (foldl_fixed _ (fun e j => ?_) _ _).trans (by simp)
  split <;> simp

@[simp ↓] theorem i2cDone_fixed (d : Dev) (b : Fin 2) (r : I2cResult) : (d.i2cDone b r).fixed = d.fixed := by
  unfold i2cDone
  dsimp only
  repeat' split
  all_goals simp

@[simp ↓] theorem i2cRetry_fixed (d : Dev) (b : Fin 2) : (d.i2cRetry b).fixed = d.fixed := (rfl)

@[simp ↓] theorem i2cStretch_fixed (d : Dev) (b : Fin 2) : (d.i2cStretch b).fixed = d.fixed := by
  simp [i2cStretch]

@[simp ↓] theorem ampEvent_fixed (d : Dev) (k : Fin 4) (asserted script : Bool) :
    (d.ampEvent k asserted script).fixed = d.fixed := by
  simp [ampEvent]

@[simp ↓] theorem safetyEvent_fixed (d : Dev) (k : Fin 4) (entry : Bool) : (d.safetyEvent k entry).fixed = d.fixed := by
  simp [safetyEvent]

@[simp ↓] theorem faultAssert_fixed (d : Dev) (k : Fin 4) : (d.faultAssert k).fixed = d.fixed := by
  simp [faultAssert]

@[simp ↓] theorem faultRelease_fixed (d : Dev) (k : Fin 4) : (d.faultRelease k).fixed = d.fixed := by
  simp [faultRelease]

@[simp ↓] theorem demandEnd_fixed (d : Dev) (k : Fin 4) (script : Bool) : (d.demandEnd k script).fixed = d.fixed := by
  simp [demandEnd]

@[simp ↓] theorem faultHoldExpire_fixed (d : Dev) (k : Fin 4) : (d.faultHoldExpire k).fixed = d.fixed := by
  simp [faultHoldExpire]

@[simp ↓] theorem ampCommand_fixed (d : Dev) (k : Fin 4) (muted : Bool) : (d.ampCommand k muted).fixed = d.fixed := by
  simp [ampCommand]

@[simp ↓] theorem scriptEvent_fixed (d : Dev) (k : Fin 4) (kind : ScriptKind) (failed : Bool) (step : Nat) :
    (d.scriptEvent k kind failed step).fixed = d.fixed := by
  simp [scriptEvent]

@[simp ↓] theorem scriptEnd_fixed (d : Dev) (k : Fin 4) (kind : ScriptKind) (step : Nat) (ok : Bool) (reply : Option Byte) :
    (d.scriptEnd k kind step ok reply).fixed = d.fixed := by
  unfold scriptEnd
  repeat' split
  all_goals simp

@[simp ↓] theorem scriptDone_fixed (d : Dev) (k : Fin 4) : (d.scriptDone k).fixed = d.fixed := by
  fun_cases scriptDone d k <;> simp

@[simp ↓] theorem dieDisagree_fixed (d : Dev) : d.dieDisagree.fixed = d.fixed := by
  simp [dieDisagree]

@[simp ↓] theorem amonOut_fixed (d : Dev) : d.amonOut.fixed = d.fixed := by
  simp [amonOut]

@[simp ↓] theorem amonBack_fixed (d : Dev) : d.amonBack.fixed = d.fixed := by
  simp [amonBack]

@[simp] theorem cmdSpeakerSet_fixed : CmdFixed cmdSpeakerSet := fun _ req d =>
  effect_withFin_fixed fun k => effect_withFin_fixed fun amp => effect_withFin_fixed fun dest => by
    extract_lets -underBinder s x slotKind set
    iterate 2 refine effect_of_ite rfl ?_
    exact fixed_of_ite rfl rfl

@[simp] theorem cmdMeasConfig_fixed : CmdFixed cmdMeasConfig := fun _ _ _ => by simp [cmdMeasConfig]

@[simp] theorem cmdMeasResult_fixed : CmdFixed cmdMeasResult := fun _ _ _ => effect_withFin_fixed fun _ => rfl

@[simp] theorem cmdBaseline_fixed : CmdFixed cmdBaseline := by
  intro _ req d
  unfold cmdBaseline
  repeat' split
  all_goals simp

@[simp] theorem cmdDcTest_fixed : CmdFixed cmdDcTest := fun _ _ _ => by simp [cmdDcTest]

@[simp] theorem cmdMonitors_fixed : CmdFixed cmdMonitors := fun _ _ _ => rfl

@[simp] theorem cmdDtcRead_fixed : CmdFixed cmdDtcRead := fun _ _ _ => effect_withFin_fixed fun _ => rfl

@[simp] theorem cmdDtcClear_fixed : CmdFixed cmdDtcClear := fun _ _ _ => by simp [cmdDtcClear]

@[simp] theorem cmdScriptSet_fixed : CmdFixed cmdScriptSet := fun _ req d => effect_withFin_fixed fun k => by
  dsimp only
  repeat' split
  all_goals rfl

@[simp] theorem cmdScriptRun_fixed : CmdFixed cmdScriptRun := fun _ req d => effect_withFin_fixed fun k => by
  repeat' split
  all_goals simp

@[simp ↓] theorem ampLine_fixed (req : Request) (d : Dev) (k : Fin 4) : (ampLine req d k).fixed = d.fixed := by
  simp [ampLine]

@[simp] theorem cmdAmpLine_fixed : CmdFixed cmdAmpLine := fun _ _ _ => by simp [cmdAmpLine]

@[simp] theorem cmdAmpI2c_fixed : CmdFixed cmdAmpI2c := fun _ _ _ => by simp [cmdAmpI2c]

end Dev
end Sys2Proof.Machine
end

section
namespace Sys2Proof.Machine
namespace Dev

/-! ### The pins -/

@[simp ↓] theorem modGpio_fixed (d : Dev) (f : Gpio → Gpio) : (d.modGpio f).fixed = d.fixed := (rfl)

@[simp ↓] theorem modPin_fixed (d : Dev) (p : Fin 37) (f : GpioPin → GpioPin) : (d.modPin p f).fixed = d.fixed := by
  simp [modPin]

@[simp ↓] theorem raisePair_fixed (d : Dev) {lo : Nat} (h : 4 ≤ lo) (p : Fin 37) : (d.raisePair lo p).fixed = d.fixed := by
  simp [raisePair, h, Nat.le_add_right_of_le h]

@[simp ↓] theorem holdPins_fixed (d : Dev) (l : List (Fin 37)) : (d.holdPins l).fixed = d.fixed := by
  simp [holdPins]

@[simp ↓] theorem faultSettle_fixed (d : Dev) : d.faultSettle.fixed = d.fixed := by
  simp [faultSettle]

@[simp ↓] theorem settleSources_fixed (d : Dev) : d.settleSources.fixed = d.fixed := by
  simp [settleSources]

@[simp ↓] theorem switchPins_fixed (d : Dev) (l : List (Fin 37)) {set : Dev → Dev} (h : ∀ e, (set e).fixed = e.fixed) :
    (d.switchPins l set).fixed = d.fixed := by
  simp [switchPins, h]

@[simp ↓] theorem pinHoldEnd_fixed (d : Dev) (p : Fin 37) : (d.pinHoldEnd p).fixed = d.fixed := by
  simp +decide [pinHoldEnd]

@[simp ↓] theorem dirWrite_fixed (d : Dev) (high : Bool) (w : Word) : (d.dirWrite high w).fixed = d.fixed := by
  unfold dirWrite
  split <;> simp +decide

@[simp ↓] theorem muxField_fixed (d : Dev) (p : Fin 37) (code : Nat) : (d.muxField p code).fixed = d.fixed := by
  have word : 4 ≤ Reg.GPIO_MUX_0 + 4 * ((p.val - 16) / 8) := Nat.le_add_right_of_le (by decide)
  simp +decide [muxField, word]

@[simp ↓] theorem muxWrite_fixed (d : Dev) (k : Nat) (w : Word) : (d.muxWrite k w).fixed = d.fixed := by
  simp [muxWrite]

@[simp ↓] theorem xbarSet_fixed (d : Dev) (f : Fin 25) (v : Nat) : (d.xbarSet f v).fixed = d.fixed := by
  have word : 4 ≤ Reg.GPIO_XBAR_0 + 4 * (f.val / 4) := Nat.le_add_right_of_le (by decide)
  simp +decide [xbarSet, word]

@[simp ↓] theorem xbarWrite_fixed (d : Dev) (k : Nat) (w : Word) : (d.xbarWrite k w).fixed = d.fixed := by
  simp [xbarWrite]

@[simp ↓] theorem pinCfgWrite_fixed (d : Dev) (p : Fin 37) (w : Word) : (d.pinCfgWrite p w).fixed = d.fixed := by
  simp +decide [pinCfgWrite]

@[simp ↓] theorem lockWrite_fixed (d : Dev) (hearth : Bool) (w : Word) : (d.lockWrite hearth w).fixed = d.fixed := by
  unfold lockWrite
  repeat' split
  all_goals simp +decide

@[simp ↓] theorem maskedWrite_fixed (d : Dev) (m : Nat) (w : Word) : (d.maskedWrite m w).fixed = d.fixed := by
  simp +decide [maskedWrite]

@[simp ↓] theorem latchWrite_fixed (d : Dev) (p : Fin 37) (level : Bool) : (d.latchWrite p level).fixed = d.fixed := by
  simp +decide [latchWrite]

theorem gpioStore_fixed {d e : Dev} {a : Nat} {w : Word} (h : d.gpioStore a w = some e) : e.fixed = d.fixed := by
  unfold gpioStore at h
  split_ifs at h with _ _ hsel
  all_goals obtain rfl := Option.some.inj h
  · exact dirWrite_fixed ..
  · exact dirWrite_fixed ..
  · exact setReg_fixed d (hsel ▸ by decide) _
  · exact pinCfgWrite_fixed ..
  · exact lockWrite_fixed ..
  · exact muxWrite_fixed ..
  · exact xbarWrite_fixed ..
  · exact maskedWrite_fixed ..

@[simp ↓] theorem debounceChange_fixed (d : Dev) (p : Fin 37) : (d.debounceChange p).fixed = d.fixed := by
  simp +decide [debounceChange]

@[simp ↓] theorem padLevel_fixed (d : Dev) (p : Fin 37) (level : Bool) : (d.padLevel p level).fixed = d.fixed := by
  unfold padLevel
  simp

@[simp ↓] theorem faultPinAssert_fixed (d : Dev) (k : Fin 4) : (d.faultPinAssert k).fixed = d.fixed := by
  simp [faultPinAssert]

@[simp ↓] theorem muteCheck_fixed (d : Dev) (p : Fin 37) : (d.muteCheck p).fixed = d.fixed := by
  simp [muteCheck]

@[simp ↓] theorem muteCheckAll_fixed (d : Dev) : d.muteCheckAll.fixed = d.fixed := by
  simp [muteCheckAll]

@[simp ↓] theorem pinsSleep_fixed (d : Dev) : d.pinsSleep.fixed = d.fixed := by
  simp [pinsSleep]

@[simp ↓] theorem pinsRelease_fixed (d : Dev) : d.pinsRelease.fixed = d.fixed := by
  simp [pinsRelease]

@[simp ↓] theorem pinsReturn_fixed (d : Dev) : d.pinsReturn.fixed = d.fixed := by
  simp [pinsReturn]

@[simp ↓] theorem pinWake_fixed (d : Dev) (p : Fin 37) : (d.pinWake p).fixed = d.fixed := by
  simp +decide [pinWake]

@[simp ↓] theorem lockPins_fixed (d : Dev) (lo hi : Word) : (d.lockPins lo hi).fixed = d.fixed := by
  simp +decide [lockPins]

@[simp] theorem cmdGpioPinConfig_fixed : CmdFixed cmdGpioPinConfig := fun _ _ _ => by simp [cmdGpioPinConfig]

@[simp] theorem cmdGpioXbarSet_fixed : CmdFixed cmdGpioXbarSet := fun _ _ _ => by simp [cmdGpioXbarSet]

@[simp] theorem cmdGpioOutput_fixed : CmdFixed cmdGpioOutput := fun _ _ _ => by simp +decide [cmdGpioOutput]

@[simp] theorem cmdGpioRead_fixed : CmdFixed cmdGpioRead := fun _ _ _ => rfl

@[simp] theorem cmdGpioLockPin_fixed : CmdFixed cmdGpioLockPin := fun _ _ _ => by simp [cmdGpioLockPin]

/-! ### The timers -/

@[simp ↓] theorem modTmr_fixed (d : Dev) (n : Fin 4) (f : TimerCh → TimerCh) : (d.modTmr n f).fixed = d.fixed := by
  simp [modTmr]

@[simp ↓] theorem tmrFlag_fixed (d : Dev) (n : Fin 4) (k : Nat) : (d.tmrFlag n k).fixed = d.fixed := by
  simp +decide [tmrFlag]

@[simp ↓] theorem tmrMatch_fixed (d : Dev) (n : Fin 4) : (d.tmrMatch n).fixed = d.fixed := by
  simp [tmrMatch]

@[simp ↓] theorem tmrSet_fixed (d : Dev) (n : Fin 4) (v : Nat) : (d.tmrSet n v).fixed = d.fixed := by
  unfold tmrSet
  simp

@[simp ↓] theorem tmrTick_fixed (d : Dev) (n : Fin 4) : (d.tmrTick n).fixed = d.fixed := by
  simp [tmrTick]

@[simp ↓] theorem tmrTicks_fixed (d : Dev) : d.tmrTicks.fixed = d.fixed := by
  simp [tmrTicks]

@[simp ↓] theorem timerMatch_fixed (d : Dev) (n : Fin 4) : (d.timerMatch n).fixed = d.fixed := by
  simp [timerMatch]

@[simp ↓] theorem timerWrap_fixed (d : Dev) (n : Fin 4) : (d.timerWrap n).fixed = d.fixed := by
  simp [timerWrap]

@[simp ↓] theorem captureOverflow_fixed (d : Dev) (n : Fin 4) : (d.captureOverflow n).fixed = d.fixed := by
  simp [captureOverflow]

@[simp ↓] theorem capturePush_fixed (d : Dev) (n : Fin 4) (e : CaptureEntry) : (d.capturePush n e).fixed = d.fixed := by
  simp [capturePush]

@[simp ↓] theorem timerCapture_fixed (d : Dev) (n : Fin 4) (falling : Bool) : (d.timerCapture n falling).fixed = d.fixed := by
  simp [timerCapture]

@[simp ↓] theorem timerGate_fixed (d : Dev) (n : Fin 4) (start stop : Bool) : (d.timerGate n start stop).fixed = d.fixed := by
  unfold timerGate
  dsimp only
  repeat' split
  all_goals simp

@[simp ↓] theorem tmrHearth_fixed (d : Dev) (hearth : Option (Fin 4)) : (d.tmrHearth hearth).fixed = d.fixed := by
  cases hearth <;> rfl

@[simp ↓] theorem tmrWrite_fixed (d : Dev) (hearth : Option (Fin 4)) {f : Fin 4 → Dev → Dev} (h : ∀ n e,
    (f n e).fixed = e.fixed) :
    (d.tmrWrite hearth f).fixed = d.fixed := by
  simp [tmrWrite, h]

@[simp ↓] theorem tmrClear_fixed (d : Dev) (hearth : Option (Fin 4)) : (d.tmrClear hearth).fixed = d.fixed := by
  simp [tmrClear]

@[simp ↓] theorem tmrCtrlWrite_fixed (d : Dev) (hearth : Option (Fin 4)) (w : Word) :
    (d.tmrCtrlWrite hearth w).fixed = d.fixed := by
  simp [tmrCtrlWrite]

@[simp ↓] theorem tmrCmpWrite_fixed (d : Dev) (hearth : Option (Fin 4)) (high : Bool) (w : Word) :
    (d.tmrCmpWrite hearth high w).fixed = d.fixed := by
  refine tmrWrite_fixed d hearth fun n e => ?_
  dsimp only
  repeat' split
  all_goals simp

@[simp ↓] theorem tmrCountLo_fixed (d : Dev) (hearth : Option (Fin 4)) : (d.tmrCountLo hearth).fixed = d.fixed := by
  simp [tmrCountLo]

@[simp ↓] theorem tmrCapLatch_fixed (d : Dev) (hearth : Option (Fin 4)) : (d.tmrCapLatch hearth).fixed = d.fixed := by
  simp [tmrCapLatch]

@[simp ↓] theorem tmrCapPop_fixed (d : Dev) (hearth : Option (Fin 4)) : (d.tmrCapPop hearth).fixed = d.fixed := by
  simp [tmrCapPop]

@[simp ↓] theorem tmrCapLo_fixed (d : Dev) (hearth : Option (Fin 4)) (full : Bool) :
    (d.tmrCapLo hearth full).fixed = d.fixed := by
  simp [tmrCapLo]

@[simp ↓] theorem tmrClaim_fixed (d : Dev) : d.tmrClaim.fixed = d.fixed := by
  simp [tmrClaim]

@[simp ↓] theorem tmrUnclaim_fixed (d : Dev) : d.tmrUnclaim.fixed = d.fixed := by
  simp [tmrUnclaim]

/-! ### The scheduler -/

@[simp ↓] theorem modSched_fixed (d : Dev) (e : Fin 32) (f : SchedEntry → SchedEntry) :
    (d.modSched e f).fixed = d.fixed := (rfl)

@[simp ↓] theorem schedEvent_fixed (d : Dev) (e : Fin 32) : (d.schedEvent e).fixed = d.fixed := by
  simp [schedEvent]

@[simp ↓] theorem schedEnd_fixed (d : Dev) (e : Fin 32) (f : SchedEntry → SchedEntry) : (d.schedEnd e f).fixed = d.fixed := by
  simp +decide [schedEnd]

theorem schedAct_fixed {d e : Dev} {x : SchedEntry} (h : d.schedAct x = .ok e) : e.fixed = d.fixed := by
  unfold schedAct at h
  extract_lets -underBinder stream mute at h
  have hstream (stop : Bool) (h : stream stop = .ok e) : e.fixed = d.fixed := by
    unfold stream at h
    extract_lets -underBinder talker k set at h
    split at h
    · cases h
    · generalize hrun : (if stop then d.streamStop talker k (some x.time) else d.streamStart talker k (some x.time)) = r at h
      have hr : (d.effect r).fixed = d.fixed := by simp [← hrun]
      cases r with
      | refuse => cases h
      | done => cases h; exact hr
      | later => cases h; rfl
      | mismatch => cases h; rfl
  have hmute (on : Bool) (h : mute on = .ok e) : e.fixed = d.fixed := by
    unfold mute at h
    extract_lets -underBinder m at h
    split at h
    · cases h
    · cases h; exact routeMute_fixed ..
  split at h
  · cases h
  · split at h
    · exact hmute _ h
    · exact hmute _ h
    · cases h; exact latchWrite_fixed ..
    · extract_lets k at h
      split at h
      · cases h
      · cases h; exact destGain_fixed ..
    · exact hstream _ h
    · exact hstream _ h

@[simp ↓] theorem schedFire_fixed (d : Dev) (e : Fin 32) : (d.schedFire e).fixed = d.fixed := by
  unfold schedFire
  dsimp only
  split
  · simp
  · split
    · rename_i hx
      simp [schedAct_fixed hx]
    · simp

@[simp ↓] theorem schedReady_fixed (d : Dev) (e : Fin 32) : (d.schedReady e).fixed = d.fixed := by
  simp +decide [schedReady]

@[simp ↓] theorem schedAll_fixed (d : Dev) : d.schedAll.fixed = d.fixed := by
  simp [schedAll]

@[simp ↓] theorem schedRelease_fixed (d : Dev) : d.schedRelease.fixed = d.fixed := by
  simp [schedRelease]

@[simp ↓] theorem schedCancel_fixed (d : Dev) (e : Fin 32) : (d.schedCancel e).fixed = d.fixed := by
  simp [schedCancel]

@[simp ↓] theorem schedCancelWrite_fixed (d : Dev) (w : Word) : (d.schedCancelWrite w).fixed = d.fixed := by
  simp +decide [schedCancelWrite]

@[simp] theorem cmdSchedSet_fixed : CmdFixed cmdSchedSet := fun _ _ _ => by simp [cmdSchedSet]

@[simp] theorem cmdSchedCancel_fixed : CmdFixed cmdSchedCancel := fun _ _ _ => by simp [cmdSchedCancel]

@[simp] theorem cmdSchedStatus_fixed : CmdFixed cmdSchedStatus := fun _ _ _ => effect_withFin_fixed fun _ => rfl

end Dev
end Sys2Proof.Machine
end

section
namespace Sys2Proof.Machine
namespace Dev

/-! ### CAN and the tester -/

@[simp ↓] theorem modCan_fixed (d : Dev) (f : Can → Can) : (d.modCan f).fixed = d.fixed := (rfl)

@[simp ↓] theorem modObj_fixed (d : Dev) (n : Fin 32) (f : CanObj → CanObj) : (d.modObj n f).fixed = d.fixed := by
  simp [modObj]

@[simp ↓] theorem canCount_fixed (d : Dev) (k : Fin 16) : (d.canCount k).fixed = d.fixed := by
  simp [canCount]

@[simp ↓] theorem canAbort_fixed (d : Dev) (n : Fin 32) : (d.canAbort n).fixed = d.fixed := by
  simp +decide [canAbort]

@[simp ↓] theorem canRequest_fixed (d : Dev) (n : Fin 32) : (d.canRequest n).fixed = d.fixed := by
  simp [canRequest]

@[simp ↓] theorem testerKick_fixed (d : Dev) : d.testerKick.fixed = d.fixed := by
  fun_cases testerKick d <;> simp

@[simp ↓] theorem testerQueue_fixed (d : Dev) (frames : List (List Byte)) : (d.testerQueue frames).fixed = d.fixed := by
  simp [testerQueue]

@[simp ↓] theorem canTxReq_fixed (d : Dev) (w : Word) : (d.canTxReq w).fixed = d.fixed := by
  simp [canTxReq]

@[simp ↓] theorem canTxAbort_fixed (d : Dev) (w : Word) : (d.canTxAbort w).fixed = d.fixed := by
  simp [canTxAbort]

@[simp ↓] theorem canFlush_fixed (d : Dev) : d.canFlush.fixed = d.fixed := by
  simp [canFlush]

@[simp ↓] theorem fcEnter_fixed (d : Dev) (s : FcState) (flag : Nat) (count : Option (Fin 16)) :
    (d.fcEnter s flag count).fixed = d.fixed := by
  cases count <;> simp +decide [fcEnter]

@[simp ↓] theorem fcFollow_fixed (d : Dev) : d.fcFollow.fixed = d.fixed := by
  unfold fcFollow
  dsimp only
  repeat' split
  all_goals simp

@[simp ↓] theorem canRecover_fixed (d : Dev) : d.canRecover.fixed = d.fixed := by
  simp [canRecover]

@[simp ↓] theorem canRecovered_fixed (d : Dev) : d.canRecovered.fixed = d.fixed := by
  simp [canRecovered]

@[simp ↓] theorem canSuspend_fixed (d : Dev) : d.canSuspend.fixed = d.fixed := by
  simp [canSuspend]

@[simp ↓] theorem canTxStart_fixed (d : Dev) : d.canTxStart.fixed = d.fixed := by
  simp [canTxStart]

@[simp ↓] theorem canSent_fixed (d : Dev) (n : Fin 32) (delay : Option Nat) : (d.canSent n delay).fixed = d.fixed := by
  simp +decide [canSent]

@[simp ↓] theorem canUnsent_fixed (d : Dev) (n : Fin 32) : (d.canUnsent n).fixed = d.fixed := by
  simp [canUnsent]

@[simp ↓] theorem canTxComplete_fixed (d : Dev) (r : TxOutcome) : (d.canTxComplete r).fixed = d.fixed := by
  fun_cases canTxComplete d r <;> simp

@[simp ↓] theorem canAlone_fixed (d : Dev) : d.canAlone.fixed = d.fixed := by
  simp +decide [canAlone]

@[simp ↓] theorem canSetupApply_fixed (d : Dev) (s : CanSetup) : (d.canSetupApply s).fixed = d.fixed := by
  simp +decide [canSetupApply]

@[simp ↓] theorem canInitEnter_fixed (d : Dev) : d.canInitEnter.fixed = d.fixed := by
  simp +decide [canInitEnter]

@[simp ↓] theorem canInitExit_fixed (d : Dev) : d.canInitExit.fixed = d.fixed := by
  simp [canInitExit]

@[simp ↓] theorem testerSend_fixed (d : Dev) (bytes : List Byte) : (d.testerSend bytes).fixed = d.fixed := by
  simp [testerSend]

@[simp ↓] theorem flowControl_fixed (d : Dev) (status : Byte) : (d.flowControl status).fixed = d.fixed := by
  simp [flowControl]

@[simp ↓] theorem flowReceived_fixed (d : Dev) (status bs : Nat) : (d.flowReceived status bs).fixed = d.fixed := by
  unfold flowReceived
  repeat' split
  all_goals simp

@[simp ↓] theorem consecutiveReceived_fixed (d : Dev) (sn : Nat) (bytes : List Byte) :
    (d.consecutiveReceived sn bytes).fixed = d.fixed := by
  unfold consecutiveReceived
  split <;> simp

@[simp ↓] theorem testerFrameReceived_fixed (d : Dev) (functional : Bool) (l : List Byte) :
    (d.testerFrameReceived functional l).fixed = d.fixed := by
  unfold testerFrameReceived
  dsimp only
  repeat' split
  all_goals simp

@[simp ↓] theorem isoTimeout_fixed (d : Dev) : d.isoTimeout.fixed = d.fixed := by
  simp [isoTimeout]

@[simp ↓] theorem canDeliver_fixed (d : Dev) (n : Fin 32) (f : CanFrame) : (d.canDeliver n f).fixed = d.fixed := by
  simp +decide [canDeliver]

@[simp ↓] theorem recDown_fixed (d : Dev) : d.recDown.fixed = d.fixed := by
  simp [recDown]

@[simp ↓] theorem canReceive_fixed (d : Dev) (f : CanFrame) : (d.canReceive f).fixed = d.fixed := by
  unfold canReceive
  refine fixed_of_ite rfl ?_
  extract_lets -underBinder counted typed followed
  have hfollowed : followed.fixed = d.fixed := by simp [followed, typed, counted]
  refine fixed_of_ite hfollowed ?_
  split
  · exact (testerFrameReceived_fixed ..).trans hfollowed
  · cases followed.canTaker f with
    | none => exact hfollowed
    | some n => exact (canDeliver_fixed ..).trans hfollowed

@[simp ↓] theorem canReceiveError_fixed (d : Dev) (e : CanError) (dominantAfter : Bool) :
    (d.canReceiveError e dominantAfter).fixed = d.fixed := by
  simp [canReceiveError]

@[simp ↓] theorem pushSession_fixed (d : Dev) : d.pushSession.fixed = d.fixed := by
  simp [pushSession]

@[simp ↓] theorem sessionEnd_fixed (d : Dev) : d.sessionEnd.fixed = d.fixed := by
  simp [sessionEnd]

@[simp ↓] theorem canQuiet_fixed (d : Dev) : d.canQuiet.fixed = d.fixed := by
  simp +decide [canQuiet]

@[simp ↓] theorem canQuietExit_fixed (d : Dev) : d.canQuietExit.fixed = d.fixed := by
  simp +decide [canQuietExit]

@[simp] theorem cmdCanSetup_fixed : CmdFixed cmdCanSetup := by
  intro _ req d
  unfold cmdCanSetup
  split <;> simp +decide

@[simp] theorem cmdCanTesterSet_fixed : CmdFixed cmdCanTesterSet := fun _ _ _ => by simp +decide [cmdCanTesterSet]

@[simp ↓] theorem effect_withObj_fixed {d : Dev} {req : Request} {k : Fin 32 → CmdResult}
    (hk : ∀ n, (d.effect (k n)).fixed = d.fixed) : (d.effect (withObj req k)).fixed = d.fixed := by
  simp [withObj, hk]

@[simp] theorem cmdCanMoSet_fixed : CmdFixed cmdCanMoSet := fun _ _ _ => by simp [cmdCanMoSet]

@[simp] theorem cmdCanMoSend_fixed : CmdFixed cmdCanMoSend := fun _ _ _ => by simp [cmdCanMoSend]

@[simp] theorem cmdCanMoRead_fixed : CmdFixed cmdCanMoRead := fun _ req d => effect_withObj_fixed fun n => by split <;> rfl

@[simp] theorem cmdCanState_fixed : CmdFixed cmdCanState := fun _ _ _ => rfl

/-! ### The self test -/

@[simp ↓] theorem selfTestDone_fixed (d : Dev) (r : SelfTestReadings) : (d.selfTestDone r).fixed = d.fixed := by
  fun_cases selfTestDone d r <;> simp

@[simp ↓] theorem selfTestStop_fixed (d : Dev) : d.selfTestStop.fixed = d.fixed := by
  unfold selfTestStop
  split <;> simp

@[simp] theorem cmdSelfTestRun_fixed : CmdFixed cmdSelfTestRun := fun _ _ _ => by simp [cmdSelfTestRun]

@[simp] theorem cmdSelfTestResult_fixed : CmdFixed cmdSelfTestResult := fun _ _ _ => rfl

/-! ### The system, journal, update, CAN and pin commands -/

@[simp] theorem cmdStatus_fixed : CmdFixed cmdStatus := fun _ _ _ => rfl

@[simp] theorem cmdIdentity_fixed : CmdFixed cmdIdentity := fun _ _ _ => rfl

@[simp] theorem cmdFailureReport_fixed : CmdFixed cmdFailureReport := fun _ _ _ => rfl

@[simp] theorem cmdReset_fixed : CmdFixed cmdReset := by
  intro _ req d
  unfold cmdReset
  repeat' split
  all_goals simp

@[simp ↓] theorem quietAdvance_fixed (d : Dev) : d.quietAdvance.fixed = d.fixed := by
  simp [quietAdvance]

@[simp] theorem cmdQuietEnter_fixed : CmdFixed cmdQuietEnter := fun _ _ _ => by simp [cmdQuietEnter]

@[simp] theorem cmdQuietExit_fixed : CmdFixed cmdQuietExit := fun _ _ _ => by simp [cmdQuietExit]

@[simp] theorem cmdEventMask_fixed : CmdFixed cmdEventMask := fun _ _ _ => rfl

@[simp] theorem cmdJournalStatus_fixed : CmdFixed cmdJournalStatus := fun _ _ _ => rfl

@[simp] theorem cmdJournalRead_fixed : CmdFixed cmdJournalRead := by
  intro _ req d
  unfold cmdJournalRead
  split <;> simp

@[simp] theorem cmdJournalCompact_fixed : CmdFixed cmdJournalCompact := fun _ _ _ => by simp [cmdJournalCompact]

@[simp] theorem cmdJournalDefaults_fixed : CmdFixed cmdJournalDefaults := fun _ _ _ => by simp [cmdJournalDefaults]

@[simp ↓] theorem effect_withSession_fixed {d : Dev} {src : Source} {k : FwuSession → CmdResult}
    (hk : ∀ x, (d.effect (k x)).fixed = d.fixed) : (d.effect (withSession src d k)).fixed = d.fixed := by
  unfold withSession
  split
  · split
    · exact hk _
    · rfl
  · rfl

@[simp] theorem cmdFwuBegin_fixed : CmdFixed cmdFwuBegin := fun _ _ _ => by simp [cmdFwuBegin]

@[simp ↓] theorem effect_flashChecked_fixed {d : Dev} {k : CmdResult} (hk : (d.effect k).fixed = d.fixed) :
    (d.effect (flashChecked d k)).fixed = d.fixed := by
  unfold flashChecked
  split
  · rfl
  · exact hk

@[simp] theorem cmdFwuWrite_fixed : CmdFixed cmdFwuWrite := fun _ req d => effect_withSession_fixed fun x => by
  extract_lets -underBinder at_ n
  iterate 3 refine effect_of_ite rfl ?_
  split
  · rfl
  · exact effect_flashChecked_fixed rfl

@[simp] theorem cmdFwuFinish_fixed : CmdFixed cmdFwuFinish := by
  intro _ req d
  unfold cmdFwuFinish
  split <;> simp

@[simp] theorem cmdFwuConfirm_fixed : CmdFixed cmdFwuConfirm := by
  intro _ req d
  unfold cmdFwuConfirm
  repeat' split
  all_goals simp

@[simp] theorem cmdFwuAbort_fixed : CmdFixed cmdFwuAbort := fun _ _ _ => by simp [cmdFwuAbort]

end Dev
end Sys2Proof.Machine
end

section
namespace Sys2Proof.Machine
namespace Dev

/-! ### The commands as a pass serves them -/

@[simp] theorem cmdMdioPass_fixed : CmdFixed cmdMdioPass := fun _ _ _ => rfl

@[simp] theorem afterSched_fixed {f : CmdFn} (hf : CmdFixed f) : CmdFixed (afterSched f) := fun src req d => by
  have h := hf src req d.schedAll
  rw [schedAll_fixed] at h
  unfold afterSched
  cases hr : f src req d.schedAll with
  | refuse => rfl
  | done | later | mismatch => simpa [hr] using h

/-! ### The service of a command -/

@[simp ↓] theorem refused_fixed (d : Dev) (opcode : Nat) (tag : Byte) (status detail : Nat) (payload : List Word) :
    (d.refused opcode tag status detail payload).1.fixed = d.fixed := by
  simp [refused]

@[simp ↓] theorem noteAccepted_fixed (d : Dev) (src : Source) (accepted : Bool) (opcode : Nat) (tag : Byte) :
    (d.noteAccepted src accepted opcode tag).fixed = d.fixed := by
  simp [noteAccepted]

@[simp ↓] theorem settle_fixed {d : Dev} {src : Source} {opcode : Nat} {req : Request} {r : CmdResult}
    (hr : (d.effect r).fixed = d.fixed) : (d.settle src opcode req r).1.fixed = d.fixed := by
  unfold settle
  extract_lets -underBinder withheld ninth full
  have hfull : full.1.fixed = d.fixed := by simp +decide [full]
  cases r with
  | refuse => exact refused_fixed ..
  | mismatch => exact (refused_fixed ..).trans hr
  | later items e =>
    dsimp -zeta only
    split
    · exact hfull
    · exact (journalAdd_fixed ..).trans hr
  | done accepted detail payload items e =>
    dsimp -zeta only
    split
    · exact hfull
    · exact (noteAccepted_fixed ..).trans ((journalAdd_fixed ..).trans hr)

/-- Every command of the command set keeps it, so every row that passes the shared checks does. -/
theorem cmdTable_fixed : ∀ c ∈ cmdTable, CmdFixed c.run := by
  have hsys : ∀ c ∈ sysCmds, CmdFixed c.run := by simp [sysCmds]
  have hjournal : ∀ c ∈ journalCmds, CmdFixed c.run := by simp [journalCmds]
  have hfwu : ∀ c ∈ fwuCmds, CmdFixed c.run := by simp [fwuCmds]
  have hclk : ∀ c ∈ clkCmds, CmdFixed c.run := by simp [clkCmds]
  have heth : ∀ c ∈ ethCmds, CmdFixed c.run := by simp [ethCmds]
  have hstream : ∀ c ∈ streamCmds, CmdFixed c.run := by simp [streamCmds]
  have hlintel : ∀ c ∈ lintelCmds, CmdFixed c.run := by simp [lintelCmds]
  have hroute : ∀ c ∈ routeCmds, CmdFixed c.run := by simp [routeCmds]
  have hmeas : ∀ c ∈ measCmds, CmdFixed c.run := by simp [measCmds]
  have hcan : ∀ c ∈ canCmds, CmdFixed c.run := by simp [canCmds]
  have hgpio : ∀ c ∈ gpioCmds, CmdFixed c.run := by simp [gpioCmds]
  have hsched : ∀ c ∈ schedCmds, CmdFixed c.run := by simp [schedCmds]
  have htest : ∀ c ∈ testCmds, CmdFixed c.run := by simp [testCmds]
  simp only [cmdTable, List.forall_mem_append]
  exact ⟨⟨⟨⟨⟨⟨⟨⟨⟨⟨⟨⟨hsys, hjournal⟩, hfwu⟩, hclk⟩, heth⟩, hstream⟩, hlintel⟩, hroute⟩, hmeas⟩, hcan⟩, hgpio⟩, hsched⟩, htest⟩

theorem cmdSpec_fixed {op : Nat} {c : CmdSpec} (h : cmdSpec op = some c) : CmdFixed c.run :=
  cmdTable_fixed c (List.mem_of_find?_eq_some h)

theorem serveCheck_fixed {d : Dev} {src : Source} {op : Nat} {req : Request} {c : CmdSpec}
    (h : d.serveCheck src op req = .ok c) : CmdFixed c.run := by
  unfold serveCheck at h
  split at h
  · cases h
  · split at h
    · cases h
    · cases hc : cmdSpec op with
      | none => rw [hc] at h; cases h
      | some c' =>
        rw [hc] at h
        dsimp only at h
        split_ifs at h
        cases h
        exact cmdSpec_fixed hc

theorem serveWith_fixed {d : Dev} {src : Source} {opcode : Nat} {req : Request} {run : CmdSpec → CmdFn}
    (hrun : ∀ c, CmdFixed c.run → CmdFixed (run c)) : (d.serveWith src opcode req run).1.fixed = d.fixed := by
  unfold serveWith
  split
  · rfl
  · split
    · exact refused_fixed ..
    · rename_i c hc
      exact settle_fixed (hrun c (serveCheck_fixed hc) src req d)

@[simp ↓] theorem serveCore_fixed (d : Dev) (src : Source) (opcode : Nat) (req : Request) :
    (d.serveCore src opcode req).1.fixed = d.fixed := serveWith_fixed fun _ h => h

@[simp ↓] theorem answer_fixed (x : Dev × Option Response) (src : Source) : (answer x src).fixed = x.1.fixed := by
  unfold answer
  split <;> simp

@[simp ↓] theorem serve_fixed (d : Dev) (src : Source) (opcode : Nat) (req : Request) :
    (d.serve src opcode req).fixed = d.fixed := by
  simp [serve]

/-! ### The diagnostic services -/

@[simp ↓] theorem modUds_fixed (d : Dev) (f : Uds → Uds) : (d.modUds f).fixed = d.fixed := by
  simp [modUds]

@[simp ↓] theorem udsGuard_fixed (d : Dev) (sessions : List Nat) (security : Bool) {k : UdsResult}
    (hk : k.dev.fixed = d.fixed) :
    (d.udsGuard sessions security k).dev.fixed = d.fixed := by
  simp [udsGuard, hk]

@[simp ↓] theorem udsCommand_fixed (d : Dev) (opcode : Nat) (payload : List Word) (bytes : List Byte) :
    (d.udsCommand opcode payload bytes).dev.fixed = d.fixed := by
  unfold udsCommand
  extract_lets -underBinder req
  have h := serveCore_fixed d .tester opcode req
  generalize d.serveCore .tester opcode req = x at h ⊢
  obtain ⟨e, _ | r⟩ := x
  · exact h
  · dsimp only
    split <;> exact h

@[simp ↓] theorem udsSession_fixed (d : Dev) (sub : Byte) : (d.udsSession sub).dev.fixed = d.fixed := by
  simp [udsSession]

@[simp ↓] theorem udsReset_fixed (d : Dev) (sub : Byte) : (d.udsReset sub).dev.fixed = d.fixed := by
  simp [udsReset]

@[simp ↓] theorem udsClear_fixed (d : Dev) (group : BitVec 24) : (d.udsClear group).dev.fixed = d.fixed := by
  simp [udsClear]

@[simp ↓] theorem udsDtcCount_fixed (d : Dev) (mask : Byte) : (d.udsDtcCount mask).dev.fixed = d.fixed := by
  simp [udsDtcCount]

@[simp ↓] theorem udsDtcList_fixed (d : Dev) (mask : Byte) : (d.udsDtcList mask).dev.fixed = d.fixed := by
  simp [udsDtcList]

@[simp ↓] theorem udsDtcExt_fixed (d : Dev) (code : BitVec 24) (record : Byte) :
    (d.udsDtcExt code record).dev.fixed = d.fixed := by
  simp [udsDtcExt]

@[simp ↓] theorem udsDtcSupported_fixed (d : Dev) : d.udsDtcSupported.dev.fixed = d.fixed := by
  simp [udsDtcSupported]

@[simp ↓] theorem udsData_fixed (d : Dev) (ids : List U16) : (d.udsData ids).dev.fixed = d.fixed := by
  unfold udsData
  split
  · rfl
  · split <;> rfl

@[simp ↓] theorem udsSeed_fixed (d : Dev) : d.udsSeed.dev.fixed = d.fixed := by
  refine udsGuard_fixed d _ _ ?_
  split
  · rfl
  · split
    · simp
    · rfl

@[simp ↓] theorem udsKey_fixed (d : Dev) (key : Word) : (d.udsKey key).dev.fixed = d.fixed := by
  refine udsGuard_fixed d _ _ ?_
  split
  · split <;> simp
  · rfl

@[simp ↓] theorem runCommand_fixed (d : Dev) (l : List Byte) : (d.runCommand l).dev.fixed = d.fixed := by
  unfold runCommand
  rcases recordRequest l with ⟨op, req⟩
  dsimp only
  split
  · rfl
  · have h := serveCore_fixed d .tester op req
    generalize d.serveCore .tester op req = x at h ⊢
    obtain ⟨e, _ | r⟩ := x <;> exact h

@[simp ↓] theorem lockTake_fixed (d : Dev) : d.lockTake.fixed = d.fixed := by
  simp [lockTake]

@[simp ↓] theorem lockGive_fixed (d : Dev) : d.lockGive.fixed = d.fixed := by
  simp [lockGive]

@[simp ↓] theorem routineGuard_fixed (d : Dev) (rid : U16) {k : UdsResult} (hk : k.dev.fixed = d.fixed) :
    (d.routineGuard rid k).dev.fixed = d.fixed := by
  unfold routineGuard
  split
  · rfl
  · split
    · rfl
    · simp [hk]

@[simp ↓] theorem routineStart_fixed (d : Dev) (rid : U16) (l : List Byte) : (d.routineStart rid l).dev.fixed = d.fixed := by
  simp [routineStart]

@[simp ↓] theorem routineStop_fixed (d : Dev) (rid : U16) : (d.routineStop rid).dev.fixed = d.fixed := by
  simp [routineStop]

@[simp ↓] theorem routineResults_fixed (d : Dev) (rid : U16) : (d.routineResults rid).dev.fixed = d.fixed := by
  refine routineGuard_fixed d rid ?_
  extract_lets -underBinder answer state failed ks dc
  have hstate (opcode : Nat) (more : List Byte) : (state opcode more).dev.fixed = d.fixed := by
    unfold state
    split <;> rfl
  split
  · cases d.mail.testerDone <;> rfl
  split
  · rfl
  split
  · have hfailed : failed.dev.fixed = d.fixed := by simp [failed, answer]
    split
    · split
      · rfl
      · exact hfailed
    · exact hfailed
  split
  · split <;> rfl
  split
  · exact hstate ..
  split
  · exact hstate ..
  · rfl

@[simp ↓] theorem udsDownload_fixed (d : Dev) (format alfid : Byte) (address size : Word) :
    (d.udsDownload format alfid address size).dev.fixed = d.fixed := by
  refine udsGuard_fixed d _ _ ?_
  split
  · rfl
  · simp

@[simp ↓] theorem udsTransfer_fixed (d : Dev) (counter : Byte) (data : List Byte) :
    (d.udsTransfer counter data).dev.fixed = d.fixed := by
  refine udsGuard_fixed d _ _ ?_
  extract_lets -underBinder u got
  iterate 4 split; · rfl
  have h := d.udsCommand_fixed 0x0202 ([w32 (4 * got), 0] ++ beWords data) [0x76, counter]
  cases hr : d.udsCommand 0x0202 ([w32 (4 * got), 0] ++ beWords data) [0x76, counter] with
  | positive | negative | later | silent => rw [hr] at h; exact h

@[simp ↓] theorem udsTransferExit_fixed (d : Dev) : d.udsTransferExit.dev.fixed = d.fixed := by
  refine udsGuard_fixed d _ _ ?_
  split
  · rfl
  extract_lets -underBinder ovr
  have hovr (e : Dev) : (ovr e).fixed = e.fixed := by simp [ovr]
  have h := d.udsCommand_fixed 0x0203 [] [0x77]
  cases hr : d.udsCommand 0x0203 [] [0x77] with
  | positive | negative => rw [hr] at h; exact (hovr _).trans h
  | later | silent => rw [hr] at h; exact h

@[simp ↓] theorem udsPresent_fixed (d : Dev) (sub : Byte) : (d.udsPresent sub).dev.fixed = d.fixed := by
  simp [udsPresent]

@[simp ↓] theorem udsAnswer_fixed (sid : Byte) (functional : Bool) (r : UdsResult) :
    (udsAnswer sid functional r).fixed = r.dev.fixed := by
  cases r <;> simp [udsAnswer]

@[simp ↓] theorem udsRow_fixed {d : Dev} (sid : Byte) {f : Dev → UdsResult} (h : (f d).dev.fixed = d.fixed) :
    (d.udsRow sid f).fixed = d.fixed := by
  simp [udsRow, h]

theorem udsSub_fixed {sub : Byte} {k : Nat → UdsResult} {x : Tap × Word} (hk : ∀ n, (k n).dev.fixed = x) :
    (udsSub sub k).dev.fixed = x := by
  have h := hk (sub.toNat % 128)
  unfold udsSub
  split
  · rename_i hr
    rw [hr] at h
    split <;> exact h
  · exact h

@[simp ↓] theorem udsReadDtc_fixed (d : Dev) (sub : Byte) (rest : List Byte) : (d.udsReadDtc sub rest).dev.fixed = d.fixed := by
  unfold udsReadDtc
  refine udsSub_fixed fun n => ?_
  split <;> simp

@[simp ↓] theorem udsRoutine_fixed (d : Dev) (sub : Byte) (rest : List Byte) : (d.udsRoutine sub rest).dev.fixed = d.fixed := by
  unfold udsRoutine
  split
  · rfl
  · split
    · rfl
    · refine udsSub_fixed fun n => ?_
      split <;> simp

@[simp ↓] theorem udsPerform_fixed (d : Dev) (sid : Byte) (rest : List Byte) : (d.udsPerform sid rest).dev.fixed = d.fixed := by
  unfold udsPerform
  dsimp only
  split
  case h_6 =>
    split
    · rfl
    · refine udsSub_fixed fun n => ?_
      split <;> simp
  case h_8 =>
    have hguard : (d.udsGuard [1] true (.negative 0x31 d)).dev.fixed = d.fixed := udsGuard_fixed d _ _ rfl
    simp [hguard]
  all_goals simp

@[simp ↓] theorem udsPass_fixed (d : Dev) : d.udsPass.fixed = d.fixed := by
  unfold udsPass
  split <;> simp

@[simp ↓] theorem udsFlush_fixed (d : Dev) : d.udsFlush.fixed = d.fixed := by
  fun_cases udsFlush d <;> simp

@[simp ↓] theorem udsWait_fixed (d : Dev) : d.udsWait.fixed = d.fixed := by
  fun_cases udsWait d <;> simp

@[simp ↓] theorem udsComplete_fixed (d : Dev) : d.udsComplete.fixed = d.fixed := by
  unfold udsComplete
  split <;> simp

@[simp ↓] theorem s3Expire_fixed (d : Dev) : d.s3Expire.fixed = d.fixed := by
  simp [s3Expire]

@[simp ↓] theorem delayEnd_fixed (d : Dev) : d.delayEnd.fixed = d.fixed := by
  simp [delayEnd]

/-! ### A pass of Ouvoso -/

@[simp ↓] theorem beaten_fixed (d : Dev) (op : Nat) (req : Request) (cls : Nat) : (d.beaten op req cls).1.fixed = d.fixed := by
  simp [beaten]

@[simp ↓] theorem runJob_fixed (d : Dev) (j : Job) (loses : Option Nat) : (d.runJob j loses).fixed = d.fixed := by
  unfold runJob
  extract_lets -underBinder core
  have hcore (op : Nat) (req : Request) : (core op req).1.fixed = d.fixed := by
    unfold core
    split
    · exact beaten_fixed ..
    · exact serveCore_fixed ..
  split
  · rename_i k op req
    have h := hcore op req
    generalize core op req = x at h ⊢
    obtain ⟨e, _ | r⟩ := x
    · exact (modMb_fixed ..).trans h
    · exact (respondMb_fixed ..).trans h
  · split
    · simp
    · exact udsPass_fixed d
  · rename_i w
    split
    · exact remoteSend_fixed ..
    · split
      · rfl
      · have h := hcore w.queued.opcode w.queued.request
        generalize core w.queued.opcode w.queued.request = x at h ⊢
        obtain ⟨e, _ | r⟩ := x
        · exact h
        · exact (respondRemote_fixed ..).trans h

@[simp ↓] theorem deferredReplies_fixed (d : Dev) : d.deferredReplies.fixed = d.fixed := by
  simp [deferredReplies]

@[simp ↓] theorem servicePass_fixed (d : Dev) : d.servicePass.fixed = d.fixed := by
  simp [servicePass]

@[simp ↓] theorem quietPassStart_fixed (d : Dev) : d.quietPassStart.fixed = d.fixed := by
  simp [quietPassStart]

end Dev
end Sys2Proof.Machine
end

section
namespace Sys2Proof.Machine
namespace Dev

/-! ### Proof, boot and the supplies -/

@[simp ↓] theorem replaySources_fixed (d : Dev) (base : Nat) (v : List Word) : (d.replaySources base v).fixed = d.fixed := by
  simp [replaySources]

@[simp ↓] theorem replayDest_fixed (d : Dev) (k : Fin 64) (v : List Word) : (d.replayDest k v).fixed = d.fixed :=
  (modDest_fixed ..).trans (cmdDestBind_fixed .mb0 (itemRequest (v.take 4)) d)

@[simp ↓] theorem replayXps_fixed (d : Dev) (n : Nat) (v : List Word) : (d.replayXps n v).fixed = d.fixed := by
  simp [replayXps]

@[simp ↓] theorem replayItem_fixed (d : Dev) (item : Nat × List Word) : (d.replayItem item).fixed = d.fixed := by
  obtain ⟨key, v⟩ := item
  unfold replayItem
  dsimp only
  have hcommand (e : Option CmdSpec) (he : ∀ c, e = some c → CmdFixed c.run) :
      (match e with
        | some c => d.effect (c.run .mb0 (itemRequest v) d)
        | none => d).fixed = d.fixed := by
    cases e with
    | none => rfl
    | some c => exact he c rfl .mb0 (itemRequest v) d
  split_ifs
  · simp
  · simp
  · simp
  · simp
  · simp
  · exact hcommand _ fun c hc => by
      obtain ⟨op, _, hop⟩ := Option.bind_eq_some_iff.mp hc
      exact cmdSpec_fixed hop

@[simp ↓] theorem proofStart_fixed (d : Dev) : d.proofStart.fixed = d.fixed := by
  simp [proofStart]

@[simp ↓] theorem holdCan_fixed (d : Dev) (flashOk : Bool) : (d.holdCan flashOk).fixed = d.fixed := by
  simp +decide [holdCan]

@[simp ↓] theorem proofComplete_fixed (d : Dev) (r : ProofReadings) : (d.proofComplete r).fixed = d.fixed := by
  unfold proofComplete
  dsimp only
  split
  · rfl
  · split <;> simp +decide

@[simp ↓] theorem bootStart_fixed (d : Dev) : d.bootStart.fixed = d.fixed := by
  unfold bootStart
  repeat' split
  all_goals simp +decide

@[simp ↓] theorem loadMacs_fixed (d : Dev) : d.loadMacs.fixed = d.fixed := by
  refine foldl_fixed _ (fun e p => ?_) _ d
  simp +decide

@[simp ↓] theorem journalBoot_fixed (d : Dev) : d.journalBoot.fixed = d.fixed := by
  simp +decide [journalBoot]

@[simp ↓] theorem bootComplete_fixed (d : Dev) : d.bootComplete.fixed = d.fixed := by
  simp +decide [bootComplete]

@[simp ↓] theorem vbatTake_fixed (d : Dev) (v : Nat) : (d.vbatTake v).fixed = d.fixed := by
  simp +decide [vbatTake]

@[simp ↓] theorem supervise_fixed (d : Dev) (v w : Nat × Nat) : (d.supervise v w).fixed = d.fixed := by
  simp +decide [supervise]

@[simp ↓] theorem dipInWrite_fixed (d : Dev) (vdd33 : Nat) : (d.dipInWrite vdd33).fixed = d.fixed := by
  simp +decide [dipInWrite]

@[simp ↓] theorem supervisorSample_fixed (d : Dev) (x : SupplySample) : (d.supervisorSample x).fixed = d.fixed := by
  unfold supervisorSample
  dsimp only
  repeat' split
  all_goals simp +decide

@[simp ↓] theorem supplyRampEnd_fixed (d : Dev) : d.supplyRampEnd.fixed = d.fixed := by
  simp [supplyRampEnd]

@[simp ↓] theorem supplyMuteExit_fixed (d : Dev) : d.supplyMuteExit.fixed = d.fixed := by
  simp +decide [supplyMuteExit]

@[simp ↓] theorem vddioEnter_fixed (d : Dev) : d.vddioEnter.fixed = d.fixed := by
  simp +decide [vddioEnter]

@[simp ↓] theorem vddioExit_fixed (d : Dev) : d.vddioExit.fixed = d.fixed := by
  simp +decide [vddioExit]

@[simp ↓] theorem vbatOpenEnter_fixed (d : Dev) : d.vbatOpenEnter.fixed = d.fixed := by
  simp +decide [vbatOpenEnter]

@[simp ↓] theorem vbatOpenExit_fixed (d : Dev) : d.vbatOpenExit.fixed = d.fixed := by
  simp [vbatOpenExit]

@[simp ↓] theorem wake_fixed (d : Dev) : d.wake.fixed = d.fixed := by
  unfold wake
  dsimp only
  repeat' split
  all_goals simp

@[simp ↓] theorem wakeEvent_fixed (d : Dev) (e : WakeEvent) : (d.wakeEvent e).fixed = d.fixed := by
  fun_cases wakeEvent d e <;> simp

@[simp ↓] theorem quietComplete_fixed (d : Dev) : d.quietComplete.fixed = d.fixed := by
  unfold quietComplete
  split <;> simp

/-! ### The host interface -/

@[simp ↓] theorem hostCapture_fixed (d : Dev) (a : Nat) : (d.hostCapture a).fixed = d.fixed := by
  simp [hostCapture]

@[simp ↓] theorem hostReadDone_fixed (d : Dev) (a : Nat) : (d.hostReadDone a).fixed = d.fixed := by
  simp [hostReadDone]

@[simp ↓] theorem minRestart_fixed (d : Dev) : d.minRestart.fixed = d.fixed := by
  simp +decide [minRestart]

@[simp ↓] theorem noteWrite_fixed (d : Dev) (flag a : Nat) : (d.noteWrite flag a).fixed = d.fixed := by
  simp +decide [noteWrite]

@[simp ↓] theorem alignAddr_fixed (d : Dev) (a : U16) : (d.alignAddr a).2.fixed = d.fixed := by
  simp +decide [alignAddr]

@[simp ↓] theorem noteConflict_fixed (d : Dev) (a : Nat) : (d.noteConflict a).fixed = d.fixed := by
  simp +decide [noteConflict]

@[simp ↓] theorem countAfterCopy_fixed (before : Dev) (d : Dev) (e : Fin 3 × Fin 40) :
    (countAfterCopy before d e).fixed = d.fixed := by
  simp [countAfterCopy]

@[simp ↓] theorem snapshotCopy_fixed (d : Dev) (mask : U16) (events : List (Fin 3 × Fin 40)) :
    (d.snapshotCopy mask events).fixed = d.fixed := by
  simp [snapshotCopy]

@[simp ↓] theorem spiPhase_fixed (d : Dev) (p : SpiPhase) : (d.spiPhase p).fixed = d.fixed := (rfl)

@[simp ↓] theorem spiOut_fixed (d : Dev) (w : Word) : (d.spiOut w).fixed = d.fixed := (rfl)

@[simp ↓] theorem spiStart_fixed (d : Dev) (hsckHigh : Bool) : (d.spiStart hsckHigh).fixed = d.fixed := by
  simp [spiStart]

@[simp ↓] theorem spiNop_fixed (d : Dev) : d.spiNop.fixed = d.fixed := by
  simp [spiNop]

@[simp ↓] theorem spiAddr_fixed {d e : Dev} {write : Bool} {header : Option U16} {a : Nat}
    (h : d.spiAddr write header = some (a, e)) : e.fixed = d.fixed := by
  unfold spiAddr at h
  repeat' split at h
  all_goals cases h
  all_goals simp +decide

@[simp ↓] theorem spiNext_fixed (d : Dev) (a : Nat) : (d.spiNext a).2.fixed = d.fixed := by
  simp +decide [spiNext]

@[simp ↓] theorem spiRead_fixed (d : Dev) (header : Option U16) (full : Bool) : (d.spiRead header full).fixed = d.fixed := by
  unfold spiRead
  split
  · rfl
  · rename_i h
    simp [spiAddr_fixed h]

@[simp ↓] theorem spiSnapshot_fixed (d : Dev) (mask : U16) (events : List (Fin 3 × Fin 40)) :
    (d.spiSnapshot mask events).fixed = d.fixed := by
  simp [spiSnapshot]

@[simp ↓] theorem spiBadOpcode_fixed (d : Dev) (opcode : Byte) : (d.spiBadOpcode opcode).fixed = d.fixed := by
  simp +decide [spiBadOpcode]

@[simp ↓] theorem spiEnd_fixed (d : Dev) (header : Option U16) (partialWord : Bool) :
    (d.spiEnd header partialWord).fixed = d.fixed := by
  simp +decide [spiEnd]

@[simp ↓] theorem spiOverspeed_fixed (d : Dev) : d.spiOverspeed.fixed = d.fixed := by
  simp +decide [spiOverspeed]

/-! ### The rows of the command table -/

@[simp ↓] theorem hostRead_fixed (d : Dev) (a : Nat) (full : Bool) : (d.hostRead a full).fixed = d.fixed := by
  simp [hostRead]

@[simp ↓] theorem withTime_fixed (d : Dev) {f : Dev → Dev} (h : ∀ e, (f e).fixed = e.fixed) :
    (d.withTime f).fixed = d.fixed := by
  simp [withTime, h]

@[simp ↓] theorem relabelled_fixed (x : Dev × Int) : (relabelled x).fixed = x.1.fixed := by
  simp [relabelled]

@[simp ↓] theorem moved_fixed (d : Dev) (was : Int) : (d.moved was).fixed = d.fixed := by
  simp [moved]

@[simp ↓] theorem glideFrom_fixed (d e : Dev) : (d.glideFrom e).fixed = e.fixed := (rfl)

@[simp ↓] theorem claimFollow_fixed (d : Dev) (was : Bool) : (d.claimFollow was).fixed = d.fixed := by
  simp [claimFollow]

@[simp ↓] theorem keystoneTick_fixed (d : Dev) (input : KsTickInput) : (d.keystoneTick input).fixed = d.fixed := by
  simp [keystoneTick]

@[simp ↓] theorem moveEnd_fixed (d : Dev) : d.moveEnd.fixed = d.fixed := by
  simp [moveEnd]

@[simp ↓] theorem refGain_fixed (d : Dev) (n : Fin 7) : (d.refGain n).fixed = d.fixed := by
  simp [refGain]

@[simp ↓] theorem secondBoundary_fixed (d : Dev) : d.secondBoundary.fixed = d.fixed := (rfl)

@[simp ↓] theorem gridPoint_fixed (d : Dev) (sdi : List (List Bool)) : (d.gridPoint sdi).fixed = d.fixed := by
  simp [gridPoint]

@[simp ↓] theorem phyInterrupt_fixed (d : Dev) (l : List PhyReading) : (d.phyInterrupt l).fixed = d.fixed := by
  simp [phyInterrupt]

@[simp ↓] theorem aafTaken_fixed (d : Dev) (f : AafFrame) : (d.aafTaken f).fixed = d.fixed := by
  have h := d.aafFrame_fixed f d.correctionOf
  unfold aafTaken
  generalize d.aafFrame f d.correctionOf = x at h ⊢
  obtain ⟨e, _ | i⟩ := x
  · exact h
  · exact (frameHeard_fixed ..).trans h

@[simp ↓] theorem stopTime_fixed (d : Dev) (talker : Bool) (index : Fin 16) : (d.stopTime talker index).fixed = d.fixed := by
  unfold stopTime
  repeat' split
  all_goals simp

@[simp ↓] theorem autostartAll_fixed (d : Dev) : d.autostartAll.fixed = d.fixed := by
  unfold autostartAll
  split
  · refine (foldl_fixed _ (fun e g => ?_) _ _).trans (streamAutostart_fixed d)
    split
    · exact done_fixed (groupStart_fixed e g none)
    · rfl
  · rfl

@[simp ↓] theorem pinWakeRaise_fixed (d : Dev) : d.pinWakeRaise.fixed = d.fixed := by
  unfold pinWakeRaise
  repeat' split
  all_goals simp

@[simp ↓] theorem crxWakeRaise_fixed (d : Dev) : d.crxWakeRaise.fixed = d.fixed := by
  simp [crxWakeRaise]

@[simp ↓] theorem udsFree_fixed (d : Dev) (sid : Byte) {f : Dev → UdsResult} (h : ∀ e, (f e).dev.fixed = e.fixed) :
    (d.udsFree sid f).fixed = d.fixed := by
  refine udsRow_fixed sid ?_
  split
  · rfl
  · exact h d

/-! ### One cycle -/

@[simp ↓] theorem shapeTick_fixed (d : Dev) (p : Fin 3) : (d.shapeTick p).fixed = d.fixed := by
  simp [shapeTick]

@[simp ↓] theorem mediaCycle_fixed (d : Dev) : d.mediaCycle.fixed = d.fixed := (dcoCycle_fixed _).trans (modKs_fixed ..)

theorem tick_fixed (d : Dev) : d.tick.fixed = d.fixed := by
  have work (e : Dev) : ((allFin 3).foldl shapeTick ((e.schedAll.runs mediaCycle).tmrTicks).arbTick).fixed = e.fixed := by
    refine (foldl_fixed _ shapeTick_fixed _ _).trans ?_
    rw [arbTick_fixed, tmrTicks_fixed, runs_fixed (mediaCycle_fixed _), schedAll_fixed]
  unfold tick
  extract_lets -underBinder counted
  refine (awake_fixed ?_).trans (powered_fixed rfl)
  exact work counted

end Dev
end Sys2Proof.Machine
end

section
namespace Sys2Proof.Machine
namespace Dev

/-- What a reset keeps too: the test access port stands, and a CHIP_ID that reads 0x1664_00B0 goes on doing so. -/
def Keeps (d e : Dev) : Prop := e.tap = d.tap ∧ (d.reg Reg.CHIP_ID = 0x166400B0 → e.reg Reg.CHIP_ID = 0x166400B0)

theorem Keeps.of_fixed {d e : Dev} (h : e.fixed = d.fixed) : d.Keeps e := by
  obtain ⟨htap, hid⟩ := Prod.mk.inj h
  exact ⟨htap, fun hd => hid.trans hd⟩

theorem Keeps.refl (d : Dev) : d.Keeps d := .of_fixed rfl

theorem Keeps.trans {d e f : Dev} (h : d.Keeps e) (h' : e.Keeps f) : d.Keeps f := by
  obtain ⟨htap, hid⟩ := h
  obtain ⟨htap', hid'⟩ := h'
  exact ⟨htap'.trans htap, fun hd => hid' (hid hd)⟩

theorem Keeps.of_ite {c : Prop} [Decidable c] {d e f : Dev} (he : d.Keeps e) (hf : d.Keeps f) :
    d.Keeps (if c then e else f) := by split <;> assumption

theorem Keeps.foldl {α : Type} {f : Dev → α → Dev} (h : ∀ (d : Dev) a, d.Keeps (f d a)) (l : List α) (d : Dev) :
    d.Keeps (l.foldl f d) := by
  induction l generalizing d with
  | nil => exact .refl d
  | cons a l ih => exact (h d a).trans (ih _)

/-! ### The resets -/

theorem resetDev_chipId (d : Dev) (c : Cause) : (d.resetDev c).reg Reg.CHIP_ID = 0x166400B0 := by
  rw [resetDev_reg, if_neg (by decide), if_neg (by simp +decide), if_neg (by simp +decide)]
  decide +kernel

theorem resetDev_keeps (d : Dev) (c : Cause) : d.Keeps (d.resetDev c) := ⟨resetDev_tap d c, fun _ => resetDev_chipId d c⟩

theorem pinReset_keeps (d : Dev) : d.Keeps d.pinReset := by
  unfold pinReset
  exact (resetDev_keeps d .pin).trans (.of_fixed (fixed_mk ..))

theorem pllLoss_keeps (d : Dev) : d.Keeps d.pllLoss := by
  unfold pllLoss
  exact (resetDev_keeps d .pllLoss).trans (.of_fixed (fixed_mk ..))

theorem watchdogExpiry_keeps (d : Dev) : d.Keeps d.watchdogExpiry := .of_ite (.refl d) (resetDev_keeps d .watchdog)

theorem softwareReset_keeps (d : Dev) : d.Keeps d.softwareReset := .of_ite (resetDev_keeps d .software) (.refl d)

theorem deviceFault_keeps (d : Dev) (word : U16) : d.Keeps (d.deviceFault word) :=
  (Keeps.of_fixed (by simp +decide)).trans (resetDev_keeps _ .deviceFault)

theorem powerOnReset_chipId (d : Dev) : d.powerOnReset.reg Reg.CHIP_ID = 0x166400B0 := by
  have hregs : d.powerOnReset.regs = (d.resetDev .powerOn).regs := rfl
  rw [reg, hregs]
  exact resetDev_chipId d .powerOn

/-! ### The errors of the audio RAM, which can end in DEVICE_FAULT -/

theorem eccEvent_keeps (d : Dev) (e : EccEvent) : d.Keeps (d.eccEvent e) := by
  cases e with
  | single w => exact .of_fixed (by simp +decide [eccEvent])
  | double w => exact .of_ite (.of_fixed (by simp +decide)) (.of_ite (.of_fixed (by simp +decide)) (deviceFault_keeps d w))

theorem eccCycle_keeps (d : Dev) (l : List EccEvent) : d.Keeps (d.eccCycle l) :=
  .trans (.of_ite (.refl d) (.of_fixed (eccRecord_fixed ..)))
    (.foldl (fun e x => .of_ite (.refl e) (eccEvent_keeps e x)) l _)

theorem eccEvents_keeps (d : Dev) (l : List (List EccEvent)) : d.Keeps (d.eccEvents l) := .foldl eccCycle_keeps l d

theorem arbGrant_keeps (d : Dev) (i : ArbInput) : d.Keeps (d.arbGrant i) :=
  .of_ite (.refl d) (.trans (.of_fixed (by simp)) (eccEvents_keeps _ i.ecc))

/-! ### The writes of the host, one of which loses the lock of the PLL -/

/-- CHIP_ID, whose word every address below 4 names, takes no write. -/
def chipIdOrOther (r : RegInfo) : Bool := 4 ≤ r.addr || (r.addr == Reg.CHIP_ID && r.rw == 0 && r.w1c == 0 && r.rws == 0)

theorem regTable_chipIdOrOther : regTable.all chipIdOrOther = true := by decide +kernel

theorem regTable_writable {r : RegInfo} (hr : r ∈ regTable) :
    4 ≤ r.addr ∨ r.addr = Reg.CHIP_ID ∧ r.rw = 0 ∧ r.w1c = 0 ∧ r.rws = 0 := by
  simpa [chipIdOrOther, and_assoc] using List.all_eq_true.mp regTable_chipIdOrOther r hr

theorem codeStore_fixed {r : RegInfo} (hr : r ∈ regTable) (d : Dev) (w : Word) : (d.codeStore r w).fixed = d.fixed := by
  rcases regTable_writable hr with h | ⟨ha, hrw, hw1c, hrws⟩
  · exact setReg_fixed d h _
  · refine Prod.ext rfl ?_
    have kept : d.reg Reg.CHIP_ID &&& 4294967295#32 = d.reg Reg.CHIP_ID := BitVec.and_allOnes
    simp [codeStore, fixed, ha, hrw, hw1c, hrws, reg_setReg, kept]

theorem sysStore_keeps {r : RegInfo} (hr : r ∈ regTable) (d : Dev) (w : Word) : d.Keeps (d.sysStore r w) := by
  have hcode (w : Word) : (d.codeStore r w).fixed = d.fixed := codeStore_fixed hr d w
  unfold sysStore
  iterate 5 refine .of_ite (.of_fixed (by simp)) ?_
  refine .of_ite (.of_fixed (by simp [hcode])) ?_
  refine .of_ite (.of_ite (.of_fixed (hcode w)) (.trans (.of_fixed (hcode w)) (pllLoss_keeps _))) ?_
  exact .of_fixed (by simp [hcode])

theorem ethStore_fixed {r : RegInfo} (hr : r ∈ regTable) (d : Dev) (p : Fin 3) (off : Nat) (w : Word) :
    (d.ethStore p off r w).fixed = d.fixed := by
  simp [ethStore, codeStore_fixed hr]

theorem lateStore_fixed {r : RegInfo} (hr : r ∈ regTable) (d : Dev) (w : Word) : (d.lateStore r w).fixed = d.fixed := by
  have hcode (w : Word) (e : Dev) : (e.codeStore r w).fixed = e.fixed := codeStore_fixed hr e w
  have hgpio : ((d.gpioStore r.addr w).getD (d.codeStore r w)).fixed = d.fixed := by
    cases h : d.gpioStore r.addr w with
    | none => exact hcode w d
    | some e => exact gpioStore_fixed h
  simp [lateStore, hcode, hgpio]

theorem regStore_keeps {r : RegInfo} (hr : r ∈ regTable) (d : Dev) (w : Word) : d.Keeps (d.regStore r w) := by
  unfold regStore
  refine .of_ite (sysStore_keeps hr d w) ?_
  split
  · exact .of_fixed (ethStore_fixed hr ..)
  · exact .of_ite (.of_fixed (by simp)) (.of_fixed (lateStore_fixed hr d w))

theorem hearthStore_keeps {r : RegInfo} (hr : r ∈ regTable) (d : Dev) (w : Word) : d.Keeps (d.hearthStore r w) := by
  unfold hearthStore
  iterate 4 refine .of_ite (.of_fixed (by simp)) ?_
  exact regStore_keeps hr d w

theorem aliasStore_keeps {r : RegInfo} (hr : r ∈ regTable) (d : Dev) (bit : Nat) (v : Bool) :
    d.Keeps (d.aliasStore r bit v) := by
  have hstore (w : Word) : d.Keeps (d.regStore r w) := regStore_keeps hr d w
  unfold aliasStore
  refine .of_ite (hstore _) (.of_ite (.of_ite (hstore _) (.refl d)) (.of_ite (.of_ite (.refl d) (hstore _)) ?_))
  exact .of_ite (hstore _) (.refl d)

theorem mem_regTable {a : Nat} {r : RegInfo} (h : regInfo a = some r) : r ∈ regTable := List.mem_of_find?_eq_some h

theorem writeEffect_keeps (d : Dev) (a : Nat) (w : Word) : d.Keeps (d.writeEffect a w) := by
  unfold writeEffect
  refine .of_ite ?_ (.of_ite (.of_fixed (by simp)) (.of_ite (.refl d) (.of_ite (.of_fixed (by simp)) ?_)))
  · split
    · rename_i h; exact regStore_keeps (mem_regTable h) d w
    · exact .of_fixed (by simp)
  · split
    · rename_i h; exact aliasStore_keeps (mem_regTable h) d _ _
    · exact .refl d

theorem hostGuard_keeps {d : Dev} {a : Nat} {act : Dev → Dev} (h : d.Keeps (act d)) : d.Keeps (d.hostGuard a act) :=
  .of_ite (.refl d) (.of_ite (.of_fixed (by simp)) h)

@[simp ↓] theorem hostGuard_fixed {d : Dev} {a : Nat} {act : Dev → Dev} (h : (act d).fixed = d.fixed) :
    (d.hostGuard a act).fixed = d.fixed := by
  simp [hostGuard, h]

theorem hostWrite_keeps (d : Dev) (a : Nat) (w : Word) : d.Keeps (d.hostWrite a w) := hostGuard_keeps (writeEffect_keeps d a w)

theorem registerWrite_keeps (d : Dev) (addr : U16) (w : Word) (hearth : Option Word) :
    d.Keeps (d.registerWrite addr w hearth) := by
  unfold registerWrite
  have haligned := Keeps.of_fixed (alignAddr_fixed d addr)
  generalize d.alignAddr addr = x at haligned ⊢
  obtain ⟨a, e⟩ := x
  refine haligned.trans (hostGuard_keeps ?_)
  split
  · rename_i h
    refine .trans (hearthStore_keeps (mem_regTable h) e _) (.trans (writeEffect_keeps _ a w) (.of_fixed (noteConflict_fixed ..)))
  · exact writeEffect_keeps e a w

theorem spiWrite_keeps (d : Dev) (header : Option U16) (w : Word) : d.Keeps (d.spiWrite header w) := by
  unfold spiWrite
  split
  · exact .refl d
  · rename_i a e h
    refine (Keeps.of_fixed (spiAddr_fixed h)).trans ((hostWrite_keeps e a w).trans ?_)
    have hnext : (((e.hostWrite a w).spiOut 0).spiNext a).2.fixed = (e.hostWrite a w).fixed := by simp
    generalize ((e.hostWrite a w).spiOut 0).spiNext a = x at hnext ⊢
    obtain ⟨next, f⟩ := x
    exact (Keeps.of_fixed hnext).trans (.of_ite (.refl f) (.of_fixed (spiPhase_fixed ..)))

@[simp ↓] theorem tmrRow_fixed {d : Dev} {hearth : Option (Fin 4)} {a : Nat} {f : Dev → Dev} (h : (f d).fixed = d.fixed) :
    (d.tmrRow hearth a f).fixed = d.fixed := by
  unfold tmrRow
  split
  · exact awake_fixed h
  · exact hostGuard_fixed h

theorem powered_keeps {d : Dev} {f : Dev → Dev} (h : d.Keeps (f d)) : d.Keeps (d.powered f) := .of_ite (.refl d) h

/-! ### The test access port leaves CHIP_ID -/

theorem tapLoad_chipId (d : Dev) (ir : BitVec 4) : (d.tapLoad ir).reg Reg.CHIP_ID = d.reg Reg.CHIP_ID := by
  have hreleased : d.pinsRelease.reg Reg.CHIP_ID = d.reg Reg.CHIP_ID := (Prod.mk.inj (pinsRelease_fixed d)).2
  unfold tapLoad
  extract_lets -underBinder was back loaded
  split
  · rw [modTap_reg]
    exact hreleased
  · split <;> rfl

theorem tapReset_chipId (d : Dev) : d.tapReset.reg Reg.CHIP_ID = d.reg Reg.CHIP_ID := tapLoad_chipId d 1

theorem tckRise_chipId (d : Dev) (tms tdi : Bool) (levels : BitVec 225) :
    (d.tckRise tms tdi levels).reg Reg.CHIP_ID = d.reg Reg.CHIP_ID := by
  unfold tckRise
  extract_lets -underBinder cap act stepped
  split
  · exact tapReset_chipId stepped
  · rfl

theorem tckFall_chipId (d : Dev) : d.tckFall.reg Reg.CHIP_ID = d.reg Reg.CHIP_ID := by
  unfold tckFall
  extract_lets -underBinder out shown
  split
  · exact tapLoad_chipId shown _
  · split <;> rfl
  · rfl

theorem tckEdge_chipId (d : Dev) (rising tms tdi : Bool) (levels : BitVec 225) :
    (d.tckEdge rising tms tdi levels).reg Reg.CHIP_ID = d.reg Reg.CHIP_ID := by
  unfold tckEdge
  split
  · rfl
  · split
    · exact tckRise_chipId d tms tdi levels
    · exact tckFall_chipId d

theorem tapInstruction_chipId (d : Dev) (ir : BitVec 4) : (d.tapInstruction ir).reg Reg.CHIP_ID = d.reg Reg.CHIP_ID := by
  unfold tapInstruction
  split
  · rfl
  · exact tapLoad_chipId d ir

theorem hostWord_chipId (d : Dev) : d.hostWord Reg.CHIP_ID = d.reg Reg.CHIP_ID := rfl

end Dev
end Sys2Proof.Machine
end

section
/-! # What a step keeps of CHIP_ID and of the test access port -/
namespace Sys2Proof.Machine

/-- POWER_ON_RESET and the rows of the test access port: the commands that may change the port. -/
def ofTestPort : Instr → Bool
  | .powerOnReset _ | .testLogicReset | .extest | .idcode | .samplePreload | .clamp | .highz | .bypass | .tckEdge .. => true
  | _ => false

/-- The rows that can reset, or write any register, have their own lemma; all others leave CHIP_ID and the port. -/
theorem exec_keeps {i : Instr} {s t : State} (hi : ofTestPort i = false) (h : exec i s = .next t) : s.dev.Keeps t.dev := by
  cases i with
  | powerOnReset | testLogicReset | extest | idcode | samplePreload | clamp | highz | bypass | tckEdge => cases hi
  | rstNAssert lowNs =>
    rw [exec_rstNAssert, execRstNAssert] at h
    split_ifs at h
    · obtain rfl := Host.Outcome.next.inj h
      exact .refl _
    · obtain rfl := Host.Outcome.next.inj h
      exact Dev.pinReset_keeps _
  | corePllLockLoss =>
    obtain rfl := Host.Outcome.next.inj h
    exact Dev.pllLoss_keeps _
  | hearthWatchdogExpiry =>
    obtain rfl := Host.Outcome.next.inj h
    exact Dev.watchdogExpiry_keeps _
  | softwareReset =>
    obtain rfl := Host.Outcome.next.inj h
    exact Dev.powered_keeps (Dev.softwareReset_keeps _)
  | arbGrant =>
    obtain rfl := Host.Outcome.next.inj h
    exact Dev.arbGrant_keeps ..
  | registerWrite | aliasWrite =>
    obtain rfl := Host.Outcome.next.inj h
    exact Dev.powered_keeps (Dev.registerWrite_keeps ..)
  | spiWriteWord =>
    obtain rfl := Host.Outcome.next.inj h
    exact Dev.powered_keeps (Dev.spiWrite_keeps ..)
  | gpioLockWrite hearth value =>
    obtain rfl := Host.Outcome.next.inj h
    exact .of_ite (.of_fixed (by simp)) (Dev.hostWrite_keeps ..)
  | pwrResetReqWrite | dbgWriteCommit | eccLastClear | statsClear | mbDoorbell | clkPhaseStepWrite | dcoSeedWrite
  | clkRefCommitWrite | ethMacHiWrite | ethFiltWrite | canTxReq | canTxAbort | gpioOutMwWrite | schedCancelWrite =>
    obtain rfl := Host.Outcome.next.inj h
    exact Dev.hostWrite_keeps ..
  | ethMdio =>
    obtain rfl := Host.Outcome.next.inj h
    exact .of_fixed ((Dev.answer_fixed ..).trans (Dev.serveWith_fixed fun _ _ => Dev.cmdMdio_fixed _))
  | _ =>
    obtain rfl := Host.Outcome.next.inj h
    exact .of_fixed (by simp)

theorem exec_chipId {i : Instr} {s t : State} (hs : s.dev.reg Reg.CHIP_ID = 0x166400B0) (h : exec i s = .next t) :
    t.dev.reg Reg.CHIP_ID = 0x166400B0 := by
  cases hi : ofTestPort i with
  | false =>
    obtain ⟨_, hid⟩ := exec_keeps hi h
    exact hid hs
  | true =>
    cases i with
    | powerOnReset => obtain rfl := Host.Outcome.next.inj h; exact Dev.powerOnReset_chipId _
    | testLogicReset => obtain rfl := Host.Outcome.next.inj h; exact (Dev.tapReset_chipId _).trans hs
    | tckEdge => obtain rfl := Host.Outcome.next.inj h; exact (Dev.tckEdge_chipId ..).trans hs
    | extest | idcode | samplePreload | clamp | highz | bypass =>
      obtain rfl := Host.Outcome.next.inj h
      exact (Dev.tapInstruction_chipId ..).trans hs
    | _ => cases hi

theorem step_chipId {s t : State} (hs : s.dev.reg Reg.CHIP_ID = 0x166400B0) (h : step s = .next t) :
    t.dev.reg Reg.CHIP_ID = 0x166400B0 := by
  unfold step at h
  split at h
  · obtain rfl := Host.Outcome.next.inj h
    obtain ⟨_, hid⟩ := Dev.Keeps.of_fixed s.dev.tick_fixed
    exact hid hs
  · rename_i c rest _
    exact exec_chipId (s := { s with pending := rest }) hs h

theorem exec_tap {i : Instr} {s t : State} (hi : ofTestPort i = false) (h : exec i s = .next t) : t.dev.tap = s.dev.tap := by
  obtain ⟨htap, _⟩ := exec_keeps hi h
  exact htap

/-- Settles O60: CHIP_ID by cases on the step, each row by what it keeps; the test access port by `exec_keeps`. -/
theorem promisesOfTheWholeDevice : Obligations.PromisesOfTheWholeDevice := by
  unfold Obligations.PromisesOfTheWholeDevice
  refine ⟨fun s t hs h => ?_, by decide +kernel, ?_⟩
  · have hid := step_chipId hs h
    exact ⟨hid, t.dev.hostWord_chipId.trans hid⟩
  · intro i s t hpor hreset hextest hidcode hsample hclamp hhighz hbypass hedge h
    have hi : ofTestPort i = false := by
      cases i with
      | powerOnReset r => exact absurd rfl (hpor r)
      | testLogicReset => exact absurd rfl hreset
      | extest => exact absurd rfl hextest
      | idcode => exact absurd rfl hidcode
      | samplePreload => exact absurd rfl hsample
      | clamp => exact absurd rfl hclamp
      | highz => exact absurd rfl hhighz
      | bypass => exact absurd rfl hbypass
      | tckEdge a b c l => exact absurd rfl (hedge a b c l)
      | _ => rfl
    exact exec_tap hi h

end Sys2Proof.Machine
end

section
/-!
# The audio RAM

Three commands can change it, and each keeps its canonical form; what a debug beat and a granted burst
leave unchanged follows from the words they write.
-/
namespace Sys2Proof.Machine

/-- What a command can do to the audio RAM, said once (R18, R19, R113). -/
theorem exec_ram {i : Instr} {s t : State} (h : exec i s = .next t) :
    t.ram = s.ram ∨ (i = .proofStart ∧ t.ram = []) ∨ (i = .dbgBeatDone ∧ t.ram = (s.dev.dbgDone s.ram).2) ∨
      ∃ input, i = .arbGrant input ∧ t.ram = s.dev.arbBeats input s.ram := by
  rcases exec_shape i with ⟨f, hf⟩ | rfl | rfl | ⟨input, rfl⟩ | ⟨n, rfl⟩
  · rw [hf] at h
    obtain rfl := Host.Outcome.next.inj h
    exact .inl rfl
  · obtain rfl := Host.Outcome.next.inj h
    exact .inr (.inr (.inl ⟨rfl, rfl⟩))
  · obtain rfl := Host.Outcome.next.inj h
    by_cases hready : s.dev.proofReady = true
    · exact .inr (.inl ⟨rfl, if_pos hready⟩)
    · exact .inl (if_neg hready)
  · obtain rfl := Host.Outcome.next.inj h
    exact .inr (.inr (.inr ⟨input, rfl, rfl⟩))
  · by_cases hn : n < 200 ∨ 1000 ≤ n
    · obtain ⟨f, hf⟩ := rstNAssert_acts hn
      rw [hf] at h
      obtain rfl := Host.Outcome.next.inj h
      exact .inl rfl
    · rw [rstNAssert_stops (by omega) (by omega)] at h
      cases h

theorem dbgDone_wf (d : Dev) {ram : List Host.Cell} (h : Memory.wf ram = true) : Memory.wf (d.dbgDone ram).2 = true := by
  rcases dbgDone_ram d ram with hram | ⟨word, data, -, hram⟩
  · rw [hram]; exact h
  · rw [hram]; exact writeWord64_wf h word data

theorem exec_inv {i : Instr} {s t : State} (hs : s.Inv) (h : exec i s = .next t) : t.Inv := by
  unfold State.Inv at hs ⊢
  rcases exec_ram h with hram | ⟨-, hram⟩ | ⟨-, hram⟩ | ⟨input, -, hram⟩ <;> rw [hram]
  · exact hs
  · rfl
  · exact dbgDone_wf s.dev hs
  · exact arbBeats_wf s.dev input hs

/-- Settles O5: a cycle leaves the audio RAM; a command keeps the form, by what it can do to the RAM. -/
theorem memoryKeepsItsForm : Obligations.MemoryKeepsItsForm := by
  unfold Obligations.MemoryKeepsItsForm
  intro s t hs h
  unfold step at h
  split at h
  · obtain rfl := Host.Outcome.next.inj h
    exact hs
  · rename_i c rest _
    exact exec_inv (s := { s with pending := rest }) hs h

/-- The words that the beats of a burst write are among those of the operand. -/
theorem mem_of_mem_grantWrites {d : Dev} {input : ArbInput} {x : U16 × U64} (h : x ∈ d.grantWrites input) : x ∈ input.writes := by
  unfold Dev.grantWrites at h
  split at h
  · split at h
    · cases h
    · exact List.mem_of_mem_take h
  · cases h

theorem readCell_arbBeats (d : Dev) (input : ArbInput) {ram : List Host.Cell} (h : Memory.wf ram = true) {a : Nat}
    (ha : ∀ x ∈ input.writes, ¬ (8 * x.1.toNat ≤ a ∧ a < 8 * x.1.toNat + 8)) :
    readCell (d.arbBeats input ram) a = readCell ram a := by
  unfold Dev.arbBeats
  split
  · rfl
  · exact readCell_writeWords h _ a fun x hx => ha x (mem_of_mem_grantWrites hx)

/-- Settles O7: by `exec_ram`, then the frame of a written word and of the words of a burst. -/
theorem memoryFrame : Obligations.MemoryFrame := by
  unfold Obligations.MemoryFrame
  refine ⟨fun i s t hdbg harb hproof h a => ?_, fun s t hs h => ?_, fun input s t hs h a ha => ?_⟩
  · rcases exec_ram h with hram | ⟨hi, -⟩ | ⟨hi, -⟩ | ⟨input, hi, -⟩
    · rw [State.byteAt, hram, State.byteAt]
    · exact absurd hi hproof
    · exact absurd hi hdbg
    · exact absurd hi (harb input)
  · obtain rfl := Host.Outcome.next.inj h
    simp only [State.byteAt]
    rcases dbgDone_ram s.dev s.ram with hram | ⟨w, v, hpending, hram⟩
    · simp only [hram, implies_true, and_self]
    · refine ⟨fun word data hbeat a ha => ?_, fun hnone => absurd hpending (hnone w v)⟩
      obtain ⟨rfl, rfl⟩ : w = word ∧ v = data := by simpa [hpending] using hbeat
      rw [hram, readCell_writeWord64 hs, if_neg (by omega)]
  · obtain rfl := Host.Outcome.next.inj h
    refine readCell_arbBeats s.dev input hs fun x hx => ?_
    have := ha x hx
    omega

/-- Settles O8: the two rules of a beat's read after a beat's write. -/
theorem beatReadsWhatBeatWrote : Obligations.BeatReadsWhatBeatWrote := by
  unfold Obligations.BeatReadsWhatBeatWrote
  exact fun m word other w hm => ⟨readWord64_write_same hm word w, fun hne => readWord64_write_other hm hne w⟩

end Sys2Proof.Machine
end

section
/-!
# One cycle of CLK_CORE, and the reset sources
-/
namespace Sys2Proof.Machine
namespace Dev

theorem tick_off {d : Dev} (h : d.power.state = .off) : d.tick = d := by
  unfold tick
  rw [powered_rest h]
  exact awake_rest (.inl h) _

theorem tick_quiet {d : Dev} (h : d.power.state = .quiet) : d.tick = { d with cc := d.cc + 1 } := by
  have hpow : d.Powered := by simp [Powered, h]
  unfold tick
  rw [powered_act hpow]
  exact awake_rest (d := { d with cc := d.cc + 1 }) (.inr h) _

theorem tick_awake {d : Dev} (h : d.Awake) : d.tick = (allFin 3).foldl shapeTick
    ((({ d with cc := d.cc + 1 } : Dev).schedAll.runs mediaCycle).tmrTicks).arbTick := by
  unfold tick
  rw [powered_act h.powered]
  exact awake_act (d := { d with cc := d.cc + 1 }) h _

end Dev

/-- Settles O2: the cycle state by state. -/
theorem idleStep : Obligations.IdleStep := by
  unfold Obligations.IdleStep
  intro s hempty
  refine ⟨?_, Dev.tick_off, Dev.tick_quiet, Dev.tick_awake⟩
  unfold step
  rw [hempty]

namespace Dev

/-- What a reset source leaves of every block but power and the test access port, each source with its own. -/
theorem resetTo_resetDev (d : Dev) (c : Cause) {p : Power} (hp : p.state = .off) (t : Tap) :
    d.ResetTo { d.resetDev c with power := p, tap := t } c := by
  obtain ⟨hhost, harb, hmail, hsup, hks, heth, hremote, hgptp, hstreams, hlintel, htdm, hroute, hcan, hgpio, htimers, hsched,
    hself, hcc⟩ := resetDev_blocks d c
  have hclk : (d.resetDev c).clk = Dev.initial.clk := by cases c <;> rfl
  have hreg (a : Nat) : ({ d.resetDev c with power := p, tap := t } : Dev).reg a = (d.resetDev c).reg a := rfl
  refine ⟨hp, hhost, harb, hmail, hsup, hks, heth, hremote, hgptp, hstreams, hlintel, htdm, hroute, resetDev_meas d c, hcan,
    hgpio, htimers, hsched, hself, hcc, hclk, resetDev_flash d c, resetDev_journal d c,
    congrArg Flash.session (resetDev_flash d c), congrArg Journal.pending (resetDev_journal d c),
    congrArg Journal.programming (resetDev_journal d c), ?_, ?_, ?_⟩
  · rw [hreg, resetDev_reg, if_pos rfl]
  · rintro a (rfl | rfl) <;> rw [hreg, resetDev_reg] <;> cases c.clearsRws <;> simp +decide
  · intro n hn hcause hfault hsticky
    rw [hreg, resetDev_reg, if_neg, if_neg, if_neg] <;> simp only [Reg.PWR_RESET_CAUSE, Reg.SYS_FAULT, Reg.PWR_STICKY] at * <;> omega

theorem resetDev_resetTo (d : Dev) (c : Cause) : d.ResetTo (d.resetDev c) c ∧ (d.resetDev c).tap = d.tap :=
  ⟨resetTo_resetDev d c (p := (d.resetDev c).power) (by rw [resetDev_power]) (d.resetDev c).tap, resetDev_tap d c⟩

theorem watchdogExpiry_act {d : Dev} (h : d.Powered) (hpass : d.power.state = .quiet → d.power.quietPass = true) :
    d.watchdogExpiry = d.resetDev .watchdog :=
  if_neg fun hrest => hrest.elim h fun hq => hq.2 (hpass hq.1)

theorem softwareReset_scheduled {d : Dev} (h : d.power.resetScheduled = true) : d.softwareReset = d.resetDev .software := by
  simp [softwareReset, h]

theorem softwareReset_due {d : Dev} {k : Fin 2} (hdue : k ∈ d.mail.resetDue) (hready : d.mail.mb[k].state = .ready) :
    d.softwareReset = d.resetDev .software := by
  have : (d.mail.resetDue.any fun k => d.mail.mb[k].state == .ready) = true :=
    List.any_eq_true.mpr ⟨k, hdue, beq_iff_eq.mpr hready⟩
  rw [softwareReset, this, Bool.or_true, if_pos rfl]

theorem powerOnReset_resetTo (d : Dev) :
    d.ResetTo d.powerOnReset .powerOn ∧ d.powerOnReset.power.porAsserted = true ∧ d.powerOnReset.tap = resetTap := by
  unfold powerOnReset
  exact ⟨resetTo_resetDev d .powerOn (by simp [resetDev_power]) resetTap, rfl, rfl⟩

theorem pinReset_resetTo (d : Dev) : d.ResetTo d.pinReset .pin ∧ d.pinReset.power.rstLow = true ∧ d.pinReset.tap = d.tap := by
  obtain ⟨htap, -⟩ := pinReset_keeps d
  refine ⟨?_, rfl, htap⟩
  unfold pinReset
  exact resetTo_resetDev d .pin (by simp [resetDev_power]) (d.resetDev .pin).tap

theorem pllLoss_resetTo (d : Dev) : d.ResetTo d.pllLoss .pllLoss ∧ d.pllLoss.power.pllLost = true ∧ d.pllLoss.tap = d.tap := by
  obtain ⟨htap, -⟩ := pllLoss_keeps d
  refine ⟨?_, rfl, htap⟩
  unfold pllLoss
  exact resetTo_resetDev d .pllLoss (by simp [resetDev_power]) (d.resetDev .pllLoss).tap

end Dev

/-- A row that comes to a reset keeps the audio RAM and the queue and leaves what the reset does. -/
theorem does_of_resetDev {i : Instr} {s : State} {f : Dev → Dev} {c : Cause} (hi : exec i s = s.act f)
    (hf : f s.dev = s.dev.resetDev c) : s.Does i fun r => s.dev.ResetTo r c ∧ r.tap = s.dev.tap :=
  ⟨_, hi.trans (by rw [State.act_eq, hf]), Dev.resetDev_resetTo s.dev c⟩

/-- Settles O11: each source comes to `resetDev` where it acts, with its own level held in reset. -/
theorem resetSources : Obligations.ResetSources := by
  unfold Obligations.ResetSources
  refine ⟨fun rail s => ?powerOn, fun n s hn => ?pin, fun n s hn => ?short, fun s => ?pll, fun s hpow hpass => ?watchdog,
    fun s hpow hsched => ?scheduled, fun k s hpow hdue hready => ?due⟩
  case powerOn => exact ⟨_, rfl, Dev.powerOnReset_resetTo s.dev⟩
  case pin =>
    refine ⟨s.dev.pinReset, ?_, Dev.pinReset_resetTo s.dev⟩
    rw [exec_rstNAssert, execRstNAssert, if_neg (by omega), if_neg (by omega), State.act_eq]
  case short => rw [exec_rstNAssert, execRstNAssert, if_pos hn, State.act_eq]
  case pll => exact ⟨_, rfl, Dev.pllLoss_resetTo s.dev⟩
  case watchdog => exact does_of_resetDev (exec_hearthWatchdogExpiry s) (Dev.watchdogExpiry_act hpow hpass)
  case scheduled =>
    exact does_of_resetDev (exec_softwareReset s) ((Dev.powered_act hpow _).trans (Dev.softwareReset_scheduled hsched))
  case due =>
    exact does_of_resetDev (exec_softwareReset s) ((Dev.powered_act hpow _).trans (Dev.softwareReset_due hdue hready))

end Sys2Proof.Machine
end

section
/-!
# The arbiter's decision

The order in which the waiting bursts are served (R20, R21): the priority, and within a level the turn from the
level's pointer. The decision is the first of that order among the aged, or, with none aged, among all that wait.
-/
namespace Sys2Proof.Machine
namespace Dev

/-- The level of a requester, by which its round-robin pointer is named (R21). -/
def arbLevel (d : Dev) (n : Fin 8) : Fin 8 := ⟨d.arbPrio n % 8, Nat.mod_lt _ (by decide)⟩

/-- How far a requester stands behind the pointer of a level (R21). -/
def arbTurn (d : Dev) (level k : Fin 8) : Nat := (k - d.arb.pointer[level]).val

/-- Requester `n` is served no later than `k`, were both to wait: a higher priority, or an earlier turn in the same level
(R20, R21). -/
def ServedFirst (d : Dev) (n k : Fin 8) : Prop :=
  d.arbPrio n < d.arbPrio k ∨ (d.arbPrio n = d.arbPrio k ∧ d.arbTurn (d.arbLevel n) n ≤ d.arbTurn (d.arbLevel n) k)

/-- A burst of the requester waits and is aged (R25). -/
def Aged (d : Dev) (n : Fin 8) : Prop := ∃ w, d.arb.waiting[n] = some w ∧ w.aged = true

/-! ### The highest priority and the turn -/

theorem le_foldl_min (c b : Nat) (l : List Nat) : c ≤ l.foldl min b ↔ c ≤ b ∧ ∀ x ∈ l, c ≤ x := by
  induction l generalizing b with
  | nil => simp
  | cons y l ih => simp [ih, and_assoc]

theorem arbPrio_lt (d : Dev) (n : Fin 8) : d.arbPrio n < 8 := by
  have hwidth : 4 * n.val + 2 + 1 - 4 * n.val = 3 := by omega
  unfold arbPrio rfld fld
  rw [hwidth]
  exact Nat.mod_lt _ (by decide)

theorem mem_arbHighest {d : Dev} {l : List (Fin 8)} {n : Fin 8} :
    n ∈ d.arbHighest l ↔ n ∈ l ∧ ∀ k ∈ l, d.arbPrio n ≤ d.arbPrio k := by
  have hle (c : Nat) : c ≤ (l.map d.arbPrio).foldl min 8 ↔ c ≤ 8 ∧ ∀ k ∈ l, c ≤ d.arbPrio k := by simp [le_foldl_min]
  simp only [arbHighest, List.mem_filter, beq_iff_eq]
  refine and_congr_right fun hn => ⟨fun heq => ?_, fun hmin => ?_⟩
  · obtain ⟨-, hall⟩ := (hle _).mp heq.le
    exact hall
  · obtain ⟨-, hall⟩ := (hle _).mp le_rfl
    exact le_antisymm ((hle _).mpr ⟨(d.arbPrio_lt n).le, hmin⟩) (hall n hn)

theorem arbHighest_ne_nil (d : Dev) {l : List (Fin 8)} (h : l ≠ []) : d.arbHighest l ≠ [] := by
  obtain ⟨n, hn, hmin⟩ := l.toFinset.exists_min_image d.arbPrio (by simpa [List.toFinset_nonempty_iff] using h)
  exact List.ne_nil_of_mem (mem_arbHighest.mpr ⟨by simpa using hn, by simpa using hmin⟩)

theorem mem_rotated (start k : Fin 8) : k ∈ (allFin 8).map (start + ·) :=
  List.mem_map.mpr ⟨k - start, List.mem_finRange _, add_sub_cancel start k⟩

/-- The first from a start, wrapping, that has a property: no other that has it stands nearer behind the start. -/
theorem find_rotated {p : Fin 8 → Bool} {start n : Fin 8} (h : ((allFin 8).map (start + ·)).find? p = some n) :
    p n = true ∧ ∀ k, p k = true → (n - start).val ≤ (k - start).val := by
  obtain ⟨hp, i, hi, hn, hbefore⟩ := List.find?_eq_some_iff_getElem.mp h
  refine ⟨hp, fun k hk => ?_⟩
  simp only [List.getElem_map, List.getElem_finRange] at hn hbefore
  have hturn : (n - start).val = i := by rw [← hn, add_sub_cancel_left]; rfl
  by_contra hlt
  have hmiss := hbefore (k - start).val (by omega)
  have hthere : start + Fin.cast (List.length_finRange (n := 8)) ⟨(k - start).val, by simp⟩ = k := add_sub_cancel start k
  simp_all

theorem arbRobin_eq_none {d : Dev} {l : List (Fin 8)} : d.arbRobin l = none ↔ l = [] := by
  constructor
  · intro h
    by_contra hl
    unfold arbRobin at h
    split at h
    · rename_i hnil
      exact arbHighest_ne_nil d hl hnil
    · rename_i n t _
      exact List.find?_eq_none.mp h n (mem_rotated _ n) (by simp)
  · rintro rfl
    rfl

theorem arbRobin_eq_some {d : Dev} {l : List (Fin 8)} {n : Fin 8} (h : d.arbRobin l = some n) :
    n ∈ l ∧ ∀ k ∈ l, d.ServedFirst n k := by
  unfold arbRobin at h
  split at h
  · cases h
  · rename_i m t hhigh
    obtain ⟨hn, hfirst⟩ := find_rotated h
    simp only [List.contains_eq_mem, decide_eq_true_eq, ← hhigh, mem_arbHighest] at hn hfirst
    have hm : m ∈ d.arbHighest l := hhigh ▸ List.mem_cons_self
    obtain ⟨hml, hmmin⟩ := mem_arbHighest.mp hm
    obtain ⟨hnl, hnmin⟩ := hn
    have hlevel : d.arbPrio m = d.arbPrio n := le_antisymm (hmmin n hnl) (hnmin m hml)
    simp only [hlevel] at hfirst
    refine ⟨hnl, fun k hk => ?_⟩
    rcases (hnmin k hk).lt_or_eq with hlt | heq
    · exact .inl hlt
    · exact .inr ⟨heq, hfirst k ⟨hk, fun j hj => heq ▸ hnmin j hj⟩⟩

/-! ### The decision -/

theorem mem_arbWaiting {d : Dev} {n : Fin 8} : n ∈ d.arbWaiting ↔ d.arb.waiting[n].isSome = true := by
  simp [arbWaiting]

theorem mem_arbAged {d : Dev} {n : Fin 8} : n ∈ d.arbAged ↔ d.Aged n := by
  unfold Aged
  cases h : d.arb.waiting[n] <;> simp_all [arbAged]

theorem Aged.waits {d : Dev} {n : Fin 8} (h : d.Aged n) : d.arb.waiting[n].isSome = true := by
  obtain ⟨w, hw, -⟩ := h
  rw [hw]
  rfl

/-- The winner the priorities give where the TDM deadline does not decide (R20, R21, R25). -/
def FirstInOrder (d : Dev) (n : Fin 8) : Prop :=
  ((∃ k, d.Aged k) → d.Aged n ∧ ∀ k, d.Aged k → d.ServedFirst n k) ∧
    ((∀ k, ¬ d.Aged k) → ∀ k : Fin 8, d.arb.waiting[k].isSome → d.ServedFirst n k)

theorem arbPick_eq_none {d : Dev} (h : d.arbPick = none) (n : Fin 8) : d.arb.waiting[n] = none := by
  unfold arbPick at h
  split at h
  · cases h
  · split at h
    · cases h
    · have hnil : d.arbWaiting = [] := arbRobin_eq_none.mp (Option.map_eq_none_iff.mp h)
      have hnot : n ∉ d.arbWaiting := by simp [hnil]
      simpa [mem_arbWaiting] using hnot

theorem arbPick_eq_some {d : Dev} {n : Fin 8} {won : Nat} (h : d.arbPick = some (n, won)) :
    d.arb.waiting[n].isSome = true ∧
      (d.arb.deadline = true → d.arb.waiting[tdmRequester].isSome → n = tdmRequester) ∧
      (d.arb.deadline = false ∨ d.arb.waiting[tdmRequester] = none → d.FirstInOrder n) := by
  unfold arbPick at h
  split at h
  case isTrue htdm =>
    obtain ⟨hdeadline, hwaits⟩ := Bool.and_eq_true_iff.mp htdm
    obtain ⟨rfl, -⟩ := Prod.mk.inj (Option.some.inj h)
    exact ⟨hwaits, fun _ _ => rfl, fun hnot => by simp_all⟩
  case isFalse htdm =>
    have hdeadline : d.arb.deadline = true → d.arb.waiting[tdmRequester].isSome → n = tdmRequester :=
      fun hd hw => absurd (Bool.and_eq_true_iff.mpr ⟨hd, hw⟩) htdm
    split at h
    · rename_i m haged
      obtain ⟨rfl, -⟩ := Prod.mk.inj (Option.some.inj h)
      obtain ⟨hm, hfirst⟩ := arbRobin_eq_some haged
      simp only [mem_arbAged] at hm hfirst
      exact ⟨hm.waits, hdeadline, fun _ => ⟨fun _ => ⟨hm, hfirst⟩, fun hnone => absurd hm (hnone _)⟩⟩
    · rename_i hnone
      obtain ⟨m, hrobin, hm⟩ := Option.map_eq_some_iff.mp h
      obtain ⟨rfl, -⟩ := Prod.mk.inj hm
      obtain ⟨hwaits, hfirst⟩ := arbRobin_eq_some hrobin
      simp only [mem_arbWaiting] at hwaits hfirst
      have hnotAged (k : Fin 8) : ¬ d.Aged k := by simp [← mem_arbAged, arbRobin_eq_none.mp hnone]
      exact ⟨hwaits, hdeadline, fun _ => ⟨fun ⟨k, hk⟩ => absurd hk (hnotAged k), fun _ => hfirst⟩⟩

end Dev
end Sys2Proof.Machine
end

section
/-!
# What a grant does

The bursts that wait at the decision, what the decision changes of the arbiter, and the errors the beats meet: they
leave what was decided unless one is a device fault, which stops the endpoint (R36, R123).
-/
namespace Sys2Proof.Machine
namespace Dev

/-! ### The bursts that wait at the decision -/

/-- The device when the burst in progress has run and the bursts requested meanwhile have joined those that waited. -/
def arbReady (d : Dev) (i : ArbInput) : Dev :=
  i.requests.foldl (fun (e : Dev) r => e.arbRequest r.requester r.beats (min r.ago (d.arbSpan - 1))) (d.arbElapse d.arbSpan)

/-- The device as the decision sees it. -/
def atDecision (d : Dev) (i : ArbInput) : Dev :=
  { d with arb := { d.arb with waiting := (d.arbReady i).arb.waiting, burst := none, deadline := decide (i.tdmFill < 64) } }

/-- The bursts that wait are all that requests change. -/
theorem foldl_arbRequest_eq (l : List ArbRequest) (f : ArbRequest → Nat) (d : Dev) :
    let e := l.foldl (fun (e : Dev) r => e.arbRequest r.requester r.beats (f r)) d
    e = { d with arb := { d.arb with waiting := e.arb.waiting } } := by
  induction l generalizing d with
  | nil => rfl
  | cons r l ih => exact ih (d.arbRequest r.requester r.beats (f r))

theorem arbReady_eq (d : Dev) (i : ArbInput) :
    d.arbReady i = { d with arb := { d.arb with waiting := (d.arbReady i).arb.waiting } } :=
  foldl_arbRequest_eq i.requests (fun r => min r.ago (d.arbSpan - 1)) (d.arbElapse d.arbSpan)

theorem arbChoose_eq (d : Dev) (i : ArbInput) : d.arbChoose i = (d.atDecision i).arbDecide := by
  have hchoose : d.arbChoose i =
      ((d.arbReady i).modArb fun a => { a with deadline := i.tdmFill < 64, burst := none }).arbDecide := rfl
  rw [hchoose, arbReady_eq]
  rfl

/-! ### What the decision changes -/

theorem arbGrantTo_arb {d : Dev} {n : Fin 8} {w : Waiting} (h : d.arb.waiting[n] = some w) (won : Nat) :
    (d.arbGrantTo n won).arb = { d.arb with
      waiting := d.arb.waiting.set n none, burst := some (n, w.beats), pointer := d.arb.pointer.set (d.arbLevel n) (n + 1) } := by
  unfold arbGrantTo
  rw [h]
  dsimp only
  split
  · rfl
  · split <;> rfl

theorem arbGrantTo_power (d : Dev) (n : Fin 8) (won : Nat) : (d.arbGrantTo n won).power = d.power := by
  unfold arbGrantTo
  split
  · rfl
  · dsimp only
    split
    · rfl
    · split <;> rfl

theorem arbDecide_power (d : Dev) : d.arbDecide.power = d.power := by
  unfold arbDecide
  split
  · exact arbGrantTo_power ..
  · rfl

/-- With nothing waiting nothing is granted. -/
theorem arbDecide_idle {d : Dev} (h : ∀ n : Fin 8, d.arb.waiting[n] = none) : d.arbDecide = d := by
  unfold arbDecide
  split
  · rename_i n won hpick
    obtain ⟨hwaits, -, -⟩ := arbPick_eq_some hpick
    simp [h n] at hwaits
  · rfl

/-- The burst of the winner is granted (R21, R24, R25). -/
theorem arbDecide_grants {d : Dev} (h : ∃ n : Fin 8, d.arb.waiting[n].isSome) :
    ∃ (n : Fin 8) (w : Waiting), d.arb.waiting[n] = some w ∧
      (d.arb.deadline = true → d.arb.waiting[tdmRequester].isSome → n = tdmRequester) ∧
      (d.arb.deadline = false ∨ d.arb.waiting[tdmRequester] = none → d.FirstInOrder n) ∧
      d.arbDecide.arb = { d.arb with
        waiting := d.arb.waiting.set n none, burst := some (n, w.beats), pointer := d.arb.pointer.set (d.arbLevel n) (n + 1) } := by
  cases hpick : d.arbPick with
  | none =>
    obtain ⟨n, hn⟩ := h
    simp [arbPick_eq_none hpick n] at hn
  | some x =>
    obtain ⟨n, won⟩ := x
    obtain ⟨hwaits, hdeadline, hfirst⟩ := arbPick_eq_some hpick
    obtain ⟨w, hw⟩ := Option.isSome_iff_exists.mp hwaits
    refine ⟨n, w, hw, hdeadline, hfirst, ?_⟩
    unfold arbDecide
    rw [hpick]
    exact arbGrantTo_arb hw won

theorem arbDecide_deadline (d : Dev) : d.arbDecide.arb.deadline = d.arb.deadline := by
  by_cases h : ∃ n : Fin 8, d.arb.waiting[n].isSome
  · obtain ⟨n, w, -, -, -, harb⟩ := arbDecide_grants h
    rw [harb]
  · rw [arbDecide_idle (by simpa using h)]

/-! ### The errors that the beats meet -/

/-- The power state and what the decision changes of the arbiter. -/
def granted (d : Dev) : Power × Vector (Option Waiting) 8 × Option (Fin 8 × Nat) × Vector (Fin 8) 8 × Bool :=
  (d.power, d.arb.waiting, d.arb.burst, d.arb.pointer, d.arb.deadline)

/-- A double-bit error in a descriptor or an Ouvoso table (R36). -/
def IsFault (e : EccEvent) : Prop := ∃ w : U16, e = .double w ∧ 61440 ≤ w.toNat

/-- A device fault has reset the endpoint, and PWR_RESET_CAUSE tells it (R123). -/
def Stopped (d : Dev) : Prop := d.power.state = .off ∧ d.reg Reg.PWR_RESET_CAUSE = 0x10

theorem foldl_granted {α : Type} {f : Dev → α → Dev} {l : List α} (h : ∀ (d : Dev), ∀ a ∈ l, (f d a).granted = d.granted) (d : Dev) :
    (l.foldl f d).granted = d.granted := by
  induction l generalizing d with
  | nil => rfl
  | cons a l ih =>
    rw [List.foldl_cons, ih fun d b hb => h d b (List.mem_cons_of_mem _ hb), h d a List.mem_cons_self]

theorem powered_congr {d e : Dev} (h : d.granted = e.granted) : d.Powered ↔ e.Powered := by
  obtain ⟨hpower, -⟩ := Prod.mk.inj h
  unfold Powered
  rw [hpower]

theorem mortarSpoil_granted (d : Dev) (word : Nat) : (d.mortarSpoil word).granted = d.granted := by
  unfold mortarSpoil
  split
  · rfl
  · dsimp only
    split <;> rfl

theorem count_granted (d : Dev) (p : Fin 3) (k : Fin 40) : (d.count p k).granted = d.granted := by
  simp [granted, count, countBy, halfFlag]

theorem txSpoil_granted (d : Dev) : d.txSpoil.granted = d.granted := by
  unfold txSpoil
  dsimp only
  split
  · rfl
  · exact (count_granted ..).trans rfl

theorem cellSpoil_granted (d : Dev) (c : Nat) : (d.cellSpoil c).granted = d.granted := by
  fun_cases cellSpoil d c
  · exact (count_granted ..).trans rfl
  · rfl
  · exact txSpoil_granted d

theorem eccScrub_granted (d : Dev) (word : U16) : (d.eccScrub word).granted = d.granted := by
  unfold eccScrub
  split <;> rfl

theorem eccRecord_granted (d : Dev) (l : List EccEvent) : (d.eccRecord l).granted = d.granted := by
  fun_cases eccRecord d l <;> rfl

/-- An error that is no device fault leaves what was decided. -/
theorem eccEvent_granted {e : EccEvent} (h : ¬ IsFault e) (d : Dev) : (d.eccEvent e).granted = d.granted := by
  cases e with
  | single w => exact (eccScrub_granted ..).trans rfl
  | double w =>
    have hw : w.toNat < 61440 := by
      by_contra hw
      exact h ⟨w, rfl, by omega⟩
    unfold eccEvent
    dsimp only
    split
    · exact (mortarSpoil_granted ..).trans rfl
    · exact (cellSpoil_granted ..).trans rfl

theorem deviceFault_stopped {d : Dev} (h : d.Powered) (word : U16) : (d.deviceFault word).Stopped := by
  refine ⟨congrArg Power.state (resetDev_power ..), ?_⟩
  unfold deviceFault
  rw [resetDev_reg, if_pos rfl, if_neg (by simpa [Powered] using h)]
  rfl

theorem eccEvent_stopped {d : Dev} (h : d.Powered) {e : EccEvent} (he : IsFault e) : (d.eccEvent e).Stopped := by
  obtain ⟨w, rfl, hw⟩ := he
  unfold eccEvent
  dsimp only
  rw [if_neg (by omega), if_neg (by omega)]
  exact deviceFault_stopped h w

/-- A stopped endpoint meets no more errors, and one that is not meets them up to a device fault. -/
theorem foldl_stopped {α : Type} {f : Dev → α → Dev} {bad : α → Prop} (hrest : ∀ d a, Stopped d → f d a = d)
    (hgood : ∀ (d : Dev) a, ¬ bad a → (f d a).granted = d.granted) (hbad : ∀ (d : Dev) a, d.Powered → bad a → (f d a).Stopped)
    {l : List α} {d : Dev} (hd : d.Powered) (hl : ∃ a ∈ l, bad a) : (l.foldl f d).Stopped := by
  have hstays (l : List α) {e : Dev} (he : e.Stopped) : l.foldl f e = e := by
    induction l with
    | nil => rfl
    | cons a l ih => rw [List.foldl_cons, hrest e a he, ih]
  induction l generalizing d with
  | nil => simp at hl
  | cons a l ih =>
    rw [List.foldl_cons]
    by_cases ha : bad a
    · have hstopped := hbad d a hd ha
      rwa [hstays l hstopped]
    · exact ih ((powered_congr (hgood d a ha)).mpr hd) (by simpa [ha] using hl)

/-- One error of a cycle, where no device fault has come before it (R122). -/
def eccEventOn (d : Dev) (e : EccEvent) : Dev := if d.power.state = .off then d else d.eccEvent e

theorem eccEventOn_granted {e : EccEvent} (h : ¬ IsFault e) (d : Dev) : (d.eccEventOn e).granted = d.granted := by
  unfold eccEventOn
  split
  · rfl
  · exact eccEvent_granted h d

theorem eccEventOn_stopped {d : Dev} (h : d.Powered) {e : EccEvent} (he : IsFault e) : (d.eccEventOn e).Stopped := by
  unfold eccEventOn
  rw [if_neg h]
  exact eccEvent_stopped h he

theorem eccCycle_powered {d : Dev} (h : d.Powered) (l : List EccEvent) : d.eccCycle l = l.foldl eccEventOn (d.eccRecord l) := by
  unfold eccCycle
  rw [if_neg h]
  rfl

theorem eccCycle_rest {d : Dev} (h : d.power.state = .off) (l : List EccEvent) : d.eccCycle l = d := by
  have hstays : l.foldl eccEventOn d = d := by
    induction l with
    | nil => rfl
    | cons e l ih => rw [List.foldl_cons, eccEventOn, if_pos h, ih]
  unfold eccCycle
  rw [if_pos h]
  exact hstays

theorem eccCycle_granted {l : List EccEvent} (h : ¬ ∃ e ∈ l, IsFault e) (d : Dev) : (d.eccCycle l).granted = d.granted := by
  by_cases hd : d.power.state = .off
  · rw [eccCycle_rest hd]
  · rw [eccCycle_powered hd, foldl_granted fun d e he => eccEventOn_granted (fun hf => h ⟨e, he, hf⟩) d, eccRecord_granted]

theorem eccCycle_stopped {d : Dev} (hd : d.Powered) {l : List EccEvent} (h : ∃ e ∈ l, IsFault e) : (d.eccCycle l).Stopped := by
  rw [eccCycle_powered hd]
  exact foldl_stopped (f := eccEventOn) (bad := IsFault) (fun _ _ he => if_pos he.1) (fun e _ hx => eccEventOn_granted hx e)
    (fun _ _ he hx => eccEventOn_stopped he hx) ((powered_congr (d.eccRecord_granted l)).mpr hd) h

theorem eccEvents_granted {ls : List (List EccEvent)} (h : ¬ ∃ l ∈ ls, ∃ e ∈ l, IsFault e) (d : Dev) :
    (d.eccEvents ls).granted = d.granted :=
  foldl_granted (fun d l hl => eccCycle_granted (fun hf => h ⟨l, hl, hf⟩) d) d

theorem eccEvents_stopped {d : Dev} (hd : d.Powered) {ls : List (List EccEvent)} (h : ∃ l ∈ ls, ∃ e ∈ l, IsFault e) :
    (d.eccEvents ls).Stopped :=
  foldl_stopped (bad := fun l => ∃ e ∈ l, IsFault e) (fun _ l he => eccCycle_rest he.1 l) (fun e _ hl => eccCycle_granted hl e)
    (fun _ _ he hl => eccCycle_stopped he hl) hd h

/-! ### The grant -/

/-- The device when the beats of the granted burst have written their words. -/
def arbBeaten (d : Dev) (i : ArbInput) : Dev :=
  ((d.arbChoose i).grantWrites i).foldl (fun (e : Dev) w => e.ramWritten w.1) (d.arbChoose i)

theorem arbBeaten_granted (d : Dev) (i : ArbInput) : (d.arbBeaten i).granted = (d.arbChoose i).granted := by
  unfold arbBeaten
  exact foldl_granted (f := fun (e : Dev) (w : U16 × U64) => e.ramWritten w.1) (fun _ _ _ => rfl) _

theorem arbGrant_act {d : Dev} (h : d.Awake) (i : ArbInput) : d.arbGrant i = (d.arbBeaten i).eccEvents i.ecc :=
  awake_act h fun d => (d.arbBeaten i).eccEvents i.ecc

theorem arbBeats_act {d : Dev} (h : d.Awake) (i : ArbInput) (ram : List Host.Cell) :
    d.arbBeats i ram = ((d.arbChoose i).grantWrites i).foldl (fun m w => writeWord64 m w.1 w.2) ram :=
  if_neg (not_or.mpr h)

theorem grantWrites_granted {d : Dev} {n : Fin 8} {beats : Nat} (h : d.arb.burst = some (n, beats)) (i : ArbInput) :
    d.grantWrites i = if n = 7 then [] else i.writes.take beats := by
  unfold grantWrites
  rw [h]

theorem grantWrites_idle {d : Dev} (h : d.arb.burst = none) (i : ArbInput) : d.grantWrites i = [] := by
  unfold grantWrites
  rw [h]

theorem arbGrant_granted {d : Dev} (h : d.Awake) {i : ArbInput} (hsafe : ¬ ∃ l ∈ i.ecc, ∃ e ∈ l, IsFault e) :
    (d.arbGrant i).granted = (d.atDecision i).arbDecide.granted := by
  rw [arbGrant_act h, eccEvents_granted hsafe, arbBeaten_granted, arbChoose_eq]

theorem arbGrant_stopped {d : Dev} (h : d.Awake) {i : ArbInput} (hfault : ∃ l ∈ i.ecc, ∃ e ∈ l, IsFault e) :
    (d.arbGrant i).Stopped := by
  have hpower : (d.arbChoose i).power = d.power := by
    rw [arbChoose_eq, arbDecide_power]
    rfl
  have hchosen : (d.arbChoose i).Powered := by
    unfold Powered
    rw [hpower]
    exact h.powered
  rw [arbGrant_act h]
  exact eccEvents_stopped ((powered_congr (d.arbBeaten_granted i)).mpr hchosen) hfault

end Dev

/-- Settles O27: the decision is `arbDecide` of the device at the decision; the errors leave it, or stop the endpoint. -/
theorem arbiterDecision : Obligations.ArbiterDecision := by
  unfold Obligations.ArbiterDecision
  intro input s hawake span ready W prio level turn aged fatal
  refine ⟨fun hsafe => ⟨_, rfl, rfl, ?deadline, fun hidle => ?idle, fun hwaits => ?grants⟩,
    fun hfatal => ⟨_, rfl, rfl, Dev.arbGrant_stopped hawake hfatal⟩⟩
  all_goals
    have hgranted := Dev.arbGrant_granted hawake hsafe
    simp only [Dev.granted, Prod.mk.injEq] at hgranted
    obtain ⟨-, hwaiting, hburst, hpointer, hdeadline⟩ := hgranted
  case deadline => exact hdeadline.trans (Dev.arbDecide_deadline _)
  case idle =>
    have hnone : (s.dev.atDecision input).arbDecide = s.dev.atDecision input := Dev.arbDecide_idle hidle
    rw [hnone] at hwaiting hburst
    refine ⟨hburst, hwaiting, ?_⟩
    dsimp only
    rw [Dev.arbBeats_act hawake, Dev.arbChoose_eq, hnone, Dev.grantWrites_idle rfl]
    rfl
  case grants =>
    obtain ⟨n, w, hw, htdm, hfirst, harb⟩ := Dev.arbDecide_grants (d := s.dev.atDecision input) hwaits
    have hgrant : (s.dev.atDecision input).arbDecide.arb.burst = some (n, w.beats) := by rw [harb]
    rw [harb] at hwaiting hburst hpointer
    refine ⟨n, w, hw, hburst, hwaiting, fun hfill => htdm (decide_eq_true hfill), fun hcase => hfirst ?_, ?_, ?_⟩
    · exact hcase.imp_left fun hfill => decide_eq_false (Nat.not_lt.mpr hfill)
    · rw [hpointer]
      exact Vector.getElem_set_self _
    · dsimp only
      rw [Dev.arbBeats_act hawake, Dev.arbChoose_eq, Dev.grantWrites_granted hgrant]
      split <;> rfl

end Sys2Proof.Machine
end

section
/-!
# The rows of the arbiter's counts (R25, R122, R125)
-/
namespace Sys2Proof.Machine
namespace Dev

theorem hostWrite_eccLast {d : Dev} (h : d.Writable) : d.hostWrite Reg.SYS_ECC_LAST (bitW 31 true) = d.eccClear := by
  obtain ⟨r, hr, haddr⟩ : ∃ r, regInfo Reg.SYS_ECC_LAST = some r ∧ r.addr = Reg.SYS_ECC_LAST := by decide +kernel
  rw [hostWrite_reg h (by decide) hr]
  simp +decide [regStore, sysStore, haddr]

theorem hostWrite_arbCtrl {d : Dev} (h : d.Writable) : d.hostWrite Reg.ARB_CTRL (bitW 0 true) = d.statsClear := by
  obtain ⟨r, hr, haddr⟩ : ∃ r, regInfo Reg.ARB_CTRL = some r ∧ r.addr = Reg.ARB_CTRL := by decide +kernel
  rw [hostWrite_reg h (by decide) hr]
  simp +decide [regStore, haddr]

/-- Registers cleared in turn read 0, and so do those that read 0 before. -/
theorem reg_foldl_clear {l : List Nat} (hl : ∀ a ∈ l, a / 4 < 256) {d : Dev} {b : Nat} (hb : b ∈ l ∨ d.reg b = 0) :
    (l.foldl (fun (d : Dev) a => d.setReg a 0) d).reg b = 0 := by
  induction l generalizing d with
  | nil => simpa using hb
  | cons a l ih =>
    obtain ⟨ha, hl⟩ := List.forall_mem_cons.mp hl
    refine ih hl ?_
    rcases hb with hmem | hzero
    · rcases List.mem_cons.mp hmem with rfl | hmem
      · exact .inr (reg_setReg_same d ha 0)
      · exact .inl hmem
    · rw [reg_setReg d ha, hzero, ite_self]
      exact .inr rfl

/-- Nothing else is cleared. -/
theorem foldl_clear_eq (l : List Nat) (d : Dev) :
    let e := l.foldl (fun (d : Dev) a => d.setReg a 0) d
    e = { d with regs := e.regs } := by
  induction l generalizing d with
  | nil => rfl
  | cons a l ih => exact ih (d.setReg a 0)

/-- What R25 makes of a requester that waits is told of it alone. -/
theorem requestAged_waiting (d : Dev) (n k : Fin 8) : (d.requestAged n).arb.waiting[k] =
    if n = k then d.arb.waiting[n].map fun w => { w with waited := max 4096 w.waited, aged := true } else d.arb.waiting[k] :=
  upd_get ..

end Dev

/-- Settles O26: ageing by the entry it updates, the clears by what a 1 to each clear bit comes to. -/
theorem arbiterRows : Obligations.ArbiterRows := by
  unfold Obligations.ArbiterRows
  refine ⟨fun n s hawake => ?aged, fun s hwritable => ?ecc, fun s hwritable => ?stats⟩
  case aged =>
    refine ⟨s.dev.requestAged n, ?_, fun w hw => ?_, fun k hk => ?_, rfl⟩
    · rw [exec_requestAged, State.act_eq, Dev.awake_act hawake]
    · rw [Dev.requestAged_waiting, if_pos rfl, hw]
      rfl
    · rw [Dev.requestAged_waiting, if_neg hk.symm]
  case ecc =>
    rw [exec_eccLastClear, State.act_eq, Dev.hostWrite_eccLast hwritable]
    rfl
  case stats =>
    refine ⟨s.dev.statsClear, ?_, fun a ha => Dev.reg_foldl_clear (by decide) (.inl ha), Dev.foldl_clear_eq _ s.dev⟩
    rw [exec_statsClear, State.act_eq, Dev.hostWrite_arbCtrl hwritable]

end Sys2Proof.Machine
end

section
/-!
# In OFF the device rests (R41, R68, R69)
-/
namespace Sys2Proof.Machine

/-- A row whose effect leaves the device leaves the state. -/
theorem next_rest {s : State} {d : Dev} (h : d = s.dev) : (.next { s with dev := d } : Result) = .next s := by
  rw [h]

namespace Dev

theorem tmrRow_rest {d : Dev} (h : d.power.state = .off) (hearth : Option (Fin 4)) (a : Nat) (f : Dev → Dev) :
    d.tmrRow hearth a f = d := by
  unfold tmrRow
  rw [awake_rest (.inl h), hostGuard_rest h, ite_self]

theorem udsRow_rest {d : Dev} (h : d.power.state = .off) (sid : Byte) (f : Dev → UdsResult) : d.udsRow sid f = d := by
  simp [udsRow, udsServes, h]

theorem gridPoint_rest {d : Dev} (h : d.power.state = .off) (sdi : List (List Bool)) : d.gridPoint sdi = d := by
  unfold gridPoint
  rw [if_neg (by simp [h]), runs_rest (by simp [Runs, h])]

theorem quietComplete_rest {d : Dev} (h : d.power.state = .off) : d.quietComplete = d := by
  unfold quietComplete
  split
  · rfl
  · exact if_pos (.inl (by simp [h]))

theorem servicePass_rest {d : Dev} (h : d.serving = false) : d.servicePass = d := by
  simp [servicePass, h]

theorem dbgDone_rest {d : Dev} (h : d.power.state = .off ∨ d.power.state = .quiet) (ram : List Host.Cell) :
    d.dbgDone ram = (d, ram) := if_pos h

end Dev

/-- Settles O9: by the guard of each row, and for the rows that have none by the state they act in. -/
theorem offRests : Obligations.OffRests := by
  unfold Obligations.OffRests
  intro i s hoff hi
  have hserving : s.dev.serving = false := by simp [Dev.serving, hoff]
  have hruns : ¬ s.dev.Runs := by simp [Dev.Runs, hoff]
  have hstopped : s.dev.power.state = .off ∨ s.dev.power.state = .quiet := .inl hoff
  cases i with
  | powerOnReset | powerOnResetRelease | rstNAssert | rstNRelease | corePllLockLoss | proofStart | testLogicReset | extest
  | idcode | samplePreload | clamp | highz | bypass | tckEdge => cases hi
  | hearthWatchdogExpiry | supervisorSample => exact next_rest (if_pos (.inl hoff))
  | spiTransactionStart => exact next_rest (if_pos hoff)
  | proofComplete | bootStart | bootComplete | journalRecordProgram => exact next_rest (if_pos (.inl (by simp [hoff])))
  | quietEntryComplete => exact next_rest (Dev.quietComplete_rest hoff)
  | quietDoorbellPass => exact next_rest (if_neg (by simp [hoff]))
  | servicePass => exact next_rest (Dev.servicePass_rest hserving)
  | dbgBeatDone => rw [exec_dbgBeatDone, execDbgBeatDone, Dev.dbgDone_rest hstopped]
  | arbGrant =>
    rw [exec_arbGrant, execArbGrant, Dev.arbGrant, Dev.arbBeats, if_pos hstopped, if_pos hstopped]
  | ksTick | refQualified | refLoss | bwNarrowStep | trackEntry | reacquire | holdoverExpired | timeValidLapse | moveDone
  | captureLock | phaseDetectorCompare | secondBoundary => exact next_rest (Dev.runs_rest hruns _)
  | frameBoundary => exact next_rest (Dev.gridPoint_rest hoff _)
  | softwareReset | supplyMuteRampEnd | supplyMuteExit | vddioEFaultEnter | vddioEFaultExit | vbatOpenEnter | vbatOpenExit
  | journalRecordDone | journalCompactionDone | flashEraseDone | quietWake | registerWrite | spiNop | spiWriteWord
  | spiReadWord | snapshot | badOpcode | spiTransactionEnd | overspeed | aliasWrite | journalDefaultsDone | fwuEraseDone
  | dtcStoreWrite | crxWake | debounceChange | pinHoldEnd | padLevelChange => exact next_rest (Dev.powered_rest hoff _)
  | minRestart | dbgReadRequest | portDisable | canRecover => exact next_rest (Dev.hostGuard_rest hoff ..)
  | pwrResetReqWrite | dbgWriteCommit | eccLastClear | statsClear | mbDoorbell | clkPhaseStepWrite | dcoSeedWrite
  | clkRefCommitWrite | ethMacHiWrite | ethFiltWrite | canTxReq | canTxAbort | gpioOutMwWrite | schedCancelWrite =>
    exact next_rest (Dev.hostWrite_rest hoff ..)
  | mbRelease | evqHeadRead | evqArgRead | evqStateRead | clkTimeNsRead | clkWordLoRead =>
    exact next_rest (Dev.hostRead_rest hoff ..)
  | gpioLockWrite =>
    refine next_rest ?_
    simp only [Dev.awake_rest hstopped, Dev.hostWrite_rest hoff, ite_self]
  | tmrCountLoRead | tmrCapLoRead =>
    refine next_rest ?_
    simp only [Dev.awake_rest hstopped, Dev.hostRead_rest hoff, ite_self]
  | tmrClear | tmrCmpWrite => exact next_rest (Dev.tmrRow_rest hoff ..)
  | diagnosticSessionControl | ecuReset | reportNumberOfDtcByStatusMask | reportDtcByStatusMask | reportDtcExtDataRecord
  | reportSupportedDtc | readDataByIdentifier | testerPresent | clearDiagnosticInformation | requestSeed | sendKey
  | startRoutine | stopRoutine | requestRoutineResults | requestDownload | transferData | requestTransferExit =>
    exact next_rest (Dev.udsRow_rest hoff ..)
  | ethMdio => exact next_rest (Dev.serveWith_rest hserving ..)
  | _ =>
    -- the commands that Ouvoso serves, and the events of the blocks that have no clock
    refine next_rest ?_
    simp only [Dev.serve_rest hserving, Dev.awake_rest hstopped]

end Sys2Proof.Machine
end

section
/-!
# What the operations of chapter 11 leave of measurement

Every rule is an equation of `Dev.meas`, so that the laws of `Laws/State` carry it on: an event, a response or a
record of the journal leaves measurement as it is, and a DTC changes its own list alone.
-/
namespace Sys2Proof.Machine
namespace Dev

/-! ### Events, responses and the journal -/

@[simp] theorem opDone_meas (d : Dev) (opcode status : Nat) (tag : Byte) : (d.opDone opcode status tag).meas = d.meas := by
  simp [opDone]

@[simp] theorem dtcEvent_meas (d : Dev) (x : Dtc) : (d.dtcEvent x).meas = d.meas := push_meas ..

@[simp] theorem foldEvent_meas (d : Dev) (amp : Nat) (die : Bool) (target : Nat) : (d.foldEvent amp die target).meas = d.meas :=
  push_meas ..

@[simp] theorem ampEvent_meas (d : Dev) (k : Fin 4) (asserted script : Bool) : (d.ampEvent k asserted script).meas = d.meas :=
  push_meas ..

@[simp] theorem safetyEvent_meas (d : Dev) (k : Fin 4) (entry : Bool) : (d.safetyEvent k entry).meas = d.meas := push_meas ..

@[simp] theorem scriptEvent_meas (d : Dev) (k : Fin 4) (kind : ScriptKind) (failed : Bool) (step : Nat) :
    (d.scriptEvent k kind failed step).meas = d.meas := push_meas ..

@[simp] theorem journalAdd_meas (d : Dev) (items : List JItem) : (d.journalAdd items).meas = d.meas := by
  unfold journalAdd journalWithhold
  dsimp only
  split <;> simp

theorem talkerDiscard_meas (d : Dev) (t : Option (Fin 8)) : (d.talkerDiscard t).meas = d.meas := by
  cases t <;> rfl

@[simp] theorem count_meas (d : Dev) (p : Fin 3) (k : Fin 40) : (d.count p k).meas = d.meas := raiseIf_meas ..

theorem submit_meas (d : Dev) (p : Fin 3) (f : TxFrame) : (d.submit p f).meas = d.meas := by
  unfold submit
  dsimp only
  split
  · exact (talkerDiscard_meas ..).trans (count_meas ..)
  · split
    · exact (raiseBit_meas ..).trans (count_meas ..)
    · split <;> simp

theorem respondRemote_meas (d : Dev) (w : RemoteWaiting) (r : Response) : (d.respondRemote w r).meas = d.meas :=
  submit_meas ..

@[simp] theorem respond_meas (d : Dev) (src : Source) (r : Response) : (d.respond src r).meas = d.meas := by
  cases src with
  | mb0 | mb1 | tester => rfl
  | remote =>
    unfold respond
    dsimp only
    split
    · rfl
    · exact respondRemote_meas ..

@[simp] theorem i2cAnswer_meas (d : Dev) (who : Source × Byte) (r : I2cResult) : (d.i2cAnswer who r).meas = d.meas := by
  cases r <;> exact respond_meas ..

/-! ### The list of DTCs -/

/-- testFailed of a DTC in a list of statuses. -/
def failedIn (l : List Dtc) (code : Nat) : Bool := ((l.find? (·.code == code)).getD (freshDtc code)).status.getLsbD 0

@[simp] theorem dtcFailed_eq (d : Dev) (code : Nat) : d.dtcFailed code = failedIn d.meas.dtcs code := rfl

theorem dtcOf_code (d : Dev) (code : Nat) : (d.dtcOf code).code = code := by
  unfold dtcOf
  cases h : d.meas.dtcs.find? (·.code == code) with
  | none => rfl
  | some x => simpa using List.find?_some h

theorem putDtc_find_same (l : List Dtc) (x : Dtc) : (putDtc l x).find? (·.code == x.code) = some x := by
  have hbelow : (l.filter (·.code < x.code)).find? (·.code == x.code) = none := by
    simp only [List.find?_eq_none, List.mem_filter, decide_eq_true_eq, beq_iff_eq]
    omega
  simp [putDtc, List.find?_append, hbelow]

theorem find_filter_of_imp {α : Type} {p q : α → Bool} (h : ∀ a, p a = true → q a = true) (l : List α) :
    (l.filter q).find? p = l.find? p := by
  rw [List.find?_filter]
  congr 1
  funext a
  cases hp : p a with
  | false => simp
  | true => simp [h a hp]

theorem find_filter_of_disjoint {α : Type} {p q : α → Bool} (h : ∀ a, p a = true → q a = false) (l : List α) :
    (l.filter q).find? p = none := by
  simp only [List.find?_eq_none, List.mem_filter]
  rintro a ⟨-, hq⟩ hp
  simp [h a hp] at hq

theorem putDtc_find_other (l : List Dtc) {x : Dtc} {code : Nat} (h : code ≠ x.code) :
    (putDtc l x).find? (·.code == code) = l.find? (·.code == code) := by
  unfold putDtc
  rw [List.find?_append, List.find?_cons_of_neg (by simpa using h.symm)]
  rcases Nat.lt_or_gt_of_ne h with hlt | hgt
  · rw [find_filter_of_imp, find_filter_of_disjoint, Option.or_none] <;> simp <;> omega
  · rw [find_filter_of_disjoint, find_filter_of_imp, Option.none_or] <;> simp <;> omega

theorem failedIn_putDtc (l : List Dtc) (x : Dtc) (code : Nat) :
    failedIn (putDtc l x) code = if code = x.code then x.status.getLsbD 0 else failedIn l code := by
  unfold failedIn
  split
  case isTrue h => rw [h, putDtc_find_same, Option.getD_some]
  case isFalse h => rw [putDtc_find_other l h]

/-! ### Qualifying and clearing a DTC (R309) -/

/-- The statuses, and the changes to be programmed, that the qualification of a DTC leaves. -/
def qualified (d : Dev) (code : Nat) (value : Int) : List Dtc × List Nat :=
  ((d.qualify code value).meas.dtcs, (d.qualify code value).meas.unsaved)

/-- The statuses that a passed test leaves. -/
def passed (d : Dev) (code : Nat) : List Dtc := (d.testPassed code).meas.dtcs

/-- The statuses that a completed test leaves. -/
def tested (d : Dev) (code : Nat) : List Dtc := (d.testDone code).meas.dtcs

@[simp] theorem qualify_meas (d : Dev) (code : Nat) (value : Int) : (d.qualify code value).meas =
    { d.meas with dtcs := (d.qualified code value).1, unsaved := (d.qualified code value).2 } := by
  unfold qualified qualify
  dsimp only
  split <;> simp [dtcUnsaved]

@[simp] theorem testPassed_meas (d : Dev) (code : Nat) : (d.testPassed code).meas = { d.meas with dtcs := d.passed code } := by
  unfold passed testPassed
  dsimp only
  split
  · rfl
  · split <;> simp

@[simp] theorem testDone_meas (d : Dev) (code : Nat) : (d.testDone code).meas = { d.meas with dtcs := d.tested code } := by
  unfold tested testDone
  dsimp only
  split <;> rfl

/-- What a qualification writes of a DTC that has not failed. -/
def qualifiedDtc (d : Dev) (code : Nat) (value : Int) : Dtc :=
  let x := d.dtcOf code
  { x with
    status := (x.status &&& 0x80) ||| 0x2F, occurrences := min 0xFFFF (x.occurrences + 1), aging := 0,
    first := if x.occurrences = 0 then d.meas.cycle else x.first, last := d.meas.cycle,
    value := value, vbat := d.rfld Reg.PWR_VBAT 15 0, die := narrow d.dieTemp 2 }

theorem qualified_of_failed {d : Dev} {code : Nat} (h : d.dtcFailed code = true) (value : Int) :
    (d.qualified code value).1 = d.meas.dtcs := by
  unfold qualified qualify
  dsimp only
  rw [if_pos (by exact h)]

theorem qualified_of_good {d : Dev} {code : Nat} (h : d.dtcFailed code = false) (value : Int) :
    (d.qualified code value).1 = putDtc d.meas.dtcs (d.qualifiedDtc code value) := by
  unfold qualified qualify
  dsimp only
  rw [if_neg (by simpa [dtcFailed] using h)]
  simp [dtcUnsaved, qualifiedDtc]

theorem passed_bit (s : Byte) : (s &&& 0xAE).getLsbD 0 = false := by
  rw [BitVec.getLsbD_and]
  simp

theorem tested_bit (s : Byte) : (s &&& 0xAF).getLsbD 0 = s.getLsbD 0 := by
  rw [BitVec.getLsbD_and]
  simp

@[simp] theorem failedIn_qualified (d : Dev) (code c : Nat) (value : Int) :
    failedIn (d.qualified code value).1 c = (decide (c = code) || failedIn d.meas.dtcs c) := by
  cases h : d.dtcFailed code with
  | true =>
    rw [qualified_of_failed h]
    by_cases hc : c = code
    · rw [hc, ← dtcFailed_eq, h, Bool.or_true]
    · simp [hc]
  | false =>
    have hcode : (d.qualifiedDtc code value).code = code := dtcOf_code d code
    rw [qualified_of_good h, failedIn_putDtc, hcode]
    by_cases hc : c = code
    · simp [hc, qualifiedDtc]
    · simp [hc]

@[simp] theorem failedIn_passed (d : Dev) (code c : Nat) :
    failedIn (d.passed code) c = (!decide (c = code) && failedIn d.meas.dtcs c) := by
  unfold passed testPassed
  dsimp only
  split
  case isTrue h =>
    have hgood : failedIn d.meas.dtcs code = false := by
      rw [← dtcFailed_eq, dtcFailed, ← h, passed_bit]
    by_cases hc : c = code <;> simp [hc, hgood]
  case isFalse =>
    split <;> simp only [dtcEvent_meas, modMeas_meas, failedIn_putDtc, dtcOf_code] <;>
      by_cases hc : c = code <;> simp [hc]

@[simp] theorem failedIn_tested (d : Dev) (code c : Nat) : failedIn (d.tested code) c = failedIn d.meas.dtcs c := by
  unfold tested testDone
  dsimp only
  split
  · rfl
  · rw [modMeas_meas, failedIn_putDtc, tested_bit, dtcOf_code]
    split
    case isTrue hc => rw [hc]; rfl
    case isFalse => rfl

@[simp] theorem failedIn_follow (d : Dev) (code c : Nat) (failed : Bool) (value : Int) :
    failedIn (d.dtcFollow code failed value).meas.dtcs c = if c = code then failed else failedIn d.meas.dtcs c := by
  unfold dtcFollow
  cases failed <;> by_cases hc : c = code <;> simp [hc]

theorem dtcOf_qualify {d : Dev} {code : Nat} (h : d.dtcFailed code = false) (value : Int) :
    (d.qualify code value).dtcOf code = d.qualifiedDtc code value := by
  have hcode : (d.qualifiedDtc code value).code = code := dtcOf_code d code
  have hfind := putDtc_find_same d.meas.dtcs (d.qualifiedDtc code value)
  rw [hcode] at hfind
  unfold dtcOf
  rw [qualify_meas, qualified_of_good h, hfind, Option.getD_some]

/-! ### The records of the store (R310) -/

/-- A search that keeps what it has or takes the element at hand finds an element of the list. -/
theorem foldl_picks {α : Type} {f : Option α → α → Option α} (h : ∀ b a, f b a = b ∨ f b a = some a) (l : List α) (b : Option α) :
    l.foldl f b = b ∨ ∃ a ∈ l, l.foldl f b = some a := by
  induction l generalizing b with
  | nil => exact .inl rfl
  | cons a l ih =>
    rw [List.foldl_cons]
    rcases ih (f b a) with hkept | ⟨x, hx, hfound⟩
    · rw [hkept]
      exact (h b a).imp_right fun ha => ⟨a, List.mem_cons_self, ha⟩
    · exact .inr ⟨x, List.mem_cons_of_mem a hx, hfound⟩

/-- What taking up a record can do to the store, said once: it replaces the record of its DTC, is added, or is added in
the place of another. -/
theorem storeRecord_cases (store : List Dtc) (code : Nat) (x : Dtc) :
    (∃ y ∈ store, y.code = code ∧ storeRecord store code (some x) = store.map fun y => if y.code = code then x else y) ∨
    (store.length < 48 ∧ storeRecord store code (some x) = store ++ [x]) ∨
    ∃ y ∈ store, storeRecord store code (some x) = store.filter (fun z => some z.code != some y.code) ++ [x] := by
  unfold storeRecord
  dsimp only
  split
  case isTrue hany =>
    obtain ⟨y, hy, hcode⟩ := List.any_eq_true.mp hany
    exact .inl ⟨y, hy, by simpa using hcode, rfl⟩
  case isFalse =>
    split
    case isTrue hlen => exact .inr (.inl ⟨hlen, rfl⟩)
    case isFalse hlen =>
      refine .inr (.inr ?_)
      generalize hfound : List.foldl _ _ (store.filter fun y => !y.status.getLsbD 3) = oldest
      have hpick : oldest = none ∨ ∃ y ∈ store.filter fun y => !y.status.getLsbD 3, oldest = some y := by
        rw [← hfound]
        refine foldl_picks (fun b a => ?_) _ _
        cases b with
        | none => exact .inr rfl
        | some z => exact (ite_eq_or_eq (a.last < z.last) (some a) (some z)).symm
      rcases hpick with rfl | ⟨y, hy, rfl⟩
      · obtain ⟨y, l, rfl⟩ := List.exists_cons_of_length_pos (l := store) (by omega)
        exact ⟨y, List.mem_cons_self, rfl⟩
      · exact ⟨y, List.mem_of_mem_filter hy, rfl⟩

theorem storeRecord_length {store : List Dtc} (h : store.length ≤ 48) (code : Nat) (x : Option Dtc) :
    (storeRecord store code x).length ≤ 48 := by
  cases x with
  | none => exact (List.length_filter_le ..).trans h
  | some x =>
    rcases storeRecord_cases store code x with ⟨y, -, -, heq⟩ | ⟨hlen, heq⟩ | ⟨y, hy, heq⟩
    · rwa [heq, List.length_map]
    · rw [heq, List.length_append, List.length_singleton]
      omega
    · have hless : (store.filter fun z => some z.code != some y.code).length < store.length :=
        List.length_filter_lt_length_iff_exists.mpr ⟨y, hy, by simp⟩
      rw [heq, List.length_append, List.length_singleton]
      omega

theorem mem_storeRecord {store : List Dtc} {x : Dtc} {code : Nat} : x ∈ storeRecord store code (some x) := by
  rcases storeRecord_cases store code x with ⟨y, hy, hcode, heq⟩ | ⟨-, heq⟩ | ⟨y, -, heq⟩
  · rw [heq]
    exact List.mem_map.mpr ⟨y, hy, if_pos hcode⟩
  · simp [heq]
  · simp [heq]

theorem bankDtcs_length (b : DtcBank) : (bankDtcs b).length ≤ 48 := by
  have hfold (l : List (Nat × Option Dtc)) {store : List Dtc} (h : store.length ≤ 48) :
      (l.foldl (fun l r => storeRecord l r.1 r.2) store).length ≤ 48 := by
    induction l generalizing store with
    | nil => exact h
    | cons r l ih => exact ih (storeRecord_length h ..)
  exact hfold b.records (Nat.zero_le _)

theorem storeDtcs_length (s : DtcStore) : (storeDtcs s).length ≤ 48 := by
  unfold storeDtcs
  split
  · exact bankDtcs_length _
  · exact Nat.zero_le _

/-- A programmed record is the last that the records of the store take up. -/
theorem storeDtcs_storeProgram (s : DtcStore) (r : Nat × Option Dtc) :
    ∃ held, storeDtcs (storeProgram s r) = storeRecord held r.1 r.2 := by
  unfold storeProgram
  extract_lets b add put
  have hlast (bank : DtcBank) : bankDtcs (add bank) = storeRecord (bankDtcs bank) r.1 r.2 := by simp [add, bankDtcs]
  have hput (toB : Bool) (bank : DtcBank) (h : bank.header = true) : storeDtcs (put s toB bank) = bankDtcs bank := by
    cases toB <;> simp [put, storeDtcs, liveDtcs, h]
  split
  · exact ⟨[], hput _ _ rfl⟩
  case isFalse hheader =>
    split
    · exact ⟨_, (hput _ (add _) rfl).trans (hlast _)⟩
    · exact ⟨_, (hput _ (add b) (by simpa using hheader)).trans (hlast b)⟩

end Dev
end Sys2Proof.Machine
end

section
/-!
# Pilot slots, the DC-resistance test and learning (R291–R298)
-/
namespace Sys2Proof.Machine

theorem upd_id {α : Type} {n : Nat} {v : Vector α n} {i : Fin n} {f : α → α} (h : f v[i] = v[i]) : upd v i f = v := by
  unfold upd
  rw [h]
  exact Vector.set_getElem_self _

/-- `upd_same` at the index that `simp` makes of an index of type `Fin`. -/
@[simp] theorem upd_val_same {α : Type} {n : Nat} (v : Vector α n) (i : Fin n) (f : α → α) : (upd v i f)[i.val] = f v[i.val] :=
  upd_same v i f

namespace Dev

/-- A judgement of a speaker may change DTCs, and end its learn. -/
structure Judged (k : Fin 16) (d e : Dev) : Prop where
  speaker : ∃ learn, e.meas.speakers[k] = { d.meas.speakers[k] with learn := learn }
  dcTest : e.meas.dcTest = d.meas.dcTest
  drive : e.meas.drive = d.meas.drive

theorem Judged.refl (k : Fin 16) (d : Dev) : Judged k d d := ⟨⟨d.meas.speakers[k].learn, rfl⟩, rfl, rfl⟩

theorem Judged.trans {k : Fin 16} {d e f : Dev} (h : Judged k d e) (h' : Judged k e f) : Judged k d f := by
  obtain ⟨⟨l, hl⟩, htest, hdrive⟩ := h
  obtain ⟨⟨l', hl'⟩, htest', hdrive'⟩ := h'
  exact ⟨⟨l', by rw [hl', hl]⟩, htest'.trans htest, hdrive'.trans hdrive⟩

/-- A learn that ends changes nothing else of measurement. -/
@[simp] theorem learnRefused_meas (d : Dev) (k : Fin 16) : (d.learnRefused k).meas =
    { d.meas with speakers := upd d.meas.speakers k fun x => { x with learn := none } } := by
  unfold learnRefused
  split
  case h_1 h =>
    rw [upd_id]
    rw [← h]
  case h_2 => simp

theorem testPassed_judged (d : Dev) (k : Fin 16) (code : Nat) : Judged k d (d.testPassed code) :=
  ⟨⟨d.meas.speakers[k].learn, by simp⟩, by simp, by simp⟩

theorem testDone_judged (d : Dev) (k : Fin 16) (code : Nat) : Judged k d (d.testDone code) :=
  ⟨⟨d.meas.speakers[k].learn, by simp⟩, by simp, by simp⟩

theorem speakerQualify_judged (d : Dev) (k : Fin 16) (n : Nat) (value : Int) : Judged k d (d.speakerQualify k n value) := by
  unfold speakerQualify
  split
  · exact .refl k d
  · exact ⟨⟨none, by simp⟩, by simp, by simp⟩

@[simp] theorem failedIn_speakerQualify (d : Dev) (k : Fin 16) (n c : Nat) (value : Int) :
    failedIn (d.speakerQualify k n value).meas.dtcs c = (decide (c = speakerDtc k n) || failedIn d.meas.dtcs c) := by
  unfold speakerQualify
  split
  case isTrue h =>
    by_cases hc : c = speakerDtc k n
    · rw [hc, ← dtcFailed_eq, h, Bool.or_true]
    · simp [hc]
  case isFalse => simp

theorem speakerDtc_inj {k : Fin 16} {m n : Nat} : speakerDtc k m = speakerDtc k n ↔ m = n := by
  unfold speakerDtc
  omega

/-! ### The tests of a slot (R293, R294) -/

/-- A test counted once more. -/
def counted (failed : Bool) (t : TestRun) : TestRun := if failed then ⟨t.fails + 1, 0⟩ else ⟨0, t.passes + 1⟩

/-- The failures in a row that qualify the DTC of a test (R294). -/
def failures (x : Speaker) (j : Fin 5) : Nat := if j = 4 then 40 else x.setup.failN

/-- The device with a test counted once more, not judged yet. -/
def withCount (d : Dev) (k : Fin 16) (j : Fin 5) (failed : Bool) : Dev :=
  d.modSpeaker k fun x => { x with runs := upd x.runs j (counted failed) }

/-- How a counted test is judged. -/
theorem countTest_eq (d : Dev) (k : Fin 16) (j : Fin 5) (failed : Bool) (value : Int) :
    let x := d.meas.speakers[k]
    let e := d.withCount k j failed
    d.countTest k j failed value =
      if failed = true ∧ failures x j ≤ x.runs[j].fails + 1 then e.speakerQualify k (j.val + 1) value
      else if failed = false ∧ x.setup.passN ≤ x.runs[j].passes + 1 then e.testPassed (speakerDtc k (j.val + 1))
      else e.testDone (speakerDtc k (j.val + 1)) := by
  cases failed <;> simp [countTest, withCount, failures] <;> rfl

theorem countTest_judged (d : Dev) (k : Fin 16) (j : Fin 5) (failed : Bool) (value : Int) :
    Judged k (d.withCount k j failed) (d.countTest k j failed value) := by
  rw [countTest_eq]
  split
  · exact speakerQualify_judged ..
  · split
    · exact testPassed_judged ..
    · exact testDone_judged ..

theorem countTest_failed_other (d : Dev) (k : Fin 16) {i j : Fin 5} (h : i ≠ j) (failed : Bool) (value : Int) :
    failedIn (d.countTest k j failed value).meas.dtcs (speakerDtc k (i.val + 1)) =
      failedIn d.meas.dtcs (speakerDtc k (i.val + 1)) := by
  have hcode : speakerDtc k (i.val + 1) ≠ speakerDtc k (j.val + 1) := by
    rw [Ne, speakerDtc_inj]
    omega
  rw [countTest_eq]
  split
  · simp [hcode, withCount]
  · split <;> simp [hcode, withCount]

/-- The tests of a list that are not test `j` leave its counts and its DTC. -/
theorem runTests_other (k : Fin 16) (value : Int) {j : Fin 5} {l : List (Fin 5 × Bool × Bool)} (h : ∀ t ∈ l, t.1 ≠ j) (d : Dev) :
    (∃ learn runs, (d.runTests k value l).meas.speakers[k] = { d.meas.speakers[k] with learn := learn, runs := runs } ∧
      runs[j] = d.meas.speakers[k].runs[j]) ∧
    failedIn (d.runTests k value l).meas.dtcs (speakerDtc k (j.val + 1)) = failedIn d.meas.dtcs (speakerDtc k (j.val + 1)) := by
  induction l generalizing d with
  | nil => exact ⟨⟨_, _, rfl, rfl⟩, rfl⟩
  | cons t l ih =>
    obtain ⟨i, runs, fails⟩ := t
    obtain ⟨hij, hl⟩ := List.forall_mem_cons.mp h
    have hcount (failed : Bool) : (∃ learn runs, (d.countTest k i failed value).meas.speakers[k] =
        { d.meas.speakers[k] with learn := learn, runs := runs } ∧ runs[j] = d.meas.speakers[k].runs[j]) ∧
        failedIn (d.countTest k i failed value).meas.dtcs (speakerDtc k (j.val + 1)) =
          failedIn d.meas.dtcs (speakerDtc k (j.val + 1)) := by
      obtain ⟨learn, hspeaker⟩ := (d.countTest_judged k i failed value).speaker
      refine ⟨⟨learn, upd d.meas.speakers[k].runs i (counted failed), ?_, upd_other _ hij _⟩, ?_⟩
      · rw [hspeaker, withCount, modSpeaker_meas, upd_same]
      · exact d.countTest_failed_other k (Ne.symm hij) failed value
    unfold runTests
    split
    · exact ih hl d
    · split
      · exact hcount true
      · obtain ⟨⟨learn, counts, hspeaker, hcounts⟩, hfailed⟩ := hcount false
        obtain ⟨⟨learn', counts', hspeaker', hcounts'⟩, hfailed'⟩ := ih hl (d.countTest k i false value)
        refine ⟨⟨learn', counts', ?_, ?_⟩, hfailed'.trans hfailed⟩
        · rw [hspeaker', hspeaker]
        · rw [hcounts', hspeaker, hcounts]

/-! ### The end of a slot (R291–R295) -/

theorem slotReject_speaker (d : Dev) (k : Fin 16) (why : Nat) :
    let x := d.meas.speakers[k]
    ∃ learn, (d.slotReject k why).meas.speakers[k] = { x with
      lastReject := why, rejected := wrapInc 16 x.rejected, staleRun := if why = 4 then x.staleRun + 1 else x.staleRun,
      acceptRun := if why = 4 then 0 else x.acceptRun, learn := learn } := by
  unfold slotReject
  extract_lets x y e
  have hx : e.meas.speakers[k] = { x with
      lastReject := why, rejected := wrapInc 16 x.rejected, staleRun := if why = 4 then x.staleRun + 1 else x.staleRun,
      acceptRun := if why = 4 then 0 else x.acceptRun } := upd_same ..
  have hjudged : Judged k e (if why ≠ 4 then e else if x.staleRun + 1 ≥ 4 then e.speakerQualify k 6 0
      else e.testDone (speakerDtc k 6)) := by
    split
    · exact .refl k e
    · split
      · exact speakerQualify_judged ..
      · exact testDone_judged ..
  obtain ⟨learn, hlearn⟩ := hjudged.speaker
  exact ⟨learn, by rw [hlearn, hx]⟩

/-- The fourth rejection in a row for want of sense data qualifies its DTC. -/
theorem slotReject_stale {d : Dev} {k : Fin 16} (h : 3 ≤ d.meas.speakers[k].staleRun) :
    failedIn (d.slotReject k 4).meas.dtcs (speakerDtc k 6) = true := by
  unfold slotReject
  dsimp only
  rw [if_neg (by simp), if_pos (by omega), failedIn_speakerQualify, decide_eq_true rfl, Bool.true_or]

/-- The device with the result of an accepted slot, its tests not run yet. -/
def withResult (d : Dev) (k : Fin 16) : Dev :=
  let x := d.meas.speakers[k]
  let w := d.meas.watch[k]
  let z := impedance x.setup w
  let phase := slotPhase (pilotOf d.ks.rate).1 x.setup w
  d.modSpeaker k fun x => { x with
    lastZ := z, lastPhase := phase, accepted := wrapInc 16 x.accepted, staleRun := 0,
    acceptRun := x.acceptRun + 1,
    learn := x.learn.map fun l => if l.count < 16 then
      { l with sumZ := l.sumZ + z, sumPhase := l.sumPhase + phase, count := l.count + 1 } else l }

/-- The measurement of a slot shows a short (Table 11.4). -/
def slotShort (d : Dev) (k : Fin 16) : Bool :=
  impedance d.meas.speakers[k].setup d.meas.watch[k] < 10 * d.meas.speakers[k].setup.shortOhm || d.meas.watch[k].overcurrent

theorem slotShort_iff {d : Dev} {k : Fin 16} : d.slotShort k = true ↔
    impedance d.meas.speakers[k].setup d.meas.watch[k] < 10 * d.meas.speakers[k].setup.shortOhm ∨
      d.meas.watch[k].overcurrent = true := by
  simp [slotShort]

/-- The tests of Table 11.4 but the first, on the measurement of a slot. -/
def otherTests (d : Dev) (k : Fin 16) : List (Fin 5 × Bool × Bool) :=
  let x := d.meas.speakers[k]
  let w := d.meas.watch[k]
  let tests := slotTests x (impedance x.setup w) (slotPhase (pilotOf d.ks.rate).1 x.setup w) w.overcurrent
  [1, 2, 3, 4].map fun j => (j, tests.getD j.val (false, false))

theorem withResult_speaker (d : Dev) (k : Fin 16) :
    let x := d.meas.speakers[k]
    let w := d.meas.watch[k]
    let z := impedance x.setup w
    let phase := slotPhase (pilotOf d.ks.rate).1 x.setup w
    ∃ learn, (d.withResult k).meas.speakers[k] = { x with
      lastZ := z, lastPhase := phase, accepted := wrapInc 16 x.accepted, staleRun := 0, acceptRun := x.acceptRun + 1,
      learn := learn } :=
  ⟨_, upd_same ..⟩

theorem withResult_runs (d : Dev) (k : Fin 16) : (d.withResult k).meas.speakers[k].runs = d.meas.speakers[k].runs := by
  obtain ⟨learn, hspeaker⟩ := d.withResult_speaker k
  rw [hspeaker]

theorem withResult_setup (d : Dev) (k : Fin 16) : (d.withResult k).meas.speakers[k].setup = d.meas.speakers[k].setup := by
  obtain ⟨learn, hspeaker⟩ := d.withResult_speaker k
  rw [hspeaker]

/-- An accepted slot counts the test for a short first, and the others only where that passes (R293). -/
theorem slotAccept_eq (d : Dev) (k : Fin 16) : ∃ e z, Judged k (d.withResult k) e ∧ d.slotAccept k =
    if d.slotShort k then e.countTest k 0 true z else (e.countTest k 0 false z).runTests k z (d.otherTests k) := by
  have hjudged : Judged k (d.withResult k) (if d.meas.speakers[k].acceptRun + 1 ≥ 8
      then (d.withResult k).testPassed (speakerDtc k 6) else (d.withResult k).testDone (speakerDtc k 6)) := by
    split
    · exact testPassed_judged ..
    · exact testDone_judged ..
  exact ⟨_, _, hjudged, rfl⟩

/-- The test for a short on a result, whatever is judged before it. -/
theorem countShort_speaker {d e : Dev} {k : Fin 16} (h : Judged k (d.withResult k) e) (failed : Bool) (z : Int) :
    ∃ learn, (e.countTest k 0 failed z).meas.speakers[k] = { (d.withResult k).meas.speakers[k] with
      learn := learn, runs := upd d.meas.speakers[k].runs 0 (counted failed) } := by
  obtain ⟨learn, hbefore⟩ := h.speaker
  obtain ⟨learn', hafter⟩ := (e.countTest_judged k 0 failed z).speaker
  exact ⟨learn', by rw [hafter, withCount, modSpeaker_meas, upd_same, hbefore, withResult_runs]⟩

theorem slotAccept_short {d : Dev} {k : Fin 16} (h : d.slotShort k = true) :
    let x := d.meas.speakers[k]
    (∃ learn, (d.slotAccept k).meas.speakers[k] =
      { (d.withResult k).meas.speakers[k] with learn := learn, runs := upd x.runs 0 (counted true) }) ∧
    (x.setup.failN ≤ x.runs[(0 : Fin 5)].fails + 1 → failedIn (d.slotAccept k).meas.dtcs (speakerDtc k 1) = true) := by
  obtain ⟨e, z, hjudged, heq⟩ := d.slotAccept_eq k
  rw [heq, if_pos h]
  refine ⟨countShort_speaker hjudged true z, fun hneed => ?_⟩
  obtain ⟨learn, hspeaker⟩ := hjudged.speaker
  rw [← withResult_setup, ← withResult_runs] at hneed
  rw [countTest_eq, hspeaker, if_pos ⟨rfl, hneed⟩, failedIn_speakerQualify]
  simp

theorem slotAccept_good {d : Dev} {k : Fin 16} (h : d.slotShort k = false) :
    let x := d.meas.speakers[k]
    (∃ learn runs, (d.slotAccept k).meas.speakers[k] =
      { (d.withResult k).meas.speakers[k] with learn := learn, runs := runs } ∧
      runs[(0 : Fin 5)] = counted false x.runs[(0 : Fin 5)]) ∧
    (x.setup.passN ≤ x.runs[(0 : Fin 5)].passes + 1 → failedIn (d.slotAccept k).meas.dtcs (speakerDtc k 1) = false) := by
  obtain ⟨e, z, hjudged, heq⟩ := d.slotAccept_eq k
  have hothers : ∀ t ∈ d.otherTests k, t.1 ≠ (0 : Fin 5) := by simp [otherTests]
  obtain ⟨⟨learn, runs, hspeaker, hruns⟩, hfailed⟩ := runTests_other k z hothers (e.countTest k 0 false z)
  obtain ⟨learn', hfirst⟩ := countShort_speaker hjudged false z
  rw [heq, if_neg (by simp [h])]
  refine ⟨⟨learn, runs, by rw [hspeaker, hfirst], by rw [hruns, hfirst, upd_same]⟩, fun hneed => hfailed.trans ?_⟩
  obtain ⟨learn, hspeaker⟩ := hjudged.speaker
  rw [← withResult_setup, ← withResult_runs] at hneed
  rw [countTest_eq, hspeaker, if_neg (by simp), if_pos ⟨rfl, hneed⟩]
  simp

/-! ### The rows of a slot -/

theorem slotEnd_disabled {d : Dev} {k : Fin 16} (h : d.meas.speakers[k].setup.enable = false) : d.slotEnd k = d :=
  if_pos (by simpa using h)

theorem slotEnd_enabled {d : Dev} {k : Fin 16} (h : d.meas.speakers[k].setup.enable = true) :
    let e := if d.rejection k ≠ 0 then d.slotReject k (d.rejection k) else d.slotAccept k
    (d.slotEnd k).meas.speakers = e.meas.speakers ∧ (d.slotEnd k).meas.dtcs = e.meas.dtcs ∧
      (d.slotEnd k).meas.watch[k] = freshWatch 0 := by
  have heq : d.slotEnd k = (if d.rejection k ≠ 0 then d.slotReject k (d.rejection k) else d.slotAccept k).modMeas fun m =>
      { m with watch := m.watch.set k (freshWatch 0) } := if_neg (by simpa using h)
  rw [heq]
  exact ⟨rfl, rfl, Vector.getElem_set_self _⟩

end Dev
end Sys2Proof.Machine
end

section
/-!
# The DC-resistance test, learning and foldback (R295–R299)
-/
namespace Sys2Proof.Machine
namespace Dev

/-! ### The DC-resistance test -/

theorem dcAt_of_head {d : Dev} {k : Fin 16} {t : DcTest} (htest : d.meas.dcTest = some t) (hhead : t.queue.head? = some k) :
    d.dcAt k t.started = true := by
  simp [dcAt, htest, hhead]

theorem dcNext_meas {d : Dev} {t : DcTest} (h : d.meas.dcTest = some t) (k : Fin 16) (outcome : Nat) :
    (d.dcNext k outcome).meas = { d.meas with
      speakers := upd d.meas.speakers k fun x => { x with dcOutcome := outcome }
      dcTest := if (t.queue.drop 1).isEmpty then none else some { t with queue := t.queue.drop 1, started := false } } := by
  unfold dcNext
  rw [h]
  dsimp only
  split <;> simp

theorem dcNotQuiet_act {d : Dev} {k : Fin 16} (h : d.dcAt k false = true) : d.dcNotQuiet k = d.dcNext k 6 := if_pos h

theorem dcStart_loud {d : Dev} {k : Fin 16} (h : d.dcQuiet k = false) : d.dcStart k = d :=
  if_neg (by simp [h])

theorem dcStart_quiet {d : Dev} {k : Fin 16} {t : DcTest} (htest : d.meas.dcTest = some t) (hat : d.dcAt k false = true)
    (hquiet : d.dcQuiet k = true) (hslot : d.slotNumber % 16 ≠ k.val) (hdriving : d.driving = none)
    (hinhibit : d.sup.nvwInhibit = false) : d.dcStart k = { d with meas := { d.meas with
      dcTest := some { t with started := true }, drive := some ⟨k, d.cc, ⟨0, 0, 0⟩, ⟨0, 0, 0⟩, none⟩ } } := by
  unfold dcStart
  rw [if_pos ⟨hat, hquiet, hslot, hdriving, by simp [hinhibit]⟩, modMeas, htest]
  rfl

theorem dcFollow_judged (d : Dev) (k : Fin 16) (n : Nat) (failed : Bool) (z : Nat) : Judged k d (d.dcFollow k n failed z) := by
  cases failed with
  | true => exact speakerQualify_judged ..
  | false => exact testPassed_judged ..

@[simp] theorem failedIn_dcFollow (d : Dev) (k : Fin 16) (n c : Nat) (failed : Bool) (z : Nat) :
    failedIn (d.dcFollow k n failed z).meas.dtcs c = if c = speakerDtc k n then failed else failedIn d.meas.dtcs c := by
  unfold dcFollow
  cases failed <;> by_cases hc : c = speakerDtc k n <;> simp [hc]

/-- The device with the resistance of a test that has run to its end, its tests not judged yet. -/
def withRdc (d : Dev) (k : Fin 16) (z : Nat) : Dev :=
  (d.modMeas fun m => { m with drive := none }).modSpeaker k fun x => { x with rdc := z }

/-- The device when the resistance is judged (R298). -/
def dcJudged (d : Dev) (k : Fin 16) (z : Nat) : Dev :=
  let x := d.meas.speakers[k]
  let e := ((d.withRdc k z).dcFollow k 0x11 (z < 10 * x.setup.dcShort) z).dcFollow k 0x12 (z > 10 * x.setup.dcOpen) z
  if x.dcBaseline.isSome then
    e.dcFollow k 0x15 (x.dcBaseline.any fun b => ((z : Int) - b).natAbs * 100 > b * x.setup.dcDriftPct) z
  else e

/-- The outcome of a resistance (MEAS_RESULT). -/
def dcOutcomeOf (x : Speaker) (z : Nat) : Nat :=
  if z < 10 * x.setup.dcShort then 2 else if z > 10 * x.setup.dcOpen then 3
  else if x.dcBaseline.any fun b => ((z : Int) - b).natAbs * 100 > b * x.setup.dcDriftPct then 4 else 1

theorem dcJudged_judged (d : Dev) (k : Fin 16) (z : Nat) : Judged k (d.withRdc k z) (d.dcJudged k z) := by
  have hboth := (dcFollow_judged (d.withRdc k z) k 0x11 (z < 10 * d.meas.speakers[k].setup.dcShort) z).trans
    (dcFollow_judged _ k 0x12 (z > 10 * d.meas.speakers[k].setup.dcOpen) z)
  unfold dcJudged
  dsimp only
  split
  · exact hboth.trans (dcFollow_judged ..)
  · exact hboth

theorem dcJudged_failed (d : Dev) (k : Fin 16) (z : Nat) :
    failedIn (d.dcJudged k z).meas.dtcs (speakerDtc k 0x11) = decide (z < 10 * d.meas.speakers[k].setup.dcShort) ∧
    failedIn (d.dcJudged k z).meas.dtcs (speakerDtc k 0x12) = decide (z > 10 * d.meas.speakers[k].setup.dcOpen) := by
  unfold dcJudged
  dsimp only
  split <;> simp [speakerDtc_inj]

theorem dcDone_early {d : Dev} {k : Fin 16} {y : DcDrive} (hdrive : d.meas.drive = some y)
    (htime : d.nsSince y.start < 120000000) : d.dcDone k = d := by
  unfold dcDone
  rw [hdrive]
  exact if_pos (.inr (.inr htime))

theorem dcDone_eq {d : Dev} {k : Fin 16} {y : DcDrive} (hat : d.dcAt k true = true) (hdrive : d.meas.drive = some y)
    (habort : y.abort = none) (htime : 120000000 ≤ d.nsSince y.start) :
    let z := dcResistance d.meas.speakers[k].setup y
    d.dcDone k = (d.dcJudged k z).dcNext k (dcOutcomeOf d.meas.speakers[k] z) := by
  unfold dcDone
  rw [hdrive]
  dsimp only
  rw [if_neg (by simp [hat, habort, Nat.not_lt.mpr htime])]
  simp [dcJudged, dcOutcomeOf, withRdc]

/-- What the end of a DC test leaves. -/
theorem dcDone_ends {d : Dev} {k : Fin 16} {t : DcTest} {y : DcDrive} (htest : d.meas.dcTest = some t)
    (hat : d.dcAt k true = true) (hdrive : d.meas.drive = some y) (habort : y.abort = none)
    (htime : 120000000 ≤ d.nsSince y.start) :
    let x := d.meas.speakers[k]
    let z := dcResistance x.setup y
    (∃ learn, (d.dcDone k).meas.speakers[k] = { x with rdc := z, dcOutcome := dcOutcomeOf x z, learn := learn }) ∧
    (d.dcDone k).meas.drive = none ∧
    failedIn (d.dcDone k).meas.dtcs (speakerDtc k 0x11) = decide (z < 10 * x.setup.dcShort) ∧
    failedIn (d.dcDone k).meas.dtcs (speakerDtc k 0x12) = decide (z > 10 * x.setup.dcOpen) := by
  intro x z
  obtain ⟨⟨learn, hspeaker⟩, hnext, hnone⟩ := d.dcJudged_judged k z
  rw [dcDone_eq hat hdrive habort htime, dcNext_meas (hnext.trans htest)]
  refine ⟨⟨learn, ?_⟩, hnone, d.dcJudged_failed k z⟩
  rw [upd_same, hspeaker, withRdc, modSpeaker_meas, upd_same]
  rfl

theorem dcAbort_rest {d : Dev} {k : Fin 16} {c : DcAbort} (h : d.dcCause k c = false) : d.dcAbort k c = d :=
  if_neg (by simp [h])

theorem dcAbort_act {d : Dev} {k : Fin 16} {t : DcTest} {c : DcAbort} (htest : d.meas.dcTest = some t)
    (hat : d.dcAt k true = true) (hcause : d.dcCause k c = true) :
    (d.dcAbort k c).meas.speakers[k].dcOutcome = abortCode c ∧
      (d.dcAbort k c).meas.drive = d.meas.drive.map fun x => { x with abort := some (d.dcLevelNow x, d.cc) } := by
  unfold dcAbort
  rw [if_pos ⟨hat, hcause⟩]
  dsimp only
  rw [dcNext_meas (t := t)]
  · exact ⟨by simp, rfl⟩
  · exact htest

/-! ### Learning -/

theorem learnDone_early {d : Dev} {k : Fin 16} {l : Learn} (hlearn : d.meas.speakers[k].learn = some l) (h : l.count < 16) :
    d.learnDone k = d := by
  unfold learnDone
  rw [hlearn]
  exact if_pos h

theorem learnDone_meas {d : Dev} {k : Fin 16} {l : Learn} (hlearn : d.meas.speakers[k].learn = some l) (h : 16 ≤ l.count) :
    (d.learnDone k).meas = { d.meas with speakers := upd d.meas.speakers k fun x => { x with
      learn := none, baseline := some ((narrow l.sumZ 16).toNat, narrow l.sumPhase 16) } } := by
  unfold learnDone
  rw [hlearn]
  dsimp only
  rw [if_neg (Nat.not_lt.mpr h)]
  split <;> simp

theorem learnTimeout_meas {d : Dev} {k : Fin 16} {l : Learn} (hlearn : d.meas.speakers[k].learn = some l) (h : l.count < 16) :
    (d.learnTimeout k).meas = { d.meas with speakers := upd d.meas.speakers k fun x => { x with learn := none } } := by
  unfold learnTimeout
  rw [if_pos (by rw [hlearn]; simpa using h), learnRefused_meas]

/-! ### Foldback -/

/-- What a step for each entry of a table leaves of the entry `j`: the steps of the others leave it, and what the steps
read of the device (`P`) stays. -/
theorem foldl_entry {α : Type} {n : Nat} {f : Dev → Fin n → Dev} {table : Dev → Vector α n} {g : Fin n → α → α} {P : Dev → Prop}
    (hstep : ∀ d k, P d → P (f d k) ∧ table (f d k) = upd (table d) k (g k)) {l : List (Fin n)} (hl : l.Nodup) {d : Dev}
    (hd : P d) (j : Fin n) : (table (l.foldl f d))[j] = if j ∈ l then g j (table d)[j] else (table d)[j] := by
  induction l generalizing d with
  | nil => rfl
  | cons k l ih =>
    obtain ⟨hk, hl⟩ := List.nodup_cons.mp hl
    obtain ⟨hP, htable⟩ := hstep d k hd
    rw [List.foldl_cons, ih hl hP, htable]
    by_cases hkj : k = j
    · subst hkj
      simp [hk]
    · simp [upd_other _ hkj, Ne.symm hkj, -Fin.getElem_fin]

theorem foldl_allFin_entry {α : Type} {n : Nat} {f : Dev → Fin n → Dev} {table : Dev → Vector α n} {g : Fin n → α → α}
    {P : Dev → Prop} (hstep : ∀ d k, P d → P (f d k) ∧ table (f d k) = upd (table d) k (g k)) {d : Dev} (hd : P d) (j : Fin n) :
    (table ((allFin n).foldl f d))[j] = g j (table d)[j] := by
  rw [foldl_entry hstep (List.nodup_finRange n) hd, if_pos (List.mem_finRange j)]

/-- What an amplifier asks for at the evaluation (R299). -/
def ampDemand (c : MeasConfig) (a : Amp) : Nat :=
  let byTemp := (a.maxTemp.map (4 * ·)).elim 0 (foldDemandOf c.ampSlope c.ampStart)
  if a.warned then max byTemp c.warnFold else byTemp

/-- An amplifier after the evaluation, `tagged` where an enabled tagged speaker is on it. -/
def foldedAmp (c : MeasConfig) (tagged : Bool) (a : Amp) : Amp := { a with
  fold := if tagged then foldNext a.fold (ampDemand c a) (a.maxTemp.map (4 * ·)) else { a.fold with target := 0 }
  maxTemp := none, warned := false, temp := a.maxTemp, warning := a.warned }

theorem ite_foldEvent_meas (c : Prop) [Decidable c] (d : Dev) (amp : Nat) (die : Bool) (target : Nat) :
    (if c then d else d.foldEvent amp die target).meas = d.meas := by
  split
  · rfl
  · exact foldEvent_meas ..

theorem ite_foldEvent_route (c : Prop) [Decidable c] (d : Dev) (amp : Nat) (die : Bool) (target : Nat) :
    (if c then d else d.foldEvent amp die target).route = d.route := by
  split
  · rfl
  · exact push_route ..

theorem foldAmp_meas (d : Dev) (k : Fin 4) : (d.foldAmp k).meas =
    { d.meas with amps := upd d.meas.amps k (foldedAmp d.meas.config (d.hasTagged k)) } := by
  unfold foldAmp
  dsimp only
  rw [ite_foldEvent_meas]
  rfl

theorem foldEval_amp (d : Dev) (k : Fin 4) :
    d.foldEval.meas.amps[k] = foldedAmp d.meas.config (d.hasTagged k) d.meas.amps[k] := by
  have hamps : d.foldEval.meas.amps = ((allFin 4).foldl foldAmp d).meas.amps := by
    unfold foldEval
    dsimp only
    rw [ite_foldEvent_meas, modMeas_meas]
  rw [hamps]
  refine foldl_allFin_entry (table := fun e => e.meas.amps) (g := fun k => foldedAmp d.meas.config (d.hasTagged k))
    (P := fun e => e.meas.config = d.meas.config ∧ ∀ k, e.hasTagged k = d.hasTagged k) ?_ ⟨rfl, fun _ => rfl⟩ k
  rintro e k ⟨hconfig, htagged⟩
  have hroute : (e.foldAmp k).route = e.route := by
    unfold foldAmp
    dsimp only
    rw [ite_foldEvent_route, modAmp_route]
  have hsame (j : Fin 4) : (e.foldAmp k).hasTagged j = e.hasTagged j := by simp only [hasTagged, foldAmp_meas, hroute]
  refine ⟨⟨?_, fun j => (hsame j).trans (htagged j)⟩, ?_⟩
  · rw [foldAmp_meas, hconfig]
  · rw [foldAmp_meas, hconfig, htagged]

theorem narrow_four_mul (x : Int) : narrow (4 * x) 4 = x := by
  unfold narrow
  rw [if_pos (by simp)]
  simp

theorem ampDemand_eq (c : MeasConfig) (a : Amp) : ampDemand c a =
    let byTemp := a.maxTemp.elim 0 fun t => (clampI 0 240 ((c.ampSlope : Int) * (t - c.ampStart))).toNat
    if a.warned then max byTemp c.warnFold else byTemp := by
  have hdemand (t : Int) : foldDemandOf c.ampSlope c.ampStart (4 * t) =
      (clampI 0 240 ((c.ampSlope : Int) * (t - c.ampStart))).toNat := by
    unfold foldDemandOf
    rw [← mul_sub, mul_left_comm, narrow_four_mul]
  unfold ampDemand
  cases a.maxTemp with
  | none => rfl
  | some t => simp [hdemand]

theorem foldNext_lower {f : Foldback} {demand : Nat} (h : f.target < demand) (temp : Option Int) :
    foldNext f demand temp = ⟨demand, temp.getD f.temp⟩ := if_pos h

theorem foldNext_raise {f : Foldback} {demand : Nat} (h : demand < f.target) (temp : Option Int) :
    (foldNext f demand temp).target = if temp.all (· + 8 ≤ f.temp) then demand else f.target := by
  unfold foldNext
  rw [if_neg (by omega)]
  split
  case isTrue hcool => rw [if_pos hcool.2]
  case isFalse hwarm => rw [if_neg fun hcool => hwarm ⟨h, hcool⟩]

theorem foldNext_same {f : Foldback} {demand : Nat} (h : demand = f.target) (temp : Option Int) : foldNext f demand temp = f := by
  unfold foldNext
  rw [if_neg (by omega), if_neg (by omega)]

theorem foldLimit_failed (d : Dev) (k : Fin 4) :
    failedIn (d.foldLimit (.amp k)).meas.dtcs (0xC20004 + 256 * k.val) = (d.meas.amps[k].fold.target == 240) := by
  unfold foldLimit
  rw [failedIn_follow, if_pos rfl]

theorem foldLimit_die_failed (d : Dev) :
    failedIn (d.foldLimit .die).meas.dtcs 0xC30001 = (d.meas.die.target == 240) := by
  unfold foldLimit
  rw [failedIn_follow, if_pos rfl]

end Dev
end Sys2Proof.Machine
end

section
/-!
# The I2C buses (R302, R304)
-/
namespace Sys2Proof.Machine

/-- The amplifier and the kind of a script, whatever its place in its steps. -/
def BusJob.owner : BusJob → Option (Fin 4 × ScriptKind)
  | .script a kind _ _ _ _ => some (a, kind)
  | .transfer .. => none

namespace Dev

/-! ### A bus that settles -/

/-- The buses when one has passed over the steps that need no transfer. -/
def settledBuses (d : Dev) (b : Fin 2) : Vector Bus 2 := (d.settleBus b).meas.buses

@[simp] theorem settleBus_meas (d : Dev) (b : Fin 2) : (d.settleBus b).meas = { d.meas with buses := d.settledBuses b } := rfl

@[simp] theorem settleBus_mail (d : Dev) (b : Fin 2) : (d.settleBus b).mail = d.mail := rfl

theorem settledBuses_other (d : Dev) {b c : Fin 2} (h : b ≠ c) : (d.settledBuses b)[c] = d.meas.buses[c] := upd_other _ h _

/-- Where the job in progress does not run, nothing moves. -/
theorem settledBuses_rest {d : Dev} {b : Fin 2}
    (h : ∀ k kind step fails reply t, d.meas.buses[b].jobs ≠ .script k kind step fails none reply :: t) :
    (d.settledBuses b)[b] = d.meas.buses[b] := by
  unfold settledBuses settleBus
  rw [modBus_meas, upd_same]
  split
  case h_1 heq => exact absurd heq (h _ _ _ _ _ _)
  case h_2 => rfl

/-- Where it runs, its bus passes over its idle steps. -/
theorem settledBuses_run {d : Dev} {b : Fin 2} {k : Fin 4} {kind : ScriptKind} {step fails : Nat} {reply : Option Byte}
    {t : List BusJob} (h : d.meas.buses[b].jobs = .script k kind step fails none reply :: t) :
    let idle := ((d.scriptSteps k kind).drop step).takeWhile (d.stepIdle k)
    let next := step + idle.length
    let wait := 500000 * (idle.map (·.delayMs)).sum
    (d.settledBuses b)[b] = { d.meas.buses[b] with
      jobs := .script k kind next fails (if next ≥ (d.scriptSteps k kind).length then some true else none) reply :: t
      delayEnd := if wait = 0 then d.meas.buses[b].delayEnd else max d.meas.buses[b].delayEnd d.cc + wait } := by
  unfold settledBuses settleBus
  rw [modBus_meas, upd_same, h]

/-- A script that stands at a transfer stays there. -/
theorem settledBuses_transfer {d : Dev} {b : Fin 2} {k : Fin 4} {kind : ScriptKind} {step fails : Nat} {reply : Option Byte}
    {t : List BusJob} {y : ScriptStep} (h : d.meas.buses[b].jobs = .script k kind step fails none reply :: t)
    (hy : (d.scriptSteps k kind)[step]? = some y) (hop : y.op < 2) : (d.settledBuses b)[b] = d.meas.buses[b] := by
  obtain ⟨hlt, hget⟩ := List.getElem?_eq_some_iff.mp hy
  have hidle : ((d.scriptSteps k kind).drop step).takeWhile (d.stepIdle k) = [] := by
    rw [List.drop_eq_getElem_cons hlt, hget, List.takeWhile_cons_of_neg]
    have hdelay : y.op ≠ 2 := by omega
    have hwait : y.op ≠ 3 := by omega
    simp [stepIdle, hdelay, hwait]
  rw [settledBuses_run h, hidle, List.length_nil, if_neg (by omega), Nat.add_zero, ← h]
  rfl

/-- A script past its last step has ended. -/
theorem settledBuses_ended {d : Dev} {b : Fin 2} {k : Fin 4} {kind : ScriptKind} {step fails : Nat} {reply : Option Byte}
    {t : List BusJob} (h : d.meas.buses[b].jobs = .script k kind step fails none reply :: t)
    (hend : (d.scriptSteps k kind)[step]? = none) :
    (d.settledBuses b)[b] = { d.meas.buses[b] with jobs := .script k kind step fails (some true) reply :: t } := by
  have hpast := List.getElem?_eq_none_iff.mp hend
  rw [settledBuses_run h, List.drop_eq_nil_of_le hpast, List.takeWhile_nil, List.length_nil, if_pos (by omega)]
  rfl

theorem settledBuses_owners (d : Dev) (b c : Fin 2) :
    (d.settledBuses b)[c].jobs.map BusJob.owner = d.meas.buses[c].jobs.map BusJob.owner := by
  by_cases hbc : b = c
  · subst hbc
    by_cases hrun : ∃ k kind step fails reply t, d.meas.buses[b].jobs = .script k kind step fails none reply :: t
    · obtain ⟨k, kind, step, fails, reply, t, hjobs⟩ := hrun
      rw [settledBuses_run hjobs, hjobs]
      rfl
    · rw [settledBuses_rest (by simpa using hrun)]
  · rw [settledBuses_other d hbc]

theorem settledBuses_length (d : Dev) (b c : Fin 2) : (d.settledBuses b)[c].jobs.length = d.meas.buses[c].jobs.length := by
  rw [← List.length_map BusJob.owner, settledBuses_owners, List.length_map]

/-- A bus that is given other jobs, and settles. -/
theorem settledBuses_modBus_length (d : Dev) (b : Fin 2) (f : Bus → Bus) :
    ((d.modBus b f).settledBuses b)[b].jobs.length = (f d.meas.buses[b]).jobs.length := by
  rw [settledBuses_length, modBus_meas, upd_same]

theorem settledBuses_modBus_other (d : Dev) {b c : Fin 2} (h : b ≠ c) (f : Bus → Bus) :
    ((d.modBus b f).settledBuses b)[c] = d.meas.buses[c] := by
  rw [settledBuses_other _ h, modBus_meas, upd_other _ h]

theorem settledBuses_flags (d : Dev) (b c : Fin 2) :
    (d.settledBuses b)[c].stuck = d.meas.buses[c].stuck ∧ (d.settledBuses b)[c].retrying = d.meas.buses[c].retrying := by
  by_cases hbc : b = c
  · subst hbc
    by_cases hrun : ∃ k kind step fails reply t, d.meas.buses[b].jobs = .script k kind step fails none reply :: t
    · obtain ⟨k, kind, step, fails, reply, t, hjobs⟩ := hrun
      rw [settledBuses_run hjobs]
      exact ⟨rfl, rfl⟩
    · rw [settledBuses_rest (by simpa using hrun)]
      exact ⟨rfl, rfl⟩
  · rw [settledBuses_other d hbc]
    exact ⟨rfl, rfl⟩

/-! ### A script that is requested -/

theorem scriptBusy_iff {d : Dev} {k : Fin 4} {kind : ScriptKind} :
    d.scriptBusy k (some kind) = true ↔ ∃ b : Fin 2, some (k, kind) ∈ d.meas.buses[b].jobs.map BusJob.owner := by
  unfold scriptBusy
  simp only [Vector.any_eq_true, List.any_eq_true, List.mem_map]
  constructor
  · rintro ⟨b, hb, j, hj, hmatch⟩
    refine ⟨⟨b, hb⟩, j, hj, ?_⟩
    cases j with
    | script a kind' =>
      obtain ⟨rfl, rfl⟩ : a = k ∧ kind = kind' := by simpa using hmatch
      rfl
    | transfer => cases hmatch
  · rintro ⟨b, j, hj, howner⟩
    refine ⟨b, b.isLt, j, hj, ?_⟩
    cases j with
    | script a kind' =>
      obtain ⟨rfl, rfl⟩ : a = k ∧ kind' = kind := by simpa [BusJob.owner] using howner
      simp
    | transfer => cases howner

theorem addJob_meas (d : Dev) (b : Fin 2) (j : BusJob) : ∃ buses, (d.addJob b j).meas = { d.meas with buses := buses } ∧
    buses[b].jobs.map BusJob.owner = d.meas.buses[b].jobs.map BusJob.owner ++ [j.owner] := by
  unfold addJob
  dsimp only
  split
  · refine ⟨_, settleBus_meas .., ?_⟩
    rw [settledBuses_owners, modBus_meas, upd_same]
    simp
  · exact ⟨_, modBus_meas .., by simp⟩

theorem requestScript_meas {d : Dev} {k : Fin 4} {kind : ScriptKind} (h : d.scriptOf k kind ≠ none) (reply : Option Byte) :
    (d.requestScript k kind reply).meas.amps = d.meas.amps ∧ (d.requestScript k kind reply).scriptBusy k (some kind) = true := by
  unfold requestScript
  split
  case h_1 hnone => exact absurd hnone h
  case h_2 s _ =>
    obtain ⟨buses, hmeas, howners⟩ := d.addJob_meas s.bus
      (.script k kind 0 0 (if d.meas.buses[s.bus].stuck ∧ kind = .user then some false else none) reply)
    refine ⟨by rw [hmeas], scriptBusy_iff.mpr ⟨s.bus, ?_⟩⟩
    rw [hmeas, howners]
    simp [BusJob.owner]

end Dev
end Sys2Proof.Machine
end

section
/-!
# Amplifier faults and scripts (R300, R301, R304)
-/
namespace Sys2Proof.Machine
namespace Dev

@[simp] theorem dtcEvent_sup (d : Dev) (x : Dtc) : (d.dtcEvent x).sup = d.sup := push_sup ..

@[simp] theorem qualify_sup (d : Dev) (code : Nat) (value : Int) : (d.qualify code value).sup = d.sup := by
  unfold qualify
  dsimp only
  split
  · rfl
  · exact dtcEvent_sup ..

@[simp] theorem testPassed_sup (d : Dev) (code : Nat) : (d.testPassed code).sup = d.sup := by
  unfold testPassed
  dsimp only
  split
  · rfl
  · split
    · exact dtcEvent_sup ..
    · rfl

@[simp] theorem scriptEvent_sup (d : Dev) (k : Fin 4) (kind : ScriptKind) (failed : Bool) (step : Nat) :
    (d.scriptEvent k kind failed step).sup = d.sup := push_sup ..

/-! ### A fault -/

/-- What a fault of an amplifier does to one bus: the running script of the amplifier leaves it. -/
def abortBus (d : Dev) (k : Fin 4) (b : Fin 2) : Dev :=
  match d.meas.buses[b].jobs with
  | .script a _ _ _ _ reply :: t =>
    if a = k then
      let d := (d.modBus b fun x => { x with jobs := t, retrying := false, delayEnd := d.cc }).settleBus b
      match reply with
      | some tag => d.opDone 0x080A 0x22 tag
      | none => d
    else d
  | _ => d

theorem abortScripts_eq (d : Dev) (k : Fin 4) : d.abortScripts k = (d.abortBus k 0).abortBus k 1 := rfl

/-- The jobs of a bus whose running script, if it is one of the amplifier's, is aborted. -/
def Aborted (k : Fin 4) (old new : Bus) : Prop :=
  ∀ kind step fails ended reply l, old.jobs = .script k kind step fails ended reply :: l → new.jobs.length = l.length

theorem abortBus_meas (d : Dev) (k : Fin 4) (b : Fin 2) : ∃ buses, (d.abortBus k b).meas = { d.meas with buses := buses } ∧
    Aborted k d.meas.buses[b] buses[b] ∧ ∀ c, b ≠ c → buses[c] = d.meas.buses[c] := by
  unfold abortBus
  split
  case h_1 a kind step fails ended reply t hjobs =>
    have hhead {kind' step' fails' ended' reply' l} (h : d.meas.buses[b].jobs = .script k kind' step' fails' ended' reply' :: l) :
        a = k ∧ t = l := by
      rw [hjobs] at h
      injection h with hjob htail
      injection hjob with ha
      exact ⟨ha, htail⟩
    split
    case isTrue =>
      have hlength := d.settledBuses_modBus_length b fun x => { x with jobs := t, retrying := false, delayEnd := d.cc }
      have hother (c : Fin 2) (h : b ≠ c) :=
        d.settledBuses_modBus_other h fun x => { x with jobs := t, retrying := false, delayEnd := d.cc }
      refine ⟨_, ?_, fun _ _ _ _ _ l hl => hlength.trans ?_, hother⟩
      · cases reply <;> simp
      · obtain ⟨-, rfl⟩ := hhead hl
        rfl
    case isFalse hak =>
      refine ⟨_, rfl, fun _ _ _ _ _ l hl => ?_, fun _ _ => rfl⟩
      obtain ⟨ha, -⟩ := hhead hl
      exact absurd ha hak
  case h_2 hother =>
    exact ⟨_, rfl, fun _ _ _ _ _ l hl => absurd hl (hother _ _ _ _ _ _ _), fun _ _ => rfl⟩

theorem abortScripts_meas (d : Dev) (k : Fin 4) : ∃ buses, (d.abortScripts k).meas = { d.meas with buses := buses } ∧
    ∀ b : Fin 2, Aborted k d.meas.buses[b] buses[b] := by
  obtain ⟨buses, hmeas, habort, hother⟩ := d.abortBus_meas k 0
  obtain ⟨buses', hmeas', habort', hother'⟩ := (d.abortBus k 0).abortBus_meas k 1
  rw [hmeas] at hmeas' habort' hother'
  refine ⟨buses', by rw [abortScripts_eq, hmeas'], Fin.forall_fin_two.mpr ⟨?_, ?_⟩⟩
  · rw [hother' 0 (by decide)]
    exact habort
  · rw [← hother 1 (by decide)]
    exact habort'

/-- The device in which a fault of an amplifier has set its demand, before its DTCs. -/
def withFault (d : Dev) (k : Fin 4) : Dev :=
  let e := (d.modAmp k fun a => { a with faultLow := true }).abortScripts k
  e.modAmp k fun a => { a with
    demand := true, latched := a.latched || decide (d.meas.amps[k].recoveries ≥ e.meas.config.retries) }

theorem faultAssert_eq {d : Dev} {k : Fin 4} (h : d.meas.amps[k].demand = false) :
    let e := (d.withFault k).qualify (0xC20001 + 256 * k.val) 0
    d.faultAssert k = ((if d.meas.amps[k].recoveries ≥ (d.withFault k).meas.config.retries
      then e.qualify (0xC20002 + 256 * k.val) 0 else e).ampEvent k true false).safetyEvent k true :=
  if_neg (by rw [h]; decide)

theorem withFault_meas (d : Dev) (k : Fin 4) : ∃ buses, (d.withFault k).meas = { d.meas with
      amps := upd d.meas.amps k fun a => { a with
        faultLow := true, demand := true, latched := a.latched || decide (d.meas.config.retries ≤ d.meas.amps[k].recoveries) }
      buses := buses } ∧
    ∀ b : Fin 2, Aborted k d.meas.buses[b] buses[b] := by
  obtain ⟨buses, hmeas, habort⟩ := (d.modAmp k fun a => { a with faultLow := true }).abortScripts_meas k
  refine ⟨buses, ?_, habort⟩
  unfold withFault
  simp [hmeas, upd]

/-- A fault of an amplifier that demanded no mute yet (R300). -/
theorem faultAssert_meas {d : Dev} {k : Fin 4} (h : d.meas.amps[k].demand = false) :
    (d.faultAssert k).meas.amps = (d.withFault k).meas.amps ∧ (d.faultAssert k).meas.buses = (d.withFault k).meas.buses ∧
    failedIn (d.faultAssert k).meas.dtcs (0xC20001 + 256 * k.val) = true := by
  rw [faultAssert_eq h]
  split <;> simp

theorem muteLine_of_demand {d : Dev} {k : Fin 4} (h : d.meas.amps[k].demand = true) : d.muteLine k = false := by
  unfold muteLine
  simp only [h, Bool.not_true, Bool.and_false, Bool.false_and]

theorem faultPinAssert_rest {d : Dev} {k : Fin 4}
    (h : d.gpio.source[(⟨k.val, by omega⟩ : Fin 25)] = none ∨ d.fnLevel ⟨k.val, by omega⟩ = true) : d.faultPinAssert k = d := by
  refine if_neg fun ⟨hsource, hlow⟩ => ?_
  rcases h with h | h
  · simp [h] at hsource
  · simp [h] at hlow

theorem faultPinAssert_act {d : Dev} {k : Fin 4} (hsource : d.gpio.source[(⟨k.val, by omega⟩ : Fin 25)] ≠ none)
    (hlow : d.fnLevel ⟨k.val, by omega⟩ = false) : d.faultPinAssert k = d.faultAssert k :=
  if_pos ⟨Option.isSome_iff_ne_none.mpr hsource, by simp [hlow]⟩

/-! ### The end of a demand -/

@[simp] theorem demandEnd_meas (d : Dev) (k : Fin 4) (script : Bool) :
    let e := d.modAmp k fun a => { a with demand := false, recoveries := a.recoveries + 1 }
    (d.demandEnd k script).meas = { e.meas with dtcs := e.passed (0xC20001 + 256 * k.val) } := by
  simp [demandEnd]

/-- The end of a demand counts as a recovery, and its DTC passes. -/
theorem demandEnd_amp (d : Dev) (k : Fin 4) (script : Bool) :
    (d.demandEnd k script).meas.amps[k] = { d.meas.amps[k] with demand := false, recoveries := d.meas.amps[k].recoveries + 1 } ∧
    failedIn (d.demandEnd k script).meas.dtcs (0xC20001 + 256 * k.val) = false := by
  rw [demandEnd_meas]
  exact ⟨upd_same .., by simp⟩

theorem faultHoldExpire_rest {d : Dev} {k : Fin 4} (h : d.faultHeld k = false) : d.faultHoldExpire k = d :=
  if_neg (by simp [h])

theorem faultHoldExpire_act {d : Dev} {k : Fin 4} (hdemand : d.meas.amps[k].demand = true) (hheld : d.faultHeld k = true)
    (hlatched : d.meas.amps[k].latched = false) (hbusy : d.scriptBusy k (some .fault) = false) :
    d.faultHoldExpire k = if (d.scriptOf k .fault).isSome then d.requestScript k .fault none else d.demandEnd k false :=
  if_pos ⟨hdemand, hheld, by rw [hlatched]; decide, by rw [hbusy]; decide⟩

/-! ### The end of a script -/

@[simp] theorem ampCommand_meas (d : Dev) (k : Fin 4) (muted : Bool) : (d.ampCommand k muted).meas = { d.meas with
    amps := upd d.meas.amps k fun a => if d.sup.supplyMute then { a with recorded := some muted } else { a with muted := muted } } :=
  rfl

/-- A START script that has passed releases its amplifier where AUTO_RELEASE is set. -/
theorem scriptEnd_start (d : Dev) (k : Fin 4) (step : Nat) (reply : Option Byte) :
    let e := d.testPassed (0xC20003 + 256 * k.val)
    (d.scriptEnd k .start step true reply).meas = (if d.meas.amps[k].autoRelease then e.ampCommand k false else e).meas := by
  unfold scriptEnd
  cases reply <;> simp

/-- A FAULT script that has passed ends the demand of an amplifier that is not latched. -/
theorem scriptEnd_fault (d : Dev) (k : Fin 4) (step : Nat) (reply : Option Byte) :
    let e := d.testPassed (0xC20003 + 256 * k.val)
    (d.scriptEnd k .fault step true reply).meas =
      (if d.meas.amps[k].demand ∧ ¬ d.meas.amps[k].latched then e.demandEnd k true else e).meas := by
  unfold scriptEnd
  cases reply <;> simp

theorem scriptEnd_user (d : Dev) (k : Fin 4) (step : Nat) (reply : Option Byte) :
    (d.scriptEnd k .user step true reply).meas = d.meas := by
  unfold scriptEnd
  cases reply <;> simp

/-- A script that has failed qualifies its DTC, and mutes its amplifier unless it is a USER script. -/
theorem scriptEnd_failed (d : Dev) (k : Fin 4) (kind : ScriptKind) (step : Nat) (reply : Option Byte) :
    let e := d.qualify (0xC20003 + 256 * k.val) 0
    (d.scriptEnd k kind step false reply).meas = (if kind = .user then e else e.ampCommand k true).meas := by
  unfold scriptEnd
  cases reply <;> by_cases hkind : kind = .user <;> simp [hkind]

theorem scriptEnd_start_muted {d : Dev} {k : Fin 4} (hmute : d.sup.supplyMute = false) (step : Nat) (reply : Option Byte) :
    (d.scriptEnd k .start step true reply).meas.amps[k].muted = (d.meas.amps[k].muted && !d.meas.amps[k].autoRelease) := by
  have hmeas := d.scriptEnd_start k step reply
  dsimp only at hmeas
  by_cases hauto : d.meas.amps[k].autoRelease = true
  · rw [if_pos hauto, ampCommand_meas, testPassed_sup, testPassed_meas] at hmeas
    rw [hmeas, upd_same, if_neg (by simp [hmute]), hauto, Bool.not_true, Bool.and_false]
  · rw [if_neg hauto, testPassed_meas] at hmeas
    rw [hmeas, Bool.eq_false_iff.mpr hauto, Bool.not_false, Bool.and_true]

theorem scriptEnd_fault_demand {d : Dev} {k : Fin 4} (hlatched : d.meas.amps[k].latched = false) (step : Nat)
    (reply : Option Byte) : (d.scriptEnd k .fault step true reply).meas.amps[k].demand = false := by
  have hmeas := d.scriptEnd_fault k step reply
  dsimp only at hmeas
  by_cases hdemand : d.meas.amps[k].demand = true
  · rw [if_pos ⟨hdemand, by rw [hlatched]; decide⟩] at hmeas
    obtain ⟨hamp, -⟩ := (d.testPassed (0xC20003 + 256 * k.val)).demandEnd_amp k true
    rw [hmeas, hamp]
  · rw [if_neg fun ⟨h, _⟩ => hdemand h, testPassed_meas] at hmeas
    rw [hmeas]
    exact Bool.eq_false_iff.mpr hdemand

theorem scriptEnd_failed_dtc (d : Dev) (k : Fin 4) (kind : ScriptKind) (step : Nat) (reply : Option Byte) :
    failedIn (d.scriptEnd k kind step false reply).meas.dtcs (0xC20003 + 256 * k.val) = true := by
  rw [scriptEnd_failed]
  split <;> simp

theorem scriptEnd_failed_muted (d : Dev) (k : Fin 4) {kind : ScriptKind} (hkind : kind ≠ .user) (step : Nat)
    (reply : Option Byte) :
    if d.sup.supplyMute then (d.scriptEnd k kind step false reply).meas.amps[k].recorded = some true
    else (d.scriptEnd k kind step false reply).meas.amps[k].muted = true := by
  rw [scriptEnd_failed, if_neg hkind, ampCommand_meas, upd_same, qualify_sup]
  split <;> rfl

theorem scriptEnd_buses (d : Dev) (k : Fin 4) (kind : ScriptKind) (step : Nat) (ok : Bool) (reply : Option Byte) :
    (d.scriptEnd k kind step ok reply).meas.buses = d.meas.buses := by
  cases ok with
  | false =>
    rw [scriptEnd_failed]
    split <;> simp
  | true =>
    cases kind with
    | start =>
      rw [scriptEnd_start]
      split <;> simp
    | fault =>
      rw [scriptEnd_fault]
      split <;> simp
    | user => rw [scriptEnd_user]

theorem findIdx?_unique {n : Nat} {ok : Fin n → Bool} {b : Fin n} (hb : ok b = true) (h : ∀ c, c ≠ b → ok c = false) :
    findIdx? ok = some b := by
  unfold findIdx?
  cases hfind : (allFin n).find? ok with
  | none => simpa [hb] using List.find?_eq_none.mp hfind b (List.mem_finRange b)
  | some c =>
    by_contra hne
    have hc := List.find?_some hfind
    rw [h c fun hcb => hne (by rw [hcb])] at hc
    cases hc

/-- The one script that has ended leaves its bus, and has its effect on the device so left. -/
theorem scriptDone_eq {d : Dev} {k : Fin 4} {b : Fin 2} {kind : ScriptKind} {step fails : Nat} {ok : Bool}
    {reply : Option Byte} {t : List BusJob} (hjobs : d.meas.buses[b].jobs = .script k kind step fails (some ok) reply :: t)
    (hdelay : d.meas.buses[b].delayEnd ≤ d.cc) (hothers : ∀ c : Fin 2, c ≠ b → d.meas.buses[c].jobs = []) :
    ∃ e : Dev, d.scriptDone k = e.scriptEnd k kind step ok reply ∧ e.meas.amps = d.meas.amps ∧ e.sup = d.sup ∧
      e.meas.buses[b].jobs.length = t.length := by
  refine ⟨(d.modBus b fun x => { x with jobs := t }).settleBus b, ?_, rfl, rfl, settledBuses_modBus_length ..⟩
  unfold scriptDone
  dsimp only
  rw [findIdx?_unique (b := b)]
  · dsimp only
    rw [hjobs]
  · rw [hjobs]
    simpa using hdelay
  · intro c hc
    rw [hothers c hc]
    rfl

end Dev
end Sys2Proof.Machine
end

section
/-!
# The end of a transfer, mute lines and monitors (R65, R302, R304, R306, R310)
-/
namespace Sys2Proof.Machine
namespace Dev

/-! ### The end of a transfer -/

theorem i2cDone_rest {d : Dev} {b : Fin 2} (h : d.busTransfer b = none) (r : I2cResult) : d.i2cDone b r = d :=
  if_pos (by simp [h])

theorem not_isNone {α : Type} {o : Option α} (h : o.isSome = true) : ¬ o.isNone = true := by
  rw [Option.isNone_iff_eq_none]
  exact Option.isSome_iff_ne_none.mp h

theorem i2cDone_stuck {d : Dev} {b : Fin 2} (h : (d.busTransfer b).isSome = true) : d.i2cDone b .stuck = d.busStuck b := by
  unfold i2cDone
  rw [if_neg (not_isNone h), if_pos rfl]

/-- The device when a transfer has ended on a bus that is not stuck. -/
def unstuck (d : Dev) (b : Fin 2) : Dev := (d.modBus b fun x => { x with stuck := false }).testPassed (busDtc b)

theorem unstuck_bus (d : Dev) (b : Fin 2) : (d.unstuck b).meas.buses[b] = { d.meas.buses[b] with stuck := false } := by
  unfold unstuck
  rw [testPassed_meas, modBus_meas, upd_same]

theorem unstuck_amps (d : Dev) (b : Fin 2) : (d.unstuck b).meas.amps = d.meas.amps := by
  simp [unstuck]

theorem unstuck_cc (d : Dev) (b : Fin 2) : (d.unstuck b).cc = d.cc := by
  unfold unstuck testPassed
  dsimp only
  split
  · rfl
  · split
    · exact push_cc ..
    · rfl

theorem busTransfer_step {d : Dev} {b : Fin 2} {k : Fin 4} {kind : ScriptKind} {step fails : Nat} {reply : Option Byte}
    {t : List BusJob} (h : (d.busTransfer b).isSome = true)
    (hjobs : d.meas.buses[b].jobs = .script k kind step fails none reply :: t) :
    ∃ x, (d.scriptSteps k kind)[step]? = some x ∧ x.op < 2 := by
  unfold busTransfer at h
  dsimp only at h
  split at h
  · cases h
  · rw [hjobs] at h
    dsimp only at h
    split at h
    case h_1 s x hscript hstep =>
      refine ⟨x, hstep, ?_⟩
      by_contra hop
      rw [if_neg (by omega), if_neg (by omega)] at h
      cases h
    case h_2 => cases h

theorem i2cDone_script {d : Dev} {b : Fin 2} {k : Fin 4} {kind : ScriptKind} {step fails : Nat} {reply : Option Byte}
    {t : List BusJob} (h : (d.busTransfer b).isSome = true)
    (hjobs : d.meas.buses[b].jobs = .script k kind step fails none reply :: t) {r : I2cResult} (hr : r ≠ .stuck) :
    let e := d.unstuck b
    let next := e.stepAfter k kind step fails reply r
    d.i2cDone b r = (e.modBus b fun x => { x with
      jobs := next.1 :: t, retrying := next.2.1, delayEnd := e.cc + 500000 * next.2.2 }).settleBus b := by
  unfold i2cDone
  rw [if_neg (not_isNone h), if_neg hr]
  extract_lets e next f
  have hjobs' : f.meas.buses[b].jobs = .script k kind step fails none reply :: t := by
    rw [show f = d.unstuck b from rfl, unstuck_bus]
    exact hjobs
  rw [hjobs']
  rfl

theorem i2cDone_transfer {d : Dev} {b : Fin 2} {addr n : Nat} {fast : Bool} {wr : List Byte} {reply : Source × Byte}
    {t : List BusJob} (h : (d.busTransfer b).isSome = true)
    (hjobs : d.meas.buses[b].jobs = .transfer addr fast wr n reply :: t) {r : I2cResult} (hr : r ≠ .stuck) :
    d.i2cDone b r = (((d.unstuck b).modBus b fun x => { x with jobs := t }).settleBus b).i2cAnswer reply r := by
  unfold i2cDone
  rw [if_neg (not_isNone h), if_neg hr]
  extract_lets e
  have hjobs' : e.meas.buses[b].jobs = .transfer addr fast wr n reply :: t := by
    rw [show e = d.unstuck b from rfl, unstuck_bus]
    exact hjobs
  rw [hjobs']
  rfl

theorem busTransfer_transfer {d : Dev} {b : Fin 2} {addr n : Nat} {fast : Bool} {wr : List Byte} {reply : Source × Byte}
    {t : List BusJob} (hretry : d.meas.buses[b].retrying = false) (hdelay : d.meas.buses[b].delayEnd ≤ d.cc)
    (hjobs : d.meas.buses[b].jobs = .transfer addr fast wr n reply :: t) : (d.busTransfer b).isSome = true := by
  unfold busTransfer
  dsimp only
  rw [if_neg (by rw [hretry]; simpa using hdelay), hjobs]
  rfl

/-! ### A script's step after its transfer -/

theorem scriptSteps_congr {d e : Dev} (h : e.meas.amps = d.meas.amps) : e.scriptSteps = d.scriptSteps := by
  unfold scriptSteps scriptOf
  rw [h]

theorem stepAfter_congr {d e : Dev} (h : e.meas.amps = d.meas.amps) : e.stepAfter = d.stepAfter := by
  unfold stepAfter
  rw [scriptSteps_congr h]

theorem stepAfter_nack (d : Dev) (k : Fin 4) (kind : ScriptKind) (step fails : Nat) (reply : Option Byte) :
    d.stepAfter k kind step fails reply .nack =
      if fails < 2 then (.script k kind step (fails + 1) none reply, true, 0) else (.script k kind step 0 (some false) reply, false, 0) := by
  unfold stepAfter
  by_cases h : fails < 2
  · simp [h, Nat.not_le.mpr h]
  · simp [h, Nat.not_lt.mp h]

/-- The byte read back for a verify step is not the one it names. -/
def Mismatch (a : ScriptStep) (l : List Byte) : Prop := a.op = 1 ∧ (l.getD 0 0).toNat &&& fld a.data 15 8 ≠ fld a.data 7 0

theorem stepAfter_ack {d : Dev} {k : Fin 4} {kind : ScriptKind} {step : Nat} {a : ScriptStep}
    (ha : (d.scriptSteps k kind)[step]? = some a) (fails : Nat) (reply : Option Byte) (l : List Byte) :
    (Mismatch a l → d.stepAfter k kind step fails reply (.ack l) = (.script k kind step 0 (some false) reply, false, 0)) ∧
    (¬ Mismatch a l → d.stepAfter k kind step fails reply (.ack l) = (.script k kind (step + 1) 0 none reply, false, a.delayMs)) := by
  unfold stepAfter Mismatch
  rw [ha]
  constructor <;> intro h <;> simp_all

/-- The bus after the end of a step's transfer: the job that follows, as the bus takes it up. -/
theorem i2cDone_bus {d : Dev} {b : Fin 2} {k : Fin 4} {kind : ScriptKind} {step fails : Nat} {reply : Option Byte}
    {t : List BusJob} (h : (d.busTransfer b).isSome = true)
    (hjobs : d.meas.buses[b].jobs = .script k kind step fails none reply :: t) {r : I2cResult}
    {job : BusJob} {retry : Bool} {wait : Nat} (hnext : d.stepAfter k kind step fails reply r = (job, retry, wait))
    (hr : r ≠ .stuck) :
    ∃ e : Dev, (d.i2cDone b r).meas.buses[b] = (e.settledBuses b)[b] ∧ e.meas.amps = d.meas.amps ∧
      e.meas.buses[b] = { d.meas.buses[b] with
        stuck := false, jobs := job :: t, retrying := retry, delayEnd := d.cc + 500000 * wait } := by
  refine ⟨(d.unstuck b).modBus b fun x => { x with
    jobs := job :: t, retrying := retry, delayEnd := (d.unstuck b).cc + 500000 * wait }, ?_, d.unstuck_amps b, ?_⟩
  · rw [i2cDone_script h hjobs hr, stepAfter_congr (d.unstuck_amps b), hnext, settleBus_meas]
  · rw [modBus_meas, upd_same, unstuck_bus, unstuck_cc]

/-- A step that is not acknowledged is tried again twice, and fails then. -/
theorem i2cDone_nack {d : Dev} {b : Fin 2} {k : Fin 4} {kind : ScriptKind} {step fails : Nat} {reply : Option Byte}
    {t : List BusJob} (h : (d.busTransfer b).isSome = true)
    (hjobs : d.meas.buses[b].jobs = .script k kind step fails none reply :: t) :
    (d.i2cDone b .nack).meas.buses[b] = { d.meas.buses[b] with
      stuck := false, retrying := decide (fails < 2), delayEnd := d.cc
      jobs := (if fails < 2 then .script k kind step (fails + 1) none reply else .script k kind step 0 (some false) reply) :: t } := by
  have hnext := d.stepAfter_nack k kind step fails reply
  by_cases hfails : fails < 2
  · rw [if_pos hfails] at hnext
    obtain ⟨e, hbus, hamps, hjob⟩ := i2cDone_bus h hjobs hnext nofun
    obtain ⟨y, hy, hop⟩ := busTransfer_step h hjobs
    rw [← scriptSteps_congr hamps] at hy
    rw [hbus, settledBuses_transfer (by rw [hjob]) hy hop, hjob, if_pos hfails, decide_eq_true hfails]
    rfl
  · rw [if_neg hfails] at hnext
    obtain ⟨e, hbus, hamps, hjob⟩ := i2cDone_bus h hjobs hnext nofun
    rw [hbus, settledBuses_rest (by rw [hjob]; simp), hjob, if_neg hfails, decide_eq_false hfails]
    rfl

/-- A verify step that reads another byte fails its script. -/
theorem i2cDone_mismatch {d : Dev} {b : Fin 2} {k : Fin 4} {kind : ScriptKind} {step fails : Nat} {reply : Option Byte}
    {t : List BusJob} {a : ScriptStep} {l : List Byte} (h : (d.busTransfer b).isSome = true)
    (hjobs : d.meas.buses[b].jobs = .script k kind step fails none reply :: t)
    (ha : (d.scriptSteps k kind)[step]? = some a) (hl : Mismatch a l) :
    (d.i2cDone b (.ack l)).meas.buses[b] = { d.meas.buses[b] with
      stuck := false, retrying := false, delayEnd := d.cc, jobs := .script k kind step 0 (some false) reply :: t } := by
  obtain ⟨hnext, -⟩ := stepAfter_ack ha fails reply l
  obtain ⟨e, hbus, hamps, hjob⟩ := i2cDone_bus h hjobs (hnext hl) nofun
  rw [hbus, settledBuses_rest (by rw [hjob]; simp), hjob]
  rfl

/-- Any other step goes on after its delay: to the next transfer, or to the end of the script. -/
theorem i2cDone_ack {d : Dev} {b : Fin 2} {k : Fin 4} {kind : ScriptKind} {step fails : Nat} {reply : Option Byte}
    {t : List BusJob} {a : ScriptStep} {l : List Byte} (h : (d.busTransfer b).isSome = true)
    (hjobs : d.meas.buses[b].jobs = .script k kind step fails none reply :: t)
    (ha : (d.scriptSteps k kind)[step]? = some a) (hl : ¬ Mismatch a l) :
    (d.i2cDone b (.ack l)).meas.buses[b].stuck = false ∧ (d.i2cDone b (.ack l)).meas.buses[b].retrying = false ∧
    (∀ y, (d.scriptSteps k kind)[step + 1]? = some y → y.op < 2 →
      (d.i2cDone b (.ack l)).meas.buses[b].jobs = .script k kind (step + 1) 0 none reply :: t ∧
      (d.i2cDone b (.ack l)).meas.buses[b].delayEnd = d.cc + 500000 * a.delayMs) ∧
    ((d.scriptSteps k kind)[step + 1]? = none →
      (d.i2cDone b (.ack l)).meas.buses[b].jobs = .script k kind (step + 1) 0 (some true) reply :: t) := by
  obtain ⟨-, hnext⟩ := stepAfter_ack ha fails reply l
  obtain ⟨e, hbus, hamps, hjob⟩ := i2cDone_bus h hjobs (hnext hl) nofun
  obtain ⟨hstuck, hretrying⟩ := e.settledBuses_flags b b
  rw [hbus, ← scriptSteps_congr hamps]
  refine ⟨by rw [hstuck, hjob], by rw [hretrying, hjob], fun y hy hop => ?_, fun hend => ?_⟩
  · rw [settledBuses_transfer (by rw [hjob]) hy hop, hjob]
    exact ⟨rfl, rfl⟩
  · rw [settledBuses_ended (by rw [hjob]) hend]

/-! ### A stuck bus -/

theorem foldl_meas {α : Type} {f : Dev → α → Dev} (h : ∀ d a, (f d a).meas = d.meas) (l : List α) (d : Dev) :
    (l.foldl f d).meas = d.meas := by
  induction l generalizing d with
  | nil => rfl
  | cons a l ih => rw [List.foldl_cons, ih, h]

/-- What is left of a job on a bus that is stuck: a script has failed, and a transfer is answered. -/
def stuckJob : BusJob → Option BusJob
  | .script k kind step _ ended reply => some (.script k kind step 0 (some (ended.getD false)) reply)
  | .transfer .. => none

theorem busStuck_meas (d : Dev) (b : Fin 2) :
    (d.busStuck b).meas.buses[b] =
      { d.meas.buses[b] with stuck := true, retrying := false, jobs := d.meas.buses[b].jobs.filterMap stuckJob } ∧
    failedIn (d.busStuck b).meas.dtcs (busDtc b) = true := by
  unfold busStuck
  dsimp only
  rw [foldl_meas]
  · rw [qualify_meas, modBus_meas]
    exact ⟨upd_same .., by simp⟩
  · intro e j
    cases j with
    | script => rfl
    | transfer => exact i2cAnswer_meas ..

theorem stuckJob_eq_some {i j : BusJob} (h : stuckJob i = some j) : ∃ a kind step ok reply, j = .script a kind step 0 (some ok) reply := by
  cases i with
  | script a kind step fails ended reply =>
    obtain rfl := Option.some.inj h
    exact ⟨a, kind, step, ended.getD false, reply, rfl⟩
  | transfer => cases h

theorem busStuck_head {d : Dev} {b : Fin 2} {k : Fin 4} {kind : ScriptKind} {step fails : Nat} {reply : Option Byte}
    {t : List BusJob} (hjobs : d.meas.buses[b].jobs = .script k kind step fails none reply :: t) :
    (d.busStuck b).meas.buses[b].jobs.head? = some (.script k kind step 0 (some false) reply) := by
  obtain ⟨hbus, -⟩ := d.busStuck_meas b
  rw [hbus, hjobs]
  rfl

/-- A stuck bus keeps only scripts that have ended. -/
theorem busStuck_jobs {d : Dev} {b : Fin 2} {j : BusJob} (h : j ∈ (d.busStuck b).meas.buses[b].jobs) :
    ∃ a kind step ok reply, j = .script a kind step 0 (some ok) reply := by
  obtain ⟨hbus, -⟩ := d.busStuck_meas b
  rw [hbus] at h
  obtain ⟨i, -, hi⟩ := List.mem_filterMap.mp h
  exact stuckJob_eq_some hi

/-! ### The answer of a transfer -/

theorem push_mb (d : Dev) (code : Nat) (arg : Word) : (d.push code arg).mail.mb = d.mail.mb := by
  unfold push pushMail
  split
  · split <;> rfl
  · rfl

theorem testPassed_mb (d : Dev) (code : Nat) : (d.testPassed code).mail.mb = d.mail.mb := by
  unfold testPassed
  dsimp only
  split
  · rfl
  · split
    · exact push_mb ..
    · rfl

theorem i2cAnswer_mb0 {d : Dev} (h : d.mail.mb[(0 : Fin 2)].state = .busy) (tag : Byte) (r : I2cResult) :
    (d.i2cAnswer (.mb0, tag) r).mail.mb[(0 : Fin 2)].state = .ready := by
  have hready {e : Dev} (he : e.mail.mb = d.mail.mb) (x : Response) : (e.respondMb 0 x).mail.mb[(0 : Fin 2)].state = .ready := by
    unfold respondMb
    rw [modMb_mail, upd_same, he, if_pos h]
  cases r <;> exact hready rfl _

theorem unstuck_mb (d : Dev) (b : Fin 2) : (d.unstuck b).mail.mb = d.mail.mb := testPassed_mb ..

/-- A transfer of mailbox 0 leaves the bus at its end, answered. -/
theorem i2cDone_answers {d : Dev} {b : Fin 2} {addr n : Nat} {fast : Bool} {wr : List Byte} {tag : Byte} {t : List BusJob}
    (h : (d.busTransfer b).isSome = true) (hjobs : d.meas.buses[b].jobs = .transfer addr fast wr n (.mb0, tag) :: t)
    (hbusy : d.mail.mb[(0 : Fin 2)].state = .busy) (l : List Byte) :
    (d.i2cDone b (.ack l)).meas.buses[b].jobs.length = t.length ∧ (d.i2cDone b (.ack l)).mail.mb[(0 : Fin 2)].state = .ready := by
  rw [i2cDone_transfer (r := .ack l) h hjobs nofun]
  refine ⟨?_, i2cAnswer_mb0 ?_ tag _⟩
  · rw [i2cAnswer_meas, settleBus_meas]
    exact settledBuses_modBus_length ..
  · rw [settleBus_mail]
    exact (congrArg (·[(0 : Fin 2)].state) (d.unstuck_mb b)).trans hbusy

/-! ### The comparison of the mute lines (R65) -/

/-- A pin whose level is, or is not, that of the mute lines it carries. -/
def comparedWatch (agrees : Bool) (w : MuteWatch) : MuteWatch :=
  if agrees then ⟨0, w.agree + 1, w.told && w.agree + 1 < 3⟩ else ⟨w.disagree + 1, 0, w.told || w.disagree + 1 ≥ 3⟩

theorem comparedWatch_true (w : MuteWatch) : comparedWatch true w = ⟨0, w.agree + 1, w.told && decide (w.agree < 2)⟩ := by
  simp [comparedWatch, Nat.lt_succ_iff]

theorem comparedWatch_false (w : MuteWatch) :
    comparedWatch false w = ⟨w.disagree + 1, 0, w.told || decide (2 ≤ w.disagree)⟩ := by
  simp [comparedWatch]

/-- A level agrees with every mute line of the pin. -/
def linesAgree (d : Dev) (p : Fin 37) (raw : Bool) : Bool :=
  (allFin 4).all fun k => !(d.pinFns p).contains ⟨4 + k.val, by omega⟩ || raw == d.muteLine k

theorem linesAgree_iff {d : Dev} {p : Fin 37} {raw : Bool} :
    d.linesAgree p raw = true ↔ ∀ k : Fin 4, ⟨4 + k.val, by omega⟩ ∈ d.pinFns p → raw = d.muteLine k := by
  simp [linesAgree, List.all_eq_true, imp_iff_not_or]

/-- One pin's comparison. -/
def muteStep (d : Dev) (p : Fin 37) : Dev := if d.mutePin p then d.muteCheck p else d

/-- A pin after the comparison. -/
def comparedPin (d : Dev) (p : Fin 37) (x : GpioPin) : GpioPin :=
  if d.mutePin p then { x with watch := comparedWatch (d.linesAgree p x.raw) x.watch } else x

theorem muteStep_pins (d : Dev) (p : Fin 37) : (d.muteStep p).gpio.pins = upd d.gpio.pins p (d.comparedPin p) := by
  unfold muteStep
  by_cases hmute : d.mutePin p = true
  · have hagrees : d.muteAgrees p = d.linesAgree p d.gpio.pins[p].raw := rfl
    have hpin : d.comparedPin p d.gpio.pins[p] = { d.gpio.pins[p] with
        watch := comparedWatch (d.linesAgree p d.gpio.pins[p].raw) d.gpio.pins[p].watch } := if_pos hmute
    rw [if_pos hmute, muteCheck, hagrees, upd, hpin]
    cases d.linesAgree p d.gpio.pins[p].raw <;> simp [comparedWatch, upd]
  · rw [if_neg hmute, upd_id]
    exact if_neg hmute

theorem muteStep_same (d : Dev) (p : Fin 37) :
    (d.muteStep p).regs = d.regs ∧ (d.muteStep p).meas = d.meas ∧ (d.muteStep p).sup = d.sup ∧ (d.muteStep p).power = d.power := by
  unfold muteStep muteCheck
  dsimp only
  split
  · split <;> simp
  · simp

theorem comparedPin_congr {d e : Dev}
    (h : e.regs = d.regs ∧ e.meas = d.meas ∧ e.sup = d.sup ∧ e.power = d.power) : e.comparedPin = d.comparedPin := by
  obtain ⟨hregs, hmeas, hsup, hpower⟩ := h
  have hreg : e.reg = d.reg := funext (reg_congr hregs)
  have hfns : e.pinFns = d.pinFns := by
    have hfield : e.xbarField = d.xbarField := by unfold xbarField rfld; rw [hreg]
    have hbar : e.xbarPin = d.xbarPin := by funext f; simp only [xbarPin, hfield]
    have hcode : e.muxCode = d.muxCode := by unfold muxCode rfld; rw [hreg]
    unfold pinFns
    rw [hbar, hcode]
  have hlines : e.muteLine = d.muteLine := by
    unfold muteLine scriptBusy
    rw [hmeas, hsup, hpower]
  unfold comparedPin mutePin linesAgree
  rw [hfns, hlines]

theorem muteCheckAll_pin {d : Dev} (h : d.power.state = .active) (p : Fin 37) :
    d.muteCheckAll.gpio.pins[p] = d.comparedPin p d.gpio.pins[p] := by
  have hall : d.muteCheckAll = (allFin 37).foldl muteStep d := if_neg (by rw [h]; decide)
  rw [hall]
  refine foldl_allFin_entry (table := fun e => e.gpio.pins) (g := d.comparedPin)
    (P := fun e => e.regs = d.regs ∧ e.meas = d.meas ∧ e.sup = d.sup ∧ e.power = d.power) ?_ ⟨rfl, rfl, rfl, rfl⟩ p
  intro e p he
  obtain ⟨hregs, hmeas, hsup, hpower⟩ := he
  obtain ⟨hregs', hmeas', hsup', hpower'⟩ := e.muteStep_same p
  refine ⟨⟨hregs'.trans hregs, hmeas'.trans hmeas, hsup'.trans hsup, hpower'.trans hpower⟩, ?_⟩
  rw [← comparedPin_congr ⟨hregs, hmeas, hsup, hpower⟩]
  exact e.muteStep_pins p

theorem muteCheckAll_rest {d : Dev} (h : d.power.state ≠ .active) : d.muteCheckAll = d := if_pos h

/-! ### Monitors and the store -/

theorem dieDisagree_near {d : Dev} (h : (d.sup.dieA - d.sup.dieB).natAbs ≤ 32) : d.dieDisagree = d :=
  if_neg fun ⟨_, hfar⟩ => Nat.not_lt.mpr h hfar

theorem dieDisagree_far {d : Dev} (hactive : d.power.state = .active) (h : 32 < (d.sup.dieA - d.sup.dieB).natAbs) :
    failedIn d.dieDisagree.meas.dtcs 0xC30003 = true := by
  unfold dieDisagree
  rw [if_pos ⟨hactive, h⟩, qualify_meas, failedIn_qualified, decide_eq_true rfl, Bool.true_or]

theorem amonOutside_iff {d : Dev} (h : d.meas.config.amonRatio ≠ 0) : d.amonOutside = true ↔
    d.sup.amon * d.meas.config.amonRatio < 1000 * d.meas.config.amonLow ∨
      1000 * d.meas.config.amonHigh < d.sup.amon * d.meas.config.amonRatio := by
  simp [amonOutside, h]

theorem amonOut_inside {d : Dev} (h : d.amonOutside = false) : d.amonOut = d := if_neg (by simp [h])

theorem amonOut_outside {d : Dev} (h : d.amonOutside = true) : failedIn d.amonOut.meas.dtcs 0xC30002 = true := by
  unfold amonOut
  rw [if_pos h, qualify_meas, failedIn_qualified, decide_eq_true rfl, Bool.true_or]

theorem amonBack_outside {d : Dev} (h : d.amonOutside = true) : d.amonBack = d := if_neg fun ⟨_, hin⟩ => hin h

theorem amonBack_inside {d : Dev} (hratio : d.meas.config.amonRatio ≠ 0) (h : d.amonOutside = false) :
    failedIn d.amonBack.meas.dtcs 0xC30002 = false := by
  unfold amonBack
  rw [if_pos ⟨hratio, by simp [h]⟩, testPassed_meas, failedIn_passed, decide_eq_true rfl, Bool.not_true, Bool.false_and]

theorem dtcStoreWrite_rest {d : Dev} (h : d.flashPermitted = false ∨ d.power.state ≠ .active) : d.dtcStoreWrite = d := by
  unfold dtcStoreWrite
  split
  · rfl
  · refine if_neg fun ⟨hpermitted, hactive⟩ => ?_
    rcases h with h | h
    · rw [h] at hpermitted
      cases hpermitted
    · exact h hactive

theorem dtcStoreWrite_meas {d : Dev} {code : Nat} {rest : List Nat} (hunsaved : d.meas.unsaved = code :: rest)
    (hpermitted : d.flashPermitted = true) (hactive : d.power.state = .active) : d.dtcStoreWrite.meas = { d.meas with
      unsaved := rest
      store := storeProgram d.meas.store
        (code, (d.meas.dtcs.find? (·.code == code)).filter fun x => x.occurrences != 0) } := by
  unfold dtcStoreWrite
  rw [hunsaved]
  dsimp only
  rw [if_pos ⟨hpermitted, hactive⟩]
  rfl

theorem storeProgram_none {s : DtcStore} {code : Nat} {y : Dtc} (h : y ∈ storeDtcs (storeProgram s (code, none))) :
    y.code ≠ code := by
  obtain ⟨held, heq⟩ := storeDtcs_storeProgram s (code, none)
  rw [heq] at h
  simpa [storeRecord] using List.of_mem_filter h

theorem mem_storeProgram (s : DtcStore) (code : Nat) (x : Dtc) : x ∈ storeDtcs (storeProgram s (code, some x)) := by
  obtain ⟨held, heq⟩ := storeDtcs_storeProgram s (code, some x)
  rw [heq]
  exact mem_storeRecord

end Dev
end Sys2Proof.Machine
end

section
/-!
# The rows of measurement, amplifiers and DTCs
-/
namespace Sys2Proof.Machine

/-- A row comes to what its effect comes to. -/
theorem next_dev {s : State} {d e : Dev} (h : d = e) : (.next { s with dev := d } : Result) = .next { s with dev := e } := by
  rw [h]

section
variable {s : State} {i : Instr} {f : Dev → Dev} {P : Dev → Prop}

/-- A row of a block with a clock has its effect where that block has its clock. -/
theorem does_awake (hawake : s.dev.Awake) (hi : exec i s = .next { s with dev := s.dev.awake f }) (h : P (f s.dev)) :
    s.Does i P :=
  ⟨f s.dev, hi.trans (next_dev (Dev.awake_act hawake f)), h⟩

/-- A row of a block with a clock leaves the state where its effect leaves the device. -/
theorem rests_awake (hawake : s.dev.Awake) (hi : exec i s = .next { s with dev := s.dev.awake f }) (h : f s.dev = s.dev) :
    exec i s = .next s :=
  hi.trans (next_rest ((Dev.awake_act hawake f).trans h))

end

namespace Dev

theorem awake_of_active {d : Dev} (h : d.power.state = .active) : d.Awake := by
  simp [Awake, h]

theorem awake_of_rest {d : Dev} {f : Dev → Dev} (h : f d = d) : d.awake f = d := by
  unfold awake
  rw [h, ite_self]

theorem powered_of_rest {d : Dev} {f : Dev → Dev} (h : f d = d) : d.powered f = d := by
  unfold powered
  rw [h, ite_self]

end Dev

/-- Settles O53: each row by what its effect on the device comes to. -/
theorem measurementEvents : Obligations.MeasurementEvents := by
  unfold Obligations.MeasurementEvents
  refine ⟨fun k s hawake => ?slot, fun s hawake => ?fold, fun k s hawake => ?limit, fun s hawake => ?limitDie,
    fun k t s hawake htest hhead => ?dc, fun k l s hawake hlearn => ?learn, fun d code v hgood => ?qualify,
    fun k s hawake => ?fault, fun k b kind step fails ok reply t s hawake hjobs hdelay hothers => ?script,
    fun b s hawake => ?retry, fun b s hawake => ?stretch,
    fun b k kind step fails reply t s hawake hcarries hjobs => ?step,
    fun b addr n fast wr l tag t s hawake hretry hdelay hjobs hbusy => ?transfer, fun s => ?mute, fun s hactive => ?die,
    fun s hawake hratio => ?amon, fun code rest s hpowered hunsaved => ?store, Dev.storeDtcs_length⟩
  case slot =>
    refine ⟨fun hoff => rests_awake hawake rfl (Dev.slotEnd_disabled hoff), fun hon hwhy => does_awake hawake rfl ?_,
      fun hon hok => does_awake hawake rfl ?_⟩
    · obtain ⟨hspeakers, hdtcs, hwatch⟩ := Dev.slotEnd_enabled hon
      obtain ⟨learn, hspeaker⟩ := s.dev.slotReject_speaker k (s.dev.rejection k)
      rw [if_pos hwhy] at hspeakers hdtcs
      simp only [Dev.dtcFailed_eq]
      rw [hspeakers, hspeaker, hdtcs, hwatch]
      refine ⟨rfl, rfl, rfl, rfl, rfl, rfl, fun hstale => ⟨if_pos hstale, fun hruns => ?_⟩⟩
      rw [hstale]
      exact Dev.slotReject_stale hruns
    · obtain ⟨hspeakers, hdtcs, hwatch⟩ := Dev.slotEnd_enabled hon
      obtain ⟨learn, hresult⟩ := s.dev.withResult_speaker k
      rw [if_neg (not_not.mpr hok)] at hspeakers hdtcs
      simp only [Dev.dtcFailed_eq, ← Dev.slotShort_iff]
      rw [hspeakers, hdtcs, hwatch]
      cases h : s.dev.slotShort k with
      | true =>
        obtain ⟨⟨learn, hspeaker⟩, hdtc⟩ := Dev.slotAccept_short h
        rw [hspeaker, hresult]
        exact ⟨rfl, rfl, rfl, rfl, rfl, rfl, fun _ => ⟨upd_same .., fun j hj => upd_other _ hj.symm _, hdtc⟩,
          fun hgood => absurd rfl hgood⟩
      | false =>
        obtain ⟨⟨learn, runs, hspeaker, hruns⟩, hdtc⟩ := Dev.slotAccept_good h
        rw [hspeaker, hresult]
        exact ⟨rfl, rfl, rfl, rfl, rfl, rfl, nofun, fun _ => ⟨hruns, hdtc⟩⟩
  case fold =>
    refine does_awake hawake rfl fun k => ?_
    dsimp only
    rw [← Dev.ampDemand_eq, s.dev.foldEval_amp k]
    refine ⟨rfl, rfl, rfl, rfl, rfl, fun htagged => ?_, fun htagged => ⟨fun h => ?_, fun h => ?_, fun h => ?_⟩⟩ <;>
      rw [htagged, Dev.foldedAmp]
    · rfl
    · exact Dev.foldNext_lower h _
    · refine (Dev.foldNext_raise h _).trans ?_
      cases s.dev.meas.amps[k].maxTemp <;> rfl
    · exact Dev.foldNext_same h _
  case limit => exact does_awake hawake rfl (s.dev.foldLimit_failed k)
  case limitDie => exact does_awake hawake rfl s.dev.foldLimit_die_failed
  case dc =>
    have hat := Dev.dcAt_of_head htest hhead
    refine ⟨fun hrests hquiet hslot hdriving hinhibit => ?_, fun hloud => rests_awake hawake rfl (Dev.dcStart_loud hloud),
      fun hrests => does_awake hawake rfl ?_, fun y hruns hdrive habort htime => does_awake hawake rfl ?_,
      fun y hdrive htime => rests_awake hawake rfl (Dev.dcDone_early hdrive htime),
      fun hruns c => ⟨fun hcause => does_awake hawake rfl ?_, fun hcause => rests_awake hawake rfl (Dev.dcAbort_rest hcause)⟩⟩
    · rw [hrests] at hat
      exact next_dev ((Dev.awake_act hawake _).trans (Dev.dcStart_quiet htest hat hquiet hslot hdriving hinhibit))
    · rw [hrests] at hat
      rw [Dev.dcNotQuiet_act hat, Dev.dcNext_meas htest]
      exact ⟨by rw [upd_same], rfl⟩
    · rw [hruns] at hat
      obtain ⟨⟨learn, hspeaker⟩, hnone, hshort, hopen⟩ := Dev.dcDone_ends htest hat hdrive habort htime
      simp only [Dev.dtcFailed_eq]
      rw [hspeaker]
      refine ⟨rfl, hnone, hshort, hopen, fun h => ?_, fun hs hf => ?_, fun hs hf => ?_⟩ <;> unfold Dev.dcOutcomeOf
      · exact if_pos (of_decide_eq_true h)
      · rw [if_neg (of_decide_eq_false hs), if_pos (of_decide_eq_true hf)]
      · rw [if_neg (of_decide_eq_false hs), if_neg (of_decide_eq_false hf)]
    · rw [hruns] at hat
      obtain ⟨houtcome, hdrive⟩ := Dev.dcAbort_act htest hat hcause
      refine ⟨houtcome.trans ?_, hdrive⟩
      cases c <;> rfl
  case learn =>
    refine ⟨fun hfull => does_awake hawake rfl ?_,
      fun hfew => ⟨rests_awake hawake rfl (Dev.learnDone_early hlearn hfew), does_awake hawake rfl ?_⟩⟩
    · rw [Dev.learnDone_meas hlearn hfull]
      exact upd_same ..
    · rw [Dev.learnTimeout_meas hlearn hfew]
      exact upd_same ..
  case qualify =>
    rw [Dev.dtcOf_qualify hgood]
    exact ⟨d.dtcOf_code code, rfl, rfl, rfl, rfl, rfl⟩
  case fault =>
    refine ⟨fun hno => rests_awake hawake rfl (Dev.faultPinAssert_rest hno), fun hsource hlow hdemand => does_awake hawake rfl ?_,
      fun hdemand hheld hlatched hbusy => does_awake hawake rfl ?_,
      fun hheld => rests_awake hawake rfl (Dev.faultHoldExpire_rest hheld)⟩
    · rw [Dev.faultPinAssert_act hsource hlow]
      obtain ⟨hamps, hbuses, hfailed⟩ := Dev.faultAssert_meas hdemand
      obtain ⟨buses, hmeas, habort⟩ := s.dev.withFault_meas k
      rw [hmeas] at hamps hbuses
      have hamp := (congrArg (·[k]) hamps).trans (upd_same ..)
      exact ⟨by rw [hamp], by rw [hamp], by rw [hamp], hfailed, Dev.muteLine_of_demand (by rw [hamp]),
        fun b kind step fails ended reply l hjobs => by rw [hbuses]; exact habort b kind step fails ended reply l hjobs⟩
    · rw [Dev.faultHoldExpire_act hdemand hheld hlatched hbusy]
      refine ⟨fun hnone => ?_, fun hsome => ?_⟩
      · rw [hnone, if_neg (by decide)]
        obtain ⟨hamp, hpassed⟩ := s.dev.demandEnd_amp k false
        exact ⟨by rw [hamp], by rw [hamp], hpassed⟩
      · rw [if_pos (Option.isSome_iff_ne_none.mpr hsome)]
        obtain ⟨hamps, hbusy⟩ := Dev.requestScript_meas hsome none
        exact ⟨by rw [hamps], hbusy⟩
  case script =>
    obtain ⟨e, hdone, hamps, hsup, hlength⟩ := Dev.scriptDone_eq hjobs hdelay hothers
    refine does_awake hawake rfl ?_
    rw [hdone, ← hamps, ← hsup]
    refine ⟨?_, ?_, ?_, ?_⟩
    · rw [Dev.scriptEnd_buses]
      exact hlength
    · rintro rfl rfl hmute
      exact Dev.scriptEnd_start_muted hmute ..
    · rintro rfl rfl hlatched
      exact Dev.scriptEnd_fault_demand hlatched ..
    · rintro rfl
      exact ⟨Dev.scriptEnd_failed_dtc .., fun hkind => Dev.scriptEnd_failed_muted _ k hkind ..⟩
  case retry => exact next_dev (Dev.awake_act hawake _)
  case stretch =>
    exact ⟨⟨s.dev.i2cDone b .nack, next_dev (Dev.awake_act hawake _), next_dev (Dev.awake_act hawake _)⟩,
      fun hnone r => rests_awake hawake rfl (Dev.i2cDone_rest hnone r)⟩
  case step =>
    refine ⟨does_awake hawake rfl ?_, does_awake hawake rfl ?_, fun x a l hx ha => does_awake hawake rfl ?_⟩
    · rw [Dev.i2cDone_nack hcarries hjobs]
      exact ⟨rfl, rfl, rfl⟩
    · rw [Dev.i2cDone_stuck hcarries]
      obtain ⟨hbus, hfailed⟩ := s.dev.busStuck_meas b
      exact ⟨by rw [hbus], hfailed, Dev.busStuck_head hjobs, fun j hj => Dev.busStuck_jobs hj⟩
    · have hsteps : x.steps = s.dev.scriptSteps k kind := by rw [Dev.scriptSteps, hx]; rfl
      rw [hsteps] at ha ⊢
      split
      case isTrue hmismatch =>
        rw [Dev.i2cDone_mismatch hcarries hjobs ha hmismatch]
        exact ⟨rfl, rfl, rfl⟩
      case isFalse hmatch => exact Dev.i2cDone_ack hcarries hjobs ha hmatch
  case transfer => exact does_awake hawake rfl (Dev.i2cDone_answers (Dev.busTransfer_transfer hretry hdelay hjobs) hjobs hbusy l)
  case mute =>
    refine ⟨fun hrests => next_rest (Dev.awake_of_rest (Dev.muteCheckAll_rest hrests)),
      fun hactive => does_awake (Dev.awake_of_active hactive) rfl fun p => ?_⟩
    rw [Dev.muteCheckAll_pin hactive]
    refine ⟨fun hno => if_neg (by simp [hno]), fun hmute => ?_⟩
    rw [Dev.comparedPin, if_pos hmute]
    refine ⟨fun hagree => ?_, fun k hk hraw => ?_⟩
    · rw [Dev.linesAgree_iff.mpr hagree, Dev.comparedWatch_true]
    · rw [Bool.eq_false_iff.mpr fun hagree => hraw (Dev.linesAgree_iff.mp hagree k hk), Dev.comparedWatch_false]
  case die =>
    have hawake := Dev.awake_of_active hactive
    exact ⟨fun hnear => rests_awake hawake rfl (Dev.dieDisagree_near hnear),
      fun hfar => does_awake hawake rfl (Dev.dieDisagree_far hactive hfar)⟩
  case amon =>
    have hiff := Dev.amonOutside_iff hratio
    refine ⟨fun hout => ?_, fun hin => ?_⟩
    · have hout := hiff.mpr hout
      exact ⟨does_awake hawake rfl (Dev.amonOut_outside hout), rests_awake hawake rfl (Dev.amonBack_outside hout)⟩
    · have hin := Bool.eq_false_iff.mpr fun hout => hin (hiff.mp hout)
      exact ⟨does_awake hawake rfl (Dev.amonBack_inside hratio hin), rests_awake hawake rfl (Dev.amonOut_inside hin)⟩
  case store =>
    refine ⟨fun hrests => next_rest (Dev.powered_of_rest (Dev.dtcStoreWrite_rest hrests)),
      fun hpermitted hactive => ⟨s.dev.dtcStoreWrite, next_dev (Dev.powered_act hpowered _), ?_⟩⟩
    dsimp only
    rw [Dev.dtcStoreWrite_meas hunsaved hpermitted hactive]
    refine ⟨rfl, rfl, fun hnone y hy => ?_, fun x hx hseen => ?_⟩
    · rw [hnone] at hy
      exact Dev.storeProgram_none hy
    · have hkept : (some x).filter (fun x => x.occurrences != 0) = some x := by simp [hseen]
      rw [hx, hkept]
      exact Dev.mem_storeProgram ..

end Sys2Proof.Machine
end

section
/-!
# What stops, what QUIET stops, and the boot slot
-/
namespace Sys2Proof.Machine

theorem act_completes (s : State) (f : Dev → Dev) : ∃ t, s.act f = .next t := ⟨_, State.act_eq s f⟩

/-- Settles O3: by `exec_shape` every command but four is an effect on the device; of the four only RST_N_ASSERT may stop. -/
theorem everyCommandCompletes : Obligations.EveryCommandCompletes := by
  unfold Obligations.EveryCommandCompletes
  refine ⟨fun i s hpulse => ?_, fun n s hlong hshort => rstNAssert_stops hlong hshort s⟩
  rcases exec_shape i with ⟨f, hf⟩ | rfl | rfl | ⟨input, rfl⟩ | ⟨n, rfl⟩
  · rw [hf]
    exact act_completes s f
  · exact ⟨_, exec_dbgBeatDone s⟩
  · exact ⟨_, exec_proofStart s⟩
  · exact ⟨_, exec_arbGrant input s⟩
  · obtain ⟨f, hf⟩ := rstNAssert_acts (hpulse n rfl)
    rw [hf]
    exact act_completes s f

/-- Settles O10: each clocked row rests by the guard of its block, Keystone and the grid by theirs. -/
theorem quietStopsTheBlocks : Obligations.QuietStopsTheBlocks := by
  unfold Obligations.QuietStopsTheBlocks
  intro i s hquiet hi
  have hruns : ¬ s.dev.Runs := by simp [Dev.Runs, hquiet]
  have hstopped : s.dev.power.state = .off ∨ s.dev.power.state = .quiet := .inr hquiet
  cases i with
  | arbGrant => rw [exec_arbGrant, execArbGrant, Dev.arbGrant, Dev.arbBeats, if_pos hstopped, if_pos hstopped]
  | ksTick | refQualified | refLoss | bwNarrowStep | trackEntry | reacquire | holdoverExpired | timeValidLapse | moveDone
  | captureLock | phaseDetectorCompare | secondBoundary => exact next_rest (Dev.runs_rest hruns _)
  | frameBoundary =>
    exact next_rest ((if_neg (by simp [hquiet])).trans (Dev.runs_rest hruns _))
  | requestAged | captureUnlock | captureUnlockTimeout | ethFrameReceive | rxDescriptorRelease | txSubmit | txFrameStart
  | txFrameDone | pauseFrame | pauseExpiry | phyPoll | phyInterrupt | phyScriptRun | utilWindowEnd | easeFail
  | linkHoldExpiry | portIdle | remoteRequest | gptpMessage | syncReceiptTimeout | announceReceiptTimeout | pdelayReqSend
  | aafFrame | crfFrame | listenerStartPlay | listenerStarved | listenerResume | talkerStartSend | stopTimeReached
  | stopRampEnd | talkerFrameSend | streamFault | rateRecovered | streamAutostart | lintelBeacon | lintelTick | fadeEnd
  | revertHoldExpiry | healthBlockEnd | tdmCommitApply | tdmPortStopped | outUnderrun | inOverrun | senseStale
  | senseRecovered | delayChangeRampEnd | measSlotEnd | foldbackEval | foldbackLimit | dcTestSpeakerStart
  | dcTestNotQuiet | dcTestSpeakerDone | dcTestAbort | baselineLearnDone | baselineLearnTimeout | ampFaultAssert
  | faultHoldExpiry | ampScriptDone | i2cRetry | i2cStretchTimeout | muteLineCheck | dieSensorDisagree | amonOutOfRange
  | amonBackInRange | canFrameReceive | canTxStart | canTxComplete | canAloneDetect | canRecoveryComplete | canInitEnter
  | canInitExit | isotpMessageComplete | isotpTimeout | responsePending | s3Timeout | securityDelayEnd | timerMatch
  | timerWrap | timerCapture | timerGateEvent | schedEntryReady | schedHeldRelease | selftestDone | canReceiveError
  | i2cTransferDone => exact next_rest (Dev.awake_rest hstopped _)
  | _ => cases hi

namespace Dev

/-- The slot of an image letter, `true` for B. -/
def slotAt (f : Flash) (b : Bool) : Slot := if b then f.slotB else f.slotA

/-- By the sequence numbers slot `b` goes before the other, A first between equal ones (R75). -/
def SeqFirst (f : Flash) (b : Bool) : Prop := if b then (slotAt f !b).seq < (slotAt f b).seq else (slotAt f !b).seq ≤ (slotAt f b).seq

/-- The slot that a test of the slots picks: of two that pass it the one that goes first. -/
def pickSlot (f : Flash) (ok : Slot → Bool) : Option Bool :=
  if ok f.slotA ∧ ok f.slotB then some (decide (f.slotA.seq < f.slotB.seq))
  else if ok f.slotA then some false
  else if ok f.slotB then some true
  else none

theorem bootSlot_eq (f : Flash) (permitted : Bool) : bootSlot f permitted =
    ((if permitted then pickSlot f Slot.onTrial else none).orElse fun _ => pickSlot f fun s => s.valid && s.confirmed).orElse
      fun _ => pickSlot f fun s => s.valid && !Slot.onTrial s := rfl

theorem pickSlot_some {f : Flash} {ok : Slot → Bool} {b : Bool} (h : pickSlot f ok = some b) :
    ok (slotAt f b) = true ∧ (ok (slotAt f !b) = true → SeqFirst f b) := by
  unfold pickSlot at h
  split_ifs at h with hboth hA hB <;> obtain rfl := Option.some.inj h
  · obtain ⟨hA, hB⟩ := hboth
    by_cases hlt : f.slotA.seq < f.slotB.seq
    · simp [slotAt, SeqFirst, hlt, hB]
    · simp [slotAt, SeqFirst, hlt, hA, Nat.le_of_not_lt hlt]
  · exact ⟨hA, fun hB => absurd ⟨hA, hB⟩ hboth⟩
  · exact ⟨hB, fun hA' => absurd hA' hA⟩

theorem pickSlot_none {f : Flash} {ok : Slot → Bool} (h : pickSlot f ok = none) (b : Bool) : ok (slotAt f b) = false := by
  unfold pickSlot at h
  split_ifs at h with hboth hA hB
  cases b
  · exact Bool.eq_false_iff.mpr hA
  · exact Bool.eq_false_iff.mpr hB

/-- A slot on offer is valid and not confirmed. -/
theorem onTrial_iff {s : Slot} : Slot.onTrial s = true ↔
    s.valid = true ∧ s.trial = true ∧ s.attempted = false ∧ s.confirmed = false := by
  simp [Slot.onTrial, and_assoc]

theorem bootSlot_some {f : Flash} {permitted b : Bool} (h : bootSlot f permitted = some b) :
    (slotAt f b).valid = true ∧
    (Slot.onTrial (slotAt f b) = true → permitted = true ∧ (Slot.onTrial (slotAt f !b) = true → SeqFirst f b)) ∧
    (Slot.onTrial (slotAt f b) = false → permitted = true → Slot.onTrial (slotAt f !b) = false) ∧
    (Slot.onTrial (slotAt f b) = false → (slotAt f b).confirmed = true → (slotAt f !b).valid = true →
      (slotAt f !b).confirmed = true → SeqFirst f b) ∧
    (Slot.onTrial (slotAt f b) = false → (slotAt f b).confirmed = false →
      ((slotAt f !b).valid = true → (slotAt f !b).confirmed = false) ∧
      ((slotAt f !b).valid = true → Slot.onTrial (slotAt f !b) = false → SeqFirst f b)) := by
  rw [bootSlot_eq] at h
  cases htrial : (if permitted then pickSlot f Slot.onTrial else none) with
  | some c =>
    obtain rfl : c = b := by simpa [htrial] using h
    have hpermitted : permitted = true := by by_contra hno; simp [hno] at htrial
    rw [if_pos hpermitted] at htrial
    obtain ⟨hon, hfirst⟩ := pickSlot_some htrial
    exact ⟨(onTrial_iff.mp hon).1, fun _ => ⟨hpermitted, hfirst⟩, by simp [hon], by simp [hon], by simp [hon]⟩
  | none =>
    have hoffer (hp : permitted = true) (c : Bool) : Slot.onTrial (slotAt f c) = false :=
      pickSlot_none (by rwa [if_pos hp] at htrial) c
    cases hconfirmed : pickSlot f fun s => s.valid && s.confirmed with
    | some c =>
      obtain rfl : c = b := by simpa [htrial, hconfirmed] using h
      obtain ⟨hrun, hfirst⟩ := pickSlot_some hconfirmed
      obtain ⟨hvalid, hconf⟩ := Bool.and_eq_true_iff.mp hrun
      exact ⟨hvalid, by simp [Slot.onTrial, hconf], fun _ hp => hoffer hp _,
        fun _ _ hv hc => hfirst (by simp [hv, hc]), by simp [hconf]⟩
    | none =>
      have hlast : pickSlot f (fun s => s.valid && !Slot.onTrial s) = some b := by simpa [htrial, hconfirmed] using h
      obtain ⟨hrun, hfirst⟩ := pickSlot_some hlast
      obtain ⟨hvalid, hoff⟩ : (slotAt f b).valid = true ∧ Slot.onTrial (slotAt f b) = false := by simpa using hrun
      have hnone (c : Bool) : (slotAt f c).valid = true → (slotAt f c).confirmed = false := by
        simpa using pickSlot_none hconfirmed c
      exact ⟨hvalid, by simp [hoff], fun _ hp => hoffer hp _, fun _ hc => by simp [hnone b hvalid] at hc,
        fun _ _ => ⟨hnone _, fun hv ho => hfirst (by simp [hv, ho])⟩⟩

theorem bootSlot_none {f : Flash} {permitted : Bool} (h : bootSlot f permitted = none) (b : Bool)
    (hvalid : (slotAt f b).valid = true) : Slot.onTrial (slotAt f b) = true ∧ permitted = false := by
  obtain ⟨⟨htrial, -⟩, hlast⟩ : ((permitted = true → pickSlot f Slot.onTrial = none) ∧
      (pickSlot f fun s => s.valid && s.confirmed) = none) ∧ (pickSlot f fun s => s.valid && !Slot.onTrial s) = none := by
    simpa [bootSlot_eq] using h
  have hon : Slot.onTrial (slotAt f b) = true := by simpa [hvalid] using pickSlot_none hlast b
  refine ⟨hon, Bool.eq_false_iff.mpr fun hp => ?_⟩
  simp [pickSlot_none (htrial hp) b] at hon

end Dev

/-- Settles O13: by which of R75's three picks answers. -/
theorem bootSlotRule : Obligations.BootSlotRule := by
  unfold Obligations.BootSlotRule
  refine ⟨fun f permitted b h => ?_, fun f permitted x h hx hvalid => ?_⟩
  · cases b <;> exact Dev.bootSlot_some h
  · rcases hx with rfl | rfl
    · exact Dev.bootSlot_none h false hvalid
    · exact Dev.bootSlot_none h true hvalid

end Sys2Proof.Machine
end

section
/-!
# What the blocks of other chapters leave of the power block

The ends that chapter 3 asks of other blocks (entering QUIET, waking, a VDDIO_E fault, NV-write inhibit) leave power,
the supervisor, the flash, the journal, the mailboxes and the words of the supplies as they are: `Dev.steady` puts
these together, and one rule per function says so, each from the rules of the functions it calls.
-/
namespace Sys2Proof.Machine
namespace Dev

/-- The words of the PWR block that hold readings, results and thresholds. -/
def supplyWords : List Nat :=
  [Reg.PWR_PROOF_RESULT, Reg.PWR_CTRL, Reg.PWR_VBAT, Reg.PWR_RAILS_A, Reg.PWR_THRESH, Reg.PWR_HOLDUP_EST]

/-- An address lies in one of those words. -/
def inSupplyWords (a : Nat) : Bool := supplyWords.any fun b => a / 4 == b / 4

/-- The mailboxes and the responses given, without the event queue. -/
def boxes (d : Dev) : Vector Mailbox 2 × List (Source × Byte) × Option Response × Option Response :=
  (d.mail.mb, d.mail.latePending, d.mail.testerResponse, d.mail.remoteResponse)

/-- What the functions of other blocks leave as it is. -/
def steady (d : Dev) := (d.power, d.sup, d.journal, d.flash, d.boxes, supplyWords.map d.reg)

theorem steady_iff {d e : Dev} : e.steady = d.steady ↔ e.power = d.power ∧ e.sup = d.sup ∧ e.journal = d.journal ∧
    e.flash = d.flash ∧ e.boxes = d.boxes ∧ ∀ a ∈ supplyWords, e.reg a = d.reg a := by
  simp only [steady, Prod.mk.injEq, List.map_inj_left]

theorem power_of_steady {d e : Dev} (h : e.steady = d.steady) : e.power = d.power := by
  obtain ⟨hpower, -⟩ := steady_iff.mp h
  exact hpower

/-- A part of the device that each item leaves is left by the whole list. -/
theorem foldl_part {α β : Type} {part : Dev → β} {f : Dev → α → Dev} {l : List α}
    (h : ∀ a ∈ l, ∀ d, part (f d a) = part d) (d : Dev) : part (l.foldl f d) = part d := by
  induction l generalizing d with
  | nil => rfl
  | cons a l ih =>
    rw [List.foldl_cons, ih fun b hb => h b (List.mem_cons_of_mem a hb), h a List.mem_cons_self]

/-! ### The rules of `steady`

As those of `fixed`, from the outside in (`↓`), each behind a proof that is not definitional. -/

@[simp ↓] theorem steady_mk (d : Dev) (host : HostPort) (arb : Arbiter) (ks : Keystone) (clk : ClkLatch)
    (eth : Vector EthPort 3) (remote : Remote) (gptp : Vector Gptp 3) (streams : StreamEngine) (lintel : Lintel)
    (tdm : Vector TdmPort 4) (route : Route) (meas : Meas) (can : Can) (gpio : Gpio) (timers : Timers)
    (sched : Vector SchedEntry 32) (tap : Tap) (selfTest : SelfTest) (cc freeIdx : Nat) :
    (Dev.mk d.regs host arb d.mail d.power d.flash d.journal d.sup ks clk eth remote gptp streams lintel tdm route meas
      can gpio timers sched tap selfTest cc freeIdx).steady = d.steady := (rfl)

@[simp ↓] theorem steady_ite (c : Prop) [Decidable c] (d e : Dev) :
    (if c then d else e).steady = if c then d.steady else e.steady := by split <;> rfl

@[simp ↓] theorem foldl_steady {α : Type} (f : Dev → α → Dev) (h : ∀ d a, (f d a).steady = d.steady) (l : List α) (d : Dev) :
    (l.foldl f d).steady = d.steady := foldl_part (fun a _ d => h d a) d

@[simp ↓] theorem setReg_steady (d : Dev) {a : Nat} (h : inSupplyWords a = false) (w : Word) : (d.setReg a w).steady = d.steady := by
  refine steady_iff.mpr ⟨rfl, rfl, rfl, rfl, rfl, fun b hb => ?_⟩
  have hne : a / 4 ≠ b / 4 := by simpa using List.any_eq_false.mp h b hb
  simp only [reg, setReg, Vector.getElem?_setIfInBounds, if_neg hne]

@[simp ↓] theorem setRbit_steady (d : Dev) {a : Nat} (h : inSupplyWords a = false) (i : Nat) (b : Bool) :
    (d.setRbit a i b).steady = d.steady := setReg_steady d h _

@[simp ↓] theorem raise_steady (d : Dev) {a : Nat} (h : inSupplyWords a = false) (m : Word) : (d.raise a m).steady = d.steady :=
  setReg_steady d h _

@[simp ↓] theorem raiseBit_steady (d : Dev) {a : Nat} (h : inSupplyWords a = false) (i : Nat) :
    (d.raiseBit a i).steady = d.steady := setReg_steady d h _

@[simp ↓] theorem raiseIf_steady (d : Dev) (c : Bool) {a : Nat} (h : inSupplyWords a = false) (i : Nat) :
    (d.raiseIf c a i).steady = d.steady := by
  simp [raiseIf, h]

/-- The blocks whose words repeat per port lie above the PWR block. -/
theorem inSupplyWords_of_le {a : Nat} (h : 0x80 ≤ a) : inSupplyWords a = false := by
  have hwords : ∀ b ∈ supplyWords, b < 0x80 := by decide
  refine List.any_eq_false.mpr fun b hb => ?_
  have := hwords b hb
  simp
  omega

@[simp ↓] theorem inSupplyWords_ethReg (p : Fin 3) {a : Nat} (h : 0x80 ≤ a) : inSupplyWords (ethReg p a) = false :=
  inSupplyWords_of_le (Nat.le_add_right_of_le h)

@[simp ↓] theorem inSupplyWords_tdmReg (p : Fin 4) {a : Nat} (h : 0x80 ≤ a) : inSupplyWords (tdmReg p a) = false :=
  inSupplyWords_of_le (Nat.le_add_right_of_le h)

theorem pushMail_boxes (m : Mail) (code : Nat) (arg : Word) :
    (pushMail m code arg).mb = m.mb ∧ (pushMail m code arg).latePending = m.latePending ∧
    (pushMail m code arg).testerResponse = m.testerResponse ∧ (pushMail m code arg).remoteResponse = m.remoteResponse := by
  unfold pushMail
  split <;> exact ⟨rfl, rfl, rfl, rfl⟩

@[simp ↓] theorem push_steady (d : Dev) (code : Nat) (arg : Word) : (d.push code arg).steady = d.steady := by
  unfold push
  split
  · obtain ⟨hmb, hlate, htester, hremote⟩ := pushMail_boxes d.mail code arg
    simp only [steady, boxes, hmb, hlate, htester, hremote]
    rfl
  · rfl

@[simp ↓] theorem pushIf_steady (d : Dev) (c : Bool) (code : Nat) (arg : Word) : (d.pushIf c code arg).steady = d.steady := by
  simp [pushIf]

@[simp ↓] theorem opDone_steady (d : Dev) (opcode status : Nat) (tag : Byte) : (d.opDone opcode status tag).steady = d.steady := by
  unfold opDone
  refine (push_steady ..).trans ?_
  unfold testerEnd
  split <;> rfl

@[simp ↓] theorem modKs_steady (d : Dev) (f : Keystone → Keystone) : (d.modKs f).steady = d.steady := (rfl)
@[simp ↓] theorem modPort_steady (d : Dev) (p : Fin 3) (f : EthPort → EthPort) : (d.modPort p f).steady = d.steady := (rfl)
@[simp ↓] theorem modLink_steady (d : Dev) (p : Fin 3) (f : PortLink → PortLink) : (d.modLink p f).steady = d.steady := (rfl)
@[simp ↓] theorem modTraffic_steady (d : Dev) (p : Fin 3) (f : PortTraffic → PortTraffic) :
    (d.modTraffic p f).steady = d.steady := (rfl)
@[simp ↓] theorem modGptp_steady (d : Dev) (p : Fin 3) (f : Gptp → Gptp) : (d.modGptp p f).steady = d.steady := (rfl)
@[simp ↓] theorem modListener_steady (d : Dev) (i : Fin 16) (f : Listener → Listener) : (d.modListener i f).steady = d.steady := (rfl)
@[simp ↓] theorem modGroup_steady (d : Dev) (g : Fin 8) (f : Group → Group) : (d.modGroup g f).steady = d.steady := (rfl)
@[simp ↓] theorem modTdm_steady (d : Dev) (p : Fin 4) (f : TdmPort → TdmPort) : (d.modTdm p f).steady = d.steady := (rfl)
@[simp ↓] theorem modRoute_steady (d : Dev) (f : Route → Route) : (d.modRoute f).steady = d.steady := (rfl)
@[simp ↓] theorem modMeas_steady (d : Dev) (f : Meas → Meas) : (d.modMeas f).steady = d.steady := (rfl)
@[simp ↓] theorem modSpeaker_steady (d : Dev) (k : Fin 16) (f : Speaker → Speaker) : (d.modSpeaker k f).steady = d.steady := (rfl)
@[simp ↓] theorem modAmp_steady (d : Dev) (k : Fin 4) (f : Amp → Amp) : (d.modAmp k f).steady = d.steady := (rfl)
@[simp ↓] theorem modBus_steady (d : Dev) (b : Fin 2) (f : Bus → Bus) : (d.modBus b f).steady = d.steady := (rfl)
@[simp ↓] theorem modCan_steady (d : Dev) (f : Can → Can) : (d.modCan f).steady = d.steady := (rfl)
@[simp ↓] theorem modGpio_steady (d : Dev) (f : Gpio → Gpio) : (d.modGpio f).steady = d.steady := (rfl)

/-! ### What NV-write inhibit ends -/

@[simp ↓] theorem dcNext_steady (d : Dev) (k : Fin 16) (outcome : Nat) : (d.dcNext k outcome).steady = d.steady := by
  unfold dcNext
  split <;> simp

@[simp ↓] theorem dcAbort_steady (d : Dev) (k : Fin 16) (c : DcAbort) : (d.dcAbort k c).steady = d.steady := by
  simp [dcAbort]

@[simp ↓] theorem dcSupply_steady (d : Dev) : d.dcSupply.steady = d.steady := by
  unfold dcSupply
  split <;> simp

/-! ### What QUIET entry ends -/

@[simp ↓] theorem tdmEnter_steady (d : Dev) (p : Fin 4) (s : TdmState) : (d.tdmEnter p s).steady = d.steady := by
  simp [tdmEnter]

@[simp ↓] theorem tdmQuiet_steady (d : Dev) (p : Fin 4) : (d.tdmQuiet p).steady = d.steady := by
  simp [tdmQuiet]

@[simp ↓] theorem measQuiet_steady (d : Dev) : d.measQuiet.steady = d.steady := by
  unfold measQuiet
  dsimp only
  split <;> simp

@[simp ↓] theorem selfTestStop_steady (d : Dev) : d.selfTestStop.steady = d.steady := by
  unfold selfTestStop
  split
  · rfl
  · simp

@[simp ↓] theorem pushSession_steady (d : Dev) : d.pushSession.steady = d.steady := by
  simp [pushSession]

@[simp ↓] theorem sessionEnd_steady (d : Dev) : d.sessionEnd.steady = d.steady := by
  unfold sessionEnd
  dsimp only
  split
  · simp; rfl
  · rfl

@[simp ↓] theorem canQuiet_steady (d : Dev) : d.canQuiet.steady = d.steady := by
  simp +decide [canQuiet]

/-! ### A port forced down, and a port that starts again -/

@[simp ↓] theorem ethFlag_steady (d : Dev) (p : Fin 3) (i : Nat) : (d.ethFlag p i).steady = d.steady := by
  simp +decide [ethFlag]

@[simp ↓] theorem count_steady (d : Dev) (p : Fin 3) (k : Fin 40) : (d.count p k).steady = d.steady := by
  unfold count countBy halfFlag
  split <;> simp +decide

@[simp ↓] theorem linkEnter_steady (d : Dev) (p : Fin 3) (s : LinkState) (planned : Bool) :
    (d.linkEnter p s planned).steady = d.steady := by
  simp [linkEnter, linkEvent]

@[simp ↓] theorem refLose_steady (d : Dev) (n : Fin 8) (planned : Bool) : (d.refLose n planned).steady = d.steady := (rfl)

@[simp ↓] theorem gptpSet_steady (d : Dev) (p : Fin 3) (role : GptpRole) (cap : Bool) : (d.gptpSet p role cap).steady = d.steady := by
  simp [gptpSet, gptpEvent]

@[simp ↓] theorem gptpReset_steady (d : Dev) (p : Fin 3) : (d.gptpReset p).steady = d.steady := by
  simp [gptpReset]

@[simp ↓] theorem talkerDiscard_steady (d : Dev) (t : Option (Fin 8)) : (d.talkerDiscard t).steady = d.steady := by
  fun_cases talkerDiscard d t <;> simp

@[simp ↓] theorem departUp_steady (d : Dev) (p : Fin 3) : (d.departUp p).steady = d.steady := by
  simp [departUp, discardQueue]

@[simp ↓] theorem portForceDown_steady (d : Dev) (p : Fin 3) (loss : Bool) : (d.portForceDown p loss).steady = d.steady := by
  simp [portForceDown]

@[simp ↓] theorem leaveDown_steady (d : Dev) (p : Fin 3) : (d.leaveDown p).steady = d.steady := by
  simp [leaveDown, enterTraining]

/-! ### What a wake starts again -/

@[simp ↓] theorem settleBus_steady (d : Dev) (b : Fin 2) : (d.settleBus b).steady = d.steady := modBus_steady ..

@[simp ↓] theorem settleSources_steady (d : Dev) : d.settleSources.steady = d.steady := by
  simp [settleSources, faultSettle, faultRelease]

@[simp ↓] theorem pinsReturn_steady (d : Dev) : d.pinsReturn.steady = d.steady := by
  simp [pinsReturn, pinsRelease]

@[simp ↓] theorem tdmTake_steady (d : Dev) (p : Fin 4) : (d.tdmTake p).steady = d.steady := by
  simp +decide [tdmTake, tdmFlag, senseRestart]

@[simp ↓] theorem tdmWake_steady (d : Dev) (p : Fin 4) : (d.tdmWake p).steady = d.steady := by
  simp [tdmWake]

@[simp ↓] theorem refDrop_steady (d : Dev) (n : Fin 7) : (d.refDrop n).steady = d.steady := by
  simp +decide [refDrop, refUnqualify]

@[simp ↓] theorem ksEnter_steady (d : Dev) (s : KsState) : (d.ksEnter s).steady = d.steady := by
  simp +decide [ksEnter]

@[simp ↓] theorem retune_steady (d : Dev) : d.retune.steady = d.steady := by
  simp +decide [retune]

@[simp ↓] theorem ksQuietExit_steady (d : Dev) (named : Option (Fin 8)) : (d.ksQuietExit named).steady = d.steady := by
  unfold ksQuietExit
  dsimp only
  repeat' split
  all_goals simp +decide [enterSteer, enterFree, ksSelect, enterExpired]

@[simp ↓] theorem listenerWaiting_steady (d : Dev) (i : Fin 16) (reason : Nat) : (d.listenerWaiting i reason).steady = d.steady := by
  simp [listenerWaiting, listenerEnter, streamEvent]

@[simp ↓] theorem timeLost_steady (d : Dev) : d.timeLost.steady = d.steady := by
  refine foldl_steady _ (fun e i => ?_) _ d
  fun_cases listenerWait e i 4 <;> simp

@[simp ↓] theorem enterBothLost_steady (d : Dev) (g : Fin 8) : (d.enterBothLost g).steady = d.steady := by
  simp +decide [enterBothLost, groupEnter, modGroupCounts]

@[simp ↓] theorem nameEntry_steady (d : Dev) : d.nameEntry.steady = d.steady := by
  simp +decide [nameEntry]

@[simp ↓] theorem canQuietExit_steady (d : Dev) : d.canQuietExit.steady = d.steady := by
  simp +decide [canQuietExit]

@[simp ↓] theorem cycleStart_steady (d : Dev) : d.cycleStart.steady = d.steady := by
  simp [cycleStart, dtcUnsaved]

@[simp ↓] theorem requestScript_steady (d : Dev) (k : Fin 4) (kind : ScriptKind) (reply : Option Byte) :
    (d.requestScript k kind reply).steady = d.steady := by
  unfold requestScript
  split <;> simp [addJob]

@[simp ↓] theorem requestStarts_steady (d : Dev) : d.requestStarts.steady = d.steady := by
  simp [requestStarts]

end Dev
end Sys2Proof.Machine
end

section
/-!
# Proof and boot (R71 to R76)
-/
namespace Sys2Proof.Machine

/-- A row with an effect of which it is known what it comes to. -/
theorem does_of_eq {s : State} {i : Instr} {f : Dev → Dev} {e : Dev} {P : Dev → Prop} (hi : exec i s = s.act f)
    (hf : f s.dev = e) (h : P e) : s.Does i P := ⟨e, by rw [hi, State.act_eq, hf], h⟩

/-! ### Fields of a word that is put together -/

theorem fld_or (a b : Word) (hi lo : Nat) : fld (a ||| b) hi lo = fld a hi lo ||| fld b hi lo := by
  refine Nat.eq_of_testBit_eq fun i => ?_
  rw [Nat.testBit_or, fld_testBit, fld_testBit, fld_testBit, BitVec.getLsbD_or, Bool.and_or_distrib_left]

/-- The number placed at a field, as far as it fits. -/
theorem fld_at (lo v : Nat) {hi : Nat} (h : hi < 32) : fld (at' lo v) hi lo = v % 2 ^ (hi + 1 - lo) := by
  refine Nat.eq_of_testBit_eq fun i => ?_
  rw [fld_testBit, at_bit, Nat.testBit_mod_two_pow]
  by_cases hi' : i < hi + 1 - lo
  · simp [hi', show lo + i < 32 by omega]
  · simp [hi']

/-- A number placed above a field. -/
theorem fld_at_above {l hi : Nat} (h : hi < l) (v lo : Nat) : fld (at' l v) hi lo = 0 := by
  refine Nat.eq_of_testBit_eq fun i => ?_
  rw [fld_testBit, at_bit, Nat.zero_testBit]
  by_cases hi' : i < hi + 1 - lo
  · simp [show ¬ l ≤ lo + i by omega]
  · simp [hi']

/-- A number placed below a field that does not reach it. -/
theorem fld_at_below {l v lo : Nat} (h : v < 2 ^ (lo - l)) (hi : Nat) : fld (at' l v) hi lo = 0 := by
  refine Nat.eq_of_testBit_eq fun i => ?_
  rw [fld_testBit, at_bit, Nat.zero_testBit]
  by_cases hl : l ≤ lo + i
  · have hbit : v.testBit (lo + i - l) = false :=
      Nat.testBit_lt_two_pow (h.trans_le (Nat.pow_le_pow_right (by decide) (by omega)))
    simp [hbit]
  · simp [hl]

namespace Dev

/-! ### Proof (R71, Table 3.4) -/

/-- The device as Proof's steps measured it, with the result of the first step that failed. -/
def proofMeasured (d : Dev) (r : ProofReadings) (fail : Option (Nat × Nat × Nat)) : Dev :=
  let d := d.setReg Reg.PWR_PROOF_RESULT (orW [at' 0 (fail.elim 0 fun f => f.2.1),
    at' 8 (fail.elim 0 fun f => f.2.2 % 65536), at' 24 (r.time % 256)])
  let d := (d.setReg Reg.PWR_RAILS_A (at' 0 r.vdd33 ||| at' 16 r.vddc)).setReg Reg.PWR_RAILS_B
    (at' 0 r.vddioE ||| at' 16 r.vdda)
  let measured := fail.all fun f => 9 < f.1
  { d with sup := { d.sup with
    ioeMode := ioeWindow r.vddioE
    dieA := if measured then 2 * r.dieA else d.sup.dieA
    dieB := if measured then 2 * r.dieB else d.sup.dieB } }

theorem proofMeasured_result (d : Dev) (r : ProofReadings) (fail : Option (Nat × Nat × Nat)) :
    (d.proofMeasured r fail).reg Reg.PWR_PROOF_RESULT = orW [at' 0 (fail.elim 0 fun f => f.2.1),
      at' 8 (fail.elim 0 fun f => f.2.2 % 65536), at' 24 (r.time % 256)] := by
  have hreg : (d.proofMeasured r fail).reg Reg.PWR_PROOF_RESULT = (((d.setReg Reg.PWR_PROOF_RESULT _).setReg
    Reg.PWR_RAILS_A _).setReg Reg.PWR_RAILS_B _).reg Reg.PWR_PROOF_RESULT := rfl
  rw [hreg, reg_setReg_other _ (by decide) (by decide), reg_setReg_other _ (by decide) (by decide),
    reg_setReg_same _ (by decide)]

/-- FAIL_CODE and PROOF_TIME of PWR_PROOF_RESULT. -/
theorem proofMeasured_fields {d : Dev} {r : ProofReadings} {fail : Option (Nat × Nat × Nat)}
    (hcode : fail.elim 0 (fun f => f.2.1) < 256) :
    (d.proofMeasured r fail).rfld Reg.PWR_PROOF_RESULT 7 0 = fail.elim 0 (fun f => f.2.1) ∧
    (d.proofMeasured r fail).rfld Reg.PWR_PROOF_RESULT 31 24 = r.time % 256 := by
  have hdetail : fail.elim 0 (fun f => f.2.2 % 65536) < 2 ^ (24 - 8) := by
    cases fail with
    | none => decide
    | some f => exact Nat.mod_lt _ (by decide)
  unfold rfld
  rw [proofMeasured_result]
  simp only [orW, List.foldl, fld_or]
  constructor
  · rw [fld_at _ _ (by decide), fld_at_above (by decide), fld_at_above (by decide)]
    simpa [fld] using hcode
  · rw [fld_at _ _ (by decide), fld_at_below (lo := 24) (hcode.trans (by decide)), fld_at_below hdetail]
    simp [fld]

theorem proofFailure_first {r : ProofReadings} {f : Flash} {k step code detail : Nat}
    (hk : (proofFailures r f)[k]? = some (true, step, code, detail))
    (hfirst : ∀ (j : Nat) x, j < k → (proofFailures r f)[j]? = some x → x.1 = false) :
    proofFailure r f = some (step, code, detail) := by
  obtain ⟨hlen, hat⟩ := List.getElem?_eq_some_iff.mp hk
  have hfind : (proofFailures r f).find? (·.1) = some (true, step, code, detail) := by
    refine List.find?_eq_some_iff_getElem.mpr ⟨rfl, k, hlen, hat, fun j hj => ?_⟩
    simp [hfirst j _ hj (List.getElem?_eq_getElem (hj.trans hlen))]
  rw [proofFailure, hfind, Option.map_some]

theorem proofFailure_none {r : ProofReadings} {f : Flash} (h : ∀ x ∈ proofFailures r f, x.1 = false) :
    proofFailure r f = none := by
  simpa [proofFailure] using h

/-- Every failure code of Table 3.4 fits FAIL_CODE. -/
theorem proofFailures_code {r : ProofReadings} {f : Flash} {x : Bool × Nat × Nat × Nat} (h : x ∈ proofFailures r f) :
    x.2.2.1 < 256 := by
  have hcodes : (proofFailures r f).map (·.2.2.1) =
      [0x01, 0x02, 0x03, 0x04, 0x10, 0x11, 0x20, 0x21, 0x22, 0x32, 0x30, 0x31, 0x40, 0x50, 0x51, 0x52, 0x60] := rfl
  have hmem := List.mem_map_of_mem (f := (·.2.2.1)) h
  rw [hcodes] at hmem
  revert hmem
  exact (by decide : ∀ n ∈ _, n < 256) _

theorem canRecover_steady (d : Dev) : d.canRecover.steady = d.steady := by
  simp [canRecover]

/-- The items of CAN_SETUP and CAN_TESTER_SET set up CAN alone. -/
theorem replayItem_can_steady (d : Dev) {item : Nat × List Word} (h : item.1 = 0x0900 ∨ item.1 = 0x0901) :
    (d.replayItem item).steady = d.steady := by
  obtain ⟨key, v⟩ := item
  obtain rfl | rfl : key = 0x0900 ∨ key = 0x0901 := h
  · have hrun : d.replayItem (0x0900, v) = d.effect (cmdCanSetup .mb0 (itemRequest v) d) := rfl
    rw [hrun]
    unfold cmdCanSetup
    split
    · rfl
    · dsimp only
      split
      · exact (canRecover_steady _).trans (by simp +decide)
      · exact (setRbit_steady _ (by decide) ..).trans (modCan_steady ..)
  · have hrun : d.replayItem (0x0901, v) = d.effect (cmdCanTesterSet .mb0 (itemRequest v) d) := rfl
    rw [hrun]
    unfold cmdCanTesterSet
    dsimp only
    split
    · rfl
    · split
      · rfl
      · exact (setRbit_steady _ (by decide) ..).trans (modCan_steady ..)

theorem holdCan_steady (d : Dev) (flashOk : Bool) : (d.holdCan flashOk).steady = d.steady := by
  unfold holdCan
  rw [setRbit_steady _ (by decide)]
  refine foldl_part (part := steady) (fun item hitem e => replayItem_can_steady e ?_) d
  split at hitem
  · simpa using (List.mem_filter.mp hitem).2
  · cases hitem

theorem proofComplete_pass {d : Dev} {r : ProofReadings} (hproof : d.power.state = .proof)
    (hruns : d.power.proofStopped = false) (hpins : d.pinsTaken = false) (h : proofFailure r d.flash = none) :
    d.proofComplete r = let e := d.proofMeasured r none
      { e with power := { e.power with state := .boot, proofStep := 10 } } := by
  unfold proofComplete
  rw [if_neg (by simp [hproof, hruns, hpins]), h]
  rfl

theorem proofComplete_fail {d : Dev} {r : ProofReadings} {step code detail : Nat} (hproof : d.power.state = .proof)
    (hruns : d.power.proofStopped = false) (hpins : d.pinsTaken = false)
    (h : proofFailure r d.flash = some (step, code, detail)) :
    ∃ e : Dev, d.proofComplete r = e.holdCan r.flashOk ∧ e.power.state = .proofHold ∧ e.power.proofStep = step ∧
      e.regs = (d.proofMeasured r (some (step, code, detail))).regs := by
  unfold proofComplete
  rw [if_neg (by simp [hproof, hruns, hpins]), h]
  exact ⟨_, rfl, rfl, rfl, rfl⟩

end Dev

/-- Settles O14: by the first row of Table 3.4 that fails, if one does. -/
theorem proofResult : Obligations.ProofResult := by
  unfold Obligations.ProofResult
  intro r s hproof hruns hpins
  refine ⟨fun hpass => ?_, fun k step code detail hk hfirst => ?_⟩
  · obtain ⟨hcode, htime⟩ := Dev.proofMeasured_fields (d := s.dev) (r := r) (fail := none) (by decide)
    exact does_of_eq (exec_proofComplete r s) (Dev.proofComplete_pass hproof hruns hpins (Dev.proofFailure_none hpass))
      ⟨rfl, rfl, hcode, htime⟩
  · obtain ⟨hcode, htime⟩ := Dev.proofMeasured_fields (d := s.dev) (r := r) (fail := some (step, code, detail))
      (Dev.proofFailures_code (List.mem_of_getElem? hk))
    obtain ⟨e, hends, hstate, hstep, hregs⟩ :=
      Dev.proofComplete_fail hproof hruns hpins (Dev.proofFailure_first hk hfirst)
    obtain ⟨hpower, -, -, -, -, hwords⟩ := Dev.steady_iff.mp (e.holdCan_steady r.flashOk)
    have hresult := (hwords Reg.PWR_PROOF_RESULT (by decide)).trans (Dev.reg_congr hregs _)
    refine does_of_eq (exec_proofComplete r s) hends ?_
    rw [hpower, Dev.rfld, Dev.rfld, hresult]
    exact ⟨hstate, hstep, hcode, htime⟩

namespace Dev

/-! ### Boot (R75, R76) -/

theorem proofStart_off {d : Dev} (hoff : d.power.state = .off) (hpor : d.power.porAsserted = false)
    (hrst : d.power.rstLow = false) (hpins : d.pinsTaken = false) : d.proofReady = true := by
  simp [proofReady, hoff, hpor, hrst, hpins]

theorem bootStart_flash {d : Dev} {b : Bool} (hboot : d.power.state = .boot) (hfirst : d.power.slotStarted = false)
    (h : bootSlot d.flash d.flashPermitted = some b) :
    d.bootStart.flash.runningB = b ∧ d.bootStart.power = { d.power with slotStarted := true } ∧
    slotAt d.bootStart.flash b =
      { slotAt d.flash b with attempted := (slotAt d.flash b).attempted || Slot.onTrial (slotAt d.flash b) } ∧
    slotAt d.bootStart.flash (!b) = slotAt d.flash !b := by
  unfold bootStart
  rw [if_neg (by simp [hboot, hfirst]), h]
  cases b <;> exact ⟨rfl, rfl, rfl, rfl⟩

/-- ACTIVE is entered, and what follows leaves power as it is. -/
theorem bootComplete_active {d : Dev} (hboot : d.power.state = .boot) (hstarted : d.power.slotStarted = true) :
    d.bootComplete.power.state = .active ∧ d.bootComplete.streams.autostart = true := by
  unfold bootComplete
  rw [if_neg (by simp [hboot, hstarted])]
  refine ⟨?_, rfl⟩
  dsimp only
  rw [modStreams_power, power_of_steady (requestStarts_steady _), power_of_steady (cycleStart_steady _), pushIf_power,
    raiseBit_power]

end Dev

/-- Settles O12: the guards of each row, and for BOOT_COMPLETE what follows the entry to ACTIVE. -/
theorem releaseProofAndBoot : Obligations.ReleaseProofAndBoot := by
  unfold Obligations.ReleaseProofAndBoot
  refine ⟨fun s hpor => ?_, fun s => ?_, fun s => exec_rstNRelease s, fun s hoff hpor hrst hpins => ?_,
    fun b s hboot hfirst hslot => ?_, fun s hboot hstarted => ⟨_, rfl, Dev.bootComplete_active hboot hstarted⟩⟩
  · exact next_dev (if_pos ⟨hpor, rfl⟩)
  · exact next_rest (if_neg (by simp))
  · have hready := Dev.proofStart_off hoff hpor hrst hpins
    rw [exec_proofStart, execProofStart, Dev.proofStart, if_pos hready, if_pos hready]
  · obtain ⟨hrunning, hpower, hrun, hother⟩ := Dev.bootStart_flash hboot hfirst hslot
    refine does_of_eq (exec_bootStart s) rfl ⟨hrunning, hpower, fun htrial => ?_, ?_⟩
    · have hattempted : (Dev.slotAt s.dev.bootStart.flash b).attempted = true := by
        rw [hrun]
        exact (congrArg (_ || ·) htrial).trans (Bool.or_true _)
      exact hattempted
    · cases b <;> exact hother

end Sys2Proof.Machine
end

section
/-!
# The supply supervisor (R80 to R84)
-/
namespace Sys2Proof.Machine
namespace Dev

/-! ### What the supervisor leaves at the end of a sample -/

/-- What the supervisor holds, and the words it shows it in. -/
def supplies (d : Dev) : Supervisor × List Word := (d.sup, supplyWords.map d.reg)

theorem supplies_of_steady {d e : Dev} (h : e.steady = d.steady) : e.supplies = d.supplies := by
  obtain ⟨-, hsup, -, -, -, hwords⟩ := steady_iff.mp h
  exact Prod.ext hsup (List.map_congr_left hwords)

theorem supplies_iff {d e : Dev} : e.supplies = d.supplies ↔ e.sup = d.sup ∧ ∀ a ∈ supplyWords, e.reg a = d.reg a := by
  simp only [supplies, Prod.mk.injEq, List.map_inj_left]

theorem raiseBit_supplies (d : Dev) {a : Nat} (h : inSupplyWords a = false) (i : Nat) : (d.raiseBit a i).supplies = d.supplies :=
  supplies_of_steady (raiseBit_steady d h i)

theorem journalWithhold_supplies (d : Dev) : d.journalWithhold.supplies = d.supplies := by
  unfold journalWithhold
  dsimp only
  split
  · rfl
  · exact raiseBit_supplies _ (by decide) _

theorem dipInWrite_supplies (d : Dev) (vdd33 : Nat) : (d.dipInWrite vdd33).supplies = d.supplies := by
  unfold dipInWrite
  dsimp only
  split
  · rfl
  · exact raiseBit_supplies _ (by decide) _

/-- Where the second step of QUIET entry begins, all but power stays as it is. -/
theorem quietAdvance_cases (d : Dev) : d.quietAdvance = d ∨
    d.quietAdvance.steady = ({ d with power := { d.power with quietBegun := true } } : Dev).steady := by
  unfold quietAdvance
  split
  · exact .inl rfl
  · exact .inr (by simp)

theorem quietAdvance_supplies (d : Dev) : d.quietAdvance.supplies = d.supplies := by
  rcases d.quietAdvance_cases with h | h
  · rw [h]
  · exact (supplies_of_steady h).trans rfl

/-! ### One sample -/

/-- VBAT as PWR_VBAT shows it, saturated above 18.0 V. -/
def vbatShown (x : SupplySample) : Nat := if 1800 < x.vbat then 0xFFFF else x.vbat

/-- The device with the readings of a sample in its words. -/
def sampleRead (d : Dev) (x : SupplySample) : Dev :=
  let d := ((d.vbatTake (vbatShown x)).setReg Reg.PWR_RAILS_A (at' 0 x.vdd33 ||| at' 16 x.vddc)).setReg Reg.PWR_RAILS_B
    (at' 0 x.vddioE ||| at' 16 x.vdda)
  d.setRfld Reg.PWR_HOLDUP_EST 15 0 d.holdupEst

/-- The device with the conditions of Table 3.7 judged, from the second sample on. -/
def sampleJudged (d : Dev) (x : SupplySample) : Dev :=
  match d.sup.prev with
  | some w => (d.sampleRead x).supervise (vbatShown x, x.vdd33) w
  | none => d.sampleRead x

/-- The device with the sample as its last one. -/
def sampleTaken (d : Dev) (x : SupplySample) : Dev :=
  let e := d.sampleJudged x
  { e with sup := { e.sup with
    prev := some (vbatShown x, x.vdd33), samples := min 2 (e.sup.samples + 1), dieA := x.dieA, dieB := x.dieB, amon := x.amon } }

theorem supervisorSample_supplies {d : Dev} (hoff : d.power.state ≠ .off) (hproof : d.power.state ≠ .proof) (x : SupplySample) :
    (d.supervisorSample x).supplies = (d.sampleTaken x).supplies := by
  have hends : d.supervisorSample x = ((d.sampleTaken x).dipInWrite x.vdd33).journalWithhold.quietAdvance := by
    unfold supervisorSample
    rw [if_neg (by simp [hoff, hproof])]
    rfl
  rw [hends, quietAdvance_supplies, journalWithhold_supplies, dipInWrite_supplies]

theorem sampleRead_vbat (d : Dev) (x : SupplySample) : (d.sampleRead x).rfld Reg.PWR_VBAT 15 0 = vbatShown x := by
  have hfits : vbatShown x < 65536 := by unfold vbatShown; split <;> omega
  have hword : (d.sampleRead x).reg Reg.PWR_VBAT =
      at' 0 (vbatShown x) ||| at' 16 (min (vbatShown x) (d.rfld Reg.PWR_VBAT 31 16)) := by
    unfold sampleRead
    rw [reg_setRfld_other _ (by decide) (by decide), reg_setReg_other _ (by decide) (by decide),
      reg_setReg_other _ (by decide) (by decide), vbatTake, reg_setReg_same _ (by decide)]
  rw [rfld, hword, fld_or, fld_at _ _ (by decide), fld_at_above (by decide), Nat.or_zero]
  exact Nat.mod_eq_of_lt hfits

theorem sampleRead_railsA (d : Dev) (x : SupplySample) : (d.sampleRead x).rfld Reg.PWR_RAILS_A 15 0 = x.vdd33 % 65536 := by
  have hword : (d.sampleRead x).reg Reg.PWR_RAILS_A = at' 0 x.vdd33 ||| at' 16 x.vddc := by
    unfold sampleRead
    rw [reg_setRfld_other _ (by decide) (by decide), reg_setReg_other _ (by decide) (by decide), reg_setReg_same _ (by decide)]
  exact (congrArg (fld · 15 0) hword).trans (by rw [fld_or, fld_at _ _ (by decide), fld_at_above (by decide), Nat.or_zero]; rfl)

/-- A sample changes no threshold. -/
theorem sampleRead_word (d : Dev) (x : SupplySample) {a : Nat} (h : a = Reg.PWR_THRESH ∨ a = Reg.PWR_CTRL) :
    (d.sampleRead x).reg a = d.reg a := by
  unfold sampleRead vbatTake
  rcases h with rfl | rfl <;>
    rw [reg_setRfld_other _ (by decide) (by decide), reg_setReg_other _ (by decide) (by decide),
      reg_setReg_other _ (by decide) (by decide), reg_setReg_other _ (by decide) (by decide)]

/-! ### The conditions of Table 3.7 -/

theorem twoSamples_enter (e l : Bool × Bool) : twoSamples false e l = true ↔ e.1 = true ∧ e.2 = true := by
  simp [twoSamples]

theorem twoSamples_leave (e l : Bool × Bool) : twoSamples true e l = false ↔ l.1 = true ∧ l.2 = true := by
  simp [twoSamples]

/-- What the supervisor holds after it judged the samples `v` and `w`. -/
def judged (d : Dev) (v w : Nat × Nat) : Supervisor :=
  let nvw := d.rfld Reg.PWR_THRESH 15 0
  let crank := d.rfld Reg.PWR_THRESH 31 16
  let dump := d.rfld Reg.PWR_CTRL 31 16
  let both (f : Nat × Nat → Bool) : Bool × Bool := (f v, f w)
  { d.sup with
    nvwInhibit := twoSamples d.sup.nvwInhibit (both fun x => x.1 < nvw || x.2 < 3050)
      (both fun x => nvw + 30 ≤ x.1 && 3100 ≤ x.2 && !d.sup.vbatOpen)
    crank := twoSamples d.sup.crank (both fun x => x.1 < crank) (both fun x => crank + 30 ≤ x.1)
    loadDump := twoSamples d.sup.loadDump (both fun x => dump < x.1) (both fun x => x.1 ≤ dump - 50)
    supplyMute := d.sup.supplyMute || (v.2 < 3000 && w.2 < 3000) }

section
variable {d : Dev} {v w : Nat × Nat}

theorem judged_inhibit_enters (h : d.sup.nvwInhibit = false) : (d.judged v w).nvwInhibit = true ↔
    (v.1 < d.rfld Reg.PWR_THRESH 15 0 ∨ v.2 < 3050) ∧ (w.1 < d.rfld Reg.PWR_THRESH 15 0 ∨ w.2 < 3050) := by
  simp [judged, h, twoSamples_enter]

theorem judged_inhibit_leaves (h : d.sup.nvwInhibit = true) : (d.judged v w).nvwInhibit = false ↔ d.sup.vbatOpen = false ∧
    (d.rfld Reg.PWR_THRESH 15 0 + 30 ≤ v.1 ∧ 3100 ≤ v.2) ∧ d.rfld Reg.PWR_THRESH 15 0 + 30 ≤ w.1 ∧ 3100 ≤ w.2 := by
  simp [judged, h, twoSamples_leave]
  tauto

theorem judged_crank_enters (h : d.sup.crank = false) : (d.judged v w).crank = true ↔
    v.1 < d.rfld Reg.PWR_THRESH 31 16 ∧ w.1 < d.rfld Reg.PWR_THRESH 31 16 := by
  simp [judged, h, twoSamples_enter]

theorem judged_crank_leaves (h : d.sup.crank = true) : (d.judged v w).crank = false ↔
    d.rfld Reg.PWR_THRESH 31 16 + 30 ≤ v.1 ∧ d.rfld Reg.PWR_THRESH 31 16 + 30 ≤ w.1 := by
  simp [judged, h, twoSamples_leave]

theorem judged_loadDump_enters (h : d.sup.loadDump = false) : (d.judged v w).loadDump = true ↔
    d.rfld Reg.PWR_CTRL 31 16 < v.1 ∧ d.rfld Reg.PWR_CTRL 31 16 < w.1 := by
  simp [judged, h, twoSamples_enter]

theorem judged_loadDump_leaves (h : d.sup.loadDump = true) : (d.judged v w).loadDump = false ↔
    v.1 ≤ d.rfld Reg.PWR_CTRL 31 16 - 50 ∧ w.1 ≤ d.rfld Reg.PWR_CTRL 31 16 - 50 := by
  simp [judged, h, twoSamples_leave]

theorem judged_mute_enters (h : d.sup.supplyMute = false) : (d.judged v w).supplyMute = true ↔ v.2 < 3000 ∧ w.2 < 3000 := by
  simp [judged, h]

/-- Supply mute is not left by a sample (R84). -/
theorem judged_mute_stays (h : d.sup.supplyMute = true) : (d.judged v w).supplyMute = true := by
  simp [judged, h]

end

theorem supervise_supplies (d : Dev) (v w : Nat × Nat) :
    (d.supervise v w).supplies = ({ d with sup := d.judged v w } : Dev).supplies := by
  refine supplies_of_steady ?_
  unfold supervise
  extract_lets s nvw crank ld both inhibit cranks dump mute e e1 e2 e3
  have h3 : e3.steady = e2.steady := by
    simp only [e3]
    split <;> simp
  have h2 : e2.steady = e1.steady := raise_steady _ (by decide) _
  have h1 : e1.steady = e.steady := raise_steady _ (by decide) _
  exact (pushIf_steady ..).trans (h3.trans (h2.trans h1))

theorem sampleJudged_sup {d : Dev} {w : Nat × Nat} (h : d.sup.prev = some w) (x : SupplySample) :
    (d.sampleJudged x).sup = d.judged (vbatShown x, x.vdd33) w := by
  have hthresh := d.sampleRead_word x (.inl rfl)
  have hctrl := d.sampleRead_word x (.inr rfl)
  obtain ⟨hsup, -⟩ := supplies_iff.mp ((d.sampleRead x).supervise_supplies (vbatShown x, x.vdd33) w)
  unfold sampleJudged
  rw [h]
  refine hsup.trans ?_
  unfold judged rfld
  rw [hthresh, hctrl]
  rfl

theorem sampleJudged_word (d : Dev) (x : SupplySample) {a : Nat} (h : a ∈ supplyWords) :
    (d.sampleJudged x).reg a = (d.sampleRead x).reg a := by
  unfold sampleJudged
  split
  · obtain ⟨-, hwords⟩ := supplies_iff.mp ((d.sampleRead x).supervise_supplies (vbatShown x, x.vdd33) _)
    exact hwords a h
  · rfl

end Dev

/-- Settles O16: the conditions at the end of the sample are those judged of the two samples. -/
theorem twoSampleConditions : Obligations.TwoSampleConditions := by
  unfold Obligations.TwoSampleConditions
  intro x w s hoff hproof hprev
  obtain ⟨hsup, -⟩ := Dev.supplies_iff.mp (Dev.supervisorSample_supplies hoff hproof x)
  refine does_of_eq (exec_supervisorSample x s) rfl ?_
  simp only [hsup, Dev.sampleTaken, Dev.sampleJudged_sup hprev]
  exact ⟨Dev.judged_inhibit_enters, Dev.judged_inhibit_leaves, Dev.judged_crank_enters, Dev.judged_crank_leaves,
    Dev.judged_loadDump_enters, Dev.judged_loadDump_leaves, Dev.judged_mute_enters, Dev.judged_mute_stays⟩

end Sys2Proof.Machine
end

section
/-!
# The links of the ports, forced down and kept

A port forced DOWN changes no other port's link, and a frame submitted or counted changes none.
-/
namespace Sys2Proof.Machine
namespace Dev

/-- The link side of every port. -/
def links (d : Dev) : Vector PortLink 3 := d.eth.map (·.link)

theorem links_get (d : Dev) (p : Fin 3) : d.links[p] = d.eth[p].link := by simp [links]

@[simp ↓] theorem links_mk (d : Dev) (regs : Vector Word 256) (host : HostPort) (arb : Arbiter) (mail : Mail) (power : Power)
    (flash : Flash) (journal : Journal) (sup : Supervisor) (ks : Keystone) (clk : ClkLatch) (remote : Remote)
    (gptp : Vector Gptp 3) (streams : StreamEngine) (lintel : Lintel) (tdm : Vector TdmPort 4) (route : Route) (meas : Meas)
    (can : Can) (gpio : Gpio) (timers : Timers) (sched : Vector SchedEntry 32) (tap : Tap) (selfTest : SelfTest)
    (cc freeIdx : Nat) :
    (Dev.mk regs host arb mail power flash journal sup ks clk d.eth remote gptp streams lintel tdm route meas can gpio
      timers sched tap selfTest cc freeIdx).links = d.links := (rfl)

@[simp ↓] theorem links_ite (c : Prop) [Decidable c] (d e : Dev) :
    (if c then d else e).links = if c then d.links else e.links := by split <;> rfl

@[simp ↓] theorem foldl_links {α : Type} (f : Dev → α → Dev) (h : ∀ d a, (f d a).links = d.links) (l : List α) (d : Dev) :
    (l.foldl f d).links = d.links := foldl_part (fun a _ d => h d a) d

@[simp ↓] theorem raiseBit_links (d : Dev) (a i : Nat) : (d.raiseBit a i).links = d.links := (rfl)
@[simp ↓] theorem modKs_links (d : Dev) (f : Keystone → Keystone) : (d.modKs f).links = d.links := (rfl)
@[simp ↓] theorem modGptp_links (d : Dev) (p : Fin 3) (f : Gptp → Gptp) : (d.modGptp p f).links = d.links := (rfl)

@[simp ↓] theorem push_links (d : Dev) (code : Nat) (arg : Word) : (d.push code arg).links = d.links := by
  simp [push]

@[simp ↓] theorem modLink_links (d : Dev) (p : Fin 3) (f : PortLink → PortLink) : (d.modLink p f).links = upd d.links p f := by
  refine Vector.ext fun i hi => ?_
  simp only [links, modLink, modPort, upd, Vector.getElem_map, Vector.getElem_set]
  split <;> simp_all

@[simp ↓] theorem modTraffic_links (d : Dev) (p : Fin 3) (f : PortTraffic → PortTraffic) : (d.modTraffic p f).links = d.links := by
  refine Vector.ext fun i hi => ?_
  simp only [links, modTraffic, modPort, upd, Vector.getElem_map, Vector.getElem_set]
  split <;> simp_all

@[simp ↓] theorem ethFlag_links (d : Dev) (p : Fin 3) (i : Nat) : (d.ethFlag p i).links = d.links := (rfl)

@[simp ↓] theorem count_links (d : Dev) (p : Fin 3) (k : Fin 40) : (d.count p k).links = d.links := by
  simp [count, countBy, halfFlag, raiseIf]

@[simp ↓] theorem talkerDiscard_links (d : Dev) (t : Option (Fin 8)) : (d.talkerDiscard t).links = d.links := by
  fun_cases talkerDiscard d t <;> simp

@[simp ↓] theorem refLose_links (d : Dev) (n : Fin 8) (planned : Bool) : (d.refLose n planned).links = d.links := (rfl)

@[simp ↓] theorem gptpReset_links (d : Dev) (p : Fin 3) : (d.gptpReset p).links = d.links := by
  simp [gptpReset, gptpSet, gptpEvent]

@[simp ↓] theorem departUp_links (d : Dev) (p : Fin 3) : (d.departUp p).links = d.links := by
  simp [departUp, discardQueue]

@[simp ↓] theorem linkEnter_links (d : Dev) (p : Fin 3) (s : LinkState) (planned : Bool) : (d.linkEnter p s planned).links =
    if d.eth[p].link.state = s then d.links else upd d.links p fun l => { l with
      state := s, since := d.cc, quietWindows := 0, phyUp := l.phyUp && s != .down && s != .training } := by
  simp [linkEnter, linkEvent]

@[simp ↓] theorem submit_links (d : Dev) (p : Fin 3) (f : TxFrame) : (d.submit p f).links = d.links := by
  simp [submit]

/-- The port that enters a state is in it, and no other port's link changes. -/
theorem linkEnter_state (d : Dev) (p q : Fin 3) (s : LinkState) (planned : Bool) :
    (d.linkEnter p s planned).links[q].state = if p = q then s else d.links[q].state := by
  rw [linkEnter_links]
  split
  case isTrue h =>
    split
    case isTrue hpq => rw [← hpq, links_get, h]
    case isFalse => rfl
  case isFalse => rw [upd_get]; split <;> rfl

/-- A port forced DOWN is DOWN, and no other port's link changes. -/
theorem portForceDown_state (d : Dev) (p q : Fin 3) (loss : Bool) :
    (d.portForceDown p loss).links[q].state = if p = q then .down else d.links[q].state := by
  unfold portForceDown
  extract_lets old marked entered
  by_cases hdown : old = .down
  · rw [if_pos hdown]
    split
    case isTrue hpq => rw [← hpq, links_get]; exact hdown
    case isFalse => rfl
  · have hmarked : marked.links = d.links := by
      simp only [marked]
      split <;> simp
    have hentered : entered.links[q].state = if p = q then .down else d.links[q].state := by
      rw [modLink_links, upd_get]
      split
      case isTrue hpq => rw [linkEnter_state, if_pos rfl]
      case isFalse hpq => rw [linkEnter_state, if_neg hpq, hmarked]
    clear_value entered
    rw [if_neg hdown, links_ite, departUp_links, ite_self, hentered]

/-- Every port forced DOWN in turn, all are. -/
theorem portsForceDown_state (d : Dev) (loss : Bool) (q : Fin 3) :
    ((allFin 3).foldl (fun (d : Dev) p => d.portForceDown p loss) d).eth[q].link.state = .down := by
  have hforced (l : List (Fin 3)) : ∀ d : Dev, q ∈ l ∨ d.links[q].state = .down →
      (l.foldl (fun (d : Dev) p => d.portForceDown p loss) d).links[q].state = .down := by
    induction l with
    | nil => exact fun d h => h.elim (fun hq => nomatch hq) id
    | cons p l ih =>
      intro d h
      refine ih _ ?_
      rw [portForceDown_state]
      by_cases hpq : p = q
      · exact .inr (if_pos hpq)
      · rw [if_neg hpq]
        simpa [Ne.symm hpq] using h
  rw [← links_get]
  exact hforced _ d (.inl (List.mem_finRange q))

end Dev
end Sys2Proof.Machine
end

section
/-!
# The rows of the supplies
-/
namespace Sys2Proof.Machine
namespace Dev

theorem muteLine_of_linesLow {d : Dev} (h : d.sup.muteLinesLow = true) (k : Fin 4) : d.muteLine k = false := by
  simp [muteLine, h]

/-- What an amplifier's mute comes to where supply mute is left (R84). -/
def unmutedAmp (auto : Bool) (a : Amp) : Amp := { a with muted := if auto then a.recorded.getD a.muted else true, recorded := none }

theorem supplyMuteExit_eq {d : Dev} (hmute : d.sup.supplyMute = true) (hvdd : 3050 ≤ d.rfld Reg.PWR_RAILS_A 15 0) :
    d.supplyMuteExit.sup = { d.sup with supplyMute := false, muteLinesLow := false } ∧
    (∀ k : Fin 4, d.supplyMuteExit.meas.amps[k] = unmutedAmp (d.rbit Reg.PWR_CTRL 0) d.meas.amps[k]) ∧
    d.supplyMuteExit.route = if d.rbit Reg.PWR_CTRL 0 then d.route else
      { d.route with dests := d.route.dests.map fun x => { x with held := true } } := by
  unfold supplyMuteExit
  rw [if_neg (by simp [hmute, hvdd])]
  extract_lets auto _sup e unmuted held
  have hamps (k : Fin 4) : unmuted.meas.amps[k] = unmutedAmp auto d.meas.amps[k] :=
    foldl_allFin_entry (table := fun d => d.meas.amps) (g := fun _ a => unmutedAmp auto a) (P := fun _ => True)
      (fun _ _ _ => ⟨trivial, rfl⟩) (d := e) trivial k
  have hroute : unmuted.route = d.route := 
    foldl_part (f := fun (d : Dev) k => d.modAmp k (unmutedAmp auto)) (part := (·.route)) (fun _ _ _ => rfl) e
  have hsup : unmuted.sup = e.sup := 
    foldl_part (f := fun (d : Dev) k => d.modAmp k (unmutedAmp auto)) (part := (·.sup)) (fun _ _ _ => rfl) e
  clear_value unmuted
  refine ⟨?_, fun k => ?_, ?_⟩
  · rw [push_sup, raiseBit_sup]
    simp only [held]
    split <;> exact hsup
  · rw [push_meas, raiseBit_meas, ← hamps]
    simp only [held]
    split <;> rfl
  · rw [push_route, raiseBit_route]
    simp only [held]
    split
    · exact hroute
    · exact (congrArg (fun r : Route => { r with dests := r.dests.map fun x : Dest => { x with held := true } }) hroute)

theorem vddioEnter_eq {d : Dev} (hfault : d.sup.vddioFault = false) (hout : d.ioeInside = false) :
    d.vddioEnter = (allFin 3).foldl (fun (d : Dev) p => d.portForceDown p true)
      (({ d with sup := { d.sup with vddioFault := true } } : Dev).raiseBit Reg.PWR_IRQ_STATUS 7) :=
  if_neg (by simp [hfault, hout])

theorem portsForceDown_steady (d : Dev) (loss : Bool) :
    steady ((allFin 3).foldl (fun (d : Dev) p => d.portForceDown p loss) d) = steady d :=
  foldl_steady _ (fun d p => portForceDown_steady d p loss) _ _

theorem vddioEnter_sup {d : Dev} (hfault : d.sup.vddioFault = false) (hout : d.ioeInside = false) :
    d.vddioEnter.sup = { d.sup with vddioFault := true } := by
  rw [vddioEnter_eq hfault hout]
  obtain ⟨-, hsup, -⟩ := steady_iff.mp (portsForceDown_steady
    (({ d with sup := { d.sup with vddioFault := true } } : Dev).raiseBit Reg.PWR_IRQ_STATUS 7) true)
  exact hsup.trans (raiseBit_sup ..)

theorem vddioEnter_down {d : Dev} (hfault : d.sup.vddioFault = false) (hout : d.ioeInside = false) (p : Fin 3) :
    d.vddioEnter.eth[p].link.state = .down :=
  (congrArg (fun e : Dev => e.eth[p].link.state) (vddioEnter_eq hfault hout)).trans (portsForceDown_state _ true p)

theorem vddioExit_fault {d : Dev} (hfault : d.sup.vddioFault = true) (hin : d.ioeInside = true) :
    d.vddioExit.sup.vddioFault = false := by
  unfold vddioExit
  rw [if_neg (by simp [hfault, hin])]
  obtain ⟨-, hsup, -⟩ := steady_iff.mp (foldl_steady leaveDown leaveDown_steady (allFin 3)
    (({ d with sup := { d.sup with vddioFault := false } } : Dev).raiseBit Reg.PWR_IRQ_STATUS 7))
  rw [hsup]
  rfl

theorem vbatOpenEnter_sup {d : Dev} {v w : Nat} (hopen : d.sup.vbatOpen = false) (hmute : d.sup.supplyMute = false)
    (hprev : d.sup.prev = some (v, w)) (hlow : v < 100) :
    d.vbatOpenEnter.sup = { d.sup with vbatOpen := true, nvwInhibit := true } := by
  unfold vbatOpenEnter
  rw [if_neg (by simp [hopen, hmute, hprev, hlow])]
  extract_lets was s e raised
  obtain ⟨hwithhold, -⟩ := supplies_iff.mp (journalWithhold_supplies (if was then raised else raised.dcSupply))
  obtain ⟨-, hsupply, -⟩ := steady_iff.mp raised.dcSupply_steady
  rw [hwithhold]
  split
  · rfl
  · rw [hsupply]
    rfl

theorem hostWrite_resetReq {d : Dev} (h : d.Powered) (w : Word) : d.hostWrite Reg.PWR_RESET_REQ w =
    if w = 0xA5C3 then { d with power := { d.power with resetScheduled := true } } else d := by
  obtain ⟨r, hr, haddr⟩ : ∃ r, regInfo Reg.PWR_RESET_REQ = some r ∧ r.addr = Reg.PWR_RESET_REQ := by decide +kernel
  rw [hostWrite, hostGuard_hold h (by decide) (by decide)]
  simp +decide [writeEffect, hr, regStore, sysStore, haddr]

end Dev

/-- Settles O15: each row by its guard and what it leaves of the supervisor. -/
theorem supplyRows : Obligations.SupplyRows := by
  unfold Obligations.SupplyRows
  refine ⟨fun x s hoff hproof => ?sample, fun s hpow hmute => ?ramp, fun s hpow hmute hvdd => ?exit,
    fun s hpow hfault hout => ?fault, fun s hpow hfault hin => ?back, fun v w s hpow hopen hmute hprev hlow => ?vbatOpen,
    fun v w s hpow hopen hprev hhigh => ?shut, fun s hpow => ?reset, fun w s hkey => ?noKey, fun s hwrite => ?restart⟩
  case sample =>
    obtain ⟨hsup, hwords⟩ := Dev.supplies_iff.mp (Dev.supervisorSample_supplies hoff hproof x)
    have hread {a : Nat} (ha : a ∈ Dev.supplyWords) : (s.dev.supervisorSample x).reg a = (s.dev.sampleRead x).reg a :=
      (hwords a ha).trans (s.dev.sampleJudged_word x ha)
    refine does_of_eq (exec_supervisorSample x s) rfl ?_
    rw [hsup]
    refine ⟨rfl, rfl, rfl, rfl, ?_, ?_⟩
    · rw [Dev.rfld, hread (by decide)]
      exact s.dev.sampleRead_vbat x
    · rw [Dev.rfld, hread (by decide)]
      exact s.dev.sampleRead_railsA x
  case ramp =>
    exact ⟨next_dev ((Dev.powered_act hpow _).trans (if_pos hmute)), Dev.muteLine_of_linesLow rfl⟩
  case exit =>
    obtain ⟨hsup, hamps, hroute⟩ := Dev.supplyMuteExit_eq hmute hvdd
    refine does_of_eq (exec_supplyMuteExit s) (Dev.powered_act hpow _) ⟨hsup, fun hauto => ?_, fun hauto => ?_⟩
    · rw [hauto] at hamps hroute
      exact ⟨hroute, hamps⟩
    · rw [hauto] at hamps hroute
      refine ⟨fun k => ?_, hamps⟩
      rw [hroute]
      simp
  case fault =>
    exact does_of_eq (exec_vddioEFaultEnter s) (Dev.powered_act hpow _)
      ⟨congrArg (·.vddioFault) (Dev.vddioEnter_sup hfault hout), Dev.vddioEnter_down hfault hout⟩
  case back => exact does_of_eq (exec_vddioEFaultExit s) (Dev.powered_act hpow _) (Dev.vddioExit_fault hfault hin)
  case vbatOpen =>
    refine does_of_eq (exec_vbatOpenEnter s) (Dev.powered_act hpow _) ?_
    rw [Dev.vbatOpenEnter_sup hopen hmute hprev hlow]
    exact ⟨rfl, rfl⟩
  case shut => exact next_dev ((Dev.powered_act hpow _).trans (if_pos (by simp [hopen, hprev, hhigh])))
  case reset => exact next_dev ((Dev.hostWrite_resetReq hpow _).trans (if_pos rfl))
  case noKey =>
    refine next_rest ?_
    by_cases hoff : s.dev.power.state = .off
    · exact Dev.hostWrite_rest hoff _ _
    · exact (Dev.hostWrite_resetReq hoff w).trans (if_neg hkey)
  case restart => exact next_dev (Dev.hostGuard_act hwrite _ _)

end Sys2Proof.Machine
end

section
/-!
# The rows of the journal

One equation or rule per function of the journal (what it makes of the journal and of the flash), and the events that
answer a list of tags taken together in `opDones`.
-/
namespace Sys2Proof.Machine

/-- A slot whose erase is done. -/
def Flash.emptied (f : Flash) (t : EraseTarget) : Flash :=
  if t = .slotA then { f with slotA := emptySlot } else { f with slotB := emptySlot }

theorem Flash.emptied_rest (f : Flash) (t : EraseTarget) : (f.emptied t).target = f.target ∧
    (f.emptied t).session = f.session ∧ (f.emptied t).runningB = f.runningB := by
  unfold emptied
  split <;> exact ⟨rfl, rfl, rfl⟩

theorem Flash.target_slot (f : Flash) : f.target = .slotA ∨ f.target = .slotB := by
  unfold target
  split <;> simp

/-- Where the erased slot was the session's, the session may write (R152). -/
def Flash.sessionErased (f : Flash) (t : EraseTarget) : Flash :=
  match f.session with
  | some x => if t = f.target ∧ ¬ x.erased then { f with session := some { x with erased := true } } else f
  | none => f

theorem Flash.sessionErased_slots (f : Flash) (t : EraseTarget) : (f.sessionErased t).slotA = f.slotA ∧
    (f.sessionErased t).slotB = f.slotB ∧ (f.sessionErased t).runningB = f.runningB := by
  unfold sessionErased
  split
  · split <;> exact ⟨rfl, rfl, rfl⟩
  · exact ⟨rfl, rfl, rfl⟩

theorem Flash.sessionErased_session {f : Flash} {x : FwuSession} (h : f.session = some x) (herased : x.erased = false) :
    (f.sessionErased f.target).session = some { x with erased := true } := by
  simp [sessionErased, h, herased]

/-- A record that completes, made the newest of the live bank. -/
def Journal.recorded (j : Journal) (it : JItem) : Journal :=
  { j.modBank j.liveB fun b => { b with records := b.records ++ [⟨j.lastSeq + 1, it, true⟩] } with
    lastSeq := j.lastSeq + 1, programming := none, progHeld := false,
    flushed := if j.progHeld && j.held == 0 then 0 else j.flushed + (if j.progHeld then 1 else 0) }

theorem Journal.recorded_records (j : Journal) (it : JItem) :
    (j.recorded it).live.records = j.live.records ++ [⟨j.lastSeq + 1, it, true⟩] := by
  cases h : j.liveB <;> simp [recorded, live, modBank, h]

theorem Journal.recorded_liveB (j : Journal) (it : JItem) : (j.recorded it).liveB = j.liveB := by
  cases h : j.liveB <;> simp [recorded, modBank, h]

theorem Journal.recorded_pending (j : Journal) (it : JItem) : (j.recorded it).pending = j.pending := by
  cases h : j.liveB <;> simp [recorded, modBank, h]

/-- The journal whose compaction is done: the other bank live with the items of the old one (R87). -/
def Journal.compacted (j : Journal) : Journal :=
  { j.modBank (!j.liveB) fun _ => ⟨true, j.live.gen + 1, Dev.recordsFrom (j.lastSeq + 1) j.items, false⟩ with
    liveB := !j.liveB, lastSeq := j.lastSeq + (Dev.recordsFrom (j.lastSeq + 1) j.items).length,
    compacting := false, copying := false, compactTags := [] }

theorem Journal.compacted_live (j : Journal) : j.compacted.live =
    { header := true, gen := j.live.gen + 1, records := Dev.recordsFrom (j.lastSeq + 1) j.items, dirty := false } := by
  cases h : j.liveB <;> simp [compacted, live, modBank, h]

/-- The journal whose banks are both erased. -/
def Journal.defaulted (j : Journal) : Journal :=
  { j with bankA := emptyBank, bankB := emptyBank, erasing := j.erasing.filter fun t => t != .bankA && t != .bankB,
           defaultsTags := [] }

namespace Dev

/-! ### The answers of a list of tags -/

/-- OP_DONE for each of a list of tags. -/
def opDones (opcode : Nat) (tags : List Byte) (d : Dev) : Dev := tags.foldl (fun (d : Dev) tag => d.opDone opcode 0 tag) d

theorem opDones_steady (opcode : Nat) (tags : List Byte) (d : Dev) : (d.opDones opcode tags).steady = d.steady :=
  foldl_steady _ (fun d tag => opDone_steady d opcode 0 tag) tags d

theorem opDones_power (opcode : Nat) (tags : List Byte) (d : Dev) : (d.opDones opcode tags).power = d.power :=
  power_of_steady (d.opDones_steady opcode tags)

theorem opDones_journal (opcode : Nat) (tags : List Byte) (d : Dev) : (d.opDones opcode tags).journal = d.journal := by
  obtain ⟨-, -, hjournal, -⟩ := steady_iff.mp (opDones_steady opcode tags d)
  exact hjournal

theorem opDones_flash (opcode : Nat) (tags : List Byte) (d : Dev) : (d.opDones opcode tags).flash = d.flash := by
  obtain ⟨-, -, -, hflash, -⟩ := steady_iff.mp (opDones_steady opcode tags d)
  exact hflash

theorem opDone_mail_congr {d e : Dev} (h : d.mail = e.mail) (opcode status : Nat) (tag : Byte) :
    (d.opDone opcode status tag).mail = (e.opDone opcode status tag).mail := by
  simp [opDone, push, eventEnabled, h]

/-- The events depend on the mailboxes alone. -/
theorem opDones_mail_congr {d e : Dev} (h : d.mail = e.mail) (opcode : Nat) (tags : List Byte) :
    (d.opDones opcode tags).mail = (e.opDones opcode tags).mail := by
  induction tags generalizing d e with
  | nil => exact h
  | cons tag tags ih => exact ih (opDone_mail_congr h opcode 0 tag)

/-! ### Entering QUIET leaves the journal and the flash -/

theorem quietAdvance_journal (d : Dev) : d.quietAdvance.journal = d.journal := by
  rcases d.quietAdvance_cases with h | h
  · rw [h]
  · obtain ⟨-, -, hjournal, -⟩ := steady_iff.mp h
    exact hjournal

theorem quietAdvance_rest {d : Dev} (h : d.power.quietEntry = none) : d.quietAdvance = d := if_pos (.inl (by simp [h]))

/-! ### What each function makes of the journal -/

theorem otherErase_journal (d : Dev) : d.otherErase.journal.live = d.journal.live ∧
    d.otherErase.journal.compacting = d.journal.compacting ∧ d.otherErase.journal.pending = d.journal.pending ∧
    bankTarget (!d.journal.liveB) ∈ d.otherErase.journal.erasing := by
  cases h : d.journal.liveB <;> simp [otherErase, modJournal, Journal.modBank, Journal.live, h]

/-- Where nothing is in progress, the waiting record starts a compaction or its own program, or rests (R81, R87). -/
theorem journalProgram_waiting {d : Dev} {it : JItem} {rest : List JItem} (hactive : d.power.state = .active)
    (hentry : d.power.quietEntry = none) (hidle : d.journal.programming = none) (hcompact : d.journal.compacting = false)
    (htags : d.journal.defaultsTags = []) (hA : .bankA ∉ d.journal.erasing) (hB : .bankB ∉ d.journal.erasing)
    (hpending : d.journal.pending = it :: rest) (hlive : d.journal.live.header = true) :
    d.journalProgram =
      if d.journal.full it then (if d.sup.nvwInhibit then d else d.compactStart)
      else if ¬ d.flashPermitted then d
      else d.modJournal fun j =>
        { j with programming := some it, pending := rest, progHeld := j.held > 0, held := j.held - 1 } := by
  unfold journalProgram
  rw [if_neg (by simp [hactive, hentry, hidle, htags, hA, hB])]
  simp [hcompact, hpending, hlive]

theorem journalDone_journal {d : Dev} {it : JItem} (h : d.journal.programming = some it) :
    d.journalDone.journal = d.journal.recorded it := by
  unfold journalDone
  simp [h, Journal.recorded]

theorem compactDone_eq {d : Dev} (hcopying : d.journal.copying = true) (hpermit : d.flashPermitted = true) :
    d.compactDone = ({ d with journal := d.journal.compacted } : Dev).opDones 0x0103 d.journal.compactTags := by
  unfold compactDone
  rw [if_neg (by simp [hcopying, hpermit])]
  rfl

theorem compactNext_rest {d : Dev} (h : d.journal.compacting = false) : d.compactNext = d := by
  simp [compactNext, h]

theorem compactNext_copying {d : Dev} (hcompact : d.journal.compacting = true) (hcopying : d.journal.copying = false)
    (herased : bankTarget (!d.journal.liveB) ∉ d.journal.erasing) (hclean : (otherBank d.journal).dirty = false)
    (hpermit : d.flashPermitted = true) : d.compactNext = d.modJournal fun j => { j with copying := true } := by
  simp [compactNext, hcompact, hcopying, herased, hclean, hpermit]

theorem defaultsDone_eq {d : Dev} (h : d.journal.defaultsTags ≠ []) :
    d.defaultsDone = ({ d with journal := d.journal.defaulted } : Dev).opDones 0x0104 d.journal.defaultsTags := if_neg h

/-- The answer of FWU_BEGIN, where the erased slot was its session's. -/
def sessionErased (d : Dev) (t : EraseTarget) : Dev :=
  match d.flash.session with
  | some x =>
    if t = d.flash.target ∧ ¬ x.erased then
      ({ d with flash := { d.flash with session := some { x with erased := true } } } : Dev).opDone 0x0201 0 x.tag
    else d
  | none => d

theorem sessionErased_flash (d : Dev) (t : EraseTarget) : (d.sessionErased t).flash = d.flash.sessionErased t := by
  unfold sessionErased Flash.sessionErased
  cases d.flash.session with
  | none => rfl
  | some x =>
    dsimp only
    split
    · simp [opDone]
    · rfl

theorem eraseDone_slot {d : Dev} {t : EraseTarget} (hslot : t = .slotA ∨ t = .slotB) (h : t ∈ d.journal.erasing) :
    d.eraseDone t = ({ d with
      journal := { d.journal with erasing := d.journal.erasing.erase t }, flash := d.flash.emptied t } : Dev).sessionErased t := by
  rcases hslot with rfl | rfl <;> exact if_neg (by simp [h])

theorem eraseDone_flash {d : Dev} {t : EraseTarget} (hslot : t = .slotA ∨ t = .slotB) (h : t ∈ d.journal.erasing) :
    (d.eraseDone t).flash = (d.flash.emptied t).sessionErased t := by
  rw [eraseDone_slot hslot h, sessionErased_flash]

theorem eraseDone_bankA {d : Dev} (h : .bankA ∈ d.journal.erasing) : d.eraseDone .bankA = (d.modJournal fun j =>
    { j with erasing := j.erasing.erase .bankA, bankA := emptyBank }).compactNext := if_neg (by simp [h])

theorem eraseDone_bankB {d : Dev} (h : .bankB ∈ d.journal.erasing) : d.eraseDone .bankB = (d.modJournal fun j =>
    { j with erasing := j.erasing.erase .bankB, bankB := emptyBank }).compactNext := if_neg (by simp [h])

end Dev

/-- Settles O17: each row by the equation of its function. -/
theorem journalRows : Obligations.JournalRows := by
  unfold Obligations.JournalRows
  refine ⟨fun it rest s hactive hentry hidle hcompact htags hA hB hpending hlive => ?program, fun it s hpow hprog => ?recorded,
    fun s hpow hcopying hpermit => ?compacted, fun s hpow hcompact hmem => ?bankA, fun s hpow hcompact hmem => ?bankB,
    fun s hpow hcompact hcopying hpermit hmem hleft => ?copy, fun b s hpow hmem => ?slot, fun s hpow htags => ?defaults,
    fun x s hpow hsession herased hmem => ?session⟩
  case program =>
    have hstep := Dev.journalProgram_waiting hactive hentry hidle hcompact htags hA hB hpending hlive
    refine ⟨fun hpermit hfull => ?_, fun hinhibit hfull => ?_⟩
    · exact next_dev (hstep.trans (by rw [if_neg (by simp [hfull]), if_neg (by simp [hpermit])]; rfl))
    · obtain ⟨hkept, hon, hwait, herase⟩ := (s.dev.modJournal fun j => { j with compacting := true }).otherErase_journal
      exact does_of_eq (exec_journalRecordProgram s)
        (hstep.trans (by rw [if_pos hfull, if_neg (by simp [hinhibit])]; rfl)) ⟨hon, hwait, herase, hkept⟩
  case recorded =>
    refine does_of_eq (exec_journalRecordDone s) (Dev.powered_act hpow _) ?_
    rw [Dev.quietAdvance_journal, Dev.journalDone_journal hprog]
    exact ⟨rfl, rfl, Journal.recorded_liveB .., Journal.recorded_records .., Journal.recorded_pending ..⟩
  case compacted =>
    refine ⟨?_, fun hentry => ?_⟩
    · refine does_of_eq (exec_journalCompactionDone s) (Dev.powered_act hpow _) ?_
      rw [Dev.quietAdvance_journal, Dev.compactDone_eq hcopying hpermit, Dev.opDones_journal, Journal.compacted_live]
      exact ⟨rfl, rfl, rfl, rfl, rfl⟩
    · refine does_of_eq (exec_journalCompactionDone s) (Dev.powered_act hpow _) ?_
      rw [Dev.compactDone_eq hcopying hpermit, Dev.quietAdvance_rest (by rw [Dev.opDones_power]; exact hentry)]
      exact Dev.opDones_mail_congr (d := { s.dev with journal := s.dev.journal.compacted }) (e := s.dev) rfl _ _
  case bankA =>
    exact next_dev ((Dev.powered_act hpow _).trans ((Dev.eraseDone_bankA hmem).trans (Dev.compactNext_rest hcompact)))
  case bankB =>
    exact next_dev ((Dev.powered_act hpow _).trans ((Dev.eraseDone_bankB hmem).trans (Dev.compactNext_rest hcompact)))
  case copy =>
    cases hlive : s.dev.journal.liveB
    case' false =>
      simp only [hlive, Bool.not_false, bankTarget, if_true] at hmem hleft
      refine does_of_eq (exec_flashEraseDone .bankB s) ((Dev.powered_act hpow _).trans ((Dev.eraseDone_bankB hmem).trans
        (Dev.compactNext_copying hcompact hcopying ?_ ?_ hpermit))) ⟨rfl, ?_, ?_⟩
    case' true =>
      simp only [hlive, Bool.not_true, bankTarget] at hmem hleft
      refine does_of_eq (exec_flashEraseDone .bankA s) ((Dev.powered_act hpow _).trans ((Dev.eraseDone_bankA hmem).trans
        (Dev.compactNext_copying hcompact hcopying ?_ ?_ hpermit))) ⟨rfl, ?_, ?_⟩
    all_goals simp_all [bankTarget, Dev.otherBank, Journal.live, emptyBank, Dev.modJournal]
  case slot =>
    refine does_of_eq (exec_flashEraseDone _ s) (Dev.powered_act hpow _) ?_
    rw [Dev.eraseDone_flash (by cases b <;> simp) hmem]
    cases b
    · obtain ⟨hA, hB, -⟩ := (s.dev.flash.emptied .slotA).sessionErased_slots .slotA
      exact ⟨hA, hB⟩
    · obtain ⟨hA, hB, -⟩ := (s.dev.flash.emptied .slotB).sessionErased_slots .slotB
      exact ⟨hB, hA⟩
  case defaults =>
    refine does_of_eq (exec_journalDefaultsDone s) (Dev.powered_act hpow _) ?_
    rw [Dev.defaultsDone_eq htags, Dev.opDones_journal, Dev.opDones_flash]
    exact ⟨rfl, rfl, rfl, rfl,
      Dev.opDones_mail_congr (d := { s.dev with journal := s.dev.journal.defaulted }) (e := s.dev) rfl _ _⟩
  case session =>
    refine does_of_eq (exec_fwuEraseDone s) (Dev.powered_act hpow _) ?_
    rw [Dev.eraseDone_flash s.dev.flash.target_slot hmem]
    obtain ⟨htarget, hsame, hrun⟩ := s.dev.flash.emptied_rest s.dev.flash.target
    obtain ⟨hA, hB, hrunning⟩ := (s.dev.flash.emptied s.dev.flash.target).sessionErased_slots s.dev.flash.target
    refine ⟨?_, hrunning.trans hrun, ?_⟩
    · have hopened := Flash.sessionErased_session (hsame.trans hsession) herased
      rwa [htarget] at hopened
    · rw [hA, hB]
      unfold Flash.emptied Flash.target
      cases s.dev.flash.runningB <;> rfl

end Sys2Proof.Machine
end

section
/-!
# The journal and firmware-update commands

Each row cites what a served command comes to (Laws/Service), its conditions resolving the command's own checks.
-/
namespace Sys2Proof.Machine

section
variable {s : State} {i : Instr} {src : Source} {op : Nat} {req : Request} {c : CmdSpec} {d : Dev} {payload : List Word}

/-- A command that completes without a record is answered OK. -/
theorem serve_okay (hi : exec i s = s.act fun d => d.serve src op req) (h : s.dev.TakesUp src op req) (hc : cmdSpec op = some c)
    (hr : c.run src req s.dev = .done false 0 payload [] d) (ho : op ≠ 0x0102) :
    exec i s = .next (s.okay src op req d payload) :=
  hi.trans (next_dev (Dev.serve_done h hc hr (.inl rfl) ho))

/-- A command whose work goes on is answered ACCEPTED. -/
theorem serve_accepted (hi : exec i s = s.act fun d => d.serve src op req) (h : s.dev.TakesUp src op req)
    (hc : cmdSpec op = some c) (hr : c.run src req s.dev = .done true 0 payload [] d) (ho : op ≠ 0x0102) :
    exec i s = .next (s.accepted src op req d payload) :=
  hi.trans (next_dev (Dev.serve_done h hc hr (.inl rfl) ho))

theorem answer_refused (d : Dev) (op : Nat) (tag : Byte) (st detail : Nat) (payload : List Word) (src : Source) :
    Dev.answer (d.refused op tag st detail payload) src =
      (d.refused op tag st detail payload).1.respond src ⟨op, tag, st, detail, false, payload⟩ := rfl

/-- A command whose last step is a program of the flash is answered FLASH_ERROR where the program fails, OK elsewhere. -/
theorem serve_flashChecked (hi : exec i s = s.act fun d => d.serve src op req) (h : s.dev.TakesUp src op req)
    (hc : cmdSpec op = some c) (hr : c.run src req s.dev = flashChecked s.dev (.done false 0 payload [] d)) (ho : op ≠ 0x0102) :
    exec i s = .next (if Config.flashFails s.dev.cc then
      { s with dev := (s.dev.refused op req.tag 0x41 0 []).1.respond src ⟨op, req.tag, 0x41, 0, false, []⟩ }
      else s.okay src op req d payload) := by
  unfold flashChecked at hr
  split at hr
  case isTrue hfails =>
    rw [if_pos hfails]
    exact hi.trans (next_dev ((Dev.serve_refuse h hc hr).trans (answer_refused ..)))
  case isFalse hworks =>
    rw [if_neg hworks]
    exact serve_okay hi h hc hr ho
end

/-- The session is at the hands of every source of its holder's class (R150). -/
theorem withSession_holder {src : Source} {d : Dev} {x : FwuSession} (h : d.flash.session = some x)
    (hclass : classOf x.holder = classOf src) (k : FwuSession → CmdResult) : withSession src d k = k x := by
  simp [withSession, h, hclass]

theorem programInhibit_permitted {d : Dev} (h : d.flashPermitted = true) : programInhibit d = none := by
  have hinhibit : d.sup.nvwInhibit = false := by
    cases hsup : d.sup.nvwInhibit <;> simp_all [Dev.flashPermitted]
  simp [programInhibit, h, hinhibit]

theorem find?_key_eq_lookup (l : List (Nat × List Word)) (key : Nat) :
    l.find? (fun p => p.1 == key) = (l.lookup key).map fun v => (key, v) := by
  induction l with
  | nil => rfl
  | cons p l ih =>
    by_cases h : p.1 = key
    · subst h
      simp [List.lookup]
    · have hne : (key == p.1) = false := by simpa using Ne.symm h
      simp [List.lookup, h, hne, ih]

theorem journalItem_key {d : Dev} {req : Request} (h : req.bit 8 16 = false) :
    journalItem d req = (d.journal.items.lookup (req.fld 8 15 0)).map fun v => (req.fld 8 15 0, v) := by
  simp [journalItem, h, find?_key_eq_lookup]

/-- What JOURNAL_READ returns. -/
def readPayload (d : Dev) (req : Request) : List Word :=
  match journalItem d req with
  | some (k, v) => (at' 0 k ||| at' 16 (4 * min 54 v.length)) :: v.take 54
  | none => [0xFFFF]

theorem cmdJournalRead_eq (src : Source) (req : Request) (d : Dev) :
    cmdJournalRead src req d = reply (readPayload d req) d := by
  unfold cmdJournalRead readPayload
  cases journalItem d req <;> rfl

/-- The session FWU_BEGIN opens (R151). -/
def newSession (src : Source) (req : Request) : FwuSession :=
  { holder := src, length := (req.word 8).toNat, seq := req.fld 0x0C 15 0, digest := (req.payload.drop 2).take 8,
    received := [], erased := false, tag := req.tag }

/-- The device whose update has begun: the session open, its target slot not valid and being erased. -/
def updateBegun (d : Dev) (x : FwuSession) : Dev :=
  { d with flash := { d.flash.modTarget fun s => { s with valid := false } with session := some x },
           journal := { d.journal with erasing := d.flash.target :: d.journal.erasing } }

theorem Flash.modTarget_rest (f : Flash) (g : Slot → Slot) : (f.modTarget g).runningB = f.runningB ∧
    (f.modTarget g).running = f.running ∧ (f.modTarget g).session = f.session ∧
    (if f.runningB then (f.modTarget g).slotA else (f.modTarget g).slotB) = g (if f.runningB then f.slotA else f.slotB) := by
  cases h : f.runningB <;> simp [modTarget, running, h]

theorem updateBegun_flash (d : Dev) (x : FwuSession) : (updateBegun d x).flash.runningB = d.flash.runningB ∧
    (updateBegun d x).flash.running = d.flash.running ∧
    (if d.flash.runningB then (updateBegun d x).flash.slotA else (updateBegun d x).flash.slotB).valid = false := by
  obtain ⟨hrunning, hslot, -, htarget⟩ := d.flash.modTarget_rest fun s => { s with valid := false }
  exact ⟨hrunning, hslot, congrArg Slot.valid htarget⟩

theorem cmdFwuBegin_opens (src : Source) {req : Request} {d : Dev} (hmin : 8 ≤ (req.word 8).toNat)
    (hmax : (req.word 8).toNat ≤ 458752) (halign : (req.word 8).toNat % 8 = 0) (hfree : d.flash.session = none)
    (htrial : d.flash.running.trial = true → d.flash.running.confirmed = true) (hinhibit : d.sup.nvwInhibit = false) :
    cmdFwuBegin src req d = .done true 0 [] [] (updateBegun d (newSession src req)) := by
  have htarget : ({ d.flash.modTarget fun s => { s with valid := false } with
      session := some (newSession src req) } : Flash).target = d.flash.target := by
    cases h : d.flash.runningB <;> simp [Flash.modTarget, Flash.target, h]
  unfold cmdFwuBegin
  rw [if_neg (by omega), if_neg (by simp [hfree]), if_neg (by simpa using htrial), if_neg (by simp [hinhibit])]
  simp only [Dev.modJournal, updateBegun, ← htarget]
  rfl

/-- The flash whose update has been programmed: the target slot holds it with its header, TRIAL set (R152). -/
def Flash.programmed (f : Flash) (x : FwuSession) : Flash :=
  ({ f with session := none } : Flash).modTarget fun _ => { emptySlot with
    valid := true, seq := x.seq, trial := true, image := x.received, digest := x.digest }

/-- The flash whose running slot is confirmed (R153). -/
def Flash.confirmed (f : Flash) : Flash :=
  if f.runningB then { f with slotB := { f.slotB with confirmed := true } }
  else { f with slotA := { f.slotA with confirmed := true } }

theorem Flash.confirmed_slots (f : Flash) : f.confirmed.running = { f.running with confirmed := true } ∧
    f.confirmed.runningB = f.runningB ∧ (if f.runningB then f.confirmed.slotA = f.slotA else f.confirmed.slotB = f.slotB) := by
  cases h : f.runningB <;> simp [confirmed, running, h]

/-- Settles O35: the run of each command, its own checks passed, under the rule of its kind of answer. -/
theorem journalAndUpdateCommands : Obligations.JournalAndUpdateCommands := by
  unfold Obligations.JournalAndUpdateCommands
  intro failed
  refine ⟨fun src req s h => ?status, fun src req s h => ?read, fun src req s h hinhibit => ?compact,
    fun src req s h hinhibit hkey => ?defaults, fun src req s h hinhibit hmin hmax halign hfree htrial => ?begin,
    fun src req x s h hpermit hsession hclass herased hoffset hfits => ?write,
    fun src req x s h hpermit hsession hclass herased hfull hdigest => ?finish,
    fun src req s h hpermit hconfirmed => ?confirm, fun src req x s h hsession hclass => ?abort⟩
  case status =>
    refine ⟨_, serve_okay (exec_journalStatus src req s) h rfl rfl (by decide), rfl, ?_, rfl⟩
    simp only [List.getD_cons_zero, orW, List.foldl_cons, List.foldl_nil, BitVec.getLsbD_or,
      bitW_bit _ _ _ (by decide : 0 < 32), bitW_bit _ _ _ (by decide : 1 < 32), bitW_bit _ _ _ (by decide : 2 < 32)]
    simp
  case read =>
    refine does_of_eq (exec_journalRead src req s) rfl ?_
    rw [Dev.serve_run h rfl]
    dsimp only
    rw [cmdJournalRead_eq]
    refine ⟨_, rfl, rfl, rfl, fun hnone hkey => ?_, fun v hsome hkey => ?_⟩
    · simp [readPayload, journalItem_key hkey, hnone]
    · simp [readPayload, journalItem_key hkey, hsome]
  case compact => exact serve_accepted (exec_journalCompact src req s) h rfl (by simp [cmdJournalCompact, hinhibit]) (by decide)
  case defaults =>
    exact serve_accepted (exec_journalDefaults src req s) h rfl (by simp [cmdJournalDefaults, hinhibit, hkey]; rfl) (by decide)
  case begin =>
    obtain ⟨hrunning, hslot, hvalid⟩ := updateBegun_flash s.dev (newSession src req)
    exact ⟨_, serve_accepted (exec_fwuBegin src req s) h rfl (cmdFwuBegin_opens src hmin hmax halign hfree htrial hinhibit)
      (by decide), rfl, hrunning, hslot, hvalid, List.mem_cons_self⟩
  case write =>
    refine serve_flashChecked (exec_fwuWrite src req s) h rfl ?_ (by decide)
    refine (withSession_holder hsession hclass _).trans ?_
    simp [herased, hoffset, hfits, programInhibit_permitted hpermit, reply]
  case finish =>
    obtain ⟨-, hslot, hsame, htarget⟩ := ({ s.dev.flash with session := none } : Flash).modTarget_rest fun _ =>
      { emptySlot with valid := true, seq := x.seq, trial := true, image := x.received, digest := x.digest }
    refine ⟨{ s.dev with flash := s.dev.flash.programmed x }, serve_flashChecked (exec_fwuFinish src req s) h rfl
      ((withSession_holder hsession hclass _).trans ?_) (by decide), hsame, hslot, htarget⟩
    simp [herased, hfull, programInhibit_permitted hpermit, hdigest, okay, Flash.programmed]
  case confirm =>
    refine ⟨{ s.dev with flash := s.dev.flash.confirmed }, serve_flashChecked (exec_fwuConfirm src req s) h rfl ?_ (by decide),
      s.dev.flash.confirmed_slots⟩
    simp [cmdFwuConfirm, hconfirmed, programInhibit_permitted hpermit, okay, Flash.confirmed]
  case abort =>
    exact serve_okay (exec_fwuAbort src req s) h rfl (withSession_holder hsession hclass _) (by decide)

end Sys2Proof.Machine
end

section
/-!
# What an answer leaves, and what a wake leaves of Keystone

`Dev.face` is what no answer changes (an answer may go out as a frame, R198) and no work of a wake but Keystone's own.
-/
namespace Sys2Proof.Machine
namespace Dev

/-- The pins, CAN and Keystone. -/
def face (d : Dev) : Gpio × Can × Keystone := (d.gpio, d.can, d.ks)

theorem gpio_of_face {d e : Dev} (h : e.face = d.face) : e.gpio = d.gpio := congrArg Prod.fst h
theorem can_of_face {d e : Dev} (h : e.face = d.face) : e.can = d.can := congrArg (·.2.1) h
theorem ks_of_face {d e : Dev} (h : e.face = d.face) : e.ks = d.ks := congrArg (·.2.2) h

@[simp ↓] theorem face_mk (d : Dev) (regs : Vector Word 256) (host : HostPort) (arb : Arbiter) (mail : Mail) (power : Power)
    (flash : Flash) (journal : Journal) (sup : Supervisor) (clk : ClkLatch) (eth : Vector EthPort 3) (remote : Remote)
    (gptp : Vector Gptp 3) (streams : StreamEngine) (lintel : Lintel) (tdm : Vector TdmPort 4) (route : Route) (meas : Meas)
    (timers : Timers) (sched : Vector SchedEntry 32) (tap : Tap) (selfTest : SelfTest) (cc freeIdx : Nat) :
    (Dev.mk regs host arb mail power flash journal sup d.ks clk eth remote gptp streams lintel tdm route meas d.can d.gpio
      timers sched tap selfTest cc freeIdx).face = d.face := (rfl)

@[simp ↓] theorem face_ite (c : Prop) [Decidable c] (d e : Dev) :
    (if c then d else e).face = if c then d.face else e.face := by split <;> rfl

@[simp ↓] theorem foldl_face {α : Type} (f : Dev → α → Dev) (h : ∀ d a, (f d a).face = d.face) (l : List α) (d : Dev) :
    (l.foldl f d).face = d.face := foldl_part (fun a _ d => h d a) d

@[simp ↓] theorem setRbit_face (d : Dev) (a i : Nat) (b : Bool) : (d.setRbit a i b).face = d.face := (rfl)
@[simp ↓] theorem raiseBit_face (d : Dev) (a i : Nat) : (d.raiseBit a i).face = d.face := (rfl)
@[simp ↓] theorem modMb_face (d : Dev) (k : Fin 2) (f : Mailbox → Mailbox) : (d.modMb k f).face = d.face := (rfl)
@[simp ↓] theorem modTraffic_face (d : Dev) (p : Fin 3) (f : PortTraffic → PortTraffic) : (d.modTraffic p f).face = d.face := (rfl)
@[simp ↓] theorem modListener_face (d : Dev) (i : Fin 16) (f : Listener → Listener) : (d.modListener i f).face = d.face := (rfl)
@[simp ↓] theorem modGroup_face (d : Dev) (g : Fin 8) (f : Group → Group) : (d.modGroup g f).face = d.face := (rfl)
@[simp ↓] theorem modMeas_face (d : Dev) (f : Meas → Meas) : (d.modMeas f).face = d.face := (rfl)
@[simp ↓] theorem modBus_face (d : Dev) (b : Fin 2) (f : Bus → Bus) : (d.modBus b f).face = d.face := (rfl)

@[simp ↓] theorem raiseIf_face (d : Dev) (c : Bool) (a i : Nat) : (d.raiseIf c a i).face = d.face := by
  simp [raiseIf]

@[simp ↓] theorem push_face (d : Dev) (code : Nat) (arg : Word) : (d.push code arg).face = d.face := by
  simp [push]

/-! ### An answer -/

@[simp ↓] theorem count_face (d : Dev) (p : Fin 3) (k : Fin 40) : (d.count p k).face = d.face := by
  simp [count, countBy, halfFlag]

@[simp ↓] theorem talkerDiscard_face (d : Dev) (t : Option (Fin 8)) : (d.talkerDiscard t).face = d.face := by
  fun_cases talkerDiscard d t <;> simp

@[simp ↓] theorem submit_face (d : Dev) (p : Fin 3) (f : TxFrame) : (d.submit p f).face = d.face := by
  simp [submit, ethFlag]

@[simp ↓] theorem submit_steady (d : Dev) (p : Fin 3) (f : TxFrame) : (d.submit p f).steady = d.steady := by
  simp [submit]

@[simp ↓] theorem respondRemote_face (d : Dev) (w : RemoteWaiting) (r : Response) : (d.respondRemote w r).face = d.face := by
  simp [respondRemote, remoteSend]

@[simp ↓] theorem respondRemote_steady (d : Dev) (w : RemoteWaiting) (r : Response) :
    (d.respondRemote w r).steady = d.steady := by
  simp [respondRemote, remoteSend]

@[simp ↓] theorem respondRemote_links (d : Dev) (w : RemoteWaiting) (r : Response) :
    (d.respondRemote w r).links = d.links := by
  simp [respondRemote, remoteSend]

/-- The remote controller's answer, sent to the request that waits for it. -/
def respondLate (d : Dev) (r : Response) : Dev :=
  match d.remote.late.find? fun w => w.queued.opcode == r.opcode && w.queued.request.tag == r.tag with
  | none => d
  | some w => ({ d with remote := { d.remote with late := d.remote.late.erase w } } : Dev).respondRemote w r

theorem respond_remote (d : Dev) (r : Response) :
    d.respond .remote r = respondLate { d with mail := { d.mail with remoteResponse := some r } } r := rfl

@[simp ↓] theorem respondLate_face (d : Dev) (r : Response) : (d.respondLate r).face = d.face := by
  unfold respondLate; split <;> simp

@[simp ↓] theorem respondLate_steady (d : Dev) (r : Response) : (d.respondLate r).steady = d.steady := by
  unfold respondLate; split <;> simp

@[simp ↓] theorem respondLate_links (d : Dev) (r : Response) : (d.respondLate r).links = d.links := by
  unfold respondLate; split <;> simp

/-- An answer leaves the pins, CAN and Keystone. -/
@[simp ↓] theorem respond_face (d : Dev) (src : Source) (r : Response) : (d.respond src r).face = d.face := by
  cases src with
  | mb0 => exact modMb_face ..
  | mb1 => exact modMb_face ..
  | tester => rfl
  | remote => rw [respond_remote, respondLate_face]; rfl

@[simp ↓] theorem respond_links (d : Dev) (src : Source) (r : Response) : (d.respond src r).links = d.links := by
  cases src with
  | mb0 => rfl
  | mb1 => rfl
  | tester => rfl
  | remote => rw [respond_remote, respondLate_links]; rfl

@[simp] theorem respond_power (d : Dev) (src : Source) (r : Response) : (d.respond src r).power = d.power := by
  cases src with
  | mb0 => rfl
  | mb1 => rfl
  | tester => rfl
  | remote => rw [respond_remote, power_of_steady (respondLate_steady ..)]

/-- What an answer makes of the mailboxes and the responses given. -/
theorem respond_boxes (d : Dev) (src : Source) (r : Response) : (d.respond src r).boxes =
    match src with
    | .mb0 => (d.respondMb 0 r).boxes
    | .mb1 => (d.respondMb 1 r).boxes
    | .tester => (d.mail.mb, d.mail.latePending, some r, d.mail.remoteResponse)
    | .remote => (d.mail.mb, d.mail.latePending, d.mail.testerResponse, some r) := by
  cases src with
  | mb0 => rfl
  | mb1 => rfl
  | tester => rfl
  | remote =>
    rw [respond_remote]
    obtain ⟨-, -, -, -, hboxes, -⟩ := steady_iff.mp (respondLate_steady { d with mail := { d.mail with remoteResponse := some r } } r)
    exact hboxes

/-- The response to a command that waited reaches its source: its mailbox, the tester's or the remote controller's place. -/
def Told (who : Source × Byte) (op : Nat) (d e : Dev) : Prop :=
  let r : Response := ⟨op, who.2, 0, 0, d.mail.latePending.contains who, []⟩
  (∀ k : Fin 2, who.1 = (if k = 0 then .mb0 else .mb1) → d.mail.mb[k].state = .busy →
    e.mail.mb[k].state = .ready ∧ e.mail.mb[k].response = fillWindow d.mail.mb[k].response r.words) ∧
  (who.1 = .tester → e.mail.testerResponse = some r) ∧ (who.1 = .remote → e.mail.remoteResponse = some r)

/-- Whether a response reached its source shows in the mailboxes and the responses given. -/
theorem told_congr {who : Source × Byte} {op : Nat} {d d' e e' : Dev} (hd : d'.boxes = d.boxes) (he : e'.boxes = e.boxes) :
    Told who op d' e' ↔ Told who op d e := by
  simp only [boxes, Prod.mk.injEq] at hd he
  obtain ⟨hmb, hlate, -, -⟩ := hd
  obtain ⟨hmb', -, htester, hremote⟩ := he
  simp only [Told, hmb, hlate, hmb', htester, hremote]

theorem respondMb_told (d : Dev) (k : Fin 2) (r : Response) (h : d.mail.mb[k].state = .busy) :
    (d.respondMb k r).mail.mb[k].state = .ready ∧
    (d.respondMb k r).mail.mb[k].response = fillWindow d.mail.mb[k].response r.words := by
  have hmb : (d.respondMb k r).mail.mb[k] =
      { d.mail.mb[k] with response := fillWindow d.mail.mb[k].response r.words, state := .ready, taken := false } :=
    (upd_get ..).trans ((if_pos rfl).trans (if_pos h))
  rw [hmb]
  exact ⟨rfl, rfl⟩

theorem respond_mb (d : Dev) (k : Fin 2) (r : Response) : d.respond (if k = 0 then .mb0 else .mb1) r = d.respondMb k r :=
  match k with
  | 0 => rfl
  | 1 => rfl

theorem respondOk_told (d : Dev) (who : Source × Byte) (op : Nat) : Told who op d (d.respondOk who op []) := by
  refine ⟨fun k hk hbusy => ?_, fun htester => ?_, fun hremote => ?_⟩
  · unfold respondOk
    rw [hk, respond_mb]
    exact respondMb_told { d with mail := { d.mail with latePending := d.mail.latePending.erase who } } k _ hbusy
  · unfold respondOk
    rw [htester]
    rfl
  · unfold respondOk
    rw [hremote]
    exact congrArg (·.2.2.2) (respond_boxes _ .remote _)

theorem respondOk_face (d : Dev) (who : Source × Byte) (op : Nat) (payload : List Word) :
    (d.respondOk who op payload).face = d.face := (respond_face ..).trans rfl

theorem respondOk_links (d : Dev) (who : Source × Byte) (op : Nat) (payload : List Word) :
    (d.respondOk who op payload).links = d.links := (respond_links ..).trans rfl

theorem respondOk_power (d : Dev) (who : Source × Byte) (op : Nat) (payload : List Word) :
    (d.respondOk who op payload).power = d.power := (respond_power ..).trans rfl

/-! ### Keystone at a wake -/

theorem listenerWaiting_face (d : Dev) (i : Fin 16) (reason : Nat) : (d.listenerWaiting i reason).face = d.face := by
  simp [listenerWaiting, listenerEnter, streamEvent]

@[simp ↓] theorem timeLost_face (d : Dev) : d.timeLost.face = d.face := by
  refine foldl_face _ (fun e i => ?_) _ d
  fun_cases listenerWait e i 4 <;> simp [listenerWaiting_face]

@[simp ↓] theorem enterBothLost_face (d : Dev) (g : Fin 8) : (d.enterBothLost g).face = d.face := by
  simp [enterBothLost, groupEnter, modGroupCounts]

@[simp ↓] theorem nameEntry_face (d : Dev) : d.nameEntry.face = d.face := by
  simp [nameEntry]

@[simp ↓] theorem canQuietExit_face (d : Dev) : d.canQuietExit.face = d.face := by
  simp [canQuietExit]

@[simp ↓] theorem cycleStart_face (d : Dev) : d.cycleStart.face = d.face := by
  simp [cycleStart, dtcUnsaved]

@[simp ↓] theorem requestScript_face (d : Dev) (k : Fin 4) (kind : ScriptKind) (reply : Option Byte) :
    (d.requestScript k kind reply).face = d.face := by
  unfold requestScript
  split <;> simp [addJob, settleBus]

@[simp ↓] theorem requestStarts_face (d : Dev) : d.requestStarts.face = d.face := by
  simp [requestStarts]

theorem ksEnter_refs (d : Dev) (s : KsState) : (d.ksEnter s).ks.refs = d.ks.refs := by
  unfold ksEnter
  split <;> simp

theorem retune_refs (d : Dev) : d.retune.ks.refs = d.ks.refs := by
  simp [retune]

theorem ksSelect_refs (d : Dev) (n : Fin 8) : (d.ksSelect n).ks.refs = d.ks.refs := by
  unfold ksSelect
  split <;> simp

theorem refUnqualify_lost {d : Dev} {n : Fin 8} (hn : n ≠ 7) (hlost : d.ks.refs[n].lost = true) :
    (d.refUnqualify n).ks.refs[n].qualified = false := by
  unfold refUnqualify
  dsimp only
  split
  case isTrue => simp only [push_ks, raiseBit_ks, modKs_ks, upd_get, if_true]
  case isFalse h =>
    simp only [modKs_ks, upd_get, if_true]
    exact Bool.eq_false_iff.mpr fun hqualified => h ⟨hn, .inl hlost, hqualified⟩

theorem refUnqualify_keeps {d : Dev} (n : Fin 8) {m : Fin 8} (h : d.ks.refs[m].qualified = false) :
    (d.refUnqualify n).ks.refs[m].qualified = false := by
  unfold refUnqualify
  dsimp only
  split
  all_goals
    simp only [push_ks, raiseBit_ks, modKs_ks, upd_get]
    split
  case isTrue.isTrue => rfl
  case isFalse.isTrue hnm => rw [hnm]; exact h
  all_goals exact h

/-- An entry that is dropped is unqualified, and no other gains (R167). -/
theorem refDrop_same (d : Dev) (n : Fin 7) : (d.refDrop n).ks.refs[(n.castLE (by decide) : Fin 8)].qualified = false := by
  refine refUnqualify_lost (fun h => absurd (congrArg Fin.val h) (Nat.ne_of_lt n.isLt)) ?_
  simp only [refLose, modKs_ks, upd_get, if_true]

theorem refDrop_keeps {d : Dev} (n : Fin 7) {m : Fin 8} (h : d.ks.refs[m].qualified = false) :
    (d.refDrop n).ks.refs[m].qualified = false := by
  refine refUnqualify_keeps _ ?_
  simp only [refLose, modKs_ks, upd_get]
  split
  case isTrue hnm => rw [hnm]; exact h
  case isFalse => exact h

theorem refDrops_qualified (d : Dev) (m : Fin 7) :
    ((allFin 7).foldl refDrop d).ks.refs[(m.castLE (by decide) : Fin 8)].qualified = false := by
  have hdropped (l : List (Fin 7)) : ∀ d : Dev, m ∈ l ∨ d.ks.refs[(m.castLE (by decide) : Fin 8)].qualified = false →
      (l.foldl refDrop d).ks.refs[(m.castLE (by decide) : Fin 8)].qualified = false := by
    induction l with
    | nil => exact fun d h => h.elim (fun hm => nomatch hm) id
    | cons n l ih =>
      intro d h
      refine ih _ ?_
      rcases h with hm | hm
      · rcases List.mem_cons.mp hm with rfl | hm
        · exact .inr (d.refDrop_same m)
        · exact .inl hm
      · exact .inr (refDrop_keeps n hm)
  exact hdropped _ d (.inl (List.mem_finRange m))

theorem ksQuietExit_qualified (d : Dev) (named : Option (Fin 8)) (m : Fin 7) :
    (d.ksQuietExit named).ks.refs[(m.castLE (by decide) : Fin 8)].qualified = false := by
  have hrefs : (d.ksQuietExit named).ks.refs = ((allFin 7).foldl refDrop d).ks.refs := by
    unfold ksQuietExit
    dsimp only
    repeat' split
    all_goals simp [enterSteer, enterFree, enterExpired, retune_refs, ksEnter_refs, ksSelect_refs]
  rw [hrefs]
  exact d.refDrops_qualified m

end Dev
end Sys2Proof.Machine
end

section
/-!
# Entering QUIET and waking
-/
namespace Sys2Proof.Machine

/-- The power block of a device awake (R79). -/
def Power.awoken (p : Power) : Power :=
  { p with state := .active, quietEntry := none, quietBegun := false, quietExit := none, wakePending := false, quietPass := false }

namespace Dev

/-! ### A wake -/

/-- A wake before Keystone leaves QUIET: the pins, the TDM ports and the Ethernet ports. -/
def wakePorts (d : Dev) : Dev :=
  (allFin 3).foldl (fun (d : Dev) p => d.leaveDown p)
    ((allFin 4).foldl (fun (d : Dev) p => d.tdmWake p) ({ d with power := d.power.awoken } : Dev).pinsReturn)

/-- A wake once Keystone has left QUIET: the streams, the groups, CAN and the scripts. -/
def wakeStreams (d : Dev) (valid : Bool) : Dev :=
  let d := if valid ∧ ¬ d.ks.timeValid then d.timeLost else d
  let d := (allFin 8).foldl (fun (d : Dev) g => if Group.started d.lintel.groups[g] then d.enterBothLost g else d) d
  d.nameEntry.canQuietExit.cycleStart.requestStarts

/-- A wake before its answer. -/
def wakeUp (d : Dev) : Dev := ((d.wakePorts).ksQuietExit d.wakePorts.namedEntry).wakeStreams d.ks.timeValid

theorem wake_eq (d : Dev) : d.wake =
    match d.power.quietExit with
    | some who => d.wakeUp.respondOk who 0x0006 []
    | none => d.wakeUp := rfl

theorem wakePorts_steady (d : Dev) : d.wakePorts.steady = ({ d with power := d.power.awoken } : Dev).steady := by
  simp [wakePorts]

theorem wakeStreams_steady (d : Dev) (valid : Bool) : (d.wakeStreams valid).steady = d.steady := by
  simp [wakeStreams]

theorem wakeStreams_face (d : Dev) (valid : Bool) : (d.wakeStreams valid).face = d.face := by
  simp [wakeStreams]

theorem wakeUp_steady (d : Dev) : d.wakeUp.steady = ({ d with power := d.power.awoken } : Dev).steady := by
  unfold wakeUp
  rw [wakeStreams_steady, ksQuietExit_steady, wakePorts_steady]

theorem wakeUp_qualified (d : Dev) (n : Fin 7) : d.wakeUp.ks.refs[(n.castLE (by decide) : Fin 8)].qualified = false := by
  unfold wakeUp
  rw [ks_of_face (wakeStreams_face ..)]
  exact ksQuietExit_qualified ..

theorem wakeUp_boxes (d : Dev) : d.wakeUp.boxes = d.boxes := by
  obtain ⟨-, -, -, -, hboxes, -⟩ := steady_iff.mp d.wakeUp_steady
  exact hboxes

theorem wake_power (d : Dev) : d.wake.power = d.power.awoken := by
  rw [wake_eq]
  split
  · rw [respondOk_power, power_of_steady d.wakeUp_steady]
  · exact power_of_steady d.wakeUp_steady

theorem wake_qualified (d : Dev) (n : Fin 7) : d.wake.ks.refs[(n.castLE (by decide) : Fin 8)].qualified = false := by
  rw [wake_eq]
  split
  · rw [ks_of_face (respondOk_face ..)]
    exact d.wakeUp_qualified n
  · exact d.wakeUp_qualified n

/-- A device awake: in ACTIVE, no wake waiting, Keystone's entries unqualified. -/
def Awoken (d : Dev) : Prop :=
  d.power.state = .active ∧ d.power.wakePending = false ∧ d.power.quietPass = false ∧
  ∀ n : Fin 7, d.ks.refs[(n.castLE (by decide) : Fin 8)].qualified = false

theorem wake_awoken (d : Dev) : d.wake.Awoken := by
  unfold Awoken
  rw [wake_power]
  exact ⟨rfl, rfl, rfl, d.wake_qualified⟩

/-- A wake by QUIET_EXIT answers its source. -/
theorem wake_told {d : Dev} {who : Source × Byte} (h : d.power.quietExit = some who) : Told who 0x0006 d d.wake := by
  rw [wake_eq, h]
  exact (told_congr d.wakeUp_boxes rfl).mp (respondOk_told ..)

/-- A wake with no QUIET_EXIT to answer leaves the mailboxes. -/
theorem wake_boxes {d : Dev} (h : d.power.quietExit = none) : d.wake.boxes = d.boxes := by
  rw [wake_eq, h]
  exact d.wakeUp_boxes

/-- In QUIET each wake event that is present wakes the device. -/
theorem wakeEvent_crx {d : Dev} (h : d.power.state = .quiet) : d.wakeEvent .crx = d.wake := if_pos h

theorem wakeEvent_quietExit {d : Dev} {who : Source × Byte} (h : d.power.state = .quiet) (hexit : d.power.quietExit = some who) :
    d.wakeEvent .quietExit = d.wake := by
  simp [wakeEvent, h, hexit]

theorem wakeEvent_pin {d : Dev} (h : d.power.state = .quiet) : d.wakeEvent .pin =
    if d.power.wakePending then d.wake else match d.wakingPin with
      | some p => (d.pinWake p).wake
      | none => d := if_pos h

/-- In QUIET a pin that has woken, or stands at its wake level, wakes the device, the mailboxes as they were. -/
theorem wakeEvent_pin_wakes {d : Dev} (h : d.power.state = .quiet) (hpin : d.power.wakePending = true ∨ d.wakingPin.isSome) :
    ∃ e : Dev, e.power = d.power ∧ e.boxes = d.boxes ∧ d.wakeEvent .pin = e.wake := by
  rw [wakeEvent_pin h]
  split
  case isTrue => exact ⟨d, rfl, rfl, rfl⟩
  case isFalse hno =>
    obtain ⟨p, hp⟩ := Option.isSome_iff_exists.mp (hpin.resolve_left hno)
    have hsteady : (d.pinWake p).steady = d.steady := by simp +decide [pinWake]
    obtain ⟨hpower, -, -, -, hboxes, -⟩ := steady_iff.mp hsteady
    exact ⟨d.pinWake p, hpower, hboxes, by rw [hp]⟩

/-! ### The entry into QUIET -/

/-- The device on its way into QUIET, its ports DOWN and Keystone's frequency saved. -/
def portsQuiet (d : Dev) : Dev := ((allFin 3).foldl (fun (d : Dev) p => d.portForceDown p false) d).ksQuietSave

/-- The device in QUIET. -/
def toQuiet (d : Dev) : Dev := { d with power := { d.power with state := .quiet, quietEntry := none, quietBegun := false } }

theorem toQuiet_power (d : Dev) : d.toQuiet.power = { d.power with state := .quiet, quietEntry := none, quietBegun := false } := rfl
theorem toQuiet_boxes (d : Dev) : d.toQuiet.boxes = d.boxes := rfl
theorem toQuiet_links (d : Dev) : d.toQuiet.links = d.links := rfl
theorem toQuiet_gpio (d : Dev) : d.toQuiet.gpio = d.gpio := rfl

/-- The device whose entry is done: every port DOWN, the pins asleep, the entry answered (R77). -/
def slept (d : Dev) (who : Source × Byte) : Dev := (d.portsQuiet.pinsSleep.respondOk who 0x0005 []).toQuiet

theorem quietComplete_eq {d : Dev} {who : Source × Byte} (hactive : d.power.state = .active) (hentry : d.power.quietEntry = some who)
    (hbegun : d.power.quietBegun = true) (hidle : d.journalBusy = false) (htdm : ∀ p : Fin 4, d.tdm[p].state = .off)
    (hcan : d.can.initAck = true) :
    d.quietComplete = if (d.slept who).power.wakePending then (d.slept who).wake else (d.slept who).wakeEvent .pin := by
  unfold quietComplete
  rw [hentry]
  dsimp only
  rw [if_neg (by simp_all)]
  rfl

theorem linkEnter_gpio (d : Dev) (p : Fin 3) (s : LinkState) (planned : Bool) : (d.linkEnter p s planned).gpio = d.gpio := by
  unfold linkEnter
  dsimp only
  split
  · rfl
  · rw [linkEvent, push_gpio, modLink_gpio]

theorem gptpReset_gpio (d : Dev) (p : Fin 3) : (d.gptpReset p).gpio = d.gpio := by
  have hset (role : GptpRole) (cap : Bool) : (d.gptpSet p role cap).gpio = d.gpio := by
    unfold gptpSet
    dsimp only
    split
    · rfl
    · split <;> simp [refLose, gptpEvent]
  simp [gptpReset, refLose, hset]

theorem departUp_gpio (d : Dev) (p : Fin 3) : (d.departUp p).gpio = d.gpio := by
  have hdiscard (l : List TxFrame) (d : Dev) : (d.discardQueue p l).face = d.face := by simp [discardQueue]
  rw [departUp, modTraffic_gpio, gpio_of_face (hdiscard ..), gptpReset_gpio]

theorem portForceDown_gpio (d : Dev) (p : Fin 3) (loss : Bool) : (d.portForceDown p loss).gpio = d.gpio := by
  unfold portForceDown
  extract_lets old marked entered
  have hmarked : marked.gpio = d.gpio := by
    simp only [marked]
    split
    · rw [gpio_of_face (count_face ..), ethFlag, raiseBit_gpio]
    · rfl
  have hentered : entered.gpio = d.gpio := by
    rw [modLink_gpio, linkEnter_gpio, hmarked]
  clear_value entered
  split
  · rfl
  · split
    · rw [departUp_gpio, hentered]
    · exact hentered

theorem ksQuietSave_rest (d : Dev) : d.ksQuietSave.steady = d.steady ∧ d.ksQuietSave.links = d.links ∧ d.ksQuietSave.gpio = d.gpio := by
  unfold ksQuietSave
  split <;> exact ⟨rfl, rfl, rfl⟩

theorem portsQuiet_steady (d : Dev) : d.portsQuiet.steady = d.steady := by
  obtain ⟨hsteady, -⟩ := ksQuietSave_rest ((allFin 3).foldl (fun (d : Dev) p => d.portForceDown p false) d)
  exact hsteady.trans (portsForceDown_steady d false)

theorem portsQuiet_gpio (d : Dev) : d.portsQuiet.gpio = d.gpio := by
  obtain ⟨-, -, hgpio⟩ := ksQuietSave_rest ((allFin 3).foldl (fun (d : Dev) p => d.portForceDown p false) d)
  exact hgpio.trans (foldl_part (f := fun (d : Dev) p => d.portForceDown p false) (part := (·.gpio))
    (fun p _ d => portForceDown_gpio d p false) d)

theorem portsQuiet_down (d : Dev) (p : Fin 3) : d.portsQuiet.links[p].state = .down := by
  obtain ⟨-, hlinks, -⟩ := ksQuietSave_rest ((allFin 3).foldl (fun (d : Dev) p => d.portForceDown p false) d)
  unfold portsQuiet
  rw [hlinks, links_get]
  exact portsForceDown_state d false p

theorem pinsSleep_steady (d : Dev) : d.pinsSleep.steady = d.steady := modGpio_steady ..

theorem modGpio_links (d : Dev) (f : Gpio → Gpio) : (d.modGpio f).links = d.links := rfl

theorem pinsSleep_links (d : Dev) : d.pinsSleep.links = d.links := modGpio_links ..

theorem slept_power (d : Dev) (who : Source × Byte) :
    (d.slept who).power = { d.power with state := .quiet, quietEntry := none, quietBegun := false } := by
  rw [slept, toQuiet_power, respondOk_power, power_of_steady (pinsSleep_steady ..), power_of_steady d.portsQuiet_steady]

theorem slept_told (d : Dev) (who : Source × Byte) : Told who 0x0005 d (d.slept who) := by
  obtain ⟨-, -, -, -, hboxes, -⟩ := steady_iff.mp ((pinsSleep_steady _).trans d.portsQuiet_steady)
  exact (told_congr hboxes (toQuiet_boxes _).symm).mp (respondOk_told ..)

theorem slept_down (d : Dev) (who : Source × Byte) (p : Fin 3) : (d.slept who).eth[p].link.state = .down := by
  rw [← links_get, slept, toQuiet_links, respondOk_links, pinsSleep_links]
  exact d.portsQuiet_down p

theorem slept_gpio (d : Dev) (who : Source × Byte) : (d.slept who).gpio = d.portsQuiet.pinsSleep.gpio := by
  rw [slept, toQuiet_gpio, gpio_of_face (respondOk_face ..)]

theorem slept_asleep (d : Dev) (who : Source × Byte) : (d.slept who).gpio.asleep = true := by
  rw [slept_gpio]
  rfl

theorem pinsSleep_wakingPin (d : Dev) : d.pinsSleep.wakingPin = d.wakingPin := by
  unfold wakingPin
  simp [pinsSleep, modGpio]

theorem wakingPin_congr {d e : Dev} (h : e.gpio = d.gpio) : e.wakingPin = d.wakingPin := by
  unfold wakingPin
  rw [h]

/-- The pins asleep show the same levels. -/
theorem slept_wakingPin (d : Dev) (who : Source × Byte) : (d.slept who).wakingPin = d.wakingPin := by
  rw [wakingPin_congr (d.slept_gpio who), pinsSleep_wakingPin, wakingPin_congr d.portsQuiet_gpio]

theorem wakingPin_none {d : Dev} (h : ∀ p : Fin 37, d.gpio.pins[p].cfg.getLsbD 20 = false) : d.wakingPin = none :=
  List.find?_eq_none.mpr fun p _ => by simp only [h p, Bool.false_and, Bool.false_eq_true, not_false_eq_true]

theorem wakingPin_some {d : Dev} {p : Fin 37} (hcfg : d.gpio.pins[p].cfg.getLsbD 20 = true)
    (hlevel : d.gpio.pins[p].filt = d.gpio.pins[p].cfg.getLsbD 21) : d.wakingPin.isSome :=
  List.find?_isSome.mpr ⟨p, List.mem_finRange p, by simp only [hcfg, hlevel, beq_self_eq_true, Bool.and_self]⟩

end Dev
end Sys2Proof.Machine
end

section
/-!
# A service pass in QUIET

Only the mailboxes are served (R136), and of the commands served then QUIET_EXIT alone changes the power block.
-/
namespace Sys2Proof.Machine
namespace Dev

/-! ### The responses that waited for the pass -/

theorem respond_request (d : Dev) (src : Source) (r : Response) (k : Fin 2) :
    (d.respond src r).mail.mb[k].request = d.mail.mb[k].request := by
  have hmb (j : Fin 2) : (d.respondMb j r).mail.mb[k].request = d.mail.mb[k].request := by
    simp only [respondMb, modMb, upd_get]
    split
    case isTrue hjk => rw [hjk]; split <;> rfl
    case isFalse => rfl
  cases src with
  | mb0 => exact hmb 0
  | mb1 => exact hmb 1
  | tester => rfl
  | remote => rw [show (d.respond .remote r).mail.mb = d.mail.mb from congrArg Prod.fst (respond_boxes d .remote r)]

/-- What a pass begins with, its late responses given: the power block, CAN and the requests as they were. -/
def PassBegun (d e : Dev) : Prop :=
  e.power = d.power ∧ e.can = d.can ∧ ∀ k : Fin 2, e.mail.mb[k].request = d.mail.mb[k].request

theorem deferredReplies_begun (d : Dev) : d.PassBegun d.deferredReplies :=
  List.foldlRecOn _ _ (motive := d.PassBegun) ⟨rfl, rfl, fun _ => rfl⟩ fun _ ⟨hpower, hcan, hrequest⟩ _ _ =>
    ⟨(respond_power ..).trans hpower, (can_of_face (respond_face ..)).trans hcan,
      fun k => (respond_request ..).trans (hrequest k)⟩

theorem udsFlush_rest {d : Dev} (h : d.can.uds.awaiting = none) : d.udsFlush = d := by
  unfold udsFlush
  rw [h]

/-! ### What is served -/

/-- Only the mailboxes are served in QUIET. -/
theorem jobs_quiet {d : Dev} (hquiet : d.power.state = .quiet) (hrequest : d.can.uds.request = none) {j : Job} (hj : j ∈ d.jobs) :
    ∃ k : Fin 2, j = .mailbox k d.mail.mb[k].decode.1 d.mail.mb[k].decode.2 := by
  have hmb (k : Fin 2) (h : j ∈ (if d.mail.mb[k].state = .busy ∧ !d.mail.mb[k].taken then
      [Job.mailbox k d.mail.mb[k].decode.1 d.mail.mb[k].decode.2] else [])) :
      ∃ k : Fin 2, j = .mailbox k d.mail.mb[k].decode.1 d.mail.mb[k].decode.2 := by
    split at h
    · exact ⟨k, List.mem_singleton.mp h⟩
    · nomatch h
  have hnone : (if d.can.uds.request.isSome ∧ d.udsServes then [Job.tester d.testerCommand] else []) = [] := by
    simp [hrequest]
  have hidle : (if d.power.state = .active then d.remote.waiting.map Job.remote else []) = [] := by
    simp [hquiet]
  unfold jobs at hj
  dsimp only at hj
  rw [hnone, hidle, List.append_nil, List.append_nil] at hj
  exact (List.mem_append.mp hj).elim (hmb 1) (hmb 0)

/-- A command that passes the shared checks in QUIET is one that a pass of QUIET serves. -/
theorem serveCheck_quiet {d : Dev} (h : d.power.state = .quiet) {src : Source} {op : Nat} {req : Request} {c : CmdSpec}
    (hok : d.serveCheck src op req = .ok c) : quietServes op = true ∧ cmdSpec op = some c := by
  unfold serveCheck at hok
  rw [if_neg (by simp [h])] at hok
  split at hok
  · nomatch hok
  case isFalse hserves =>
    refine ⟨by simpa [h] using hserves, ?_⟩
    split at hok
    · nomatch hok
    next c' hc =>
      rw [hc]
      repeat' split at hok
      all_goals cases hok
      rfl

theorem journalAdd_power (d : Dev) (items : List JItem) : (d.journalAdd items).power = d.power := by
  unfold journalAdd journalWithhold
  dsimp only
  split <;> simp

theorem noteAccepted_power (d : Dev) (src : Source) (accepted : Bool) (op : Nat) (tag : Byte) :
    (d.noteAccepted src accepted op tag).power = d.power := by
  unfold noteAccepted
  split <;> rfl

theorem settle_reply_power (d e : Dev) (src : Source) (op : Nat) (req : Request) (payload : List Word) :
    (d.settle src op req (reply payload e)).1.power = e.power := by
  simp [settle, reply, noteAccepted_power, journalAdd_power]

/-- Of the commands a pass of QUIET serves, only QUIET_EXIT changes the power block. -/
theorem quietRow_power {op : Nat} {c : CmdSpec} (hserves : quietServes op = true) (hexit : op ≠ 6) (hc : cmdSpec op = some c)
    (d : Dev) (src : Source) (req : Request) : ∃ payload e, c.run src req d = reply payload e ∧ e.power = d.power := by
  have hop : op = 1 ∨ op = 2 ∨ op = 3 := by
    simp [quietServes] at hserves
    omega
  rcases hop with rfl | rfl | rfl
  all_goals
    obtain rfl := Option.some.inj hc
    exact ⟨_, _, rfl, rfl⟩

theorem serveCore_quiet_power {d : Dev} (hquiet : d.power.state = .quiet) {op : Nat} (hexit : op ≠ 6) (src : Source)
    (req : Request) : (d.serveCore src op req).1.power = d.power := by
  unfold serveCore serveWith
  split
  · rfl
  · split
    · rfl
    next c hok =>
      obtain ⟨hserves, hc⟩ := serveCheck_quiet hquiet hok
      obtain ⟨payload, e, hrun, hpower⟩ := quietRow_power hserves hexit hc d src req
      rw [hrun, settle_reply_power, hpower]

/-- A mailbox's command comes to its response, or to waiting for the event that ends it. -/
def mailboxServed (k : Fin 2) (x : Dev × Option Response) : Dev :=
  match x with
  | (d, some r) => d.respondMb k r
  | (d, none) => d.modMb k fun m => { m with taken := true }

theorem mailboxServed_power (k : Fin 2) (x : Dev × Option Response) : (mailboxServed k x).power = x.1.power := by
  unfold mailboxServed
  split <;> rfl

theorem runJob_beaten (d : Dev) (k : Fin 2) (op : Nat) (req : Request) (cls : Nat) :
    d.runJob (.mailbox k op req) (some cls) = mailboxServed k (d.beaten op req cls) := rfl

theorem runJob_served (d : Dev) (k : Fin 2) (op : Nat) (req : Request) :
    d.runJob (.mailbox k op req) none = mailboxServed k (d.serveCore (Job.mailbox k op req).source op req) := rfl

theorem runJob_quiet_power {d : Dev} (hquiet : d.power.state = .quiet) {op : Nat} (hexit : op ≠ 6) (k : Fin 2) (req : Request)
    (loses : Option Nat) : (d.runJob (.mailbox k op req) loses).power = d.power := by
  cases loses with
  | some cls => rw [runJob_beaten, mailboxServed_power]; rfl
  | none => rw [runJob_served, mailboxServed_power]; exact serveCore_quiet_power hquiet hexit _ _

/-! ### The pass -/

/-- The jobs of one rank, in order. -/
def runRank (ranked : List (Nat × Job × Option Nat)) (d : Dev) (rank : Nat) : Dev :=
  (ranked.filter fun x => x.1 == rank).foldl (fun (d : Dev) x => d.runJob x.2.1 x.2.2) d

/-- The end of a pass: Hearth's clock goes on in QUIET only to answer QUIET_EXIT. -/
def passEnd (d : Dev) : Dev :=
  { d with power := { d.power with quietPass := d.power.state == .quiet && d.power.quietExit.isSome } }

theorem servicePass_eq {d : Dev} (h : d.serving = true) (hpass : d.power.quietPass = true) :
    ∃ (ranked : List (Nat × Job × Option Nat)) (e : Dev), (∀ x ∈ ranked, x.2.1 ∈ d.deferredReplies.udsFlush.jobs) ∧
      e.power = d.deferredReplies.udsFlush.power ∧ d.servicePass = passEnd ([0, 1, 2, 3].foldl (runRank ranked) e) := by
  unfold servicePass
  rw [if_neg (by simp [h, hpass])]
  extract_lets begun jobs _mail judge ranked _remote ready run ran _power
  have hran : ran = [0, 1, 2, 3].foldl (runRank ranked) ready := rfl
  clear_value ran
  refine ⟨ranked, ready, fun x hx => ?_, rfl, by rw [← hran]; rfl⟩
  obtain ⟨i, -, hi⟩ := List.mem_filterMap.mp hx
  obtain ⟨j, hj, rfl⟩ := Option.map_eq_some_iff.mp hi
  exact List.mem_of_getElem? hj

/-- A part that each job of the list leaves, as long as it is so, is left by the list. -/
theorem runRanks_power {ranked : List (Nat × Job × Option Nat)} {p : Power}
    (hstep : ∀ x ∈ ranked, ∀ d : Dev, d.power = p → (d.runJob x.2.1 x.2.2).power = p) (ranks : List Nat) {d : Dev}
    (hd : d.power = p) : (ranks.foldl (runRank ranked) d).power = p :=
  List.foldlRecOn ranks _ (motive := fun (e : Dev) => e.power = p) hd fun _ he _ _ =>
    List.foldlRecOn _ _ (motive := fun (e : Dev) => e.power = p) he fun e he x hx => hstep x (List.mem_of_mem_filter hx) e he

/-- A pass of QUIET that serves no QUIET_EXIT ends it (R78). -/
theorem servicePass_quiet {d : Dev} (hquiet : d.power.state = .quiet) (hpass : d.power.quietPass = true)
    (hexit : d.power.quietExit = none) (hops : ∀ k : Fin 2, d.mail.mb[k].decode.1 ≠ 6) (hrequest : d.can.uds.request = none)
    (hawaiting : d.can.uds.awaiting = none) : d.servicePass.power = { d.power with quietPass := false } := by
  obtain ⟨ranked, ready, hjobs, hready, heq⟩ := servicePass_eq (d := d) (by simp [serving, hquiet]) hpass
  obtain ⟨hpower, hcan, hsame⟩ := d.deferredReplies_begun
  rw [udsFlush_rest (by rw [hcan]; exact hawaiting)] at hjobs hready
  have hkept := runRanks_power (ranked := ranked) (p := d.power) (fun x hx e he => ?_) [0, 1, 2, 3] (hready.trans hpower)
  · rw [heq, passEnd]
    dsimp only
    rw [hkept]
    simp [hexit]
  · obtain ⟨k, hk⟩ := jobs_quiet (by rw [hpower]; exact hquiet) (by rw [hcan]; exact hrequest) (hjobs x hx)
    rw [hk, runJob_quiet_power (by rw [he]; exact hquiet) ?_, he]
    have hdecode : d.deferredReplies.mail.mb[k].decode = d.mail.mb[k].decode := by
      simp only [Mailbox.decode, hsame k]
    rw [hdecode]
    exact hops k

/-- A doorbell that waits starts a pass. -/
theorem quietPassStart_eq {d : Dev} (hquiet : d.power.state = .quiet) {k : Fin 2} (hbusy : d.mail.mb[k].state = .busy)
    (hfree : d.mail.mb[k].taken = false) : d.quietPassStart = { d with power := { d.power with quietPass := true } } := by
  have hwaits : (d.mail.mb[k].state == .busy && !d.mail.mb[k].taken) = true := by rw [hbusy, hfree]; rfl
  exact if_pos ⟨hquiet, match k, hwaits with
    | 0, hwaits => Bool.or_eq_true_iff.mpr (.inl hwaits)
    | 1, hwaits => Bool.or_eq_true_iff.mpr (.inr hwaits)⟩

end Dev

/-- Settles O18: the entry by `quietComplete_eq`, every wake by `Dev.wake`, the pass by what it serves. -/
theorem quietRows : Obligations.QuietRows := by
  unfold Obligations.QuietRows
  intro told entered awoken
  refine ⟨fun who s ⟨hactive, hentry, hbegun, hidle, htdm, hcan⟩ hwake hpins => ?sleeps,
    fun who s ⟨hactive, hentry, hbegun, hidle, htdm, hcan⟩ hwake hexit => ?wakes, fun k s hquiet hbusy hfree => ?doorbell,
    fun s hquiet hpass hexit hops hrequest hawaiting => ?pass, fun s hquiet => ?crx, fun s hquiet hpin => ?pin,
    fun who s hquiet hexit => ?exit, fun s hactive hentry => ?during⟩
  case sleeps =>
    have hpower := s.dev.slept_power who
    refine does_of_eq (e := s.dev.slept who) (exec_quietEntryComplete s) ?_ ?_
    · rw [Dev.quietComplete_eq hactive hentry hbegun hidle htdm hcan, hpower, if_neg (by simp [hwake]),
        Dev.wakeEvent_pin (by rw [hpower]), if_neg (by simp [hpower, hwake]), Dev.slept_wakingPin, Dev.wakingPin_none hpins]
    · rw [hpower]
      exact ⟨rfl, rfl, s.dev.slept_down who, s.dev.slept_asleep who, s.dev.slept_told who⟩
  case wakes =>
    have hpower := s.dev.slept_power who
    have hquiet : (s.dev.slept who).power.state = .quiet := by rw [hpower]
    obtain ⟨e, hsame, hboxes, heq⟩ := Dev.wakeEvent_pin_wakes hquiet (by
      rw [hpower, Dev.slept_wakingPin]
      exact hwake.imp id fun ⟨p, hcfg, hlevel⟩ => Dev.wakingPin_some hcfg hlevel)
    have hslept : s.dev.quietComplete = e.wake := by
      rw [Dev.quietComplete_eq hactive hentry hbegun hidle htdm hcan, ← heq, Dev.wakeEvent_pin hquiet]
      split <;> rfl
    have hnone : e.power.quietExit = none := by rw [hsame, hpower]; exact hexit
    refine does_of_eq (exec_quietEntryComplete s) hslept ⟨e.wake_awoken, ?_, ?_⟩
    · rw [Dev.wake_power]
      rfl
    · exact (Dev.told_congr rfl ((Dev.wake_boxes hnone).trans hboxes)).mpr (s.dev.slept_told who)
  case doorbell => exact next_dev (Dev.quietPassStart_eq hquiet hbusy hfree)
  case pass =>
    refine does_of_eq (exec_servicePass s) rfl ?_
    rw [Dev.servicePass_quiet hquiet hpass hexit hops hrequest hawaiting]
    exact ⟨rfl, hquiet⟩
  case crx =>
    exact does_of_eq (exec_quietWake .crx s) ((Dev.powered_act (by simp [Dev.Powered, hquiet]) _).trans (Dev.wakeEvent_crx hquiet))
      s.dev.wake_awoken
  case pin =>
    obtain ⟨e, -, -, heq⟩ := Dev.wakeEvent_pin_wakes hquiet hpin
    exact does_of_eq (exec_quietWake .pin s) ((Dev.powered_act (by simp [Dev.Powered, hquiet]) _).trans heq) e.wake_awoken
  case exit =>
    refine does_of_eq (exec_quietWake .quietExit s)
      ((Dev.powered_act (by simp [Dev.Powered, hquiet]) _).trans (Dev.wakeEvent_quietExit hquiet hexit))
      ⟨s.dev.wake_awoken, ?_, Dev.wake_told hexit⟩
    rw [Dev.wake_power]
    rfl
  case during =>
    exact next_dev ((Dev.powered_act (by simp [Dev.Powered, hactive]) _).trans
      (by rw [Dev.wakeEvent, if_neg (by simp [hactive]), if_pos ⟨hentry, rfl⟩]))

end Sys2Proof.Machine
end

section
/-!
# The windows of a mailbox, as the host writes and reads them (R126 to R130, R154)
-/
namespace Sys2Proof.Machine
namespace Dev

/-- The byte address of a word of a mailbox's request window. -/
def requestAddr (k : Fin 2) (i : Fin 64) : Nat := 0x400 + 0x200 * k.val + 4 * i.val

/-- The byte address of a word of a mailbox's response window. -/
def responseAddr (k : Fin 2) (i : Fin 64) : Nat := 0x500 + 0x200 * k.val + 4 * i.val

theorem windowOf_request (k : Fin 2) (i : Fin 64) : windowOf (requestAddr k i) = (k, i) := by
  refine Prod.ext (Fin.ext ?_) (Fin.ext ?_) <;> simp only [windowOf, requestAddr] <;> omega

theorem windowOf_response (k : Fin 2) (i : Fin 64) : windowOf (responseAddr k i) = (k, i) := by
  refine Prod.ext (Fin.ext ?_) (Fin.ext ?_) <;> simp only [windowOf, responseAddr] <;> omega

theorem isRequest_request (k : Fin 2) (i : Fin 64) : isRequest (requestAddr k i) = true := by
  simp only [isRequest, requestAddr, beq_iff_eq]
  omega

theorem isRequest_response (k : Fin 2) (i : Fin 64) : isRequest (responseAddr k i) = false := by
  simp only [isRequest, responseAddr, beq_eq_false_iff_ne]
  omega

/-- PROOF_HOLD turns away no write to a request window (R73). -/
theorem holdAccepts_request (k : Fin 2) (i : Fin 64) : holdAccepts (requestAddr k i) = true := by
  have hk : k.val < 2 := k.isLt
  rw [requestAddr, holdAccepts, Bool.or_assoc, Bool.or_eq_true]
  right
  simp only [Bool.or_eq_true, Bool.and_eq_true, decide_eq_true_eq]
  omega

/-- A write that the slave takes at a word of a request window, out of OFF (R128). -/
theorem guarded_request {d : Dev} (h : d.Powered) (k : Fin 2) (i : Fin 64) (w : Word) :
    (d.hostGuard (requestAddr k i) fun d => d.writeEffect (requestAddr k i) w) = d.requestWrite k i w := by
  have hlow : 0x400 ≤ requestAddr k i ∧ requestAddr k i < 0x800 := by simp only [requestAddr]; omega
  rw [hostGuard_hold h (by omega) (holdAccepts_request k i)]
  simp only [writeEffect, if_neg (show ¬ requestAddr k i < 0x400 by omega), if_pos hlow.2, isRequest_request, if_true,
    windowOf_request]

theorem hostWrite_request {d : Dev} (h : d.Powered) (k : Fin 2) (i : Fin 64) (w : Word) :
    d.hostWrite (requestAddr k i) w = d.requestWrite k i w := guarded_request h k i w

/-- REGISTER_WRITE at a word of a request window. -/
theorem registerWrite_request {d : Dev} (h : d.Powered) (k : Fin 2) (i : Fin 64) (w : Word) :
    d.registerWrite (BitVec.ofNat 16 (requestAddr k i)) w none = d.requestWrite k i w := by
  have haddr : (BitVec.ofNat 16 (requestAddr k i)).toNat = requestAddr k i := by
    rw [BitVec.toNat_ofNat, Nat.mod_eq_of_lt (by simp only [requestAddr]; omega)]
  have halign : requestAddr k i % 4 = 0 := by simp only [requestAddr]; omega
  have hword : requestAddr k i / 4 * 4 = requestAddr k i := by omega
  simp only [registerWrite, alignAddr, haddr, hword, halign, bne_self_eq_false, raiseIf, Bool.false_eq_true, if_false]
  exact guarded_request h k i w

/-- A read of a word of a response window, out of OFF (R102). -/
theorem hostRead_response {d : Dev} (h : d.Powered) (k : Fin 2) (i : Fin 64) (full : Bool) :
    d.hostRead (responseAddr k i) full =
      if full then ((d.windowCapture k i).spiOut ((d.windowCapture k i).responseRead k i)).windowReadDone k i
      else (d.windowCapture k i).spiOut ((d.windowCapture k i).responseRead k i) := by
  have hlow : 0x400 ≤ responseAddr k i ∧ responseAddr k i < 0x800 := by simp only [responseAddr]; omega
  have hbelow : ¬ responseAddr k i < 0x400 := by omega
  have hcap : responseAddr k i ≠ Reg.TMR_CAP_LO := by simp only [Reg.TMR_CAP_LO]; omega
  rw [hostRead, powered_act h]
  simp only [hostCapture, hostWord, hostReadDone, if_neg hbelow, hlow, if_neg hcap, isRequest_response, windowOf_response,
    Bool.false_eq_true, not_false_eq_true, and_self, if_true, if_false]

/-! ### What a write does to a mailbox -/

theorem modMb_modMb (d : Dev) (k : Fin 2) (f g : Mailbox → Mailbox) : (d.modMb k f).modMb k g = d.modMb k fun m => g (f m) := by
  simp [modMb, upd]

theorem modMb_mb_alone (d : Dev) (k : Fin 2) (f : Mailbox → Mailbox) :
    d.modMb k f = { d with mail := { d.mail with mb := (d.modMb k f).mail.mb } } := rfl

theorem modMb_mb_same (d : Dev) (k : Fin 2) (f : Mailbox → Mailbox) : (d.modMb k f).mail.mb[k] = f d.mail.mb[k] :=
  upd_same ..

theorem modMb_mb_other (d : Dev) {k j : Fin 2} (h : j ≠ k) (f : Mailbox → Mailbox) :
    (d.modMb k f).mail.mb[j] = d.mail.mb[j] := upd_other _ h.symm _

end Dev

/-- A mailbox whose request window is written at a word (R128). -/
def Mailbox.wordWritten (m : Mailbox) (i : Fin 64) (w : Word) : Mailbox :=
  if m.state = .busy then { m with writeWhileBusy := true } else { m with request := m.request.set i w }

/-- A mailbox at which a doorbell word has come (R127). -/
def Mailbox.rung (m : Mailbox) (w : Word) : Mailbox :=
  if Dev.doorbellValid m w then
    if m.state = .idle then { m with state := .busy, lastTag := w.setWidth 8 } else { m with refusedDoorbell := true }
  else { m with badDoorbell := true }

namespace Mailbox

theorem wordWritten_busy {m : Mailbox} (h : m.state = .busy) (i : Fin 64) (w : Word) :
    m.wordWritten i w = { m with writeWhileBusy := true } := if_pos h

theorem wordWritten_free {m : Mailbox} (h : m.state ≠ .busy) (i : Fin 64) (w : Word) :
    m.wordWritten i w = { m with request := m.request.set i w } := if_neg h

theorem wordWritten_rest (m : Mailbox) (i : Fin 64) (w : Word) :
    (m.wordWritten i w).state = m.state ∧ (m.wordWritten i w).response = m.response := by
  unfold wordWritten
  split <;> exact ⟨rfl, rfl⟩

theorem rung_response (m : Mailbox) (w : Word) : (m.rung w).response = m.response := by
  unfold rung
  repeat' split
  all_goals rfl

/-- The doorbell word itself is not the header whose TAG it names. -/
theorem doorbellValid_wordWritten (m : Mailbox) (w : Word) :
    Dev.doorbellValid (m.wordWritten 63 w) w = Dev.doorbellValid m w := by
  unfold wordWritten
  split
  · rfl
  · simp [Dev.doorbellValid]

theorem doorbellValid_iff (m : Mailbox) (w : Word) : Dev.doorbellValid m w = true ↔
    fld w 31 16 = 0x0DB0 ∧ fld w 15 8 = 0 ∧ fld w 7 0 = fld m.request[(0 : Fin 64)] 23 16 := by
  simp only [Dev.doorbellValid, Bool.and_eq_true, beq_iff_eq, and_assoc]

section
variable {m : Mailbox} {w : Word}

theorem rung_valid_idle (h : Dev.doorbellValid m w = true) (hs : m.state = .idle) :
    m.rung w = { m with state := .busy, lastTag := w.setWidth 8 } := by rw [rung, if_pos h, if_pos hs]

theorem rung_valid_taken (h : Dev.doorbellValid m w = true) (hs : m.state ≠ .idle) :
    m.rung w = { m with refusedDoorbell := true } := by rw [rung, if_pos h, if_neg hs]

theorem rung_bad (h : ¬ Dev.doorbellValid m w = true) : m.rung w = { m with badDoorbell := true } := if_neg h

end

end Mailbox

namespace Dev

/-- A write at the doorbell. -/
theorem requestWrite_doorbell (d : Dev) (k : Fin 2) (w : Word) :
    d.requestWrite k 63 w = d.modMb k fun m => (m.wordWritten 63 w).rung w := modMb_modMb ..

/-- A write below the reserved word. -/
theorem requestWrite_word (d : Dev) (k : Fin 2) {i : Fin 64} (h : i.val < 62) (w : Word) :
    d.requestWrite k i w = d.modMb k fun m => m.wordWritten i w := by
  have hreserved : i ≠ 62 := fun he => by simp [he] at h
  have hbell : i ≠ 63 := fun he => by simp [he] at h
  simp only [requestWrite, if_neg hreserved, if_neg hbell]
  rfl

theorem requestWrite_reserved (d : Dev) (k : Fin 2) (w : Word) : d.requestWrite k 62 w = d := rfl

/-- A word below the reserved one reads as the window holds it. -/
theorem requestRead_word (d : Dev) (k : Fin 2) {i : Fin 64} (h : i.val < 62) : d.requestRead k i = d.mail.mb[k].request[i] :=
  if_neg fun he => by simp [he] at h

end Dev

/-- Settles O28: the write of the doorbell word, then its ring, case by case of the mailbox's state. -/
theorem doorbell : Obligations.Doorbell := by
  unfold Obligations.Doorbell
  refine ⟨fun k w s hpowered => ?bell, fun k i w s hpowered hi => ?word, fun k w s hpowered => ?reserved⟩
  case bell =>
    have heq : s.dev.hostWrite (0x4FC + 0x200 * k.val) w = s.dev.modMb k fun m => (m.wordWritten 63 w).rung w := by
      rw [show 0x4FC + 0x200 * k.val = Dev.requestAddr k 63 by simp only [Dev.requestAddr]; omega,
        Dev.hostWrite_request hpowered, Dev.requestWrite_doorbell]
    intro m valid
    have hvalid : Dev.doorbellValid (m.wordWritten 63 w) w = true ↔ valid := by
      rw [m.doorbellValid_wordWritten, m.doorbellValid_iff]
    obtain ⟨hstate, hresponse⟩ := m.wordWritten_rest 63 w
    refine does_of_eq (exec_mbDoorbell k w s) heq ?_
    rw [Dev.modMb_mb_same]
    refine ⟨fun hv hs => ?_, fun hv hs => ?_, fun hv hs => ?_, fun hv hs => ?_, fun hv hs => ?_,
      (Mailbox.rung_response ..).trans hresponse, fun j hj => Dev.modMb_mb_other _ hj _, Dev.modMb_mb_alone ..⟩
    · rw [Mailbox.rung_valid_idle (hvalid.mpr hv) (hstate.trans hs), Mailbox.wordWritten_free (hs ▸ nofun)]
      rfl
    · rw [Mailbox.rung_valid_taken (hvalid.mpr hv) (by simp [hstate, hs]), Mailbox.wordWritten_free (hs ▸ nofun)]
      rfl
    · rw [Mailbox.rung_valid_taken (hvalid.mpr hv) (by simp [hstate, hs]), Mailbox.wordWritten_busy hs]
    · rw [Mailbox.rung_bad (hvalid.not.mpr hv), Mailbox.wordWritten_free hs]
      rfl
    · rw [Mailbox.rung_bad (hvalid.not.mpr hv), Mailbox.wordWritten_busy hs]
  case word =>
    refine does_of_eq (exec_registerWrite _ w none s)
      ((Dev.powered_act hpowered _).trans ((Dev.registerWrite_request hpowered k i w).trans (Dev.requestWrite_word _ _ hi w))) ?_
    rw [Dev.requestRead_word _ _ hi, Dev.modMb_mb_same]
    refine ⟨fun hs => Mailbox.wordWritten_busy hs .., fun hs => ?_, fun j hj => Dev.modMb_mb_other _ hj _, Dev.modMb_mb_alone ..⟩
    rw [Mailbox.wordWritten_free hs]
    exact ⟨rfl, by simp⟩
  case reserved =>
    have haddr : 0x4F8 + 0x200 * k.val = Dev.requestAddr k 62 := by simp only [Dev.requestAddr]; omega
    rw [haddr]
    exact next_rest ((Dev.powered_act hpowered _).trans ((Dev.registerWrite_request hpowered k 62 w).trans (Dev.requestWrite_reserved ..)))

end Sys2Proof.Machine
end

section
/-!
# The release word and the event queue (R130, R143 to R145)
-/
namespace Sys2Proof.Machine
namespace Dev

/-! ### The release word -/

/-- What the release word shows: the tag of the response and the state of the mailbox. -/
def releaseWord (m : Mailbox) : Word := at' 0 (fld m.response[(0 : Fin 64)] 23 16) ||| at' 8 (mbCode m.state)

/-- A read of the release word shows it, and read in full has the side effect of R130. -/
theorem hostRead_release {d : Dev} (h : d.Powered) (k : Fin 2) (full : Bool) :
    d.hostRead (0x5FC + 0x200 * k.val) full = (d.spiOut (releaseWord d.mail.mb[k])).mbRelease k full := by
  have hcapture : d.windowCapture k 63 = d := if_neg fun hk => absurd hk.2 (by decide)
  rw [show 0x5FC + 0x200 * k.val = responseAddr k 63 by simp only [responseAddr]; omega, hostRead_response h, hcapture]
  cases full <;> rfl

/-- A mailbox that is released. -/
def released (m : Mailbox) : Mailbox :=
  { m with state := .idle, refusedDoorbell := false, badDoorbell := false, writeWhileBusy := false }

theorem mbRelease_rest {d : Dev} {k : Fin 2} {full : Bool} (h : d.mail.mb[k].state ≠ .ready ∨ full = false) :
    d.mbRelease k full = d :=
  if_neg fun hr => h.elim (fun hs => hs hr.2) fun hf => Bool.false_ne_true (hf.symm.trans hr.1)

/-- The release of a READY mailbox: the mailbox, and the software reset that a RESET command announced. -/
theorem mbRelease_ready {d : Dev} {k : Fin 2} (h : d.mail.mb[k].state = .ready) :
    d.mbRelease k true =
      if k ∈ d.mail.resetDue then
        { d.modMb k released with power := { d.power with resetScheduled := true } }
      else d.modMb k released := by
  rw [mbRelease, if_pos ⟨rfl, h⟩]
  refine if_congr ?_ rfl rfl
  simp [modMb]

/-- The words of the response itself do not change with the state of a mailbox. -/
theorem responseRead_response {d e : Dev} {k : Fin 2} (h : e.mail.mb[k].response = d.mail.mb[k].response) {i : Fin 64}
    (hi : i.val < 58) : e.responseRead k i = d.responseRead k i := by
  have hword (x : Dev) : x.responseRead k i = x.mail.mb[k].response[i] := by
    unfold responseRead
    rw [if_neg fun he => by simp [he] at hi, if_neg fun he => by simp [he] at hi, if_pos hi]
  rw [hword, hword, h]

end Dev

/-- Settles O29: a READY mailbox whose release word is read in full, and every other read of it. -/
theorem mailboxRelease : Obligations.MailboxRelease := by
  unfold Obligations.MailboxRelease
  intro k full s hpowered m out
  have hread : s.dev.hostRead (0x5FC + 0x200 * k.val) full = (s.dev.spiOut out).mbRelease k full :=
    Dev.hostRead_release hpowered k full
  by_cases hrest : m.state ≠ .ready ∨ full = false
  case pos =>
    have hno : ¬ (m.state = .ready ∧ full = true ∧ k ∈ s.dev.mail.resetDue) := fun ⟨hready, hfull, _⟩ =>
      hrest.elim (fun hs => hs hready) fun hf => Bool.false_ne_true (hf.symm.trans hfull)
    exact does_of_eq (exec_mbRelease k full s) (hread.trans (Dev.mbRelease_rest hrest))
      ⟨fun hready hfull => absurd hrest (by simp [hready, hfull]), fun _ _ => rfl, fun _ => rfl, rfl, fun _ _ => rfl, rfl,
        rfl, rfl, (or_iff_left hno).symm⟩
  case neg =>
    obtain ⟨hready, rfl⟩ : m.state = .ready ∧ full = true := by simpa using hrest
    have hsame : ((s.dev.spiOut out).modMb k Dev.released).mail.mb[k] = Dev.released m := Dev.modMb_mb_same ..
    have hresponse (i : Fin 64) (hi : i.val < 58) :
        ((s.dev.spiOut out).modMb k Dev.released).responseRead k i = s.dev.responseRead k i :=
      Dev.responseRead_response (by rw [hsame]; rfl) hi
    have hother (j : Fin 2) (hj : j ≠ k) : ((s.dev.spiOut out).modMb k Dev.released).mail.mb[j] = s.dev.mail.mb[j] :=
      Dev.modMb_mb_other _ hj _
    refine does_of_eq (exec_mbRelease k true s) (hread.trans (Dev.mbRelease_ready hready)) ?_
    split
    case isTrue hdue =>
      exact ⟨fun _ _ => hsame, hresponse, fun h => absurd h hrest, rfl, hother, rfl, rfl, rfl,
        iff_of_true rfl (.inr ⟨hready, rfl, hdue⟩)⟩
    case isFalse hdue =>
      exact ⟨fun _ _ => hsame, hresponse, fun h => absurd h hrest, rfl, hother, rfl, rfl, rfl,
        (or_iff_left fun ⟨_, _, h⟩ => hdue h).symm⟩

/-- Settles O30: the two branches of a push. -/
theorem eventMaskRule : Obligations.EventMaskRule := by
  unfold Obligations.EventMaskRule
  intro d code arg enabled
  have henabled : d.eventEnabled code = true ↔ enabled := by
    simp only [Dev.eventEnabled, Bool.or_eq_true, beq_iff_eq, enabled]
  exact ⟨fun h => if_pos (henabled.mpr h), fun h => if_neg (henabled.not.mpr h)⟩

namespace Dev

/-! ### The words of the event queue -/

/-- EVQ_HEAD as an entry shows it (Table 5.11). -/
def headWord (e : Event) : Word := orW [e.code.setWidth 32, at' 16 e.seq.toNat, bitW 31 true]

/-- EVQ_STATE (Table 5.12). -/
def stateWord (m : Mail) : Word := orW [at' 0 m.queue.length, bitW 8 m.ovf, at' 16 m.lost]

theorem setWidth_eq_at (x : U16) : x.setWidth 32 = at' 0 x.toNat := by
  refine BitVec.eq_of_toNat_eq ?_
  simp [at', w32]

theorem headWord_eq (e : Event) : headWord e = at' 0 e.code.toNat ||| at' 16 e.seq.toNat ||| bitW 31 true := by
  simp [headWord, orW, setWidth_eq_at]

theorem stateWord_eq (m : Mail) : stateWord m = at' 0 m.queue.length ||| bitW 8 m.ovf ||| at' 16 m.lost := by
  simp [stateWord, orW]

/-- A flag above or below a field. -/
theorem fld_bitW {i hi lo : Nat} (h : i < 32) (hout : hi < i ∨ i < lo) (b : Bool) : fld (bitW i b) hi lo = 0 := by
  refine Nat.eq_of_testBit_eq fun j => ?_
  rw [fld_testBit, bitW_bit _ _ _ h, Nat.zero_testBit]
  by_cases hj : j < hi + 1 - lo
  · simp [show ¬ i = lo + j by omega]
  · simp [hj]

theorem headWord_fields (e : Event) : fld (headWord e) 15 0 = e.code.toNat ∧ fld (headWord e) 23 16 = e.seq.toNat ∧
    (headWord e).getLsbD 31 = true := by
  have hcode := e.code.isLt
  have hseq := e.seq.isLt
  rw [headWord_eq]
  refine ⟨?_, ?_, ?_⟩
  · rw [fld_or, fld_or, fld_at _ _ (by decide), fld_at_above (by decide), fld_bitW (by decide) (by decide)]
    simpa using hcode
  · rw [fld_or, fld_or, fld_at_below (by simpa using hcode), fld_at _ _ (by decide), fld_bitW (by decide) (by decide)]
    simpa using hseq
  · rw [BitVec.getLsbD_or, bitW_bit _ _ _ (by decide)]
    simp

theorem stateWord_fields {m : Mail} (hlength : m.queue.length ≤ 32) (hlost : m.lost ≤ 255) :
    fld (stateWord m) 5 0 = m.queue.length ∧ (stateWord m).getLsbD 8 = m.ovf ∧ fld (stateWord m) 23 16 = m.lost := by
  have hfits : m.queue.length < 2 ^ 8 := by omega
  rw [stateWord_eq]
  refine ⟨?_, ?_, ?_⟩
  · rw [fld_or, fld_or, fld_at _ _ (by decide), fld_at_above (by decide), fld_bitW (by decide) (by decide)]
    simp only [Nat.or_zero]
    omega
  · rw [BitVec.getLsbD_or, BitVec.getLsbD_or, bitW_bit _ _ _ (by decide), at_bit, at_bit, Nat.testBit_lt_two_pow hfits]
    simp
  · rw [fld_or, fld_or, fld_at_below (hfits.trans (by decide)), fld_at _ _ (by decide), fld_bitW (by decide) (by decide)]
    simp only [Nat.zero_or]
    omega

section
variable {d : Dev} (h : d.Powered) (full : Bool)
include h

/-- EVQ_HEAD: the capture latches the head of the queue, and a full read has no side effect. -/
theorem hostRead_evqHead : d.hostRead 0x7F0 full = d.evqHead.spiOut (d.mail.queue.head?.elim 0 headWord) := by
  have hword : d.evqHead.responseRead 1 60 = d.mail.queue.head?.elim 0 headWord := by
    simp only [responseRead, evqHead]
    cases d.mail.queue.head? <;> rfl
  have hread := hostRead_response h 1 60 full
  rw [show d.windowCapture 1 60 = d.evqHead from rfl, hword] at hread
  exact hread.trans (ite_self _)

/-- EVQ_ARG: the argument of the latched entry, and a full read removes it. -/
theorem hostRead_evqArg : d.hostRead 0x7F4 full = (d.spiOut (d.mail.latch.elim 0 (·.arg))).evqArg full := by
  have hread := hostRead_response h 1 61 full
  exact hread.trans (by cases full <;> rfl)

/-- EVQ_STATE: the depth, OVF and LOST, and a full read clears them. -/
theorem hostRead_evqState : d.hostRead 0x7E8 full = (d.spiOut (stateWord d.mail)).evqState full := by
  have hread := hostRead_response h 1 58 full
  exact hread.trans (by cases full <;> rfl)

end

theorem evqArg_latched {d : Dev} {e : Event} (h : d.mail.latch = some e) :
    d.evqArg true = { d with mail := { d.mail with queue := d.mail.queue.drop 1, latch := none } } := by
  simp [evqArg, h]

theorem evqArg_unlatched {d : Dev} (h : d.mail.latch = none) (full : Bool) : d.evqArg full = d := by
  unfold evqArg
  split
  · rw [h]
    simp only [Option.isSome_none, Bool.false_eq_true, if_false]
    rw [← h]
  · rfl

end Dev

/-- Settles O31: a push by the depth of the queue, then each of the three words and what its full read does. -/
theorem eventQueue : Obligations.EventQueue := by
  unfold Obligations.EventQueue
  refine ⟨fun m code arg hroom => if_pos hroom, fun m code arg hfull hlost => ?full, fun full s hpowered => ?head,
    fun e s hpowered hlatch => ?pop, fun full s hpowered hlatch => ?unlatched, fun e s hpowered hlatch => ?cut,
    fun full s hpowered hlength hlost => ?state⟩
  case full =>
    have hsat : satInc 255 m.lost = min 255 (m.lost + 1) := by
      unfold satInc
      split <;> omega
    rw [Dev.pushMail, if_neg (Nat.not_lt.mpr hfull), hsat]
  case head =>
    refine does_of_eq (exec_evqHeadRead full s) (Dev.hostRead_evqHead hpowered full) ⟨rfl, fun e he => ?_, fun hempty => ?_, rfl⟩
    · rw [he]
      exact Dev.headWord_fields e
    · rw [hempty]
      rfl
  case pop =>
    refine does_of_eq (exec_evqArgRead true s)
      ((Dev.hostRead_evqArg hpowered true).trans (Dev.evqArg_latched (e := e) hlatch)) ⟨?_, rfl, rfl⟩
    rw [hlatch]
    rfl
  case unlatched =>
    have hread := Dev.hostRead_evqArg hpowered full
    rw [hlatch] at hread
    exact next_dev (hread.trans (Dev.evqArg_unlatched (d := s.dev.spiOut 0) hlatch full))
  case cut =>
    refine next_dev ((Dev.hostRead_evqArg hpowered false).trans ?_)
    rw [hlatch]
    rfl
  case state =>
    obtain ⟨hdepth, hovf, hcount⟩ := Dev.stateWord_fields hlength hlost
    refine does_of_eq (exec_evqStateRead full s) (Dev.hostRead_evqState hpowered full) ?_
    cases full <;> exact ⟨hdepth, hovf, hcount, rfl, rfl⟩

end Sys2Proof.Machine
end

section
/-!
# What a refused command leaves (R132, R139)
-/
namespace Sys2Proof.Machine
namespace Dev

/-- What a refusal changes: LAST_REFUSED, which names it, and for want of room for a record NVW_REFUSED. -/
def RefusedOnly (d d' : Dev) (op : Nat) (tag : Byte) (r : Response) : Prop :=
  r.opcode = op ∧ r.tag = tag ∧ d'.mail = { d.mail with lastRefusedOpcode := op % 65536, lastRefusedStatus := r.status } ∧
  (d' = { d with mail := d'.mail } ∨
    (r.status = 0x40 ∧ r.detail = 3 ∧ d' = { (d.raiseBit Reg.PWR_STICKY 3) with mail := d'.mail }))

section
variable {d d' : Dev} {src : Source} {op : Nat} {req : Request} {r : Response}

theorem refusedOnly_of_refused {st detail : Nat} {payload : List Word}
    (h : d.refused op req.tag st detail payload = (d', some r)) : d.RefusedOnly d' op req.tag r := by
  cases h
  exact ⟨rfl, rfl, rfl, .inl rfl⟩

theorem refusedOnly_of_full
    (h : (d.raiseBit Reg.PWR_STICKY 3).refused op req.tag Status.supplyInhibit.code 3 [] = (d', some r)) :
    d.RefusedOnly d' op req.tag r := by
  cases h
  exact ⟨rfl, rfl, rfl, .inr ⟨rfl, rfl, rfl⟩⟩

/-- Of a command's effect nothing is left where its response is a refusal, DIGEST_MISMATCH apart (R139, R150). -/
theorem refusedOnly_of_settle {x : CmdResult} (h : d.settle src op req x = (d', some r)) (hstatus : 0x10 ≤ r.status)
    (hdigest : r.status ≠ 0x42) : d.RefusedOnly d' op req.tag r := by
  unfold settle at h
  extract_lets -underBinder withheld ninth full at h
  cases x with
  | refuse st detail payload => exact refusedOnly_of_refused h
  | mismatch e =>
    cases h
    exact absurd rfl hdigest
  | later items e =>
    dsimp -zeta only at h
    split at h
    · exact refusedOnly_of_full h
    · cases h
  | done accepted detail payload items e =>
    dsimp -zeta only at h
    split at h
    · exact refusedOnly_of_full h
    · cases h
      dsimp only at hstatus
      split at hstatus <;> omega

theorem refusedOnly_of_serveCore (h : d.serveCore src op req = (d', some r)) (hstatus : 0x10 ≤ r.status)
    (hdigest : r.status ≠ 0x42) : d.RefusedOnly d' op req.tag r := by
  unfold serveCore serveWith at h
  split at h
  · cases h
  · split at h
    · exact refusedOnly_of_refused h
    · exact refusedOnly_of_settle h hstatus hdigest

end

/-- On MB1 only urgent commands are taken (R132). -/
theorem serveCheck_mb1 {d : Dev} {op : Nat} {c : CmdSpec} (hactive : d.power.state = .active) (hc : cmdSpec op = some c)
    (hurgent : c.urgent = false) (req : Request) : d.serveCheck .mb1 op req = .error (.notOnMb1, 0) := by
  simp [serveCheck, hactive, hc, hurgent, CmdSpec.takes]

end Dev

/-- Settles O33: a response from 0x10 upward comes from `refused`, whichever check or effect it ends. -/
theorem refusalHasNoEffect : Obligations.RefusalHasNoEffect := by
  unfold Obligations.RefusalHasNoEffect
  refine ⟨fun src op req d d' r h hstatus hdigest => Dev.refusedOnly_of_serveCore h hstatus hdigest,
    fun op req c d hactive hc hurgent => ⟨(d.refused op req.tag 0x13 0 []).1, ?_⟩,
    fun src op req d hstate => ?_⟩
  · have hserving : d.serving = true := by simp [Dev.serving, hactive]
    rw [Dev.serveCore, Dev.serveWith, if_neg (by simp [hserving]), Dev.serveCheck_mb1 hactive hc hurgent]
    rfl
  · have hserving : d.serving = false := by rcases hstate with h | h | h <;> simp [Dev.serving, h]
    rw [Dev.serveCore, Dev.serveWith, if_pos (by simp [hserving])]

end Sys2Proof.Machine
end

section
/-!
# The response of STATUS (Table 5.8)
-/
namespace Sys2Proof.Machine

/-- The tester's response holds the payload of an answer. -/
theorem okay_tester_inj {s : State} {op : Nat} {req : Request} {d : Dev} {p q : List Word}
    (h : s.okay .tester op req d p = s.okay .tester op req d q) : p = q := by
  have hresponse := congrArg (fun t : State => t.dev.mail.testerResponse) h
  cases hresponse
  rfl

/-- The words of STATUS. -/
def statusWords (d : Dev) : List Word :=
  [orW [at' 0 (stateCode d.power.state), bitW 8 d.mail.lockHeld, at' 12 d.fwuHolder], w32 d.uptimeMs,
    at' 0 (min 8 d.journal.heldCount) ||| at' 8 d.mail.queue.length,
    at' 0 d.mail.lastRefusedOpcode ||| at' 16 d.mail.lastRefusedStatus]

theorem exec_status_takesUp {src : Source} {req : Request} {s : State} (h : s.dev.TakesUp src 0x0001 req) :
    exec (.status src req) s = .next (s.okay src 0x0001 req s.dev (statusWords s.dev)) :=
  serve_okay (exec_status src req s) h rfl rfl (by decide)

/-- A device in ACTIVE whose last refused opcode is noted as 0x10000, a number above 16 bits. -/
def wideRefusal : State :=
  { dev := { Dev.initial with power.state := .active, mail.lastRefusedOpcode := 0x10000 }, ram := [], pending := [] }

theorem wideRefusal_takesUp : wideRefusal.dev.TakesUp .tester 0x0001 ⟨0, false, 0, []⟩ :=
  ⟨rfl, rfl, _, rfl, rfl, nofun, rfl⟩

/-- Refutes O34 at its first clause: STATUS shows bits 31:16 of its last word as the last refused status also where the
noted opcode is above 16 bits, and there bit 16 is the opcode's. The statement asks that the opcode be below 65536 only for
bits 15:0. No run from reset notes such an opcode, since `Dev.refused` keeps the low 16 bits, but the statement is about
every state. -/
theorem not_systemCommands : ¬ Obligations.SystemCommands := by
  unfold Obligations.SystemCommands
  intro ⟨hstatus, _⟩
  obtain ⟨p, hexec, -, -, -, -, hrefused, -⟩ := hstatus .tester ⟨0, false, 0, []⟩ wideRefusal wideRefusal_takesUp
  rw [exec_status_takesUp wideRefusal_takesUp] at hexec
  have hp : statusWords wideRefusal.dev = p := okay_tester_inj (Host.Outcome.next.inj hexec)
  have hzero := hrefused (by decide)
  rw [← hp] at hzero
  exact absurd hzero (by decide)

end Sys2Proof.Machine
end

section
/-!
# What a command leaves of the power block

A command is served with the device in ACTIVE, PROOF_HOLD or QUIET, and no command of its own leaves that state: only
RESET, QUIET_ENTER and QUIET_EXIT change the power block at all, and they note there what an event is to do later. One rule
per function that several commands use, in the order of the model's files, then the commands by chapter.
-/
namespace Sys2Proof.Machine
namespace Dev

/-! ### The rules of the power block

As those of `fixed`, from the outside in (`↓`). -/

@[simp ↓] theorem power_ite (c : Prop) [Decidable c] (d e : Dev) :
    (if c then d else e).power = if c then d.power else e.power := by split <;> rfl

@[simp ↓] theorem foldl_power {α : Type} (f : Dev → α → Dev) (h : ∀ d a, (f d a).power = d.power) (l : List α) (d : Dev) :
    (l.foldl f d).power = d.power := foldl_part (fun a _ d => h d a) d

/-- A part of the device that each item leaves, where it does not fail, is left by the whole list. -/
theorem foldl_bind_part {α β : Type} {part : Dev → β} {step : Dev → α → Option Dev}
    (hstep : ∀ {d e a}, step d a = some e → part e = part d) {d e : Dev} :
    ∀ (l : List α) {o : Option Dev}, (∀ x, o = some x → part x = part d) →
      l.foldl (fun (o : Option Dev) a => o.bind fun x => step x a) o = some e → part e = part d
  | [], _, ho, h => ho e h
  | _ :: l, _, ho, h => by
    refine foldl_bind_part hstep l (fun y hy => ?_) h
    obtain ⟨x, hx, hy⟩ := Option.bind_eq_some_iff.mp hy
    rw [hstep hy, ho x hx]

section
variable (d : Dev)

/-! ### What is steady leaves it -/

@[simp ↓] theorem opDone_power (opcode status : Nat) (tag : Byte) : (d.opDone opcode status tag).power = d.power :=
  power_of_steady (opDone_steady ..)
@[simp ↓] theorem retune_power : d.retune.power = d.power := power_of_steady (retune_steady _)
@[simp ↓] theorem refLose_power (n : Fin 8) (planned : Bool) : (d.refLose n planned).power = d.power :=
  power_of_steady (refLose_steady ..)
@[simp ↓] theorem linkEnter_power (p : Fin 3) (s : LinkState) (planned : Bool) : (d.linkEnter p s planned).power = d.power :=
  power_of_steady (linkEnter_steady ..)
@[simp ↓] theorem leaveDown_power (p : Fin 3) : (d.leaveDown p).power = d.power := power_of_steady (leaveDown_steady ..)
@[simp ↓] theorem gptpSet_power (p : Fin 3) (role : GptpRole) (cap : Bool) : (d.gptpSet p role cap).power = d.power :=
  power_of_steady (gptpSet_steady ..)
@[simp ↓] theorem gptpReset_power (p : Fin 3) : (d.gptpReset p).power = d.power := power_of_steady (gptpReset_steady ..)
@[simp ↓] theorem tdmEnter_power (p : Fin 4) (s : TdmState) : (d.tdmEnter p s).power = d.power :=
  power_of_steady (tdmEnter_steady ..)
@[simp ↓] theorem tdmQuiet_power (p : Fin 4) : (d.tdmQuiet p).power = d.power := power_of_steady (tdmQuiet_steady ..)
@[simp ↓] theorem settleBus_power (b : Fin 2) : (d.settleBus b).power = d.power := power_of_steady (settleBus_steady ..)
@[simp ↓] theorem settleSources_power : d.settleSources.power = d.power := power_of_steady (settleSources_steady _)
@[simp ↓] theorem requestScript_power (k : Fin 4) (kind : ScriptKind) (reply : Option Byte) :
    (d.requestScript k kind reply).power = d.power := power_of_steady (requestScript_steady ..)
@[simp ↓] theorem measQuiet_power : d.measQuiet.power = d.power := power_of_steady (measQuiet_steady _)
@[simp ↓] theorem selfTestStop_power : d.selfTestStop.power = d.power := power_of_steady (selfTestStop_steady _)
@[simp ↓] theorem canQuiet_power : d.canQuiet.power = d.power := power_of_steady (canQuiet_steady _)
@[simp ↓] theorem canRecover_power : d.canRecover.power = d.power := power_of_steady (canRecover_steady _)
@[simp ↓] theorem nameEntry_power : d.nameEntry.power = d.power := power_of_steady (nameEntry_steady _)

/-! ### Keystone -/

@[simp ↓] theorem setRemain_power (r : Int) : (d.setRemain r).power = d.power := by
  simp [setRemain, noteMoveDone]

@[simp ↓] theorem phaseStep_power (ps : Int) : (d.phaseStep ps).power = d.power := by
  simp [phaseStep, addMove]

@[simp ↓] theorem steerAdjust_power : d.steerAdjust.power = d.power := by
  simp [steerAdjust]

@[simp ↓] theorem clkWritten_power (a : Nat) (w : Word) : (d.clkWritten a w).power = d.power := by
  simp [clkWritten, seedWrite]

/-! ### The ports -/

/-- A filter entry is found as it stands, or one entry is changed. The search stands for any search: unfolding it, the
kernel would compute with 48-bit addresses. -/
theorem takeFilter_eq {d e : Dev} {p : Fin 3} {dest : BitVec 48} {user : FilterUser}
    (h : d.takeFilter p dest user = some e) : e = d ∨ ∃ i f, e = d.modFilter p i f := by
  have unfolded : @takeFilter = delta% @takeFilter := rfl
  generalize @findIdx? = find at unfolded
  rw [unfolded] at h
  dsimp only at h
  generalize find _ = held at h
  generalize find _ = listed at h
  generalize find _ = free at h
  rcases held with _ | i
  · rcases listed with _ | _
    · rcases free with _ | i
      · cases h
      · exact .inr ⟨_, _, (Option.some.inj h).symm⟩
    · exact .inl (Option.some.inj h).symm
  · exact .inr ⟨_, _, (Option.some.inj h).symm⟩

theorem takeFilter_power {d e : Dev} {p : Fin 3} {dest : BitVec 48} {user : FilterUser}
    (h : d.takeFilter p dest user = some e) : e.power = d.power := by
  obtain rfl | ⟨i, f, rfl⟩ := takeFilter_eq h <;> rfl

@[simp ↓] theorem freeFilter_power (p : Fin 3) (user : FilterUser) : (d.freeFilter p user).power = d.power := by
  simp [freeFilter]

@[simp ↓] theorem flushQueues_power (p : Fin 3) : (d.flushQueues p).power = d.power := by
  simp [flushQueues, countBy, halfFlag]

@[simp ↓] theorem portDisable_power (p : Fin 3) : (d.portDisable p).power = d.power := by
  simp [portDisable]

@[simp ↓] theorem ethCtrlStore_power (p : Fin 3) (w : Word) : (d.ethCtrlStore p w).power = d.power := by
  simp [ethCtrlStore]

/-! ### Streams and groups -/

theorem allocate_power {d e : Dev} {o : MortarOwner} {delay : Bool} {n : Nat} (h : d.allocate o delay n = some e) :
    e.power = d.power := by
  obtain ⟨_, _, rfl⟩ := Option.map_eq_some_iff.mp h
  simp

@[simp ↓] theorem listenerEnter_power (i : Fin 16) (s : StreamState) (reason : Nat) :
    (d.listenerEnter i s reason).power = d.power := by
  simp [listenerEnter, streamEvent]

@[simp ↓] theorem talkerEnter_power (i : Fin 8) (s : StreamState) (reason : Nat) :
    (d.talkerEnter i s reason).power = d.power := by
  simp [talkerEnter, streamEvent]

@[simp ↓] theorem listenerIdle_power (i : Fin 16) (reason : Nat) : (d.listenerIdle i reason).power = d.power := by
  unfold listenerIdle
  split <;> simp [crfLost, release]

@[simp ↓] theorem stopListener_power (i : Fin 16) (reason : Nat) : (d.stopListener i reason).power = d.power := by
  unfold stopListener
  dsimp only
  repeat' split
  all_goals simp

@[simp ↓] theorem stopTalker_power (i : Fin 8) (reason : Nat) : (d.stopTalker i reason).power = d.power := by
  unfold stopTalker
  dsimp only
  repeat' split
  all_goals simp [talkerIdle]

@[simp ↓] theorem listenerRelease_power (i : Fin 16) : (d.listenerRelease i).power = d.power := by
  unfold listenerRelease
  split <;> simp [crfLost]

@[simp ↓] theorem groupEnter_power (g : Fin 8) (st : GroupState) (bySwitch cut short quiet : Bool) :
    (d.groupEnter g st bySwitch cut short quiet).power = d.power := by
  unfold groupEnter
  split <;> simp [modGroupCounts]

@[simp ↓] theorem startFade_power (g : Fin 8) (s : GroupSetup) (toStandby bySwitch : Bool) :
    (d.startFade g s toStandby bySwitch).power = d.power := by
  unfold startFade
  dsimp only
  repeat' split
  all_goals simp [modGroupCounts]

@[simp ↓] theorem groupRelease_power (g : Fin 8) : (d.groupRelease g).power = d.power := by
  unfold groupRelease
  split <;> simp

/-! ### The journal, the TDM ports and routing -/

@[simp ↓] theorem compactStart_power : d.compactStart.power = d.power := by
  simp [compactStart, otherErase]

@[simp ↓] theorem tdmCommit_power (p : Fin 4) : (d.tdmCommit p).power = d.power := by
  simp [tdmCommit]

theorem placeDelay_power {d e : Dev} {k : Fin 64} {n : Nat} (h : d.placeDelay k n = some e) : e.power = d.power := by
  unfold placeDelay at h
  dsimp only at h
  split at h
  · simp [← Option.some.inj h, release]
  · simp [allocate_power h, release]

@[simp ↓] theorem destGain_power (k : Fin 64) (gain : Int) : (d.destGain k gain).power = d.power := by
  simp [destGain]

@[simp ↓] theorem routeMute_power (lo hi : Word) (mute : Bool) : (d.routeMute lo hi mute).power = d.power := by
  simp [routeMute]

/-! ### Measurement and the amplifiers -/

@[simp ↓] theorem testPassed_power (code : Nat) : (d.testPassed code).power = d.power := by
  simp [testPassed, dtcEvent]

@[simp ↓] theorem dtcClear_power (code : Nat) : (d.dtcClear code).power = d.power := by
  simp [dtcClear, dtcUnsaved]

@[simp ↓] theorem learnRefused_power (k : Fin 16) : (d.learnRefused k).power = d.power := by
  fun_cases learnRefused d k <;> simp

@[simp ↓] theorem faultHoldExpire_power (k : Fin 4) : (d.faultHoldExpire k).power = d.power := by
  simp [faultHoldExpire, demandEnd, ampEvent, safetyEvent]

@[simp ↓] theorem ampLine_power (req : Request) (k : Fin 4) : (ampLine req d k).power = d.power := by
  simp [ampLine, ampCommand]

/-! ### The pins -/

theorem switchPins_power (l : List (Fin 37)) {set : Dev → Dev} (h : ∀ e, (set e).power = e.power) :
    (d.switchPins l set).power = d.power := by
  have hheld : (d.holdPins l).power = d.power := foldl_part (part := Dev.power) (fun _ _ _ => modPin_power ..) d
  simp [switchPins, h, hheld]

@[simp ↓] theorem switchPins_setReg_power (l : List (Fin 37)) (a : Nat) (w : Word) :
    (d.switchPins l fun d => d.setReg a w).power = d.power := switchPins_power d l fun _ => rfl

@[simp ↓] theorem switchPins_setRfld_power (l : List (Fin 37)) (a hi lo v : Nat) :
    (d.switchPins l fun d => d.setRfld a hi lo v).power = d.power := switchPins_power d l fun _ => rfl

@[simp ↓] theorem dirWrite_power (high : Bool) (w : Word) : (d.dirWrite high w).power = d.power := by
  unfold dirWrite
  split <;> simp

@[simp ↓] theorem muxField_power (p : Fin 37) (code : Nat) : (d.muxField p code).power = d.power := by
  simp [muxField]

@[simp ↓] theorem xbarSet_power (f : Fin 25) (v : Nat) : (d.xbarSet f v).power = d.power := by
  simp [xbarSet]

@[simp ↓] theorem pinCfgWrite_power (p : Fin 37) (w : Word) : (d.pinCfgWrite p w).power = d.power := by
  simp [pinCfgWrite]

@[simp ↓] theorem latchWrite_power (p : Fin 37) (level : Bool) : (d.latchWrite p level).power = d.power := by
  simp [latchWrite]

/-! ### CAN -/

@[simp ↓] theorem canRequest_power (n : Fin 32) : (d.canRequest n).power = d.power := by
  simp [canRequest, canAbort, canCount]

end

/-! ### The effect of a command -/

/-- The effect of the command leaves the power block. -/
def CmdPower (f : CmdFn) : Prop := ∀ (src : Source) (req : Request) (d : Dev), (d.effect (f src req d)).power = d.power

section
variable {d : Dev}

theorem effect_power_of_ite {c : Prop} [Decidable c] {r s : CmdResult} {x : Power} (hr : (d.effect r).power = x)
    (hs : (d.effect s).power = x) : (d.effect (if c then r else s)).power = x := by split <;> assumption

@[simp ↓] theorem effect_withFin_power {n v off : Nat} {k : Fin n → CmdResult}
    (hk : ∀ i, (d.effect (k i)).power = d.power) : (d.effect (withFin n v off k)).power = d.power := by
  unfold withFin
  split
  · exact hk _
  · rfl

@[simp ↓] theorem effect_withObj_power {req : Request} {k : Fin 32 → CmdResult}
    (hk : ∀ n, (d.effect (k n)).power = d.power) : (d.effect (withObj req k)).power = d.power := by
  simp [withObj, hk]

@[simp ↓] theorem effect_withSession_power {src : Source} {k : FwuSession → CmdResult}
    (hk : ∀ x, (d.effect (k x)).power = d.power) : (d.effect (withSession src d k)).power = d.power := by
  unfold withSession
  split
  · exact effect_power_of_ite (hk _) rfl
  · rfl

@[simp ↓] theorem effect_flashChecked_power {k : CmdResult} (hk : (d.effect k).power = d.power) :
    (d.effect (flashChecked d k)).power = d.power := effect_power_of_ite rfl hk

end

end Dev
end Sys2Proof.Machine
end

section
/-!
# Every command leaves the device state
-/
namespace Sys2Proof.Machine
namespace Dev

/-! ### The clock and port commands (chapters 6 and 7) -/

theorem cmdKsSetRate_power : CmdPower cmdKsSetRate := fun _ _ _ => by
  unfold cmdKsSetRate
  split <;> simp [setRate]

theorem cmdKsSetTable_power : CmdPower cmdKsSetTable := fun _ req d => by
  have htable : ∀ n ∈ List.range 8, ∀ e : Dev, (e.setReg (Reg.CLK_REF_0 + 4 * n)
      (clkClamp (Reg.CLK_REF_0 + 4 * n) (tableWord req n))).power = e.power := fun _ _ _ => setReg_power ..
  simp [cmdKsSetTable, foldl_part htable]

theorem cmdPortSetup_power : CmdPower cmdPortSetup := fun _ _ _ => effect_withFin_power fun p => by
  dsimp only
  repeat' split
  all_goals simp

theorem clkCmds_power : ∀ c ∈ clkCmds, CmdPower c.run := by
  simp only [clkCmds, List.forall_mem_cons, List.not_mem_nil, false_implies, implies_true, and_true]
  exact ⟨fun _ _ _ => rfl, cmdKsSetRate_power, cmdKsSetTable_power, fun _ _ _ => by simp [cmdKsSetLoop],
    fun _ _ _ => by simp [cmdKsPhaseStep], fun _ _ _ => by simp [cmdKsSteer]⟩

theorem ethCmds_power : ∀ c ∈ ethCmds, CmdPower c.run := by
  simp only [ethCmds, List.forall_mem_cons, List.not_mem_nil, false_implies, implies_true, and_true]
  exact ⟨fun _ _ _ => effect_withFin_power fun _ => rfl, cmdPortSetup_power, fun _ _ _ => by simp [cmdPortDisable],
    fun _ _ _ => effect_withFin_power fun _ => by simp, fun _ _ _ => rfl,
    fun _ _ _ => effect_withFin_power fun _ => effect_withFin_power fun _ => rfl, fun _ _ _ => by simp [cmdRemoteSet],
    fun _ _ _ => effect_withFin_power fun _ => by split <;> rfl⟩

/-! ### The stream commands (chapter 8) -/

@[simp ↓] theorem startListeners_power (d : Dev) (is : List (Fin 16)) (time : Option Nat) :
    (d.effect (d.startListeners is time)).power = d.power := by
  unfold startListeners
  dsimp only
  split
  · rfl
  · split
    · rfl
    next e he =>
      refine foldl_bind_part (part := Dev.power) (d := d) (fun {x y i} h => ?_) is (fun x hx => by rw [Option.some.inj hx]) he
      split at h
      · rw [Option.some.inj h]
      · obtain ⟨z, hz, rfl⟩ := Option.map_eq_some_iff.mp h
        split at hz
        · simp [Option.some.inj hz]
        · simp [allocate_power hz]

@[simp ↓] theorem startTalker_power (d : Dev) (i : Fin 8) (time : Option Nat) :
    (d.effect (d.startTalker i time)).power = d.power := by
  unfold startTalker
  split <;> simp

@[simp ↓] theorem streamStart_power (d : Dev) (talker : Bool) (index : Nat) (time : Option Nat) :
    (d.effect (d.streamStart talker index time)).power = d.power := by
  unfold streamStart
  split
  all_goals
    refine effect_withFin_power fun i => ?_
    dsimp only
    repeat' split
    all_goals simp

@[simp ↓] theorem streamStop_power (d : Dev) (talker : Bool) (index : Nat) (time : Option Nat) :
    (d.effect (d.streamStop talker index time)).power = d.power := by
  unfold streamStop
  dsimp only
  split
  all_goals
    refine effect_withFin_power fun i => ?_
    repeat' split
    all_goals simp

theorem cmdListenerSetup_power : CmdPower cmdListenerSetup := fun _ req d => by
  unfold cmdListenerSetup
  extract_lets channels crf
  refine effect_withFin_power fun i => effect_withFin_power fun p => ?_
  extract_lets s slot l
  iterate 6 split; · rfl
  generalize hf : takeFilter _ _ _ _ = found
  cases found with
  | none => rfl
  | some e => simp [takeFilter_power hf]

theorem cmdStreamStatus_power : CmdPower cmdStreamStatus := fun _ req d => by
  unfold cmdStreamStatus
  dsimp only
  split
  all_goals
    refine effect_withFin_power fun i => ?_
    split <;> rfl

theorem cmdGptpSet_power : CmdPower cmdGptpSet := fun _ req d => effect_withFin_power fun p => by
  dsimp only
  repeat' split
  all_goals simp

theorem streamCmds_power : ∀ c ∈ streamCmds, CmdPower c.run := by
  simp only [streamCmds, List.forall_mem_cons, List.not_mem_nil, false_implies, implies_true, and_true]
  exact ⟨cmdListenerSetup_power, fun _ _ _ => by simp [cmdTalkerSetup], fun _ _ _ => by simp [cmdStreamStart],
    fun _ _ _ => by simp [cmdStreamStop], fun _ _ _ => by simp [cmdStreamDelete], cmdStreamStatus_power,
    fun _ _ _ => effect_withFin_power fun _ => rfl, cmdGptpSet_power, fun _ _ _ => effect_withFin_power fun _ => rfl⟩

/-! ### The Lintel commands (chapter 9) -/

theorem cmdGroupSetup_power : CmdPower cmdGroupSetup := fun _ req d => by
  refine effect_withFin_power fun g => effect_withFin_power fun a => effect_withFin_power fun b => ?_
  extract_lets -underBinder s la lb foreign
  split
  · iterate 6 split; · rfl
    generalize hf : Option.bind _ _ = found
    cases found with
    | none => rfl
    | some e =>
      obtain ⟨x, hx, he⟩ := Option.bind_eq_some_iff.mp hf
      simp [takeFilter_power he, takeFilter_power hx]
  · split <;> rfl

@[simp ↓] theorem groupStart_power (d : Dev) (g : Fin 8) (time : Option Nat) :
    (d.effect (d.groupStart g time)).power = d.power := by
  unfold groupStart
  extract_lets x
  split
  · rfl
  next s _ =>
    have hl := startListeners_power d [s.primary, s.standby] time
    extract_lets busy
    iterate 2 split; · rfl
    split
    next e hr =>
      rw [hr, effect_done] at hl
      simp [hl]
    · exact hl

theorem cmdGroupStop_power : CmdPower cmdGroupStop := fun _ req d => by
  refine effect_withFin_power fun g => ?_
  extract_lets -underBinder x
  split
  · rfl
  · extract_lets -underBinder time l
    split
    · rfl
    · generalize d.stopRefusal l.state l.startAt time = refusal
      cases refusal with
      | some k => rfl
      | none =>
        generalize time.filter _ = later
        cases later <;> simp [groupHalt]

theorem cmdLintelSwitch_power : CmdPower cmdLintelSwitch := fun _ req d => effect_withFin_power fun g => by
  dsimp only
  repeat' split
  all_goals simp

theorem cmdLintelTalkerSet_power : CmdPower cmdLintelTalkerSet := fun _ req d => by
  refine effect_withFin_power fun t => effect_withFin_power fun pa => effect_withFin_power fun pb => ?_
  split
  · rfl
  · extract_lets -underBinder standby
    generalize (if standby then pb else pa) = port
    iterate 2 split; · rfl
    rfl

theorem lintelCmds_power : ∀ c ∈ lintelCmds, CmdPower c.run := by
  simp only [lintelCmds, List.forall_mem_cons, List.not_mem_nil, false_implies, implies_true, and_true]
  exact ⟨cmdGroupSetup_power, fun _ _ _ => by simp [cmdGroupStart], cmdGroupStop_power, fun _ _ _ => by simp [cmdGroupDelete],
    cmdLintelSwitch_power, fun _ _ _ => effect_withFin_power fun _ => rfl, fun _ _ _ => effect_withFin_power fun _ => rfl,
    cmdLintelTalkerSet_power⟩

/-! ### The pins and the scheduler (chapters 13 and 14) -/

theorem gpioOutput_power : CmdPower cmdGpioOutput := fun _ _ _ => by simp [cmdGpioOutput]

theorem schedAct_power {d e : Dev} {x : SchedEntry} (h : d.schedAct x = .ok e) : e.power = d.power := by
  unfold schedAct at h
  extract_lets -underBinder stream mute at h
  have hstream (stop : Bool) (h : stream stop = .ok e) : e.power = d.power := by
    unfold stream at h
    extract_lets -underBinder talker k set at h
    split at h
    · cases h
    · generalize hrun : (if stop then d.streamStop talker k (some x.time) else d.streamStart talker k (some x.time)) = r at h
      have hr : (d.effect r).power = d.power := by simp [← hrun]
      cases r with
      | refuse => cases h
      | done => cases h; exact hr
      | later => cases h; rfl
      | mismatch => cases h; rfl
  have hmute (on : Bool) (h : mute on = .ok e) : e.power = d.power := by
    unfold mute at h
    extract_lets -underBinder m at h
    split at h
    · cases h
    · cases h; exact routeMute_power ..
  split at h
  · cases h
  · split at h
    · exact hmute _ h
    · exact hmute _ h
    · cases h; exact latchWrite_power ..
    · extract_lets k at h
      split at h
      · cases h
      · cases h; exact destGain_power ..
    · exact hstream _ h
    · exact hstream _ h

@[simp ↓] theorem schedEnd_power (d : Dev) (e : Fin 32) (f : SchedEntry → SchedEntry) : (d.schedEnd e f).power = d.power := by
  simp [schedEnd, schedEvent]

@[simp ↓] theorem schedFire_power (d : Dev) (e : Fin 32) : (d.schedFire e).power = d.power := by
  unfold schedFire
  dsimp only
  split
  · simp
  · split
    next hx => simp [schedAct_power hx]
    · simp

@[simp ↓] theorem schedAll_power (d : Dev) : d.schedAll.power = d.power := by
  simp [schedAll, schedReady, schedEvent]

theorem afterSched_power {f : CmdFn} (hf : CmdPower f) : CmdPower (afterSched f) := fun src req d => by
  have h := hf src req d.schedAll
  rw [schedAll_power] at h
  unfold afterSched
  cases hr : f src req d.schedAll with
  | refuse => rfl
  | done | later | mismatch => simpa [hr] using h

theorem gpioCmds_power : ∀ c ∈ gpioCmds, CmdPower c.run := by
  simp only [gpioCmds, List.forall_mem_cons, List.not_mem_nil, false_implies, implies_true, and_true]
  exact ⟨fun _ _ _ => by simp [cmdGpioPinConfig], fun _ _ _ => by simp [cmdGpioXbarSet], afterSched_power gpioOutput_power,
    fun _ _ _ => rfl, fun _ _ _ => by simp [cmdGpioLockPin, lockPins]⟩

theorem schedCmds_power : ∀ c ∈ schedCmds, CmdPower c.run := by
  simp only [schedCmds, List.forall_mem_cons, List.not_mem_nil, false_implies, implies_true, and_true]
  exact ⟨fun _ _ _ => by simp [cmdSchedSet, schedEvent], fun _ _ _ => by simp [cmdSchedCancel, schedCancel],
    fun _ _ _ => effect_withFin_power fun _ => rfl⟩

/-! ### TDM and routing (chapter 10) -/

theorem cmdSourceBind_power : CmdPower cmdSourceBind := fun _ req d => effect_withFin_power fun k => by
  split
  · rfl
  · extract_lets grouped off second
    iterate 5 refine effect_power_of_ite rfl ?_
    rfl

theorem cmdDestBind_power : CmdPower cmdDestBind := fun _ req d => effect_withFin_power fun k => by
  extract_lets -underBinder w kind? amp? x
  clear_value kind?
  cases kind? with
  | none => rfl
  | some kind =>
    dsimp -zeta only
    extract_lets -underBinder off taken delay ramp
    iterate 4 refine effect_power_of_ite rfl ?_
    extract_lets -underBinder
    generalize hp : (if delay = _ then some d else _) = placed
    cases placed with
    | none => rfl
    | some e =>
      have hplaced : e.power = d.power := by
        split at hp
        · rw [Option.some.inj hp]
        · exact placeDelay_power hp
      dsimp -zeta only
      extract_lets -underBinder cleared
      exact (modDest_power ..).trans ((by simp [cleared, clearLine] : cleared.power = e.power).trans hplaced)

theorem routeCmds_power : ∀ c ∈ routeCmds, CmdPower c.run := by
  simp only [routeCmds, List.forall_mem_cons, List.not_mem_nil, false_implies, implies_true, and_true]
  exact ⟨fun _ _ _ => by simp [cmdTdmSet], fun _ _ _ => by simp [cmdTdmDisable], fun _ _ _ => effect_withFin_power fun _ => rfl,
    cmdSourceBind_power, cmdDestBind_power, fun _ _ _ => by simp [cmdXpSet], fun _ _ _ => rfl,
    afterSched_power fun _ _ _ => effect_withFin_power fun _ => rfl, afterSched_power fun _ _ d => routeMute_power d _ _ _,
    fun _ _ _ => effect_withFin_power fun _ => rfl, fun _ _ _ => by simp [cmdPartition],
    fun _ _ _ => by simp [cmdSenseBind, modSense], fun _ _ _ => effect_withFin_power fun _ => rfl⟩

/-! ### Measurement and the amplifiers (chapter 11) -/

theorem cmdSpeakerSet_power : CmdPower cmdSpeakerSet := fun _ req d =>
  effect_withFin_power fun k => effect_withFin_power fun amp => effect_withFin_power fun dest => by
    extract_lets -underBinder s x slotKind set
    iterate 2 refine effect_power_of_ite rfl ?_
    exact (power_ite ..).trans (ite_self _)

theorem cmdBaseline_power : CmdPower cmdBaseline := fun _ req d => effect_withFin_power fun k => by
  dsimp only
  repeat' split
  all_goals simp

theorem cmdScriptSet_power : CmdPower cmdScriptSet := fun _ req d => effect_withFin_power fun k => by
  dsimp only
  repeat' split
  all_goals rfl

theorem cmdScriptRun_power : CmdPower cmdScriptRun := fun _ req d => effect_withFin_power fun k => by
  repeat' split
  all_goals simp

theorem measCmds_power : ∀ c ∈ measCmds, CmdPower c.run := by
  simp only [measCmds, List.forall_mem_cons, List.not_mem_nil, false_implies, implies_true, and_true]
  exact ⟨cmdSpeakerSet_power, fun _ _ _ => by simp [cmdMeasConfig], fun _ _ _ => effect_withFin_power fun _ => rfl,
    cmdBaseline_power, fun _ _ _ => by simp [cmdDcTest], fun _ _ _ => rfl, fun _ _ _ => effect_withFin_power fun _ => rfl,
    fun _ _ _ => by simp [cmdDtcClear], cmdScriptSet_power, cmdScriptRun_power, fun _ _ _ => by simp [cmdAmpLine],
    fun _ _ _ => by simp [cmdAmpI2c, addJob]⟩

/-! ### CAN and the self tests (chapters 12 and 15) -/

theorem cmdCanSetup_power : CmdPower cmdCanSetup := fun _ req d => by
  unfold cmdCanSetup
  split <;> simp

theorem canCmds_power : ∀ c ∈ canCmds, CmdPower c.run := by
  simp only [canCmds, List.forall_mem_cons, List.not_mem_nil, false_implies, implies_true, and_true]
  exact ⟨cmdCanSetup_power, fun _ _ _ => by simp [cmdCanTesterSet], fun _ _ _ => by simp [cmdCanMoSet],
    fun _ _ _ => by simp [cmdCanMoSend], fun _ _ _ => effect_withObj_power fun _ => by split <;> rfl, fun _ _ _ => rfl⟩

theorem testCmds_power : ∀ c ∈ testCmds, CmdPower c.run := by
  simp only [testCmds, List.forall_mem_cons, List.not_mem_nil, false_implies, implies_true, and_true]
  exact ⟨fun _ _ _ => by simp [cmdSelfTestRun], fun _ _ _ => rfl⟩

/-! ### The journal and update commands (chapter 5) -/

theorem cmdJournalRead_power : CmdPower cmdJournalRead := fun _ req d => by
  unfold cmdJournalRead
  split <;> rfl

theorem journalCmds_power : ∀ c ∈ journalCmds, CmdPower c.run := by
  simp only [journalCmds, List.forall_mem_cons, List.not_mem_nil, false_implies, implies_true, and_true]
  exact ⟨fun _ _ _ => rfl, cmdJournalRead_power, fun _ _ _ => by simp [cmdJournalCompact],
    fun _ _ _ => by simp [cmdJournalDefaults]⟩

theorem cmdFwuWrite_power : CmdPower cmdFwuWrite := fun _ req d => effect_withSession_power fun x => by
  extract_lets -underBinder at_ n
  iterate 3 refine effect_power_of_ite rfl ?_
  split
  · rfl
  · exact effect_flashChecked_power rfl

theorem cmdFwuFinish_power : CmdPower cmdFwuFinish := fun _ req d => effect_withSession_power fun x => by
  refine effect_power_of_ite rfl ?_
  split
  · rfl
  · exact effect_flashChecked_power (effect_power_of_ite rfl rfl)

theorem cmdFwuConfirm_power : CmdPower cmdFwuConfirm := fun _ req d => by
  refine effect_power_of_ite rfl ?_
  split
  · rfl
  · exact effect_flashChecked_power rfl

theorem fwuCmds_power : ∀ c ∈ fwuCmds, CmdPower c.run := by
  simp only [fwuCmds, List.forall_mem_cons, List.not_mem_nil, false_implies, implies_true, and_true]
  exact ⟨fun _ _ _ => by simp [cmdFwuBegin], cmdFwuWrite_power, cmdFwuFinish_power, cmdFwuConfirm_power,
    fun _ _ _ => by simp [cmdFwuAbort]⟩

/-! ### The system commands, and the whole command set -/

/-- The device state, and whether Hearth's clock runs in QUIET. -/
def mode (d : Dev) : DeviceState × Bool := (d.power.state, d.power.quietPass)

theorem mode_congr {d e : Dev} (h : e.power = d.power) : e.mode = d.mode := by
  rw [mode, mode, h]

/-- The effect of the command leaves the device state. -/
def CmdMode (f : CmdFn) : Prop := ∀ (src : Source) (req : Request) (d : Dev), (d.effect (f src req d)).mode = d.mode

theorem CmdPower.mode {f : CmdFn} (h : CmdPower f) : CmdMode f := fun src req d => mode_congr (h src req d)

theorem cmdReset_mode : CmdMode cmdReset := fun src req d => by
  unfold cmdReset
  split
  · rfl
  · cases src <;> rfl

theorem quietAdvance_mode (d : Dev) : d.quietAdvance.mode = d.mode := by
  unfold quietAdvance
  split
  · rfl
  · simp [mode]

theorem cmdQuietEnter_mode : CmdMode cmdQuietEnter := fun src req d => by
  unfold cmdQuietEnter
  split
  · rfl
  · exact quietAdvance_mode _

theorem cmdQuietExit_mode : CmdMode cmdQuietExit := fun src req d => by
  unfold cmdQuietExit
  split <;> rfl

theorem sysCmds_mode : ∀ c ∈ sysCmds, CmdMode c.run := by
  simp only [sysCmds, List.forall_mem_cons, List.not_mem_nil, false_implies, implies_true, and_true]
  exact ⟨fun _ _ _ => rfl, fun _ _ _ => rfl, fun _ _ _ => rfl, cmdReset_mode, cmdQuietEnter_mode, cmdQuietExit_mode,
    fun _ _ _ => rfl⟩

theorem cmdTable_mode : ∀ c ∈ cmdTable, CmdMode c.run := by
  have hmode {l : List CmdSpec} (h : ∀ c ∈ l, CmdPower c.run) (c : CmdSpec) (hc : c ∈ l) : CmdMode c.run := (h c hc).mode
  simp only [cmdTable, List.forall_mem_append]
  exact ⟨⟨⟨⟨⟨⟨⟨⟨⟨⟨⟨⟨sysCmds_mode, hmode journalCmds_power⟩, hmode fwuCmds_power⟩, hmode clkCmds_power⟩, hmode ethCmds_power⟩,
    hmode streamCmds_power⟩, hmode lintelCmds_power⟩, hmode routeCmds_power⟩, hmode measCmds_power⟩, hmode canCmds_power⟩,
    hmode gpioCmds_power⟩, hmode schedCmds_power⟩, hmode testCmds_power⟩

end Dev
end Sys2Proof.Machine
end

section
/-!
# A service pass in ACTIVE (R133, R140)
-/
namespace Sys2Proof.Machine
namespace Dev

/-! ### The service of a mailbox's command leaves the device state -/

/-- A command that passes the shared checks has a row in the command set. -/
theorem serveCheck_spec {d : Dev} {src : Source} {op : Nat} {req : Request} {c : CmdSpec} (h : d.serveCheck src op req = .ok c) :
    cmdSpec op = some c := by
  unfold serveCheck at h
  iterate 2
    split at h
    · nomatch h
  cases hc : cmdSpec op with
  | none =>
    rw [hc] at h
    nomatch h
  | some c' =>
    rw [hc] at h
    dsimp only at h
    split_ifs at h
    cases h
    rfl

theorem settle_mode {d : Dev} {src : Source} {op : Nat} {req : Request} {r : CmdResult} (hr : (d.effect r).mode = d.mode) :
    (d.settle src op req r).1.mode = d.mode := by
  unfold settle
  extract_lets -underBinder withheld ninth full
  cases r with
  | refuse => rfl
  | mismatch => exact hr
  | later items e =>
    dsimp -zeta only
    split
    · rfl
    · exact (mode_congr (journalAdd_power e items)).trans hr
  | done accepted detail payload items e =>
    dsimp -zeta only
    split
    · rfl
    · exact (mode_congr ((noteAccepted_power ..).trans (journalAdd_power e items))).trans hr

theorem serveCore_mode (d : Dev) (src : Source) (op : Nat) (req : Request) : (d.serveCore src op req).1.mode = d.mode := by
  unfold serveCore serveWith
  split
  · rfl
  · split
    · rfl
    next c hc => exact settle_mode (cmdTable_mode c (List.mem_of_find?_eq_some (serveCheck_spec hc)) src req d)

theorem runJob_mode (d : Dev) (k : Fin 2) (op : Nat) (req : Request) (loses : Option Nat) :
    (d.runJob (.mailbox k op req) loses).mode = d.mode := by
  cases loses with
  | some cls => rw [runJob_beaten, mode_congr (mailboxServed_power ..)]; rfl
  | none => rw [runJob_served, mode_congr (mailboxServed_power ..), serveCore_mode]

/-- Out of QUIET the end of a pass changes nothing. -/
theorem passEnd_active {d : Dev} (h : d.mode = (.active, false)) : passEnd d = d := by
  obtain ⟨hstate, hpass⟩ := Prod.mk.inj h
  have hkept : (d.power.state == .quiet && d.power.quietExit.isSome) = d.power.quietPass := by rw [hstate, hpass]; rfl
  rw [passEnd, hkept]

/-! ### The jobs of a pass and their order -/

/-- The command in a mailbox's window, as a job of a pass. -/
def mailJob (d : Dev) (k : Fin 2) : Job := .mailbox k d.mail.mb[k].decode.1 d.mail.mb[k].decode.2

/-- A mailbox's command waits for a pass. -/
def Waits (d : Dev) (k : Fin 2) : Prop := d.mail.mb[k].state = .busy ∧ d.mail.mb[k].taken = false

/-- In ACTIVE, with nothing waiting but the mailboxes. -/
def MailOnly (d : Dev) : Prop :=
  d.power.state = .active ∧ d.power.quietPass = false ∧ d.mail.deferred = [] ∧ d.remote.waiting = [] ∧
  d.can.uds.request = none ∧ d.can.uds.awaiting = none

section
variable {d : Dev}

theorem deferredReplies_none (h : d.mail.deferred = []) : d.deferredReplies = d := by
  unfold deferredReplies
  dsimp only
  rw [h, List.foldl_nil, ← h]

/-- What a pass takes up from a mailbox. -/
def boxJobs (d : Dev) (k : Fin 2) : List Job :=
  if d.mail.mb[k].state = .busy ∧ !d.mail.mb[k].taken then [d.mailJob k] else []

theorem waits_iff {k : Fin 2} : (d.mail.mb[k].state = .busy ∧ (!d.mail.mb[k].taken) = true) ↔ d.Waits k := by
  rw [Waits, Bool.not_eq_true']

theorem boxJobs_waits {k : Fin 2} (h : d.Waits k) : d.boxJobs k = [d.mailJob k] := if_pos (waits_iff.mpr h)

theorem boxJobs_idle {k : Fin 2} (h : ¬ d.Waits k) : d.boxJobs k = [] := if_neg (waits_iff.not.mpr h)

/-- MB1's job comes before MB0's, and no other source has one. -/
theorem jobs_mailOnly (h : d.MailOnly) : d.jobs = d.boxJobs 1 ++ d.boxJobs 0 := by
  obtain ⟨-, -, -, hremote, hrequest, -⟩ := h
  have htester : (if d.can.uds.request.isSome ∧ d.udsServes then [Job.tester d.testerCommand] else []) = [] := by
    simp [hrequest]
  unfold jobs
  dsimp only
  rw [htester, hremote, List.map_nil, ite_self, List.append_nil, List.append_nil]
  rfl

/-- The jobs of a pass, each with its rank and with the class it is beaten by. -/
def rankedJobs (d : Dev) (l : List Job) : List (Nat × Job × Option Nat) :=
  (List.range l.length).filterMap fun i => (l[i]?).map fun j => (d.jobRank j, j, d.beatenBy l i)

theorem servicePass_mailOnly (h : d.MailOnly) {l : List Job} (hl : d.jobs = l) :
    d.servicePass = passEnd ([0, 1, 2, 3].foldl (runRank (d.rankedJobs l)) d) := by
  obtain ⟨hstate, -, hdeferred, hremote, hrequest, hawaiting⟩ := h
  have hlock : d.lockRequest = none := by rw [lockRequest, hrequest]
  have hwaiting : ({ d with remote := if d.power.state = .active then { d.remote with waiting := [] } else d.remote } : Dev) = d := by
    rw [if_pos hstate, ← hremote]
  unfold servicePass
  rw [if_neg (by simp [serving, hstate]), deferredReplies_none hdeferred, udsFlush_rest hawaiting]
  dsimp only
  rw [hwaiting, hlock, if_neg nofun, hl]
  rfl

end

/-! ### Jobs of one rank -/

theorem runRank_same {ranked : List (Nat × Job × Option Nat)} {r : Nat} (h : ∀ x ∈ ranked, x.1 = r) (d : Dev) (q : Nat) :
    runRank ranked d q = if r = q then ranked.foldl (fun (d : Dev) x => d.runJob x.2.1 x.2.2) d else d := by
  unfold runRank
  split
  case isTrue hq => rw [List.filter_eq_self.mpr fun x hx => by simp [h x hx, hq]]
  case isFalse hq => rw [List.filter_eq_nil_iff.mpr fun x hx => by simp [h x hx, hq]]; rfl

/-- A release comes in the second round of a pass and any other command of a mailbox in the third. -/
theorem jobRank_mailJob (d : Dev) (k : Fin 2) :
    d.jobRank (d.mailJob k) = if releases d.mail.mb[k].decode.1 d.mail.mb[k].decode.2 then 1 else 2 := rfl

theorem jobRank_cases (d : Dev) (k : Fin 2) : d.jobRank (d.mailJob k) = 1 ∨ d.jobRank (d.mailJob k) = 2 := by
  rw [jobRank_mailJob]
  split <;> simp

/-- Jobs of one rank run one after the other. -/
theorem runRanks_same {ranked : List (Nat × Job × Option Nat)} {r : Nat} (h : ∀ x ∈ ranked, x.1 = r) (hr : r = 1 ∨ r = 2)
    (d : Dev) : [0, 1, 2, 3].foldl (runRank ranked) d = ranked.foldl (fun (d : Dev) x => d.runJob x.2.1 x.2.2) d := by
  simp only [List.foldl_cons, List.foldl_nil, runRank_same h]
  rcases hr with rfl | rfl <;> simp

/-! ### Conflicts (R140) -/

theorem jobClass_mailJob (d e : Dev) (k : Fin 2) : d.jobClass (e.mailJob k) = 3 := by
  match k with
  | 0 => rfl
  | 1 => rfl

theorem mailJob_host (d : Dev) (k : Fin 2) : ((d.mailJob k).source == .mb0 || (d.mailJob k).source == .mb1) = true := by
  match k with
  | 0 => rfl
  | 1 => rfl

section
variable (d : Dev)

theorem beatenBy_alone (k : Fin 2) : d.beatenBy [d.mailJob k] 0 = none := by
  simp [beatenBy]

/-- MB1's command is beaten by none of MB0's. -/
theorem beatenBy_first : d.beatenBy [d.mailJob 1, d.mailJob 0] 0 = none := by
  simp [beatenBy, jobClass_mailJob, List.range_succ]

/-- MB0's command is beaten by MB1's, with the host's class, where both set one parameter. -/
theorem beatenBy_second : d.beatenBy [d.mailJob 1, d.mailJob 0] 1 =
    if ∃ x ∈ d.jobTouches (d.mailJob 0), x ∈ d.jobTouches (d.mailJob 1) then some 3 else none := by
  have hmeets : ((d.jobTouches (d.mailJob 1)).any (d.jobTouches (d.mailJob 0)).contains = true) ↔
      ∃ x ∈ d.jobTouches (d.mailJob 0), x ∈ d.jobTouches (d.mailJob 1) := by
    simp only [List.any_eq_true, List.contains_iff_mem]
    exact ⟨fun ⟨x, h1, h0⟩ => ⟨x, h0, h1⟩, fun ⟨x, h0, h1⟩ => ⟨x, h1, h0⟩⟩
  simp only [← hmeets]
  cases hany : (d.jobTouches (d.mailJob 1)).any (d.jobTouches (d.mailJob 0)).contains <;>
    simp [beatenBy, jobClass_mailJob, mailJob_host, List.range_succ, hany]

end

/-! ### The pass -/

section
variable {d : Dev} (h : d.MailOnly)
include h

theorem mode_mailOnly : d.mode = (.active, false) := by
  obtain ⟨hstate, hpass, -⟩ := h
  rw [mode, hstate, hpass]

theorem servicePass_idle (h1 : ¬ d.Waits 1) (h0 : ¬ d.Waits 0) : d.servicePass = d := by
  rw [servicePass_mailOnly h (jobs_mailOnly h), boxJobs_idle h1, boxJobs_idle h0]
  exact passEnd_active (mode_mailOnly h)

theorem servicePass_one {k : Fin 2} (hjobs : d.jobs = [d.mailJob k]) : d.servicePass = d.runJob (d.mailJob k) none := by
  have hranked : d.rankedJobs [d.mailJob k] = [(d.jobRank (d.mailJob k), d.mailJob k, none)] := by
    simp [rankedJobs, beatenBy_alone]
  rw [servicePass_mailOnly h hjobs, hranked, runRanks_same (fun x hx => by rw [List.mem_singleton.mp hx])
    (d.jobRank_cases _), List.foldl_cons, List.foldl_nil]
  exact passEnd_active ((runJob_mode ..).trans (mode_mailOnly h))

theorem servicePass_both (h1 : d.Waits 1) (h0 : d.Waits 0)
    (hrank : releases d.mail.mb[(0 : Fin 2)].decode.1 d.mail.mb[(0 : Fin 2)].decode.2 =
      releases d.mail.mb[(1 : Fin 2)].decode.1 d.mail.mb[(1 : Fin 2)].decode.2) :
    d.servicePass = (d.runJob (d.mailJob 1) none).runJob (d.mailJob 0) (d.beatenBy [d.mailJob 1, d.mailJob 0] 1) := by
  have hsame : d.jobRank (d.mailJob 0) = d.jobRank (d.mailJob 1) := by rw [jobRank_mailJob, jobRank_mailJob, hrank]
  have hranked : d.rankedJobs [d.mailJob 1, d.mailJob 0] = [(d.jobRank (d.mailJob 1), d.mailJob 1, none),
      (d.jobRank (d.mailJob 1), d.mailJob 0, d.beatenBy [d.mailJob 1, d.mailJob 0] 1)] := by
    simp [rankedJobs, List.range_succ, beatenBy_first, hsame]
  rw [servicePass_mailOnly h (jobs_mailOnly h), boxJobs_waits h1, boxJobs_waits h0, List.singleton_append, hranked,
    runRanks_same (r := d.jobRank (d.mailJob 1)) (fun x hx => by
      rcases List.mem_cons.mp hx with rfl | hx
      · rfl
      · rw [List.mem_singleton.mp hx]) (d.jobRank_cases _), List.foldl_cons, List.foldl_cons, List.foldl_nil]
  exact passEnd_active ((runJob_mode ..).trans ((runJob_mode ..).trans (mode_mailOnly h)))

end

end Dev

/-- Settles O32: the jobs of the pass, in one rank, and which of them is beaten. -/
theorem servicePass : Obligations.ServicePass := by
  unfold Obligations.ServicePass
  intro s hstate hpass hdeferred hremote hrequest hawaiting m waits op req run sets
  have h : s.dev.MailOnly := ⟨hstate, hpass, hdeferred, hremote, hrequest, hawaiting⟩
  refine ⟨fun h0 h1 => ?idle, fun k hk hother => ⟨?one, fun d r hserved => ?served⟩, fun h0 h1 hapart hr0 hr1 => ?apart,
    fun h0 h1 hmeet hreleases => ?meet⟩
  case idle => exact next_rest (Dev.servicePass_idle h h1 h0)
  case one =>
    refine next_dev (Dev.servicePass_one h ((Dev.jobs_mailOnly h).trans ?_))
    match k with
    | 0 => rw [Dev.boxJobs_idle (k := 1) hother, Dev.boxJobs_waits hk, List.nil_append]
    | 1 => rw [Dev.boxJobs_waits hk, Dev.boxJobs_idle (k := 0) hother, List.append_nil]
  case served =>
    have hrun : run s.dev k = Dev.mailboxServed k (s.dev.serveCore (if k = 0 then .mb0 else .mb1) (op k) (req k)) :=
      Dev.runJob_served ..
    rw [hrun, hserved]
    rfl
  case apart =>
    have hboth := Dev.servicePass_both h h1 h0 (hr0.trans hr1.symm)
    rw [Dev.beatenBy_second, if_neg fun ⟨x, hx, hx'⟩ => hapart x hx hx'] at hboth
    exact next_dev hboth
  case meet =>
    have hboth := Dev.servicePass_both h h1 h0 hreleases
    have hsets : ∃ x ∈ s.dev.jobTouches (s.dev.mailJob 0), x ∈ s.dev.jobTouches (s.dev.mailJob 1) := hmeet
    rw [Dev.beatenBy_second, if_pos hsets] at hboth
    exact next_dev hboth

end Sys2Proof.Machine
end

section
/-!
# The operations of Keystone, and the host's way to its words

What the shared operations of chapter 6 make of Keystone, field by field, and what a host write or read of a word of
the CLK block comes to.
-/
namespace Sys2Proof.Machine

/-! ### Fields under a mask -/

section
variable {m : Word} {hi lo : Nat}

/-- A mask with every bit of a field. -/
theorem mask_bit (h : fld m hi lo = 2 ^ (hi + 1 - lo) - 1) {i : Nat} (hi' : i < hi + 1 - lo) : m.getLsbD (lo + i) = true := by
  have hbit := fld_testBit m hi lo i
  rw [h, Nat.testBit_two_pow_sub_one] at hbit
  simpa [hi'] using hbit.symm

theorem fld_and_mask (h : fld m hi lo = 2 ^ (hi + 1 - lo) - 1) (w : Word) : fld (w &&& m) hi lo = fld w hi lo := by
  refine Nat.eq_of_testBit_eq fun i => ?_
  rw [fld_testBit, fld_testBit, BitVec.getLsbD_and]
  by_cases hi' : i < hi + 1 - lo
  · rw [mask_bit h hi', Bool.and_true]
  · simp [hi']

theorem fld_and_not_mask (h : fld m hi lo = 2 ^ (hi + 1 - lo) - 1) (w : Word) : fld (w &&& ~~~ m) hi lo = 0 := by
  refine Nat.eq_of_testBit_eq fun i => ?_
  rw [fld_testBit, BitVec.getLsbD_and, BitVec.getLsbD_not, Nat.zero_testBit]
  by_cases hi' : i < hi + 1 - lo
  · simp [mask_bit h hi']
  · simp [hi']

end

theorem fld_word (w : Word) : fld w 31 0 = w.toNat := Nat.mod_eq_of_lt w.isLt

namespace Dev

/-! ### Register words -/

/-- A flag that is set stays set when hardware sets flags. -/
theorem rbit_raiseIf_keeps (d : Dev) {a : Nat} (h : a / 4 < 256) {b i : Nat} (hb : d.rbit b i = true) (c : Bool) (j : Nat) :
    (d.raiseIf c a j).rbit b i = true := by
  cases c with
  | false => exact hb
  | true =>
    show ((d.raiseBit a j).reg b).getLsbD i = true
    rw [reg_raiseBit d h]
    split
    case isTrue hab =>
      have hword : d.reg a = d.reg b := by simp only [reg, hab]
      rw [BitVec.getLsbD_or, hword, show (d.reg b).getLsbD i = true from hb, Bool.true_or]
    case isFalse => exact hb

/-- Another word than that of a flag that hardware may set. -/
theorem reg_raiseIf_other (d : Dev) {a b : Nat} (h : a / 4 < 256) (hne : a / 4 ≠ b / 4) (c : Bool) (i : Nat) :
    (d.raiseIf c a i).reg b = d.reg b := by
  cases c with
  | false => rfl
  | true => exact reg_raiseBit_other d h hne i

/-- A bit just stored. -/
theorem rbit_setRbit_same (d : Dev) {a : Nat} (h : a / 4 < 256) {i : Nat} (hi : i < 32) (b : Bool) :
    (d.setRbit a i b).rbit a i = b := by
  rw [rbit, setRbit, reg_setRfld d h, if_pos rfl, setFld_bit _ _ _ _ _ hi, if_pos ⟨le_rfl, le_rfl⟩, Nat.sub_self]
  cases b <;> rfl

/-- Another bit of the same word. -/
theorem rbit_setRbit_other (d : Dev) {a : Nat} (h : a / 4 < 256) {i j : Nat} (hi : i < 32) (hij : i ≠ j) (b : Bool) :
    (d.setRbit a i b).rbit a j = d.rbit a j := by
  rw [rbit, setRbit, reg_setRfld d h, if_pos rfl, setFld_bit _ _ _ _ _ hi, if_neg (by omega), rbit]

/-! ### Keystone after a shared operation -/

@[simp] theorem retune_ks (d : Dev) : d.retune.ks = { d.ks with word := boundWord d.ks.rate d.ks.demand } := by
  rw [retune, raiseIf_ks, modKs_ks]

theorem retune_reg_other (d : Dev) {b : Nat} (h : Reg.CLK_IRQ_STATUS / 4 ≠ b / 4) : d.retune.reg b = d.reg b :=
  reg_raiseIf_other _ (by decide) h _ _

/-- CLAMPED is all that a new demand sets. -/
theorem retune_rbit_keeps {d : Dev} {a i : Nat} (h : d.rbit a i = true) : d.retune.rbit a i = true := by
  unfold retune
  exact rbit_raiseIf_keeps (d.modKs _) (by decide) h ..

@[simp] theorem setRemain_ks (d : Dev) (r : Int) : (d.setRemain r).ks = { d.ks with remain := r } := by
  unfold setRemain noteMoveDone
  dsimp only
  split <;> simp

/-- A phase move adds to the remainder and leaves the state, the held part and the offset. -/
theorem addMove_ks (d : Dev) (ps : Int) : (d.addMove ps).ks.remain = d.ks.remain + ps ∧
    (d.addMove ps).ks.state = d.ks.state ∧ (d.addMove ps).ks.held = d.ks.held ∧ (d.addMove ps).ks.offset = d.ks.offset := by
  unfold addMove
  split
  case isTrue h => simp [h]
  case isFalse => simp

/-! ### A word of the CLK block from the host -/

@[simp] theorem codeStore_ks (d : Dev) (r : RegInfo) (w : Word) : (d.codeStore r w).ks = d.ks := rfl

/-- A field of a register that takes every bit of it. -/
theorem codeStore_rfld (d : Dev) {r : RegInfo} (h : r.addr / 4 < 256) (hw1c : r.w1c = 0) (hrws : r.rws = 0) {hi lo : Nat}
    (hrw : fld r.rw hi lo = 2 ^ (hi + 1 - lo) - 1) (w : Word) : (d.codeStore r w).rfld r.addr hi lo = fld w hi lo := by
  rw [rfld, codeStore, reg_setReg_same _ h, hw1c, hrws]
  simp [fld_or, fld_and_mask hrw, fld_and_not_mask hrw]

/-- A host write to a word of the CLK block but CLK_PLL: the clamped word is stored, and takes effect. -/
theorem hostWrite_clk {d : Dev} (h : d.Writable) {a : Nat} {r : RegInfo} (hr : regInfo a = some r) (haddr : r.addr = a)
    (hblock : 0x80 ≤ a ∧ a < 0x100) (hpll : a ≠ Reg.CLK_PLL) (w : Word) :
    d.hostWrite a w = (d.codeStore r (clkClamp a w)).clkWritten a (clkClamp a w) := by
  have hother {b : Nat} (hb : b < 0x80) : a ≠ b := by omega
  rw [hostWrite_reg h (by omega) hr, regStore, if_pos (by omega), sysStore]
  dsimp only
  rw [haddr, if_neg (hother (by decide)), if_neg (hother (by decide)), if_neg (hother (by decide)),
    if_neg (hother (by decide)), if_neg (hother (by decide)), if_neg (hother (by decide)), if_neg hpll, if_neg (by omega)]

/-- A host read of a word of the CLK block that has no stored bits: what the block captures and computes. -/
theorem hostRead_clk {d : Dev} (h : d.Powered) {a : Nat} {r : RegInfo} (hr : regInfo a = some r) (hrw : r.rw ||| r.w1c = 0)
    (hblock : 0x80 ≤ a ∧ a < 0x100) (full : Bool) :
    d.hostRead a full = (d.clkCapture a).spiOut ((d.clkCapture a).clkRead (d.clkCapture a).namedEntry a) := by
  have hcapture : d.hostCapture a = d.clkCapture a := by
    rw [hostCapture, if_pos (by omega), if_neg (by simp only [Reg.TMR_COUNT_LO]; omega),
      if_neg (by simp only [Reg.TMR_CAP_LO]; omega)]
  have hword (e : Dev) : e.hostWord a = e.clkRead e.namedEntry a := by
    rw [hostWord, if_pos (by omega), regWord, hr, if_neg (by simp), if_neg (by simp only [Reg.SYS_IRQ_STATUS]; omega),
      if_neg (by simp only [Reg.SYS_DBG_STATUS]; omega), if_neg (by omega), if_neg (by omega), if_pos (by omega)]
    simp [hrw]
  have hdone (e : Dev) : e.hostReadDone a = e := by
    rw [hostReadDone, if_neg (by simp only [Reg.TMR_CAP_LO]; omega), if_neg (by omega)]
  rw [hostRead, powered_act h]
  dsimp only
  rw [hcapture, hword, hdone, ite_self]

end Dev
end Sys2Proof.Machine
end

section
/-!
# Writes and reads of the clock words, and the phase detector (R168, R171, R175, R176, R180)
-/
namespace Sys2Proof.Machine
namespace Dev

/-! ### A phase step (R171) -/

/-- A step that leaves both sums within ±100 ms is taken whole. -/
theorem boundStep_within {k : Keystone} {ps : Int} (hoffset : (k.offset + ps).natAbs ≤ 10 ^ 11)
    (hremain : (k.remain + ps).natAbs ≤ 10 ^ 11) : boundStep k ps = ps := by
  have hnone {v : Int} (h : v.natAbs ≤ 10 ^ 11) : max 0 ((v.natAbs : Int) - 10 ^ 11) = 0 := by omega
  simp only [boundStep, hnone hoffset, hnone hremain, max_self, sub_zero, add_zero]
  split <;> omega

theorem phaseStep_within {d : Dev} {ps : Int} (hoffset : (d.ks.offset + ps).natAbs ≤ 10 ^ 11)
    (hremain : (d.ks.remain + ps).natAbs ≤ 10 ^ 11) :
    (d.phaseStep ps).ks.offset = d.ks.offset + ps ∧ (d.phaseStep ps).ks.remain = d.ks.remain + ps ∧
    (d.phaseStep ps).ks.state = d.ks.state ∧
    (d.phaseStep ps).ks.held = d.ks.held + (if d.ks.state = .acquire ∧ d.ks.wide = true then ps else 0) := by
  unfold phaseStep
  rw [boundStep_within hoffset hremain]
  simp only [modKs_ks, raiseIf_ks]
  split
  case isTrue => simp
  case isFalse =>
    obtain ⟨hremain, hstate, hheld, hoffset⟩ := addMove_ks
      ((d.raiseIf (ps != ps) Reg.CLK_IRQ_STATUS 9).modKs fun k => { k with offset := k.offset + ps }) ps
    simp only [modKs_ks, raiseIf_ks] at hremain hstate hheld hoffset
    exact ⟨hoffset, hremain, hstate, hheld.trans (add_zero _).symm⟩

/-! ### The seed (R176) -/

/-- The frequency word of the two seed halves as they are stored. -/
def seedWord (d : Dev) : Nat := d.rfld Reg.CLK_DCO_SEED_HI 15 0 * 2 ^ 32 + (d.reg Reg.CLK_DCO_SEED_LO).toNat

/-- Keystone with a seed loaded. -/
def seedLoaded (k : Keystone) (w : Nat) : Keystone :=
  { k with seedLo := false, seedHi := false, baseWord := w, line := none,
           integrator := if k.state = .acquire ∨ k.state = .track then pptOfWord k.rate w else k.integrator,
           holdFreq := if k.state = .holdover ∨ k.state = .expired then pptOfWord k.rate w else k.holdFreq }

/-- The first half that is written waits for the other. -/
theorem seedWrite_first {d : Dev} (hlo : d.ks.seedLo = false) (hhi : d.ks.seedHi = false) (high : Bool) :
    (d.seedWrite high).ks = { d.ks with seedLo := !high, seedHi := high } := by
  unfold seedWrite
  rw [if_neg (by cases high <;> simp [hlo, hhi])]
  simp [hlo, hhi]

/-- The second half that is written loads the seed. -/
theorem seedWrite_second {d : Dev} {high : Bool} (h : (if high then d.ks.seedLo else d.ks.seedHi) = true) :
    d.seedWrite high = ((d.modKs fun k => seedLoaded k d.seedWord).raiseBit Reg.CLK_IRQ_STATUS 10).retune := by
  unfold seedWrite
  rw [if_pos (by cases high <;> simp_all)]
  rfl

/-- What a loaded seed leaves: the word, with the integrator or the held frequency, and SEED_LOADED. -/
theorem seedWrite_second_spec {d : Dev} {high : Bool} (h : (if high then d.ks.seedLo else d.ks.seedHi) = true) :
    (d.seedWrite high).ks.baseWord = d.seedWord ∧ (d.seedWrite high).ks.state = d.ks.state ∧
    (d.seedWrite high).ks.integrator = (seedLoaded d.ks d.seedWord).integrator ∧
    (d.seedWrite high).ks.holdFreq = (seedLoaded d.ks d.seedWord).holdFreq ∧
    (d.seedWrite high).ks.seedLo = false ∧ (d.seedWrite high).ks.seedHi = false ∧ (d.seedWrite high).ks.line = none ∧
    (d.seedWrite high).rbit Reg.CLK_IRQ_STATUS 10 = true := by
  rw [seedWrite_second h, retune_ks]
  exact ⟨rfl, rfl, rfl, rfl, rfl, rfl, rfl, retune_rbit_keeps (rbit_raiseBit _ (by decide) (by decide))⟩

/-! ### The words as the host writes and reads them -/

theorem hostWrite_phaseStep {d : Dev} (h : d.Writable) (v : Word) :
    ∃ e : Dev, e.ks = d.ks ∧ d.hostWrite Reg.CLK_PHASE_STEP v = e.phaseStep v.toInt := by
  obtain ⟨r, hr, haddr⟩ : ∃ r, regInfo Reg.CLK_PHASE_STEP = some r ∧ r.addr = Reg.CLK_PHASE_STEP := by decide +kernel
  exact ⟨_, codeStore_ks .., hostWrite_clk h hr haddr (by decide) (by decide) v⟩

theorem hostWrite_refCommit {d : Dev} (h : d.Writable) (v : Word) :
    (d.hostWrite Reg.CLK_REF_COMMIT v).ks = if v.getLsbD 0 then { d.ks with commitPending := true } else d.ks := by
  obtain ⟨r, hr, haddr⟩ : ∃ r, regInfo Reg.CLK_REF_COMMIT = some r ∧ r.addr = Reg.CLK_REF_COMMIT := by decide +kernel
  have hclamp : clkClamp Reg.CLK_REF_COMMIT v = v := rfl
  rw [hostWrite_clk h hr haddr (by decide) (by decide), hclamp, clkWritten]
  simp +decide only [if_false, true_and, false_and]
  split <;> rfl

/-- The host writes one half of the seed: it is stored, the other half and Keystone stay, and Keystone is told. -/
theorem hostWrite_seed {d : Dev} (h : d.Writable) (high : Bool) (v : Word) : ∃ e : Dev, e.ks = d.ks ∧
    e.seedWord = (if high then fld v 15 0 * 2 ^ 32 + (d.reg Reg.CLK_DCO_SEED_LO).toNat
      else d.rfld Reg.CLK_DCO_SEED_HI 15 0 * 2 ^ 32 + v.toNat) ∧
    d.hostWrite (if high then Reg.CLK_DCO_SEED_HI else Reg.CLK_DCO_SEED_LO) v = e.seedWrite high := by
  cases high with
  | false =>
    obtain ⟨r, hr, haddr, hw1c, hrws, hrw⟩ : ∃ r, regInfo Reg.CLK_DCO_SEED_LO = some r ∧ r.addr = Reg.CLK_DCO_SEED_LO ∧
      r.w1c = 0 ∧ r.rws = 0 ∧ fld r.rw 31 0 = 2 ^ 32 - 1 := by decide +kernel
    refine ⟨d.codeStore r v, rfl, ?_, hostWrite_clk h hr haddr (by decide) (by decide) v⟩
    have hlo := codeStore_rfld d (by rw [haddr]; decide) hw1c hrws hrw v
    rw [haddr, rfld, fld_word, fld_word] at hlo
    rw [seedWord, hlo, rfld, codeStore, reg_setReg_other _ (by rw [haddr]; decide) (by rw [haddr]; decide)]
    rfl
  | true =>
    obtain ⟨r, hr, haddr, hw1c, hrws, hrw⟩ : ∃ r, regInfo Reg.CLK_DCO_SEED_HI = some r ∧ r.addr = Reg.CLK_DCO_SEED_HI ∧
      r.w1c = 0 ∧ r.rws = 0 ∧ fld r.rw 15 0 = 2 ^ 16 - 1 := by decide +kernel
    refine ⟨d.codeStore r v, rfl, ?_, hostWrite_clk h hr haddr (by decide) (by decide) v⟩
    have hhi := codeStore_rfld d (by rw [haddr]; decide) hw1c hrws hrw v
    rw [haddr] at hhi
    rw [seedWord, hhi, codeStore, reg_setReg_other _ (by rw [haddr]; decide) (by rw [haddr]; decide)]
    rfl

/-- The words whose reads latch others have no stored bits. -/
theorem hostRead_latching {d : Dev} (h : d.Powered) {a : Nat}
    (ha : a = Reg.CLK_TIME_NS ∨ a = Reg.CLK_MOVE_REMAIN_LO ∨ a = Reg.CLK_OFFSET_LO) (full : Bool) :
    d.hostRead a full = (d.clkCapture a).spiOut ((d.clkCapture a).clkRead (d.clkCapture a).namedEntry a) := by
  obtain ⟨r, hr, hrw⟩ : ∃ r, regInfo a = some r ∧ r.rw ||| r.w1c = 0 := by
    rcases ha with rfl | rfl | rfl <;> decide +kernel
  exact hostRead_clk h hr hrw (by rcases ha with rfl | rfl | rfl <;> decide) full

/-! ### The phase detector (R168) -/

/-- A comparison in ACQUIRE or TRACK: the phase error, and the servo's free answer to it. -/
theorem phaseCompare_ks {d : Dev} (h : d.ks.state = .acquire ∨ d.ks.state = .track) (x : Int) :
    ∃ w, (d.phaseCompare x).ks = { d.ks with
      phaseErr := phaseError d.ks x
      integrator := Config.servoIntegral d.freeIdx d.ks.integrator (loopBandwidth d.ks) (phaseError d.ks x)
      baseWord := wordOfPpt d.ks.rate (Config.servoPpt d.freeIdx d.ks.integrator (loopBandwidth d.ks) (phaseError d.ks x))
      word := w } := by
  unfold phaseCompare
  rw [if_pos h]
  exact ⟨_, retune_ks _⟩

end Dev

/-- Settles O37: each write by what it stores and what Keystone makes of it, each read by what it captures. -/
theorem clockWords : Obligations.ClockWords := by
  unfold Obligations.ClockWords
  intro seeded
  refine ⟨fun v s h hoffset hremain => ?step, fun high v s h hlo hhi => ?first, fun v s h hhi => ?lo, fun v s h hlo => ?hi,
    fun v s h => ?commit, fun full s h => ?time, fun full s h => ?remain, fun full s h => ?offset, fun x s hruns hstate => ?phase⟩
  case step =>
    obtain ⟨e, hks, hwrite⟩ := Dev.hostWrite_phaseStep h v
    refine does_of_eq (exec_clkPhaseStepWrite v s) hwrite ?_
    rw [← hks] at hoffset hremain ⊢
    exact Dev.phaseStep_within hoffset hremain
  case first =>
    obtain ⟨e, hks, -, hwrite⟩ := Dev.hostWrite_seed h high v
    refine does_of_eq (exec_dcoSeedWrite high v s) hwrite ?_
    rw [← hks] at hlo hhi ⊢
    exact Dev.seedWrite_first hlo hhi high
  case lo =>
    obtain ⟨e, hks, hword, hwrite⟩ := Dev.hostWrite_seed h false v
    obtain ⟨hbase, hstate, hint, hhold, hrest⟩ := Dev.seedWrite_second_spec (d := e) (high := false) (hks ▸ hhi)
    rw [hword, hks] at hint hhold
    exact does_of_eq (exec_dcoSeedWrite false v s) hwrite
      ⟨⟨hbase.trans hword, hstate.trans (hks ▸ rfl), hint, hhold⟩, hrest⟩
  case hi =>
    obtain ⟨e, hks, hword, hwrite⟩ := Dev.hostWrite_seed h true v
    obtain ⟨hbase, hstate, hint, hhold, hrest⟩ := Dev.seedWrite_second_spec (d := e) (high := true) (hks ▸ hlo)
    rw [hword, hks] at hint hhold
    exact does_of_eq (exec_dcoSeedWrite true v s) hwrite
      ⟨⟨hbase.trans hword, hstate.trans (hks ▸ rfl), hint, hhold⟩, hrest⟩
  case commit => exact does_of_eq (exec_clkRefCommitWrite v s) rfl (Dev.hostWrite_refCommit h v)
  case time => exact does_of_eq (exec_clkTimeNsRead full s) (Dev.hostRead_latching h (.inl rfl) full) ⟨rfl, rfl, rfl⟩
  case remain =>
    exact does_of_eq (exec_clkWordLoRead false full s) (Dev.hostRead_latching h (.inr (.inl rfl)) full) ⟨rfl, rfl⟩
  case offset =>
    exact does_of_eq (exec_clkWordLoRead true full s) (Dev.hostRead_latching h (.inr (.inr rfl)) full) ⟨rfl, rfl⟩
  case phase =>
    intro k err
    obtain ⟨w, hks⟩ := Dev.phaseCompare_ks hstate x
    refine does_of_eq (exec_phaseDetectorCompare x s) (Dev.runs_act hruns _) ?_
    rw [hks]
    exact ⟨rfl, rfl, rfl, rfl, rfl⟩

end Sys2Proof.Machine
end

section
/-!
# The clock commands (R169, R171, R181, Tables 6.10 and 6.11)
-/
namespace Sys2Proof.Machine

/-- A command whose change is journaled under a key with PERSIST is answered OK, where R81 withholds no record. -/
theorem serve_okayKey {s : State} {i : Instr} {src : Source} {op key : Nat} {req : Request} {c : CmdSpec} {d : Dev}
    (hi : exec i s = s.act fun d => d.serve src op req) (h : s.dev.TakesUp src op req) (hc : cmdSpec op = some c)
    (hr : c.run src req s.dev = okayKey req key d) (hp : req.persist = false ∨ s.dev.flashPermitted = true)
    (ho : op ≠ 0x0102) : exec i s = .next (s.okay src op req d [] (Dev.keptAs req key)) :=
  hi.trans (next_dev (Dev.serve_done h hc hr (hp.imp_left fun hno => by rw [Dev.keptAs, hno]; rfl) ho))

theorem clampN_le {lo hi : Nat} (h : lo ≤ hi) (v : Nat) : clampN lo hi v ≤ hi := by
  unfold clampN
  split_ifs <;> omega

/-- A number within 32 bits of two's complement is read back from its word. -/
theorem toInt_i32 {n : Int} (hlo : -2147483648 ≤ n) (hhi : n < 2147483648) : (i32 n).toInt = n := by
  rw [i32, BitVec.toInt_ofInt, Int.bmod_eq_of_le (by norm_num; omega) (by norm_num; omega)]

theorem clampI_bounds {lo hi : Int} (h : lo ≤ hi) (v : Int) : lo ≤ clampI lo hi v ∧ clampI lo hi v ≤ hi := by
  unfold clampI
  split_ifs <;> omega

/-- A field of a word that is shifted down. -/
theorem fld_shift (w : Word) (k hi lo : Nat) : fld (w >>> k) hi lo = fld w (hi + k) (lo + k) := by
  refine Nat.eq_of_testBit_eq fun i => ?_
  rw [fld_testBit, fld_testBit, BitVec.getLsbD_ushiftRight, show hi + k + 1 - (lo + k) = hi + 1 - lo by omega,
    show k + (lo + i) = lo + k + i by omega]

/-- A word at no offset from nominal is the nominal word (R156, R169). -/
theorem wordOfPpt_zero (r : Fin 6) : wordOfPpt r 0 = nominalWord r := by
  simp only [wordOfPpt, roundDiv]
  rw [if_pos (by positivity)]
  omega

namespace Dev

/-! ### KS_SET_RATE -/

/-- The frequency that the nominal word of a new family is loaded with, in ppt (log 72). -/
def ratePpt (d : Dev) : Int :=
  match d.ks.state with
  | .steer => (d.reg Reg.CLK_DCO_ADJ).toInt
  | .holdover | .expired => d.ks.holdFreq
  | .free | .acquire | .track => 0

theorem setRate_same {d : Dev} {r : Fin 6} (h : rateIs441 r = rateIs441 d.ks.rate) :
    d.setRate r = { d with ks := { d.ks with rate := r } } := by
  simp [setRate, h, modKs]

theorem setRate_change {d : Dev} {r : Fin 6} (h : rateIs441 r ≠ rateIs441 d.ks.rate) : ∃ w, (d.setRate r).ks =
    { d.ks with rate := r, baseWord := wordOfPpt r d.ratePpt, line := none, integrator := 0,
                rateChanged := d.ks.state != .free && d.ks.state != .steer, word := w } := by
  unfold setRate
  dsimp only
  rw [if_pos (by simpa using h), retune_ks]
  exact ⟨_, rfl⟩

theorem setRate_rate (d : Dev) (r : Fin 6) : (d.setRate r).ks.rate = r := by
  by_cases h : rateIs441 r = rateIs441 d.ks.rate
  · rw [setRate_same h]
  · obtain ⟨w, hks⟩ := setRate_change h
    rw [hks]

/-! ### KS_SET_TABLE -/

/-- Words stored in the first registers of the staged table. -/
def storeTable (d : Dev) (f : Nat → Word) (n : Nat) : Dev :=
  (List.range n).foldl (fun (d : Dev) k => d.setReg (Reg.CLK_REF_0 + 4 * k) (f k)) d

theorem storeTable_succ (d : Dev) (f : Nat → Word) (n : Nat) :
    d.storeTable f (n + 1) = (d.storeTable f n).setReg (Reg.CLK_REF_0 + 4 * n) (f n) := by
  simp [storeTable, List.range_succ]

theorem storeTable_ks (d : Dev) (f : Nat → Word) (n : Nat) : (d.storeTable f n).ks = d.ks :=
  foldl_part (part := Dev.ks) (fun _ _ e => setReg_ks e _ _) d

theorem storeTable_reg_other (d : Dev) (f : Nat → Word) {n b : Nat} (hn : n ≤ 8) (hb : b < Reg.CLK_REF_0) :
    (d.storeTable f n).reg b = d.reg b := by
  refine foldl_part (part := fun e : Dev => e.reg b) (fun k hk e => ?_) d
  have := List.mem_range.mp hk
  exact reg_setReg_other e (by simp only [Reg.CLK_REF_0]; omega) (by simp only [Reg.CLK_REF_0] at hb ⊢; omega) _

/-- Each of the registers reads the word that is stored in it. -/
theorem storeTable_reg (d : Dev) (f : Nat → Word) {k : Nat} : ∀ n ≤ 8, k < n →
    (d.storeTable f n).reg (Reg.CLK_REF_0 + 4 * k) = f k
  | n + 1, hn, hk => by
    rw [storeTable_succ, reg_setReg _ (by simp only [Reg.CLK_REF_0]; omega)]
    split
    case isTrue heq => rw [show n = k by omega]
    case isFalse hne => exact storeTable_reg d f n (by omega) (by omega)

/-- PRIO of a staged entry is in the low bits of its two bytes of the command. -/
theorem tableWord_prio (req : Request) (n : Nat) :
    fld (tableWord req n) 3 0 = req.fld (8 + 4 * (n / 2)) (16 * (n % 2) + 3) (16 * (n % 2)) := by
  simp only [tableWord, orW, List.foldl_cons, List.foldl_nil, fld_or, fld_at 0 _ (by decide : 3 < 32),
    fld_at_above (by decide : 3 < 8), fld_bitW (by decide : 4 < 32) (.inl (by decide : 3 < 4)), fld_shift, Request.fld]
  have hfit : fld (req.word (8 + 4 * (n / 2))) (16 * (n % 2) + 3) (16 * (n % 2)) < 2 ^ 4 := by
    rw [fld, show 16 * (n % 2) + 3 + 1 - 16 * (n % 2) = 4 by omega]
    exact Nat.mod_lt _ (by decide)
  rw [show 3 + 16 * (n % 2) = 16 * (n % 2) + 3 by omega, Nat.zero_add, Nat.or_zero, Nat.or_zero,
    show fld 0 3 0 = 0 from rfl, Nat.zero_or]
  exact Nat.mod_eq_of_lt hfit

/-- The clamp of a staged entry is that of its QUAL_TIME. -/
theorem clkClamp_prio {n : Nat} (hn : n < 8) (w : Word) : fld (clkClamp (Reg.CLK_REF_0 + 4 * n) w) 3 0 = fld w 3 0 := by
  rw [clkClamp, if_neg (by simp only [Reg.CLK_REF_0, Reg.CLK_LOOP]; omega),
    if_neg (by simp only [Reg.CLK_REF_0, Reg.CLK_SLOPE]; omega), if_neg (by simp only [Reg.CLK_REF_0, Reg.CLK_HOLD]; omega),
    if_neg (by simp only [Reg.CLK_REF_0, Reg.CLK_DCO_ADJ]; omega), if_pos (by simp only [Reg.CLK_REF_0]; omega)]
  exact fld_setFld_other _ _ _ _ _ _ (by decide) (.inl (by decide))

/-- Bits 0 and 2 of CLK_CTRL stored, and the commit asked for. -/
def ctrlStored (d : Dev) (b c : Bool) : Dev :=
  ((d.setRbit Reg.CLK_CTRL 0 b).setRbit Reg.CLK_CTRL 2 c).modKs fun k => { k with commitPending := true }

/-- The device whose reference table is staged and committed, with CLK_CTRL bits 0 and 2. -/
def tableSet (d : Dev) (req : Request) : Dev :=
  (d.storeTable (fun n => clkClamp (Reg.CLK_REF_0 + 4 * n) (tableWord req n)) 8).ctrlStored (req.bit 0x18 0) (req.bit 0x18 2)

theorem cmdKsSetTable_eq (src : Source) (req : Request) (d : Dev) :
    cmdKsSetTable src req d = okayKey req 0x0302 (d.tableSet req) := rfl

theorem ctrlStored_spec (d : Dev) (b c : Bool) : (d.ctrlStored b c).ks = { d.ks with commitPending := true } ∧
    (d.ctrlStored b c).rbit Reg.CLK_CTRL 0 = b ∧ (d.ctrlStored b c).rbit Reg.CLK_CTRL 2 = c ∧
    (d.ctrlStored b c).rbit Reg.CLK_CTRL 1 = d.rbit Reg.CLK_CTRL 1 ∧
    ∀ a, Reg.CLK_CTRL / 4 ≠ a / 4 → (d.ctrlStored b c).reg a = d.reg a := by
  have hreg (a : Nat) : (d.ctrlStored b c).reg a = ((d.setRbit Reg.CLK_CTRL 0 b).setRbit Reg.CLK_CTRL 2 c).reg a :=
    reg_congr rfl a
  have hbit (i : Nat) : (d.ctrlStored b c).rbit Reg.CLK_CTRL i =
      ((d.setRbit Reg.CLK_CTRL 0 b).setRbit Reg.CLK_CTRL 2 c).rbit Reg.CLK_CTRL i := congrArg (·.getLsbD i) (hreg _)
  refine ⟨rfl, ?revertive, ?follow, ?steer, fun a ha => ?other⟩
  case revertive =>
    rw [hbit, rbit_setRbit_other _ (by decide) (by decide) (by decide), rbit_setRbit_same _ (by decide) (by decide)]
  case follow => rw [hbit, rbit_setRbit_same _ (by decide) (by decide)]
  case steer =>
    rw [hbit, rbit_setRbit_other _ (by decide) (by decide) (by decide),
      rbit_setRbit_other _ (by decide) (by decide) (by decide)]
  case other => rw [hreg, reg_setRbit_other _ (by decide) ha, reg_setRbit_other _ (by decide) ha]

theorem tableSet_spec (d : Dev) (req : Request) : (d.tableSet req).ks = { d.ks with commitPending := true } ∧
    (d.tableSet req).rbit Reg.CLK_CTRL 0 = req.bit 0x18 0 ∧ (d.tableSet req).rbit Reg.CLK_CTRL 2 = req.bit 0x18 2 ∧
    (d.tableSet req).rbit Reg.CLK_CTRL 1 = d.rbit Reg.CLK_CTRL 1 ∧ ∀ n < 8,
      (d.tableSet req).rfld (Reg.CLK_REF_0 + 4 * n) 3 0 = req.fld (8 + 4 * (n / 2)) (16 * (n % 2) + 3) (16 * (n % 2)) := by
  obtain ⟨hks, h0, h2, h1, hreg⟩ := ctrlStored_spec
    (d.storeTable (fun n => clkClamp (Reg.CLK_REF_0 + 4 * n) (tableWord req n)) 8) (req.bit 0x18 0) (req.bit 0x18 2)
  rw [storeTable_ks] at hks
  refine ⟨hks, h0, h2, h1.trans (congrArg (·.getLsbD 1) (storeTable_reg_other d _ le_rfl (by decide))), fun n hn => ?_⟩
  rw [rfld, tableSet, hreg _ (by simp only [Reg.CLK_CTRL, Reg.CLK_REF_0]; omega), storeTable_reg d _ 8 le_rfl hn,
    clkClamp_prio hn, tableWord_prio]

/-! ### KS_SET_LOOP -/

/-- A ranged word of the CLK block as a command stores it (R11). -/
def loopPut (d : Dev) (req : Request) (a off : Nat) : Dev :=
  let w := req.word off &&& (regInfo a).elim 0 (·.rw)
  (d.setReg a (clkClamp a w)).clkWritten a w

/-- The device whose loop words are stored. -/
def loopSet (d : Dev) (req : Request) : Dev :=
  ((d.loopPut req Reg.CLK_LOOP 8).loopPut req Reg.CLK_SLOPE 0x0C).loopPut req Reg.CLK_HOLD 0x10

theorem cmdKsSetLoop_eq (src : Source) (req : Request) (d : Dev) :
    cmdKsSetLoop src req d = okayKey req 0x0303 (d.loopSet req) := rfl

/-- What follows the write of a word of the loop is Keystone's alone. -/
theorem loopPut_reg (d : Dev) (req : Request) {a : Nat} (ha : a = Reg.CLK_LOOP ∨ a = Reg.CLK_SLOPE ∨ a = Reg.CLK_HOLD)
    (off b : Nat) : (d.loopPut req a off).reg b =
      if a / 4 = b / 4 then clkClamp a (req.word off &&& (regInfo a).elim 0 (·.rw)) else d.reg b := by
  have hwritten (e : Dev) (w : Word) : (e.clkWritten a w).reg b = e.reg b := by
    rcases ha with rfl | rfl | rfl
    · simp +decide only [clkWritten, if_false, false_and, true_and]
      split <;> rfl
    · rfl
    · rfl
  rw [loopPut, hwritten, reg_setReg _ (by rcases ha with rfl | rfl | rfl <;> decide)]

theorem loopSet_spec (d : Dev) (req : Request) : (d.loopSet req).rfld Reg.CLK_LOOP 8 0 = clampN 50 500 (req.fld 8 8 0) ∧
    (d.loopSet req).rfld Reg.CLK_LOOP 23 16 = clampN 5 200 (req.fld 8 23 16) ∧
    (d.loopSet req).rfld Reg.CLK_SLOPE 16 0 = clampN 100 100000 (req.fld 0x0C 16 0) ∧
    (d.loopSet req).rfld Reg.CLK_HOLD 11 0 = clampN 1 3600 (req.fld 0x10 11 0) := by
  have hreg (b : Nat) : (d.loopSet req).reg b = _ := loopPut_reg _ req (.inr (.inr rfl)) 0x10 b
  have hloop : (d.loopSet req).reg Reg.CLK_LOOP = clkClamp Reg.CLK_LOOP (req.word 8 &&& 0xFF01FF) := by
    rw [hreg, if_neg (by decide), loopPut_reg _ req (.inr (.inl rfl)), if_neg (by decide), loopPut_reg _ req (.inl rfl),
      if_pos rfl]
    rfl
  have hslope : (d.loopSet req).reg Reg.CLK_SLOPE = clkClamp Reg.CLK_SLOPE (req.word 0x0C &&& 0x1FFFF) := by
    rw [hreg, if_neg (by decide), loopPut_reg _ req (.inr (.inl rfl)), if_pos rfl]
    rfl
  have hhold : (d.loopSet req).reg Reg.CLK_HOLD = clkClamp Reg.CLK_HOLD (req.word 0x10 &&& 0xFFF) := by
    rw [hreg, if_pos rfl]
    rfl
  have hfits {lo hi n : Nat} (v : Nat) (h : lo ≤ hi) (hn : hi < 2 ^ n) : clampN lo hi v % 2 ^ n = clampN lo hi v :=
    Nat.mod_eq_of_lt ((clampN_le h v).trans_lt hn)
  refine ⟨?acq, ?trk, ?slope, ?limit⟩
  case acq =>
    rw [rfld, hloop, clkClamp, if_pos rfl, fld_setFld_other _ _ _ _ _ _ (by decide) (.inl (by decide)),
      fld_setFld _ _ _ _ (by decide), hfits _ (by decide) (by decide), fld_and_mask (by decide), Request.fld]
  case trk =>
    rw [rfld, hloop, clkClamp, if_pos rfl, fld_setFld _ _ _ _ (by decide), hfits _ (by decide) (by decide),
      fld_and_mask (by decide), Request.fld]
  case slope =>
    rw [rfld, hslope, clkClamp, if_neg (by decide), if_pos rfl, fld_setFld _ _ _ _ (by decide),
      hfits _ (by decide) (by decide), fld_and_mask (by decide), Request.fld]
  case limit =>
    rw [rfld, hhold, clkClamp, if_neg (by decide), if_neg (by decide), if_pos rfl, fld_setFld _ _ _ _ (by decide),
      hfits _ (by decide) (by decide), fld_and_mask (by decide), Request.fld]

/-! ### KS_STEER -/

/-- The device whose adjustment is stored, and followed in STEER. -/
def steerSet (d : Dev) (w : Word) : Dev := (d.setReg Reg.CLK_DCO_ADJ w).steerAdjust

theorem steerSet_spec (d : Dev) (w : Word) : (d.steerSet w).reg Reg.CLK_DCO_ADJ = w ∧
    (d.steerSet w).ks.baseWord = if d.ks.state = .steer then wordOfPpt d.ks.rate w.toInt else d.ks.baseWord := by
  have hreg : (d.setReg Reg.CLK_DCO_ADJ w).reg Reg.CLK_DCO_ADJ = w := reg_setReg_same _ (by decide) w
  unfold steerSet steerAdjust
  rw [hreg, setReg_ks]
  split
  case isTrue hsteer =>
    refine ⟨(retune_reg_other _ (by decide)).trans hreg, ?_⟩
    rw [retune_ks]
    rfl
  case isFalse hsteer => exact ⟨hreg, rfl⟩

end Dev

/-- Settles O39: the run of each command, and what its effect leaves of Keystone and of the words it stores. -/
theorem clockCommands : Obligations.ClockCommands := by
  unfold Obligations.ClockCommands
  refine ⟨fun src req s h => ?status, fun src req r s h hrate hstreams htdm hp => ?rate, fun src req s h hp => ?table,
    fun src req s h hp => ?loop, fun src req s h => ?step, fun src req s h => ?steer⟩
  case status => exact ⟨_, serve_okay (exec_ksStatus src req s) h rfl rfl (by decide), rfl, rfl, rfl, rfl⟩
  case rate =>
    have hrun : cmdKsSetRate src req s.dev = okayKey req 0x0301 (s.dev.setRate r) := by
      unfold cmdKsSetRate
      rw [dif_pos (hrate ▸ r.isLt), if_neg (by simp [hstreams, htdm])]
      simp only [hrate]
    refine ⟨_, serve_okayKey (exec_ksSetRate src req s) h rfl hrun hp (by decide), s.dev.setRate_rate r, Dev.setRate_same,
      fun hchange => ?_⟩
    obtain ⟨w, hks⟩ := Dev.setRate_change hchange
    rw [hks]
    refine ⟨rfl, rfl, by simp, ?_⟩
    unfold Dev.ratePpt
    dsimp only
    cases s.dev.ks.state with
    | free | acquire | track => exact wordOfPpt_zero r
    | steer | holdover | expired => rfl
  case table => exact ⟨_, serve_okayKey (exec_ksSetTable src req s) h rfl (Dev.cmdKsSetTable_eq src req s.dev) hp (by decide),
      s.dev.tableSet_spec req⟩
  case loop => exact ⟨_, serve_okayKey (exec_ksSetLoop src req s) h rfl (Dev.cmdKsSetLoop_eq src req s.dev) hp (by decide),
      s.dev.loopSet_spec req⟩
  case step => exact serve_okay (exec_ksPhaseStep src req s) h rfl rfl (by decide)
  case steer =>
    intro adj
    obtain ⟨hlo, hhi⟩ := clampI_bounds (lo := -500000000) (hi := 500000000) (by decide) (req.word 0x0C).toInt
    obtain ⟨hreg, hbase⟩ := s.dev.steerSet_spec (i32 adj)
    rw [toInt_i32 (by omega) (by omega)] at hbase
    refine ⟨(s.dev.steerSet (i32 adj)).setRbit Reg.CLK_CTRL 1 (req.bit 8 0),
      serve_okay (exec_ksSteer src req s) h rfl rfl (by decide), ?_, ?_, hbase⟩
    · rw [Dev.reg_setRbit_other _ (by decide) (by decide), hreg]
    · exact Dev.rbit_setRbit_same _ (by decide) (by decide) _

end Sys2Proof.Machine
end

section
/-!
# A scheduled stop of a CRF stream, in the cc of a tick

A row that may end TIME_VALID first lets the scheduler's entries of its cc act (R387). One of these may stop a CRF stream,
and the stop is a loss of the entry that the stream feeds (Table 6.1): the table of entries changes under the row.
-/
namespace Sys2Proof.Machine

/-- What a row is said to do holds of the device that its effect leaves. -/
theorem State.Does.effect {s : State} {i : Instr} {f : Dev → Dev} {P : Dev → Prop} (hi : exec i s = s.act f) (h : s.Does i P) :
    P (f s.dev) := by
  obtain ⟨d, hexec, hd⟩ := h
  rw [hi, State.act_eq] at hexec
  have heffect : f s.dev = d := congrArg State.dev (Host.Outcome.next.inj hexec)
  rwa [heffect]

/-- A CRF listener of slot A that has started: it waits, as a CRF stream does while it feeds Keystone (R211). -/
def crfListener : Listener :=
  { resetListener with
    setup := some { port := 0, crf := true, slotB := false, autostart := false, streamId := 1, dest := 0, channels := 0,
                    format := 0, mttUs := 2000, rideMs := 0 }
    state := .waiting }

/-- An entry that waits to stop listener 0 at local media time 0. -/
def stopEntry : SchedEntry := { SchedEntry.reset with state := .armed, action := 6 }

/-- A device in ACTIVE, in FREE with TIME_VALID set, whose CRF listener is to be stopped now. -/
def crfStopDue : State :=
  { dev := { Dev.initial with
      power.state := .active, ks.timeValid := true, sched := Dev.initial.sched.set 0 stopEntry,
      streams.listeners := Dev.initial.streams.listeners.set 0 crfListener },
    ram := [], pending := [] }

/-- The same device tracking entry 3, which the CRF listener feeds; no other entry but 7 is enabled. -/
def crfTracked : State :=
  { crfStopDue with dev := { crfStopDue.dev with
      ks.state := .track, ks.selected := 3,
      ks.refs := upd crfStopDue.dev.ks.refs 3 fun e => { e with enable := true, qualified := true } } }

theorem crfStopDue_lapse :
    ((crfStopDue.dev.runs (·.withTime Dev.timeValidLapse)).ks.refs[(3 : Fin 8)]).lost = true := by decide +kernel

/-- Refutes O36 at its clause of TIME_VALID_LAPSE, which says that nothing of Keystone changes but TIME_VALID: the scheduled
stop of the same cc acts first, and entry 3 is then recorded as lost. -/
theorem not_keystoneEvents : ¬ Obligations.KeystoneEvents := by
  unfold Obligations.KeystoneEvents
  rintro ⟨-, -, -, -, -, -, -, hlapse, -⟩
  have hks := (hlapse crfStopDue (.inr rfl) rfl).effect (exec_timeValidLapse crfStopDue)
  have hlost := crfStopDue_lapse
  rw [hks] at hlost
  exact Bool.false_ne_true hlost

/-- What the ms before the tick and the scheduled stop leave of the device that tracks entry 3. -/
def crfTrackedLater : Dev := (crfTracked.dev.ksElapse.moved crfTracked.dev.ks.remain).schedAll

theorem crfTrackedLater_selects : crfTrackedLater.selectRef crfTrackedLater.namedEntry = some 3 := by decide +kernel

theorem crfTracked_tick :
    (crfTracked.dev.runs (·.keystoneTick ⟨0, []⟩)).ks.state = .holdover := by decide +kernel

theorem crfTracked_noLoss : ∀ n : Fin 8, crfTracked.dev.ks.refs[n].lost = false ∧
    (crfTracked.dev.ks.refs[n].enable = false → crfTracked.dev.ks.refs[n].qualified = false) := by decide +kernel

/-- Refutes O38 at its clause of a tick with no loss waiting: no loss waits before the cc of the tick, but the scheduled
stop of that cc is one. It leaves entry 3 qualified until the tick acts on it, so `selectRef` still answers entry 3 on the
device that the statement names, and the tick enters HOLDOVER. -/
theorem not_keystoneSelection : ¬ Obligations.KeystoneSelection := by
  unfold Obligations.KeystoneSelection
  rintro ⟨-, -, htick, -⟩
  have hsteer : crfTracked.dev.rbit Reg.CLK_CTRL 1 = false := by decide +kernel
  have hruns : crfTracked.dev.Runs := .inr rfl
  have hcommit : crfTracked.dev.ks.commitPending = false := rfl
  have hdoes := htick ⟨0, []⟩ crfTracked hruns hsteer hcommit crfTracked_noLoss
  rw [← crfTrackedLater] at hdoes
  dsimp only at hdoes
  rw [crfTrackedLater_selects] at hdoes
  have hstate := hdoes.effect (exec_ksTick ⟨0, []⟩ crfTracked)
  obtain ⟨-, hholdover, -⟩ := hstate
  exact hholdover crfTracked_tick

end Sys2Proof.Machine
end

section
/-!
# The operations of the Ethernet ports

What each shared operation of chapter 7 makes of the ports, as an update of one entry of their table, and what it leaves
of the ports' register words.
-/
namespace Sys2Proof.Machine

/-- Updates of an entry that agree on what it holds. -/
theorem upd_congr {α : Type} {n : Nat} {v : Vector α n} {i : Fin n} {f g : α → α} (h : f v[i] = g v[i]) :
    upd v i f = upd v i g := by rw [upd, upd, h]

/-- Two updates of one entry. -/
theorem upd_upd {α : Type} {n : Nat} (v : Vector α n) (i : Fin n) (f g : α → α) :
    upd (upd v i f) i g = upd v i fun x => g (f x) := by
  refine Vector.ext fun j hj => ?_
  simp [upd]

/-- An update that leaves what the entry holds. -/
theorem upd_same_eq {α : Type} {n : Nat} (v : Vector α n) (i : Fin n) {f : α → α} (h : f v[i] = v[i]) : upd v i f = v := by
  rw [upd, h, Fin.getElem_fin, Vector.set_getElem_self]

/-! ### Counters (R205) -/

namespace PortTraffic

/-- A port's traffic with `n` more in one counter. -/
def counted (t : PortTraffic) (k : Fin 40) (n : Nat) : PortTraffic :=
  { t with counters := t.counters.set k ((t.counters[k] + n) % 2 ^ 32) }

variable (t : PortTraffic) (k j : Fin 40) (n : Nat)

theorem counted_counter : (t.counted k n).counters[j] = if k = j then (t.counters[k] + n) % 2 ^ 32 else t.counters[j] := by
  simp only [counted, Fin.getElem_fin, Vector.getElem_set, Fin.ext_iff]

theorem counted_counter_same : (t.counted k n).counters[k] = (t.counters[k] + n) % 2 ^ 32 := by
  rw [counted_counter, if_pos rfl]

theorem counted_counter_other {k j : Fin 40} (h : k ≠ j) : (t.counted k n).counters[j] = t.counters[j] := by
  rw [counted_counter, if_neg h]

@[simp] theorem counted_queues : (t.counted k n).queues = t.queues := rfl
@[simp] theorem counted_onWire : (t.counted k n).onWire = t.onWire := rfl

/-- The traffic once frames discarded at a departure from UP are counted (R196). -/
def discarding (t : PortTraffic) (fs : List TxFrame) : PortTraffic :=
  fs.foldl (fun t f => t.counted (Dev.discardCounter f.queue) 1) t

/-- Discarded frames are counted, and nothing else of the traffic changes. -/
theorem discarding_eq (fs : List TxFrame) : t.discarding fs = { t with counters := (t.discarding fs).counters } := by
  induction fs generalizing t with
  | nil => rfl
  | cons f fs ih => exact (ih _).trans rfl

/-- Only the three counters of R196 count a discarded frame. -/
theorem discarding_counter {k : Fin 40} (h26 : k ≠ 26) (h27 : k ≠ 27) (h31 : k ≠ 31) (fs : List TxFrame) :
    (t.discarding fs).counters[k] = t.counters[k] := by
  induction fs generalizing t with
  | nil => rfl
  | cons f fs ih =>
    refine (ih _).trans (counted_counter_other t 1 ?_)
    cases f.queue
    · exact h31.symm
    · exact h26.symm
    · exact h26.symm
    · exact h27.symm

@[simp] theorem discarding_queues (fs : List TxFrame) : (t.discarding fs).queues = t.queues := by rw [discarding_eq]
@[simp] theorem discarding_onWire (fs : List TxFrame) : (t.discarding fs).onWire = t.onWire := by rw [discarding_eq]

/-- The best-effort frames alone are held (R196). -/
def holdingBest (t : PortTraffic) : PortTraffic := { t with
  queues := Vector.ofFn fun q => if q = 3 then t.queues[q] else [], holding := !t.queues[(3 : Fin 4)].isEmpty }

/-- The traffic of a port that has left UP (R196). -/
def departed (t : PortTraffic) : PortTraffic :=
  (t.discarding (t.queues[(0 : Fin 4)] ++ t.queues[(1 : Fin 4)] ++ t.queues[(2 : Fin 4)])).holdingBest

theorem departed_counter {k : Fin 40} (h26 : k ≠ 26) (h27 : k ≠ 27) (h31 : k ≠ 31) :
    t.departed.counters[k] = t.counters[k] := discarding_counter t h26 h27 h31 _

@[simp] theorem departed_onWire : t.departed.onWire = t.onWire := discarding_onWire t _

theorem departed_queue (q : Fin 4) : t.departed.queues[q] = if q = 3 then t.queues[q] else [] := by
  simp [departed, holdingBest]

@[simp] theorem departed_holding : t.departed.holding = !t.queues[(3 : Fin 4)].isEmpty := by
  simp [departed, holdingBest]

/-- The traffic of a port whose queues are flushed (R203). -/
def flushed (t : PortTraffic) : PortTraffic :=
  { t.counted 39 (t.queues[(0 : Fin 4)] ++ t.queues[(1 : Fin 4)] ++ t.queues[(2 : Fin 4)] ++ t.queues[(3 : Fin 4)]).length with
    queues := Vector.replicate 4 [], holding := false }

theorem flushed_queue (q : Fin 4) : t.flushed.queues[q] = [] := by simp [flushed]

/-- No frame is left for the departure of a port whose queues are flushed. -/
theorem flushed_departed_queue (q : Fin 4) : t.flushed.departed.queues[q] = [] := by
  rw [departed_queue, flushed_queue, ite_self]

end PortTraffic

namespace PortLink

/-- The link of a port that enters a state at a cycle. -/
def entering (l : PortLink) (s : LinkState) (now : Nat) : PortLink :=
  if l.state = s then l else
    { l with state := s, since := now, quietWindows := 0, phyUp := l.phyUp && s != .down && s != .training }

variable (l : PortLink) (s : LinkState) (now : Nat)

@[simp] theorem entering_state : (l.entering s now).state = s := by
  unfold entering
  split
  case isTrue h => exact h
  case isFalse => rfl

/-- Entering a state changes the state, its time, the windows counted in it and what the last poll stands for. -/
theorem entering_eq : l.entering s now = { l with
    state := s, since := (l.entering s now).since, quietWindows := (l.entering s now).quietWindows,
    phyUp := (l.entering s now).phyUp } := by
  unfold entering
  split
  case isTrue h => rw [← h]
  case isFalse => rfl

@[simp] theorem entering_speed : (l.entering s now).speed = l.speed := by rw [entering_eq]
@[simp] theorem entering_locked : (l.entering s now).locked = l.locked := by rw [entering_eq]
@[simp] theorem entering_phase : (l.entering s now).phase = l.phase := by rw [entering_eq]
@[simp] theorem entering_sample : (l.entering s now).sample = l.sample := by rw [entering_eq]
@[simp] theorem entering_reg1 : (l.entering s now).reg1 = l.reg1 := by rw [entering_eq]
@[simp] theorem entering_disabling : (l.entering s now).disabling = l.disabling := by rw [entering_eq]
@[simp] theorem entering_util : (l.entering s now).util = l.util := by rw [entering_eq]
@[simp] theorem entering_rxLatency : (l.entering s now).rxLatency = l.rxLatency := by rw [entering_eq]
@[simp] theorem entering_txLatency : (l.entering s now).txLatency = l.txLatency := by rw [entering_eq]

end PortLink

namespace Dev

/-! ### The table of ports -/

variable (d : Dev) (p : Fin 3)

@[simp] theorem ethFlag_eth (i : Nat) : (d.ethFlag p i).eth = d.eth := rfl

@[simp] theorem countBy_eth (k : Fin 40) (n : Nat) :
    (d.countBy p k n).eth = upd d.eth p fun e => { e with traffic := e.traffic.counted k n } := by
  rw [countBy, halfFlag, raiseIf_eth, modTraffic_eth]
  exact upd_congr rfl

@[simp] theorem count_eth (k : Fin 40) :
    (d.count p k).eth = upd d.eth p fun e => { e with traffic := e.traffic.counted k 1 } := countBy_eth d p k 1

@[simp] theorem linkEvent_eth (old : LinkState) (planned : Bool) : (d.linkEvent p old planned).eth = d.eth := push_eth ..

@[simp] theorem easeEvent_eth (up : Bool) (result : Nat) : (d.easeEvent p up result).eth = d.eth := push_eth ..

@[simp] theorem linkEnter_eth (s : LinkState) (planned : Bool) :
    (d.linkEnter p s planned).eth = upd d.eth p fun e => { e with link := e.link.entering s d.cc } := by
  unfold linkEnter
  dsimp only
  split
  case isTrue h => exact (upd_same_eq d.eth p (by rw [PortLink.entering, if_pos h])).symm
  case isFalse h =>
    rw [linkEvent_eth, modLink_eth]
    exact upd_congr (by rw [PortLink.entering, if_neg h])

@[simp] theorem enterTraining_eth : (d.enterTraining p).eth = upd d.eth p fun e => { e with
    link := { e.link.entering .training d.cc with runScript := some .start, maxSpeed := d.speedBound p } } := by
  rw [enterTraining, modLink_eth, linkEnter_eth, upd_upd]

@[simp] theorem talkerDiscard_eth (t : Option (Fin 8)) : (d.talkerDiscard t).eth = d.eth := by
  fun_cases talkerDiscard d t <;> rfl

@[simp] theorem discardQueue_eth (fs : List TxFrame) :
    (d.discardQueue p fs).eth = upd d.eth p fun e => { e with traffic := e.traffic.discarding fs } := by
  unfold discardQueue
  induction fs generalizing d with
  | nil => exact (upd_same_eq d.eth p rfl).symm
  | cons f fs ih =>
    rw [List.foldl_cons, ih, talkerDiscard_eth, count_eth, upd_upd]
    rfl

@[simp] theorem gptpEvent_eth : (d.gptpEvent p).eth = d.eth := push_eth ..

@[simp] theorem gptpSet_eth (role : GptpRole) (cap : Bool) : (d.gptpSet p role cap).eth = d.eth := by
  unfold gptpSet
  dsimp only
  split
  · rfl
  · split <;> simp [refLose]

@[simp] theorem gptpReset_eth : (d.gptpReset p).eth = d.eth := by simp [gptpReset, refLose]

@[simp] theorem departUp_eth : (d.departUp p).eth = upd d.eth p fun e => { e with traffic := e.traffic.departed } := by
  rw [departUp, modTraffic_eth, discardQueue_eth, gptpReset_eth, upd_upd]
  rfl

@[simp] theorem flushQueues_eth : (d.flushQueues p).eth = upd d.eth p fun e => { e with traffic := e.traffic.flushed } := by
  rw [flushQueues, modTraffic_eth, countBy_eth, upd_upd]
  exact upd_congr rfl

end Dev
end Sys2Proof.Machine
end

section
/-!
# The register words of the ports under their operations

The operations of a port set flags and nothing else of the ports' words.
-/
namespace Sys2Proof.Machine
namespace Dev

/-- From `d` to `e` no control word of a port changes, and no flag that is set is cleared. -/
structure SetsFlags (d e : Dev) : Prop where
  ctrl : ∀ p : Fin 3, e.reg (ethReg p Reg.ETH0_CTRL) = d.reg (ethReg p Reg.ETH0_CTRL)
  flag : ∀ a i, d.rbit a i = true → e.rbit a i = true

theorem SetsFlags.of_regs {d e : Dev} (h : e.regs = d.regs) : SetsFlags d e where
  ctrl _ := reg_congr h _
  flag a i hset := by rwa [rbit, reg_congr h a]

theorem SetsFlags.refl (d : Dev) : SetsFlags d d := .of_regs rfl

theorem SetsFlags.trans {d e f : Dev} (hde : SetsFlags d e) (hef : SetsFlags e f) : SetsFlags d f where
  ctrl p := (hef.ctrl p).trans (hde.ctrl p)
  flag a i hset := hef.flag a i (hde.flag a i hset)

section
variable {d e : Dev} (h : SetsFlags d e) (p : Fin 3)
include h

theorem SetsFlags.ctrl_bit (i : Nat) : e.rbit (ethReg p Reg.ETH0_CTRL) i = d.rbit (ethReg p Reg.ETH0_CTRL) i :=
  congrArg (·.getLsbD i) (h.ctrl p)

theorem SetsFlags.ctrl_field (hi lo : Nat) : e.rfld (ethReg p Reg.ETH0_CTRL) hi lo = d.rfld (ethReg p Reg.ETH0_CTRL) hi lo :=
  congrArg (fld · hi lo) (h.ctrl p)

theorem SetsFlags.speedBound (hsup : e.sup = d.sup) : e.speedBound p = d.speedBound p := by
  rw [Dev.speedBound, Dev.speedBound, h.ctrl_field, hsup]

end

/-- A word of a port's block that is neither a control word nor outside the register file. -/
theorem ethReg_apart (p : Fin 3) {a : Nat} (ha : 0x104 ≤ a ∧ a < 0x140) : ethReg p a / 4 < 256 ∧
    ∀ q : Fin 3, ethReg p a / 4 ≠ ethReg q Reg.ETH0_CTRL / 4 := by
  have hp := p.isLt
  simp only [ethReg, Reg.ETH0_CTRL]
  exact ⟨by omega, fun q => by omega⟩

section
variable (d : Dev) (p : Fin 3)

theorem raiseIf_setsFlags (c : Bool) {a : Nat} (ha : 0x104 ≤ a ∧ a < 0x140) (i : Nat) :
    SetsFlags d (d.raiseIf c (ethReg p a) i) where
  ctrl q := reg_raiseIf_other d (ethReg_apart p ha).1 ((ethReg_apart p ha).2 q) c i
  flag _ _ hset := rbit_raiseIf_keeps d (ethReg_apart p ha).1 hset c i

theorem ethFlag_setsFlags (i : Nat) : SetsFlags d (d.ethFlag p i) := raiseIf_setsFlags d p true (by decide) i

/-- The flag is set. -/
theorem ethFlag_rbit {i : Nat} (hi : i < 32) : (d.ethFlag p i).rbit (ethReg p Reg.ETH0_IRQ_STATUS) i = true :=
  rbit_raiseBit d (ethReg_apart p (by decide)).1 hi

theorem countBy_setsFlags (k : Fin 40) (n : Nat) : SetsFlags d (d.countBy p k n) := by
  refine .trans (.of_regs (modTraffic_regs d p _)) (raiseIf_setsFlags _ p _ ?_ _)
  split <;> decide

theorem count_setsFlags (k : Fin 40) : SetsFlags d (d.count p k) := countBy_setsFlags d p k 1

theorem linkEnter_regs (s : LinkState) (planned : Bool) : (d.linkEnter p s planned).regs = d.regs := by
  unfold linkEnter
  dsimp only
  split
  · rfl
  · exact push_regs ..

theorem enterTraining_regs : (d.enterTraining p).regs = d.regs := linkEnter_regs d p .training false

theorem talkerDiscard_regs (t : Option (Fin 8)) : (d.talkerDiscard t).regs = d.regs := by
  fun_cases talkerDiscard d t <;> rfl

theorem discardQueue_setsFlags (fs : List TxFrame) : SetsFlags d (d.discardQueue p fs) := by
  unfold discardQueue
  induction fs generalizing d with
  | nil => exact .refl d
  | cons f fs ih => exact ((count_setsFlags d p _).trans (.of_regs (talkerDiscard_regs _ _))).trans (ih _)

theorem gptpSet_regs (role : GptpRole) (cap : Bool) : (d.gptpSet p role cap).regs = d.regs := by
  unfold gptpSet
  dsimp only
  split
  · rfl
  · split <;> simp [refLose, gptpEvent]

theorem gptpReset_regs : (d.gptpReset p).regs = d.regs := by simp [gptpReset, refLose, gptpSet_regs]

theorem departUp_setsFlags : SetsFlags d (d.departUp p) :=
  (SetsFlags.of_regs (gptpReset_regs d p)).trans ((discardQueue_setsFlags _ p _).trans (.of_regs rfl))

theorem flushQueues_setsFlags : SetsFlags d (d.flushQueues p) :=
  (countBy_setsFlags d p 39 _).trans (.of_regs rfl)

/-! ### The 802.1AS instance of a port that leaves UP (R195) -/

theorem gptpSet_asCapable (role : GptpRole) (cap : Bool) : (d.gptpSet p role cap).gptp[p].asCapable = cap := by
  unfold gptpSet
  dsimp only
  split
  case isTrue h => exact h.2
  case isFalse h => split <;> simp [refLose, gptpEvent, -Fin.getElem_fin]

theorem gptpReset_asCapable : (d.gptpReset p).gptp[p].asCapable = false := by
  simp [gptpReset, refLose, gptpSet_asCapable, -Fin.getElem_fin]

theorem discardQueue_gptp (fs : List TxFrame) : (d.discardQueue p fs).gptp = d.gptp := by
  refine foldl_part (part := Dev.gptp) (fun f _ d => ?_) d
  fun_cases talkerDiscard (d.count p (discardCounter f.queue)) f.talker <;> exact raiseIf_gptp ..

theorem departUp_asCapable : (d.departUp p).gptp[p].asCapable = false := by
  rw [departUp, modTraffic_gptp, discardQueue_gptp, gptpReset_asCapable]

end
end Dev
end Sys2Proof.Machine
end

section
/-!
# What moves a port through its states (R183 to R203)
-/
namespace Sys2Proof.Machine
namespace Dev

section
variable {d : Dev} {p : Fin 3}

/-! ### Link loss (R195) -/

/-- What a link loss leaves of a port that was UP in `d`. -/
def Lost (p : Fin 3) (d e : Dev) : Prop :=
  e.eth[p].link.state = .training ∧ e.eth[p].link.runScript = some .start ∧ e.eth[p].link.maxSpeed = d.speedBound p ∧
  e.rbit (ethReg p Reg.ETH0_IRQ_STATUS) 1 = true ∧ e.gptp[p].asCapable = false ∧
  e.eth[p].traffic.queues[(0 : Fin 4)] = [] ∧ e.eth[p].traffic.queues[(1 : Fin 4)] = [] ∧
  e.eth[p].traffic.queues[(2 : Fin 4)] = [] ∧ e.eth[p].traffic.onWire = d.eth[p].traffic.onWire ∧
  e.eth[p].traffic.queues[(3 : Fin 4)] = d.eth[p].traffic.queues[(3 : Fin 4)] ∧
  e.eth[p].traffic.holding = !d.eth[p].traffic.queues[(3 : Fin 4)].isEmpty ∧
  e.eth[p].traffic.counters[(32 : Fin 40)] = (d.eth[p].traffic.counters[(32 : Fin 40)] + 1) % 2 ^ 32

/-- The device as a port that was UP enters TRAINING, before its queues are dealt with. -/
theorem linkLoss_eq (hup : d.eth[p].link.state = .up) :
    d.linkLoss p = (((d.ethFlag p 1).count p 32).enterTraining p).departUp p := if_pos hup

/-- The port after a link loss: in TRAINING, with the loss counted and the frames of R196 discarded or held. -/
theorem linkLoss_port (hup : d.eth[p].link.state = .up) : ∃ now, (d.linkLoss p).eth[p] = { d.eth[p] with
    link := { d.eth[p].link.entering .training now with runScript := some .start, maxSpeed := d.speedBound p }
    traffic := (d.eth[p].traffic.counted 32 1).departed } := by
  have hmarked : SetsFlags d ((d.ethFlag p 1).count p 32) := (ethFlag_setsFlags d p 1).trans (count_setsFlags _ p 32)
  have hbound : ((d.ethFlag p 1).count p 32).speedBound p = d.speedBound p := hmarked.speedBound p (raiseIf_sup ..)
  refine ⟨((d.ethFlag p 1).count p 32).cc, ?_⟩
  simp only [linkLoss_eq hup, departUp_eth, enterTraining_eth, count_eth, ethFlag_eth, upd_upd, upd_same, hbound]

theorem linkLoss_lost (hup : d.eth[p].link.state = .up) : Lost p d (d.linkLoss p) := by
  have hset : SetsFlags (d.ethFlag p 1) (d.linkLoss p) := by
    rw [linkLoss_eq hup]
    exact ((count_setsFlags _ p 32).trans (.of_regs (enterTraining_regs _ p))).trans (departUp_setsFlags _ p)
  obtain ⟨now, hport⟩ := linkLoss_port hup
  unfold Lost
  rw [hport]
  refine ⟨PortLink.entering_state .., rfl, rfl, hset.flag _ _ (ethFlag_rbit d p (by decide)), ?_, ?_⟩
  · rw [linkLoss_eq hup, departUp_asCapable]
  · simp only [PortTraffic.departed_queue, PortTraffic.departed_onWire, PortTraffic.departed_holding,
      PortTraffic.counted_queues, PortTraffic.counted_onWire]
    refine ⟨rfl, rfl, rfl, trivial, rfl, trivial, ?_⟩
    rw [PortTraffic.departed_counter _ (by decide) (by decide) (by decide), PortTraffic.counted_counter_same]

/-! ### Link up (R194) -/

/-- What a port brought up by its PHY and its capture is left as. -/
theorem tryLinkUp_up {speed : Fin 3} (hstate : d.eth[p].link.state = .training) (hphy : d.eth[p].link.phyUp = true)
    (hlocked : d.eth[p].link.locked = true) (habsent : d.eth[p].link.phyAbsent = false)
    (hdisabling : d.eth[p].link.disabling = false) (hspeed : d.eth[p].link.phySpeed = speed)
    (hmax : speed.val ≤ d.eth[p].link.maxSpeed) :
    (d.tryLinkUp p).eth[p].link.state = .up ∧ (d.tryLinkUp p).eth[p].link.speed = speed ∧
    (d.tryLinkUp p).rbit (ethReg p Reg.ETH0_IRQ_STATUS) 0 = true := by
  unfold tryLinkUp
  subst hspeed
  simp only [hstate, hphy, hlocked, habsent, hdisabling, hmax]
  simp [-Fin.getElem_fin]
  exact ethFlag_rbit _ p (by decide)

/-- A port comes up, or stays as it is: its capture is left alone. -/
theorem tryLinkUp_capture : (d.tryLinkUp p).eth[p].link.locked = d.eth[p].link.locked ∧
    (d.tryLinkUp p).eth[p].link.phase = d.eth[p].link.phase ∧ (d.tryLinkUp p).eth[p].link.sample = d.eth[p].link.sample := by
  fun_cases tryLinkUp d p <;> simp +zetaDelta [-Fin.getElem_fin]

theorem captureLock_capture (phase : BitVec 6) : (d.captureLock p phase).eth[p].link.locked = true ∧
    (d.captureLock p phase).eth[p].link.phase = phase ∧
    (d.captureLock p phase).eth[p].link.sample = d.rfld (ethReg p Reg.ETH0_CTRL) 15 10 := by
  obtain ⟨hlocked, hphase, hsample⟩ := tryLinkUp_capture (p := p) (d := d.modLink p fun l => { l with
    locked := true, phase := phase, sample := d.rfld (ethReg p Reg.ETH0_CTRL) 15 10 })
  rw [modLink_eth, upd_same] at hlocked hphase hsample
  exact ⟨hlocked, hphase, hsample⟩

theorem captureLock_up (phase : BitVec 6) (hstate : d.eth[p].link.state = .training) (hphy : d.eth[p].link.phyUp = true)
    (habsent : d.eth[p].link.phyAbsent = false) (hdisabling : d.eth[p].link.disabling = false)
    (hmax : d.eth[p].link.phySpeed.val ≤ d.eth[p].link.maxSpeed) :
    (d.captureLock p phase).eth[p].link.state = .up ∧
    (d.captureLock p phase).eth[p].link.speed = d.eth[p].link.phySpeed := by
  obtain ⟨hup, hspeed, -⟩ := tryLinkUp_up (p := p) (speed := d.eth[p].link.phySpeed) (d := d.modLink p fun l => { l with
    locked := true, phase := phase, sample := d.rfld (ethReg p Reg.ETH0_CTRL) 15 10 })
    (by rwa [modLink_eth, upd_same]) (by rwa [modLink_eth, upd_same]) (by rw [modLink_eth, upd_same])
    (by rwa [modLink_eth, upd_same]) (by rwa [modLink_eth, upd_same]) (by rw [modLink_eth, upd_same])
    (by rwa [modLink_eth, upd_same])
  exact ⟨hup, hspeed⟩

/-- The device whose capture on a port has just been lost. -/
def captureLost (d : Dev) (p : Fin 3) : Dev := ((d.modLink p fun l => { l with locked := false }).ethFlag p 6).count p 36

theorem captureUnlock_eq (b : Bool) (h : d.eth[p].link.locked = true) :
    d.captureUnlock p b = if b then (d.captureLost p).count p 12 else d.captureLost p := if_pos h

theorem captureLost_port : (d.captureLost p).eth[p] = { d.eth[p] with
    link := { d.eth[p].link with locked := false }, traffic := d.eth[p].traffic.counted 36 1 } := by
  simp [captureLost, -Fin.getElem_fin]

theorem captureLost_flag : (d.captureLost p).rbit (ethReg p Reg.ETH0_IRQ_STATUS) 6 = true :=
  (count_setsFlags _ p 36).flag _ _ (ethFlag_rbit _ p (by decide))

theorem captureUnlock_spec (b : Bool) (h : d.eth[p].link.locked = true) :
    (d.captureUnlock p b).eth[p].link = { d.eth[p].link with locked := false } ∧
    (d.captureUnlock p b).rbit (ethReg p Reg.ETH0_IRQ_STATUS) 6 = true ∧
    (d.captureUnlock p b).eth[p].traffic.counters[(36 : Fin 40)] = (d.eth[p].traffic.counters[(36 : Fin 40)] + 1) % 2 ^ 32 ∧
    (d.captureUnlock p b).eth[p].traffic.counters[(12 : Fin 40)] = if b then (d.eth[p].traffic.counters[(12 : Fin 40)] + 1) % 2 ^ 32
      else d.eth[p].traffic.counters[(12 : Fin 40)] := by
  rw [captureUnlock_eq b h]
  cases b with
  | false =>
    rw [if_neg Bool.false_ne_true, captureLost_port]
    exact ⟨rfl, captureLost_flag, PortTraffic.counted_counter_same .., PortTraffic.counted_counter_other _ _ (by decide)⟩
  | true =>
    rw [if_pos rfl, count_eth, upd_same, captureLost_port]
    refine ⟨rfl, (count_setsFlags _ p 12).flag _ _ captureLost_flag, ?_, ?_⟩
    · rw [PortTraffic.counted_counter_other _ _ (by decide), PortTraffic.counted_counter_same]
    · rw [PortTraffic.counted_counter_same, PortTraffic.counted_counter_other _ _ (by decide), if_pos rfl]

/-! ### A poll of the PHY (R192) -/

/-- The link as a poll of the PHY leaves it. -/
def polledLink (r : PhyReading) (l : PortLink) : PortLink :=
  let gone := r.reg1 == 0xFFFF
  let polls := if gone then min 3 (l.absentPolls + 1) else 0
  { l with reg1 := r.reg1, reg0 := r.reg0, absentPolls := polls, phyAbsent := decide (polls ≥ 3),
           phyUp := r.reg1.getLsbD 2 && (phyMode r).2 && !gone, phySpeed := (phyMode r).1,
           halfDuplex := r.reg1.getLsbD 2 && !(phyMode r).2 && !gone }

/-- What a poll of a PHY that answers with link leaves. -/
theorem polledLink_linked {r : PhyReading} (hstatus : r.reg1.getLsbD 2 = true) (hthere : r.reg1 ≠ 0xFFFF) (l : PortLink) :
    polledLink r l = { l with reg1 := r.reg1, reg0 := r.reg0, absentPolls := 0, phyAbsent := false, phyUp := (phyMode r).2,
                              phySpeed := (phyMode r).1, halfDuplex := !(phyMode r).2 } := by
  have hgone : (r.reg1 == 0xFFFF) = false := beq_false_of_ne hthere
  simp only [polledLink, hgone, hstatus, Bool.false_eq_true, if_false, Bool.true_and, Bool.not_false, Bool.and_true]
  rfl

/-- A poll stores what the PHY shows, and then tries to bring the port up, or is a link loss. -/
theorem phyPoll_eq (r : PhyReading) (henabled : d.ethEnabled p = true) : ∃ e : Dev,
    e.eth = upd d.eth p (fun x => { x with link := polledLink r x.link }) ∧ SetsFlags d e ∧ e.sup = d.sup ∧
    ((polledLink r d.eth[p].link).halfDuplex = true → d.eth[p].link.state = .training →
      e.rbit (ethReg p Reg.ETH0_IRQ_STATUS) 9 = true) ∧
    d.phyPoll p r = if r.reg1.getLsbD 2 then e.tryLinkUp p else e.linkLoss p := by
  unfold phyPoll
  rw [if_neg (by simp [henabled])]
  extract_lets l gone polls absent status
  rcases hmode : phyMode r with ⟨speed, full⟩
  dsimp -zeta only
  extract_lets half linked _remote driven flagged told
  have hlinked : linked.eth = upd d.eth p fun x => { x with link := polledLink r x.link } := by
    refine (modLink_eth ..).trans (upd_congr ?_)
    simp only [polledLink, hmode]
    rfl
  have hhalf : (polledLink r d.eth[p].link).halfDuplex = half := by
    simp only [polledLink, hmode]
    rfl
  have hset : SetsFlags d flagged := by
    refine SetsFlags.trans (e := driven) (.of_regs rfl) ?_
    simp only [flagged]
    split
    · exact ethFlag_setsFlags ..
    · exact .refl _
  have htold : told.regs = flagged.regs ∧ told.eth = linked.eth ∧ told.sup = d.sup := by
    simp only [told, flagged]
    split_ifs
    · exact ⟨push_regs .., push_eth .., push_sup ..⟩
    · exact ⟨push_regs .., push_eth .., push_sup ..⟩
    · exact ⟨rfl, rfl, rfl⟩
    · exact ⟨rfl, rfl, rfl⟩
  obtain ⟨hregs, heth, hsup⟩ := htold
  refine ⟨told, heth.trans hlinked, hset.trans (.of_regs hregs), hsup, fun hduplex htraining => ?_, rfl⟩
  have hflagged : flagged = driven.ethFlag p 9 := if_pos ⟨hhalf ▸ hduplex, htraining⟩
  refine (SetsFlags.of_regs hregs).flag _ _ ?_
  rw [hflagged]
  exact ethFlag_rbit driven p (by decide)

theorem lost_congr {e x : Dev} (htraffic : e.eth[p].traffic = d.eth[p].traffic) (hbound : e.speedBound p = d.speedBound p)
    (h : Lost p e x) : Lost p d x := by
  unfold Lost at *
  rwa [htraffic, hbound] at h

/-- A poll with link status 0 is a link loss of a port in UP. -/
theorem phyPoll_lost {r : PhyReading} (henabled : d.ethEnabled p = true) (hup : d.eth[p].link.state = .up)
    (hstatus : r.reg1.getLsbD 2 = false) :
    Lost p d (d.phyPoll p r) ∧ (d.phyPoll p r).eth[p].link.reg1 = r.reg1 := by
  obtain ⟨e, heth, hset, hsup, -, hpoll⟩ := phyPoll_eq r henabled
  rw [if_neg (Bool.not_eq_true _ ▸ hstatus)] at hpoll
  have hport : e.eth[p] = { d.eth[p] with link := polledLink r d.eth[p].link } := by rw [heth, upd_same]
  have hstate : e.eth[p].link.state = .up := by rw [hport]; exact hup
  rw [hpoll]
  refine ⟨lost_congr (by rw [hport]) (hset.speedBound p hsup) (linkLoss_lost hstate), ?_⟩
  obtain ⟨now, hloss⟩ := linkLoss_port hstate
  rw [hloss, hport]
  exact PortLink.entering_reg1 ..

/-- A poll with link brings a locked port in TRAINING up in full duplex, and is flagged in half duplex. -/
theorem phyPoll_training {r : PhyReading} (henabled : d.ethEnabled p = true) (htraining : d.eth[p].link.state = .training)
    (hstatus : r.reg1.getLsbD 2 = true) (hthere : r.reg1 ≠ 0xFFFF) :
    ((phyMode r).2 = true → d.eth[p].link.locked = true → d.eth[p].link.disabling = false →
      (phyMode r).1.val ≤ d.eth[p].link.maxSpeed → (d.phyPoll p r).eth[p].link.state = .up ∧
      (d.phyPoll p r).eth[p].link.speed = (phyMode r).1 ∧ (d.phyPoll p r).rbit (ethReg p Reg.ETH0_IRQ_STATUS) 0 = true) ∧
    ((phyMode r).2 = false → (d.phyPoll p r).eth[p].link.state = .training ∧
      (d.phyPoll p r).rbit (ethReg p Reg.ETH0_IRQ_STATUS) 9 = true) := by
  obtain ⟨e, heth, -, -, hduplex, hpoll⟩ := phyPoll_eq r henabled
  rw [if_pos hstatus] at hpoll
  have hlink : e.eth[p].link = _ := (congrArg EthPort.link (by rw [heth, upd_same])).trans
    (polledLink_linked hstatus hthere d.eth[p].link)
  rw [polledLink_linked hstatus hthere] at hduplex
  rw [hpoll]
  refine ⟨fun hfull hlocked hdisabling hmax => ?full, fun hfull => ?half⟩
  case full =>
    refine tryLinkUp_up ?_ ?_ ?_ ?_ ?_ ?_ ?_ <;> rw [hlink]
    exacts [htraining, hfull, hlocked, hdisabling, hmax]
  case half =>
    have hstays : e.tryLinkUp p = e := by
      rw [tryLinkUp]
      simp only [hlink, htraining, hfull, Bool.false_and, Bool.false_eq_true, if_false]
    rw [hstays, hlink]
    exact ⟨htraining, hduplex (by rw [hfull]; rfl) htraining⟩

/-! ### An ease that fails (R202) -/

/-- The device as the failure of an ease is flagged and counted, with EASE_EN cleared. -/
def easeFailed (d : Dev) (p : Fin 3) : Dev :=
  (((d.ethFlag p 7).ethFlag p 1).count p 32).setRbit (ethReg p Reg.ETH0_CTRL) 4 false

theorem easeFail_eq (h : d.eth[p].link.state = .easing) :
    d.easeFail p = ((d.easeFailed p).enterTraining p).easeEvent p d.eth[p].link.easeUp 4 := if_pos h

theorem easeFail_reg (h : d.eth[p].link.state = .easing) (a : Nat) : (d.easeFail p).reg a = (d.easeFailed p).reg a := by
  rw [easeFail_eq h, easeEvent, push_reg, reg_congr (enterTraining_regs _ p)]

theorem easeFail_spec (h : d.eth[p].link.state = .easing) :
    (d.easeFail p).eth[p].link.state = .training ∧ (d.easeFail p).eth[p].link.runScript = some .start ∧
    (d.easeFail p).rbit (ethReg p Reg.ETH0_IRQ_STATUS) 7 = true ∧ (d.easeFail p).rbit (ethReg p Reg.ETH0_IRQ_STATUS) 1 = true ∧
    (d.easeFail p).rbit (ethReg p Reg.ETH0_CTRL) 4 = false ∧
    (d.easeFail p).eth[p].traffic.counters[(32 : Fin 40)] = (d.eth[p].traffic.counters[(32 : Fin 40)] + 1) % 2 ^ 32 := by
  have hport : (d.easeFail p).eth[p] = { d.eth[p] with
      link := { d.eth[p].link.entering .training (d.easeFailed p).cc with
        runScript := some .start, maxSpeed := (d.easeFailed p).speedBound p }
      traffic := d.eth[p].traffic.counted 32 1 } := by
    simp only [easeFail_eq h, easeEvent_eth, enterTraining_eth, upd_same]
    simp [easeFailed, -Fin.getElem_fin]
  have hstatus : (d.easeFailed p).reg (ethReg p Reg.ETH0_IRQ_STATUS) =
      (((d.ethFlag p 7).ethFlag p 1).count p 32).reg (ethReg p Reg.ETH0_IRQ_STATUS) :=
    reg_setRbit_other _ (by have := p.isLt; simp only [ethReg, Reg.ETH0_CTRL]; omega)
      ((ethReg_apart p (by decide)).2 p).symm 4 false
  rw [hport]
  simp only [rbit, easeFail_reg h, hstatus]
  refine ⟨PortLink.entering_state .., trivial, ?_, ?_, ?_, PortTraffic.counted_counter_same ..⟩
  · exact (count_setsFlags _ p 32).flag _ _ ((ethFlag_setsFlags _ p 1).flag _ _ (ethFlag_rbit d p (by decide)))
  · exact (count_setsFlags _ p 32).flag _ _ (ethFlag_rbit _ p (by decide))
  · exact rbit_setRbit_same _ (by have := p.isLt; simp only [ethReg, Reg.ETH0_CTRL]; omega) (by decide) false

/-! ### The disable of a port (R203) -/

/-- A port that is not DOWN waits for its disable, with ENABLE cleared. -/
theorem portDisable_spec (h : d.eth[p].link.state ≠ .down) :
    (d.portDisable p).rbit (ethReg p Reg.ETH0_CTRL) 0 = false ∧
    (d.portDisable p).eth[p].link = { d.eth[p].link with disabling := true } ∧
    (d.portDisable p).eth[p].traffic.onWire = d.eth[p].traffic.onWire ∧
    (d.eth[p].traffic.onWire = none → ∀ q : Fin 4, (d.portDisable p).eth[p].traffic.queues[q] = []) := by
  have hclear : (d.setRbit (ethReg p Reg.ETH0_CTRL) 0 false).rbit (ethReg p Reg.ETH0_CTRL) 0 = false :=
    rbit_setRbit_same _ (by have := p.isLt; simp only [ethReg, Reg.ETH0_CTRL]; omega) (by decide) false
  unfold portDisable
  extract_lets cleared waiting
  have hport : waiting.eth[p] = { d.eth[p] with link := { d.eth[p].link with disabling := true } } := by
    simp [waiting, cleared, -Fin.getElem_fin]
  rw [if_neg (show ¬ cleared.eth[p].link.state = .down from h), hport]
  cases hwire : d.eth[p].traffic.onWire with
  | none =>
    rw [if_pos Option.isNone_none, flushQueues_eth, upd_same, hport]
    exact ⟨((flushQueues_setsFlags waiting p).ctrl_bit p 0).trans hclear, rfl, hwire, fun _ q => PortTraffic.flushed_queue _ q⟩
  | some f =>
    rw [if_neg (by simp), hport]
    exact ⟨hclear, rfl, hwire, nofun⟩

/-- The end of a disable: the port is DOWN, with nothing waiting. -/
theorem portIdle_spec (hdisabling : d.eth[p].link.disabling = true) (hwire : d.eth[p].traffic.onWire = none)
    (hdisabled : d.ethEnabled p = false) :
    (d.portIdle p).eth[p].link.state = .down ∧ (d.portIdle p).eth[p].link.disabling = false ∧
    (d.portIdle p).rbit (ethReg p Reg.ETH0_IRQ_STATUS) 3 = true ∧
    ∀ q : Fin 4, (d.portIdle p).eth[p].traffic.queues[q] = [] := by
  unfold portIdle
  rw [if_pos ⟨hdisabling, by rw [hwire]; rfl⟩]
  extract_lets flagged idle departed _mail answered
  obtain ⟨now, hport⟩ : ∃ now, idle.eth[p] = { d.eth[p] with
      link := PortLink.entering { d.eth[p].link with disabling := false, disableReply := none, runScript := none } .down now
      traffic := d.eth[p].traffic.flushed } :=
    ⟨flagged.cc, by simp only [idle, flagged, linkEnter_eth, modLink_eth, modLink_cc, ethFlag_eth, flushQueues_eth, upd_same]⟩
  have hidle : SetsFlags flagged idle := .of_regs (by simp only [idle, linkEnter_regs, modLink_regs])
  have hflagged : SetsFlags d flagged := (flushQueues_setsFlags d p).trans (ethFlag_setsFlags _ p 3)
  have hflag : flagged.rbit (ethReg p Reg.ETH0_IRQ_STATUS) 3 = true := ethFlag_rbit _ p (by decide)
  clear_value idle flagged
  have hdeparted : SetsFlags flagged departed ∧ departed.eth[p].link = idle.eth[p].link ∧
      ∀ q : Fin 4, departed.eth[p].traffic.queues[q] = [] := by
    by_cases hup : d.eth[p].link.state = .up
    · rw [show departed = idle.departUp p from if_pos hup, departUp_eth, upd_same, hport]
      exact ⟨hidle.trans (departUp_setsFlags idle p), rfl, PortTraffic.flushed_departed_queue _⟩
    · rw [show departed = idle from if_neg hup, hport]
      exact ⟨hidle, rfl, PortTraffic.flushed_queue _⟩
  obtain ⟨hset, hlink, hqueues⟩ := hdeparted
  clear_value departed
  have hanswered : answered.regs = departed.regs ∧ answered.eth = departed.eth := by
    simp only [answered]
    split <;> exact ⟨rfl, rfl⟩
  obtain ⟨hregs, heth⟩ := hanswered
  have hall : SetsFlags flagged answered := hset.trans (.of_regs hregs)
  clear_value answered
  have hclear : answered.ethEnabled p = false := ((hflagged.trans hall).ctrl_bit p 0).trans hdisabled
  have hstays : answered.leaveDown p = answered := if_neg fun h => Bool.false_ne_true (hclear.symm.trans h.2.1)
  rw [hstays, heth, hlink, hport]
  exact ⟨PortLink.entering_state .., PortLink.entering_disabling .., hall.flag _ _ hflag, hqueues⟩

end
end Dev

/-- Settles O40: each event by its guard and by what it leaves of the port and of its words. -/
theorem portEvents : Obligations.PortEvents := by
  unfold Obligations.PortEvents
  intro lost
  refine ⟨fun p phase s h => ?lock, fun p b s h hlocked => ?unlock, fun p s h hlocked hup => ?timeout,
    fun p r s h henabled hup hstatus => ?loss, fun p r s h henabled htraining hstatus hthere => ?poll,
    fun p s h heasing => ?ease, fun p s h hstate => ?disable, fun p s h hdisabling hwire hdisabled => ?idle⟩
  case lock =>
    obtain ⟨hlocked, hphase, hsample⟩ := Dev.captureLock_capture (d := s.dev) (p := p) phase
    exact does_of_eq (exec_captureLock p phase s) (Dev.runs_act h _) ⟨hlocked, hphase, hsample,
      fun htraining hphy habsent hdisabling hmax => Dev.captureLock_up phase htraining hphy habsent hdisabling hmax⟩
  case unlock =>
    exact does_of_eq (exec_captureUnlock p b s) (Dev.awake_act h _) (Dev.captureUnlock_spec b hlocked)
  case timeout =>
    have hloss : s.dev.captureUnlockTimeout p = s.dev.linkLoss p := if_neg (by rw [hlocked]; exact Bool.false_ne_true)
    exact does_of_eq (exec_captureUnlockTimeout p s) ((Dev.awake_act h _).trans hloss) (Dev.linkLoss_lost hup)
  case loss => exact does_of_eq (exec_phyPoll p r s) (Dev.awake_act h _) (Dev.phyPoll_lost henabled hup hstatus)
  case poll =>
    exact does_of_eq (exec_phyPoll p r s) (Dev.awake_act h _) (Dev.phyPoll_training henabled htraining hstatus hthere)
  case ease => exact does_of_eq (exec_easeFail p s) (Dev.awake_act h _) (Dev.easeFail_spec heasing)
  case disable =>
    obtain ⟨hclear, hlink, hwire, hqueues⟩ := Dev.portDisable_spec (p := p) hstate
    exact does_of_eq (exec_portDisable p s) (Dev.hostGuard_act h _ _)
      ⟨hclear, by rw [hlink], by rw [hlink], hwire, hqueues⟩
  case idle =>
    exact does_of_eq (exec_portIdle p s) (Dev.awake_act h _) (Dev.portIdle_spec hdisabling hwire hdisabled)

end Sys2Proof.Machine
end

section
/-!
# The checks of a received frame (R187 to R191, Table 7.2)

The fate of a frame is the counter of the first check it fails, and the run of the checks brings about that fate. The
rules speak of the traffic of the port alone.
-/
namespace Sys2Proof.Machine
namespace PortTraffic

/-- The value of a counter. -/
def counter (t : PortTraffic) (k : Fin 40) : Nat := t.counters[k]

theorem counter_counted_same (t : PortTraffic) (k : Fin 40) (n : Nat) :
    (t.counted k n).counter k = (t.counter k + n) % 2 ^ 32 := counted_counter_same t k n

theorem counter_counted_other (t : PortTraffic) {k j : Fin 40} (n : Nat) (h : k ≠ j) :
    (t.counted k n).counter j = t.counter j := counted_counter_other t n h

/-- A descriptor is taken at the end of the receive ring (R191). -/
def taking (t : PortTraffic) (x : RxDesc) : PortTraffic := { t with rxRing := t.rxRing ++ [x] }

/-- A frame counts in one counter, and the rings stay as they are. -/
def Dropped (k : Fin 40) (t u : PortTraffic) : Prop :=
  u.counters = (t.counted k 1).counters ∧ u.rxRing = t.rxRing ∧ u.queues = t.queues

/-- A frame counts as received, and one for a consumer takes a descriptor at the end of the ring. -/
def Delivered (f : RxFrame) (c : Option Consumer) (t u : PortTraffic) : Prop :=
  u.counter 0 = (t.counter 0 + f.length) % 2 ^ 32 ∧ u.counter 1 = (t.counter 1 + 1) % 2 ^ 32 ∧
  (f.etherType = 0x8808 → u.rxRing = t.rxRing) ∧
  ∀ x, f.etherType ≠ 0x8808 → c = some x → u.rxRing = t.rxRing ++ [⟨x, f.cells, f.vid⟩]

/-- From `t` to `u` the frame of a consumer meets its fate. -/
def Meets (f : RxFrame) (c : Option Consumer) (t u : PortTraffic) : Option (Fin 40) → Prop
  | some k => Dropped k t u
  | none => Delivered f c t u

/-- The counter of a delivered frame's kind of address (R205). -/
def castCounter (f : RxFrame) : Fin 40 := if f.dest = 0xFFFFFFFFFFFF then 4 else if f.dest.getLsbD 40 then 3 else 2

theorem castCounter_ne (f : RxFrame) : castCounter f ≠ 0 ∧ castCounter f ≠ 1 := by
  unfold castCounter
  split_ifs <;> decide

/-- The traffic with a delivered frame counted. -/
def delivering (t : PortTraffic) (f : RxFrame) : PortTraffic := ((t.counted 0 f.length).counted 1 1).counted (castCounter f) 1

theorem delivering_octets (t : PortTraffic) (f : RxFrame) : (t.delivering f).counter 0 = (t.counter 0 + f.length) % 2 ^ 32 := by
  rw [delivering, counter_counted_other _ 1 (castCounter_ne f).1, counter_counted_other _ 1 (by decide), counter_counted_same]

theorem delivering_frames (t : PortTraffic) (f : RxFrame) : (t.delivering f).counter 1 = (t.counter 1 + 1) % 2 ^ 32 := by
  rw [delivering, counter_counted_other _ 1 (castCounter_ne f).2, counter_counted_same, counter_counted_other _ _ (by decide)]

/-- The traffic with a delivered frame counted by its consumer, where it has a counter. -/
def consumerCounted (t : PortTraffic) (x : Consumer) : PortTraffic :=
  match Dev.consumerCounter x with
  | some k => t.counted k 1
  | none => t

/-- The consumer's own counter is neither of the two that count a delivered frame. -/
theorem consumerCounter_ne {x : Consumer} {k : Fin 40} (h : Dev.consumerCounter x = some k) : k ≠ 0 ∧ k ≠ 1 := by
  cases x <;> cases h <;> decide

theorem consumerCounted_rest (t : PortTraffic) (x : Consumer) : (t.consumerCounted x).counter 0 = t.counter 0 ∧
    (t.consumerCounted x).counter 1 = t.counter 1 ∧ (t.consumerCounted x).rxRing = t.rxRing := by
  unfold consumerCounted
  split
  case h_1 k hk =>
    obtain ⟨h0, h1⟩ := consumerCounter_ne hk
    exact ⟨counter_counted_other t 1 h0, counter_counted_other t 1 h1, rfl⟩
  case h_2 => exact ⟨rfl, rfl, rfl⟩

/-- A delivered PAUSE changes no ring. -/
theorem pause_delivered (t : PortTraffic) {f : RxFrame} (c : Option Consumer) (hpause : f.etherType = 0x8808) :
    Delivered f c t (t.delivering f) :=
  ⟨delivering_octets t f, delivering_frames t f, fun _ => rfl, fun _ h => absurd hpause h⟩

/-- A delivered frame of a consumer is counted by its consumer too, and has its descriptor. -/
theorem consumer_delivered (t : PortTraffic) {f : RxFrame} (x : Consumer) (hpause : f.etherType ≠ 0x8808) :
    Delivered f (some x) t (((t.delivering f).consumerCounted x).taking ⟨x, f.cells, f.vid⟩) := by
  obtain ⟨h0, h1, hring⟩ := consumerCounted_rest (t.delivering f) x
  refine ⟨h0.trans (delivering_octets t f), h1.trans (delivering_frames t f), fun h => absurd h hpause, fun y _ hy => ?_⟩
  cases hy
  exact congrArg (· ++ _) hring

end PortTraffic

namespace Dev

/-- The traffic of a port. -/
def trafficAt (d : Dev) (p : Fin 3) : PortTraffic := d.eth[p].traffic

/-- The counter of the first check that a frame fails, none for one that is delivered (Table 7.2). -/
def rxFate (d : Dev) (p : Fin 3) (f : RxFrame) : Option (Fin 40) :=
  let e := d.eth[p]
  let lengthField := f.etherType.toNat ≥ 46 ∧ f.etherType.toNat ≤ 1500
  if f.fifoOverflow = true then some 17
  else if e.link.locked = false ∨ f.complete = false ∨ f.departed = true then some 12
  else if f.length < 64 ∧ f.fcsOk = false then some 12
  else if d.destMatches p f.dest = false then some 15
  else if f.fcsOk = false then some 10
  else if f.rxEr = true then some 11
  else if f.length < 64 then some 13
  else if 1522 < f.length then some 14
  else if lengthField ∧ f.lengthAgrees = false then some 38
  else if e.traffic.rxSize ≤ e.traffic.rxRing.length then some 16
  else if 576 < d.rxCells + (f.length + 255) / 256 then some 16
  else if (∃ c ∈ f.cells, c ∈ d.arb.spoiled) then some 19
  else if f.etherType = 0x8808 ∧ f.macOpcode ≠ 1 then some 18
  else if f.etherType ≠ 0x8808 ∧ d.consumerOf p f = none then some 18
  else none

/-- From `d` to `e` the traffic of a port meets the fate of a frame. -/
def Meets (d : Dev) (p : Fin 3) (f : RxFrame) (e : Dev) (fate : Option (Fin 40)) : Prop :=
  PortTraffic.Meets f (d.consumerOf p f) (d.trafficAt p) (e.trafficAt p) fate

section
variable {d : Dev} {p : Fin 3} {f : RxFrame}

theorem modTraffic_trafficAt (g : PortTraffic → PortTraffic) : (d.modTraffic p g).trafficAt p = g (d.trafficAt p) := by
  rw [trafficAt, modTraffic_eth, upd_same]
  rfl

theorem countBy_trafficAt (k : Fin 40) (n : Nat) : (d.countBy p k n).trafficAt p = (d.trafficAt p).counted k n := by
  rw [trafficAt, countBy_eth, upd_same]
  rfl

theorem count_trafficAt (k : Fin 40) : (d.count p k).trafficAt p = (d.trafficAt p).counted k 1 := countBy_trafficAt k 1

theorem count_dropped (k : Fin 40) : d.Meets p f (d.count p k) (some k) := by
  rw [Meets, count_trafficAt]
  exact ⟨rfl, rfl, rfl⟩

theorem badFrame_dropped (k : Fin 40) : d.Meets p f (d.badFrame p f k) (some k) := by
  unfold badFrame
  dsimp only
  split
  · rw [Meets, modTraffic_trafficAt, count_trafficAt]
    exact ⟨rfl, rfl, rfl⟩
  · exact count_dropped k

theorem countDelivered_trafficAt : (d.countDelivered p f).trafficAt p = (d.trafficAt p).delivering f := by
  rw [countDelivered, count_trafficAt, count_trafficAt, countBy_trafficAt]
  rfl

theorem consumerCounted_trafficAt (x : Consumer) :
    (match consumerCounter x with
      | some k => d.count p k
      | none => d : Dev).trafficAt p = (d.trafficAt p).consumerCounted x := by
  unfold PortTraffic.consumerCounted
  cases consumerCounter x with
  | some k => exact count_trafficAt k
  | none => rfl

/-- One check: a frame that fails it meets the fate of its row, any other goes on to the next. -/
theorem meets_check {c c' : Prop} [Decidable c] [Decidable c'] (hc : c' ↔ c) {k : Fin 40} {x e : Dev} {fate : Option (Fin 40)}
    (hdrop : d.Meets p f x (some k)) (hrest : d.Meets p f e fate) :
    d.Meets p f (if c' then x else e) (if c then some k else fate) := by
  by_cases h : c
  · rwa [if_pos h, if_pos (hc.mpr h)]
  · rwa [if_neg h, if_neg (mt hc.mp h)]

/-- The fate of a frame that passed the checks up to the buffer's rests on its EtherType. -/
theorem passed_meets :
    d.Meets p f (if f.etherType = 0x8808 then if f.macOpcode = 1 then d.countDelivered p f else d.count p 18
        else match d.consumerOf p f with
          | none => d.count p 18
          | some x => (match consumerCounter x with
              | some k => (d.countDelivered p f).count p k
              | none => d.countDelivered p f : Dev).modTraffic p fun t => { t with rxRing := t.rxRing ++ [⟨x, f.cells, f.vid⟩] })
      (if f.etherType = 0x8808 ∧ f.macOpcode ≠ 1 then some 18
        else if f.etherType ≠ 0x8808 ∧ d.consumerOf p f = none then some 18 else none) := by
  by_cases hpause : f.etherType = 0x8808
  · rw [if_pos hpause]
    by_cases hop : f.macOpcode = 1
    · rw [if_pos hop, if_neg fun h => h.2 hop, if_neg fun h => h.1 hpause, Meets, countDelivered_trafficAt]
      exact PortTraffic.pause_delivered _ _ hpause
    · rw [if_neg hop, if_pos ⟨hpause, hop⟩]
      exact count_dropped 18
  · rw [if_neg hpause, if_neg fun h => hpause h.1]
    cases hx : d.consumerOf p f with
    | none =>
      rw [if_pos ⟨hpause, rfl⟩]
      exact count_dropped 18
    | some x =>
      rw [if_neg fun h => Option.some_ne_none x h.2, Meets, modTraffic_trafficAt, consumerCounted_trafficAt,
        countDelivered_trafficAt, hx]
      exact PortTraffic.consumer_delivered _ x hpause

theorem spoiled_any (d : Dev) (f : RxFrame) : f.cells.any d.arb.spoiled.contains = true ↔ ∃ c ∈ f.cells, c ∈ d.arb.spoiled := by
  simp

/-- The checks of Table 7.2, in their order, bring about the fate of the frame. -/
theorem received_meets : d.Meets p f (if f.fifoOverflow then d.count p 17 else d.receiveChecks p f) (d.rxFate p f) := by
  unfold rxFate
  dsimp only
  refine meets_check Iff.rfl (count_dropped 17) ?_
  unfold receiveChecks
  dsimp only
  refine meets_check (by simp) (count_dropped 12) ?_
  refine meets_check (by simp) (count_dropped 12) ?_
  refine meets_check (by simp) (count_dropped 15) ?_
  refine meets_check (by simp) (badFrame_dropped 10) ?_
  refine meets_check Iff.rfl (badFrame_dropped 11) ?_
  refine meets_check Iff.rfl (badFrame_dropped 13) ?_
  refine meets_check Iff.rfl (badFrame_dropped 14) ?_
  refine meets_check (by simp) (badFrame_dropped 38) ?_
  refine meets_check Iff.rfl (count_dropped 16) ?_
  refine meets_check Iff.rfl (count_dropped 16) ?_
  refine meets_check (spoiled_any d f) (count_dropped 19) ?_
  exact passed_meets

/-- A count of line time changes. -/
def lineTimed (d : Dev) (p : Fin 3) (n : Nat) : Dev := d.modTraffic p fun t => { t with rxBits := n }

section
variable (d : Dev) (p : Fin 3) (n : Nat)

theorem lineTimed_eth : (d.lineTimed p n).eth =
    upd d.eth p fun e => { e with traffic := { e.traffic with rxBits := n } } := modTraffic_eth d p _

/-- A count of line time leaves the rest of every port. -/
theorem lineTimed_port (q : Fin 3) : (d.lineTimed p n).eth[q] =
    { d.eth[q] with traffic := { d.eth[q].traffic with rxBits := (d.lineTimed p n).eth[q].traffic.rxBits } } := by
  rw [lineTimed_eth]
  by_cases hq : p = q
  · subst hq
    rw [upd_same]
  · rw [upd_other _ hq]

theorem lineTimed_rxCells : (d.lineTimed p n).rxCells = d.rxCells := by
  unfold rxCells
  refine congrArg List.sum (List.map_congr_left fun q _ => ?_)
  rw [lineTimed_port]

theorem lineTimed_destMatches (a : BitVec 48) : (d.lineTimed p n).destMatches p a = d.destMatches p a := by
  unfold destMatches
  rw [lineTimed_port]
  rfl

theorem lineTimed_consumerOf (f : RxFrame) : (d.lineTimed p n).consumerOf p f = d.consumerOf p f := by
  unfold consumerOf
  rw [lineTimed_port]
  rfl

/-- A count of line time leaves the fate of a frame. -/
theorem lineTimed_rxFate (f : RxFrame) : (d.lineTimed p n).rxFate p f = d.rxFate p f := by
  unfold rxFate
  rw [lineTimed_rxCells, lineTimed_destMatches, lineTimed_consumerOf, lineTimed_port]
  rfl

theorem lineTimed_trafficAt : (d.lineTimed p n).trafficAt p = { d.trafficAt p with rxBits := n } := modTraffic_trafficAt _

end

/-- What a frame meets once its line time is counted, it meets. -/
theorem meets_of_lineTimed {n : Nat} {e : Dev} {fate : Option (Fin 40)} (h : (d.lineTimed p n).Meets p f e fate) :
    d.Meets p f e fate := by
  rw [Meets, lineTimed_consumerOf, lineTimed_trafficAt] at h
  cases fate <;> exact h

/-- A frame that a port receives meets the fate that the checks give it. -/
theorem ethReceive_meets (h : d.eth[p].link.state ≠ .down ∨ f.departed = true) : d.Meets p f (d.ethReceive p f) (d.rxFate p f) := by
  have hreceives : ¬ (d.eth[p].link.state = .down ∧ ¬ f.departed = true) := fun hn => h.elim (· hn.1) hn.2
  rw [ethReceive, if_neg hreceives]
  by_cases hup : d.eth[p].link.state = .up
  · rw [if_pos hup]
    have hmeets : (d.lineTimed p (d.eth[p].traffic.rxBits + lineBits f.length)).Meets p f _ _ := received_meets
    rw [lineTimed_rxFate] at hmeets
    exact meets_of_lineTimed hmeets
  · rw [if_neg hup]
    exact received_meets

end
end Dev

/-- Settles O42: the checks are taken one by one in the order of Table 7.2. -/
theorem receiveChecks : Obligations.ReceiveChecks := by
  unfold Obligations.ReceiveChecks
  refine ⟨fun p f s ha hrec => ?_, fun p f s hdown hdep => ?_⟩
  · refine does_of_eq (exec_ethFrameReceive p f s) (Dev.awake_act ha _) ?_
    have hmeets := Dev.ethReceive_meets hrec
    generalize s.dev.ethReceive p f = e at hmeets ⊢
    unfold Dev.Meets Dev.rxFate at hmeets
    dsimp only at hmeets ⊢
    split
    case h_1 hfate =>
      rw [hfate] at hmeets
      exact hmeets
    case h_2 hfate =>
      rw [hfate] at hmeets
      exact hmeets
  · refine (exec_ethFrameReceive p f s).trans (next_dev ?_)
    have hrest : s.dev.ethReceive p f = s.dev := if_pos ⟨hdown, by rw [hdep]; decide⟩
    exact Dev.awake_of_rest hrest

end Sys2Proof.Machine
end

section
/-!
# The upkeep of the ports: polls, scripts, utilisation windows and the hold time
-/
namespace Sys2Proof.Machine

/-- The traffic of a port whose held frames are flushed. -/
def PortTraffic.heldFlushed (t : PortTraffic) : PortTraffic := { t.counted 27 t.queues[(3 : Fin 4)].length with
  queues := upd t.queues 3 fun _ => [], holding := false }

theorem PortTraffic.heldFlushed_queue (t : PortTraffic) : t.heldFlushed.queues[(3 : Fin 4)] = [] := upd_same ..

theorem PortTraffic.heldFlushed_counter (t : PortTraffic) :
    t.heldFlushed.counters[(27 : Fin 40)] = (t.counters[(27 : Fin 40)] + t.queues[(3 : Fin 4)].length) % 2 ^ 32 :=
  t.counted_counter_same ..

/-- A port once a window ends on it that measures nothing. -/
def EthPort.windowed (e : EthPort) : EthPort := { e with
  link := { e.link with quietWindows := 0 }, traffic := { e.traffic with rxBits := 0, txBits := 0 } }

namespace Dev

/-! ### PHY scripts (R193) -/

/-- The write of register 0 that replaces an empty ease script. -/
def easeBase (k : PhyScript) (autoNeg : Bool) : Word :=
  orW [if k = .to1000 then bitW 6 true else bitW 13 true, bitW 8 true, bitW 12 autoNeg]

/-- Where MAX_SPEED allows 1 Gbit/s, a write of register 0 is made as it stands. -/
theorem boundWrite_fast (n : Nat) (w : U16) : boundWrite (n + 2) 0 w = w := by
  unfold boundWrite
  rw [if_pos rfl]
  refine if_pos ?_
  split_ifs <;> omega

/-- The replaced ease script asks for full duplex and for the speed it eases to, within MAX_SPEED. -/
theorem boundWrite_easeBase {k : PhyScript} (hk : k ≠ .start) (autoNeg : Bool) (most : Nat) :
    (boundWrite most 0 ((easeBase k autoNeg).setWidth 16)).getLsbD 8 = true ∧
    (boundWrite most 0 ((easeBase k autoNeg).setWidth 16)).getLsbD 6 = decide (k = .to1000 ∧ 2 ≤ most) ∧
    (boundWrite most 0 ((easeBase k autoNeg).setWidth 16)).getLsbD 13 =
      decide ((k = .to100 ∧ 1 ≤ most) ∨ (k = .to1000 ∧ most = 1)) := by
  cases k with
  | start => exact absurd rfl hk
  | to100 =>
    match most with
    | 0 => cases autoNeg <;> decide
    | 1 => cases autoNeg <;> decide
    | n + 2 => rw [boundWrite_fast]; cases autoNeg <;> simp <;> decide
  | to1000 =>
    match most with
    | 0 => cases autoNeg <;> decide
    | 1 => cases autoNeg <;> decide
    | n + 2 => rw [boundWrite_fast]; cases autoNeg <;> simp <;> decide

section
variable {d : Dev} {p : Fin 3} {k : PhyScript}

/-- The host's script for an occasion. -/
def ownScript (l : PortLink) (k : PhyScript) : List Word :=
  l.scripts[(match k with | .start => 0 | .to100 => 1 | .to1000 => 2 : Fin 3)]

/-- A script that is due runs, and is no longer due. -/
theorem phyScript_eth (h : d.eth[p].link.runScript = some k) :
    (d.phyScript p k).eth = upd d.eth p fun e => { e with link := { e.link with runScript := none } } := by
  unfold phyScript
  dsimp only
  rw [if_neg (not_not.mpr h), modLink_eth]

/-- The writes of a script of the host. -/
theorem phyScript_own (h : d.eth[p].link.runScript = some k) (hown : ownScript d.eth[p].link k ≠ []) :
    (d.phyScript p k).remote.mdio = (ownScript d.eth[p].link k).map fun w =>
      ⟨d.rfld (ethReg p Reg.ETH0_CTRL) 28 24, fld w 20 16, true, boundWrite d.eth[p].link.maxSpeed (fld w 20 16) (w.setWidth 16)⟩ := by
  unfold phyScript
  dsimp only
  rw [if_neg (not_not.mpr h)]
  exact if_neg fun hn => hown (List.isEmpty_iff.mp hn.1)

/-- An empty START script writes nothing. -/
theorem phyScript_start (h : d.eth[p].link.runScript = some .start) (hown : ownScript d.eth[p].link .start = []) :
    (d.phyScript p .start).remote.mdio = [] := by
  unfold phyScript
  dsimp only
  rw [if_neg (not_not.mpr h)]
  refine (if_neg fun hn => hn.2 rfl).trans ?_
  exact congrArg (List.map _) hown

/-- An empty ease script is replaced by a write of register 0. -/
theorem phyScript_ease (h : d.eth[p].link.runScript = some k) (hown : ownScript d.eth[p].link k = []) (hk : k ≠ .start) :
    ∃ rest, (d.phyScript p k).remote.mdio = ⟨d.rfld (ethReg p Reg.ETH0_CTRL) 28 24, 0, true,
      boundWrite d.eth[p].link.maxSpeed 0 ((easeBase k (d.eth[p].link.reg0.getLsbD 12)).setWidth 16)⟩ :: rest := by
  unfold phyScript
  dsimp only
  rw [if_neg (not_not.mpr h)]
  exact ⟨_, (if_pos ⟨List.isEmpty_iff.mpr hown, hk⟩).trans List.singleton_append⟩

end

/-! ### The interrupt of the PHYs (R192) -/

theorem phyInterrupt_polls {d : Dev} (hpin : d.gpio.source[(22 : Fin 25)].isSome) (hlow : d.fnLevel 22 = false) (a b c : PhyReading) :
    d.phyInterrupt [a, b, c] = ((d.phyPoll 0 a).phyPoll 1 b).phyPoll 2 c :=
  if_pos ⟨hpin, by rw [hlow]; rfl⟩

theorem phyInterrupt_rests {d : Dev} (h : d.fnLevel 22 = true ∨ d.gpio.source[(22 : Fin 25)] = none) (l : List PhyReading) :
    d.phyInterrupt l = d := by
  refine if_neg fun ⟨hpin, hlow⟩ => ?_
  rcases h with h | h
  · rw [h] at hlow
    cases hlow
  · rw [h] at hpin
    cases hpin

/-! ### The hold time (R196) -/

theorem linkHoldExpire_spec {d : Dev} {p : Fin 3} (hup : d.eth[p].link.state ≠ .up) (hhold : d.eth[p].traffic.holding = true) :
    (d.linkHoldExpire p).eth[p] = { d.eth[p] with traffic := d.eth[p].traffic.heldFlushed } := by
  have h : d.linkHoldExpire p = (d.countBy p 27 d.eth[p].traffic.queues[(3 : Fin 4)].length).modTraffic p fun t =>
      { t with queues := upd t.queues 3 (fun _ => []), holding := false } := if_pos ⟨hup, hhold⟩
  rw [h, modTraffic_eth, upd_same, countBy_eth, upd_same]
  rfl

/-! ### Utilisation windows (R199) -/

/-- A window that ends on a port, before it brings a decision. -/
def utilEnded (d : Dev) (p : Fin 3) (measured : Bool) : Dev :=
  (d.modLink p fun l => { l with
    util := if measured then min 1000 (d.utilOf p) else l.util
    quietWindows := if measured ∧
        10 * d.utilOf p < min (10 * d.rfld (ethReg p Reg.ETH0_EASE) 7 0) (5 * d.rfld (ethReg p Reg.ETH0_EASE) 15 8)
      then l.quietWindows + 1 else 0 }).modTraffic p fun t => { t with rxBits := 0, txBits := 0 }

/-- What a window that has ended brings. -/
def utilDecide (d : Dev) (p : Fin 3) (measured : Bool) (high : Prop) [Decidable high] : Dev :=
  if ¬ measured ∨ d.eth[p].link.disabling then d
  else if d.eth[p].link.speed = 2 ∧ d.eth[p].link.quietWindows ≥ 100 * d.rfld (ethReg p Reg.ETH0_EASE) 23 16 then d.easeDecide p false
  else if d.eth[p].link.speed = 1 ∧ d.eth[p].link.easedSince ∧ high then d.easeDecide p true
  else d

/-- Whether the window of a port is measured. -/
def utilMeasured (d : Dev) (p : Fin 3) : Bool := d.eth[p].link.state == .up && d.rbit (ethReg p Reg.ETH0_CTRL) 4

/-- The end of a window on a port, in its two steps. -/
theorem utilPort_eq (d : Dev) (p : Fin 3) : d.utilPort p = (d.utilEnded p (d.utilMeasured p)).utilDecide p (d.utilMeasured p)
    (d.utilOf p > 5 * d.rfld (ethReg p Reg.ETH0_EASE) 15 8) := rfl

/-- A window ends on a port with EASE_EN at 0. -/
theorem utilPort_off {d : Dev} {p : Fin 3} (h : d.rbit (ethReg p Reg.ETH0_CTRL) 4 = false) :
    d.utilPort p = { d with eth := upd d.eth p EthPort.windowed } := by
  have hmeasured : d.utilMeasured p = false := by rw [utilMeasured, h, Bool.and_false]
  have hended : d.utilPort p = d.utilEnded p false := by
    rw [utilPort_eq, hmeasured]
    exact if_pos (.inl Bool.false_ne_true)
  have heth : (d.utilEnded p false).eth = upd d.eth p EthPort.windowed := by
    rw [utilEnded, modTraffic_eth, modLink_eth, upd_upd]
    exact upd_congr (by simp [EthPort.windowed])
  rw [hended, ← heth]
  rfl

/-- Windows end on ports with EASE_EN at 0: their entries alone change. -/
theorem utilPorts_off (l : List (Fin 3)) {d : Dev} (h : ∀ p ∈ l, d.rbit (ethReg p Reg.ETH0_CTRL) 4 = false) :
    l.foldl utilPort d = { d with eth := l.foldl (fun t p => upd t p EthPort.windowed) d.eth } := by
  induction l generalizing d with
  | nil => rfl
  | cons p l ih =>
    rw [List.foldl_cons, utilPort_off (h p List.mem_cons_self)]
    exact ih fun q hq => h q (List.mem_cons_of_mem p hq)

/-- A port that is not among those whose windows end keeps its entry. -/
theorem windowed_other {l : List (Fin 3)} {p : Fin 3} (h : p ∉ l) (t : Vector EthPort 3) :
    (l.foldl (fun t q => upd t q EthPort.windowed) t)[p] = t[p] := by
  induction l generalizing t with
  | nil => rfl
  | cons q l ih =>
    rw [List.foldl_cons, ih (List.not_mem_of_not_mem_cons h), upd_other _ (List.ne_of_not_mem_cons h).symm]

/-- The end of its window leaves the state of a port. -/
theorem windowed_state (l : List (Fin 3)) (t : Vector EthPort 3) (p : Fin 3) :
    (l.foldl (fun t q => upd t q EthPort.windowed) t)[p].link.state = t[p].link.state := by
  induction l generalizing t with
  | nil => rfl
  | cons q l ih =>
    rw [List.foldl_cons, ih, upd_get]
    split
    case isTrue h => rw [h]; rfl
    case isFalse => rfl

/-- The ports before a port and those after it. -/
theorem allFin_split (p : Fin 3) : ∃ l r, allFin 3 = l ++ p :: r ∧ p ∉ l ∧ p ∉ r :=
  match p with
  | 0 => ⟨[], [1, 2], by decide⟩
  | 1 => ⟨[0], [2], by decide⟩
  | 2 => ⟨[0, 1], [], by decide⟩

/-- Windows end on the three ports with EASE_EN at 0. -/
theorem windowed_all (t : Vector EthPort 3) (p : Fin 3) :
    ((allFin 3).foldl (fun t q => upd t q EthPort.windowed) t)[p] = t[p].windowed := by
  obtain ⟨l, r, heq, hl, hr⟩ := allFin_split p
  rw [heq, List.foldl_append, List.foldl_cons, windowed_other hr, upd_same, windowed_other hl]

/-! ### An ease starts (R195, R199) -/

/-- Whether R33 permits an ease rests on the states of the ports alone, of what a window changes. -/
theorem easePermitted_states {d : Dev} {t : Vector EthPort 3} (h : ∀ q : Fin 3, t[q].link.state = d.eth[q].link.state) (p : Fin 3) :
    ({ d with eth := t } : Dev).easePermitted p = d.easePermitted p := by
  have hpath (g : Fin 8) (gs : GroupSetup) (o : Fin 2) :
      ({ d with eth := t } : Dev).pathUsable g gs o = d.pathUsable g gs o := by
    unfold pathUsable
    dsimp only
    rw [h]
    rfl
  unfold easePermitted
  simp only [hpath]
  rfl

section
variable (d : Dev) (p : Fin 3)

/-- The device as an ease has been flagged and counted. -/
def easeCounted : Dev := (d.ethFlag p 2).count p 33

/-- The link of a port that starts an ease. -/
def easingLink (l : PortLink) (up : Bool) (now : Nat) : PortLink := { l.entering .easing now with
  easeUp := up, easeWithheld := false, easeTold := false, runScript := some (if up then .to1000 else .to100) }

theorem easeStart_eth (up : Bool) : (d.easeStart p up).eth = upd d.eth p fun e => { e with
    link := easingLink e.link up (d.easeCounted p).cc, traffic := (e.traffic.counted 33 1).departed } := by
  unfold easeStart
  dsimp only
  rw [easeEvent_eth, departUp_eth, modLink_eth, linkEnter_eth, count_eth, ethFlag_eth, upd_upd, upd_upd, upd_upd]
  rfl

theorem easeStart_setsFlags (up : Bool) : SetsFlags (d.easeCounted p) (d.easeStart p up) := by
  unfold easeStart
  dsimp only
  refine .trans (.trans ?_ (departUp_setsFlags _ p)) (.of_regs (push_regs ..))
  exact .of_regs ((modLink_regs _ p _).trans (linkEnter_regs (d.easeCounted p) p .easing true))

end

section
variable {d : Dev} {p : Fin 3}

/-- The end of a measured window on a port changes its utilisation, its count of quiet windows and its line time. -/
theorem utilEnded_eth : ∃ n, (d.utilEnded p true).eth = upd d.eth p fun e => { e with
    link := { e.link with util := min 1000 (d.utilOf p), quietWindows := n }, traffic := { e.traffic with rxBits := 0, txBits := 0 } } := by
  rw [utilEnded, modTraffic_eth, modLink_eth, upd_upd]
  exact ⟨_, upd_congr rfl⟩

/-- A window above EASE_HIGH brings a port eased at 100 Mbit/s to the decision to ease up. -/
theorem utilPort_high (hon : d.rbit (ethReg p Reg.ETH0_CTRL) 4 = true) (hup : d.eth[p].link.state = .up)
    (hdis : d.eth[p].link.disabling = false) (hspeed : d.eth[p].link.speed = 1) (heased : d.eth[p].link.easedSince = true)
    (hhigh : 5 * d.rfld (ethReg p Reg.ETH0_EASE) 15 8 < d.utilOf p) :
    d.utilPort p = (d.utilEnded p true).easeDecide p true := by
  have hmeasured : d.utilMeasured p = true := by rw [utilMeasured, hon, hup]; rfl
  obtain ⟨n, heth⟩ := utilEnded_eth (d := d) (p := p)
  rw [utilPort_eq, hmeasured]
  generalize d.utilEnded p true = e at heth ⊢
  unfold utilDecide
  rw [heth, upd_same, hdis, hspeed, heased, if_neg (by decide), if_neg (by omega), if_pos ⟨rfl, rfl, hhigh⟩]

/-- With no port easing, the ease permitted and the supply in order, the decision starts the ease. -/
theorem easeDecide_start (hothers : ∀ q : Fin 3, q ≠ p → d.eth[q].link.state ≠ .easing) (hperm : d.easePermitted p = true)
    (hsup : d.sup.nvwInhibit = false) (up : Bool) : d.easeDecide p up = d.easeStart p up := by
  have hnone : ¬ (allFin 3).any (fun q => q != p && d.eth[q].link.state == .easing) = true := by
    intro h
    obtain ⟨q, -, hq⟩ := List.any_eq_true.mp h
    obtain ⟨hqp, hstate⟩ := Bool.and_eq_true_iff.mp hq
    exact hothers q (by simpa using hqp) (by simpa using hstate)
  unfold easeDecide
  dsimp only
  rw [if_neg hnone, if_neg (not_not.mpr hperm), if_neg (by rw [hsup]; decide)]

/-- The end of a measured window leaves every port's state. -/
theorem utilEnded_state (q : Fin 3) : (d.utilEnded p true).eth[q].link.state = d.eth[q].link.state := by
  obtain ⟨n, heth⟩ := utilEnded_eth (d := d) (p := p)
  rw [heth, upd_get]
  split
  case isTrue h => rw [h]
  case isFalse => rfl

/-- The end of a window changes the table of ports alone. -/
theorem utilEnded_apart (m : Bool) : d.utilEnded p m = { d with eth := (d.utilEnded p m).eth } := rfl

/-- What brings an ease up of a port at the end of its window. -/
structure EasesUp (d : Dev) (p : Fin 3) : Prop where
  on : d.rbit (ethReg p Reg.ETH0_CTRL) 4 = true
  up : d.eth[p].link.state = .up
  enabled : d.eth[p].link.disabling = false
  speed : d.eth[p].link.speed = 1
  since : d.eth[p].link.easedSince = true
  high : 5 * d.rfld (ethReg p Reg.ETH0_EASE) 15 8 < d.utilOf p
  permitted : d.easePermitted p = true
  supply : d.sup.nvwInhibit = false
  alone : ∀ q : Fin 3, q ≠ p → d.eth[q].link.state ≠ .easing

/-- An ease up of a port as its window ends. -/
theorem EasesUp.utilPort_eq (h : d.EasesUp p) : d.utilPort p = (d.utilEnded p true).easeStart p true := by
  rw [utilPort_high h.on h.up h.enabled h.speed h.since h.high]
  have hperm : (d.utilEnded p true).easePermitted p = true := by
    rw [utilEnded_apart, easePermitted_states utilEnded_state]
    exact h.permitted
  have hsup : (d.utilEnded p true).sup.nvwInhibit = false := by
    rw [utilEnded_apart]
    exact h.supply
  have halone (q : Fin 3) (hq : q ≠ p) : (d.utilEnded p true).eth[q].link.state ≠ .easing := by
    rw [utilEnded_state]
    exact h.alone q hq
  exact easeDecide_start halone hperm hsup true

/-- A port that has started an ease up: its planned down is flagged and counted, and its script is to run. -/
structure Eased (p : Fin 3) (d e : Dev) : Prop where
  state : e.eth[p].link.state = .easing
  easeUp : e.eth[p].link.easeUp = true
  util : e.eth[p].link.util = min 1000 (d.utilOf p)
  script : e.eth[p].link.runScript = some .to1000
  flag : e.rbit (ethReg p Reg.ETH0_IRQ_STATUS) 2 = true
  planned : e.eth[p].traffic.counters[(33 : Fin 40)] = (d.eth[p].traffic.counters[(33 : Fin 40)] + 1) % 2 ^ 32
  losses : e.eth[p].traffic.counters[(32 : Fin 40)] = d.eth[p].traffic.counters[(32 : Fin 40)]

theorem EasesUp.setsFlags (h : d.EasesUp p) : SetsFlags d (d.utilPort p) := by
  have hcount := (ethFlag_setsFlags (d.utilEnded p true) p 2).trans (count_setsFlags _ p 33)
  rw [h.utilPort_eq]
  exact (SetsFlags.of_regs (d := d) (e := d.utilEnded p true) rfl).trans (hcount.trans (easeStart_setsFlags _ p true))

theorem EasesUp.eased (h : d.EasesUp p) : Eased p d (d.utilPort p) := by
  obtain ⟨n, heth⟩ := utilEnded_eth (d := d) (p := p)
  have hflags := easeStart_setsFlags (d.utilEnded p true) p true
  rw [h.utilPort_eq]
  generalize d.utilEnded p true = e at heth hflags ⊢
  have hport : (e.easeStart p true).eth[p] = { d.eth[p] with
      link := easingLink { d.eth[p].link with util := min 1000 (d.utilOf p), quietWindows := n } true (e.easeCounted p).cc
      traffic := ({ d.eth[p].traffic with rxBits := 0, txBits := 0 }.counted 33 1).departed } := by
    rw [easeStart_eth, upd_same, heth, upd_same]
  have hflag : (e.easeCounted p).rbit (ethReg p Reg.ETH0_IRQ_STATUS) 2 = true :=
    (count_setsFlags _ p 33).flag _ _ (ethFlag_rbit e p (by decide))
  generalize e.easeStart p true = e' at hport hflags ⊢
  constructor
  case flag => exact hflags.flag _ _ hflag
  case state => rw [hport]; exact PortLink.entering_state ..
  case easeUp => rw [hport]; rfl
  case util => rw [hport]; exact PortLink.entering_util ..
  case script => rw [hport]; rfl
  case planned =>
    rw [hport, PortTraffic.departed_counter _ (by decide) (by decide) (by decide), PortTraffic.counted_counter_same]
  case losses =>
    rw [hport, PortTraffic.departed_counter _ (by decide) (by decide) (by decide),
      PortTraffic.counted_counter_other _ _ (by decide)]

theorem utilOf_port {t : Vector EthPort 3} (hport : t[p] = d.eth[p]) : ({ d with eth := t } : Dev).utilOf p = d.utilOf p := by
  unfold utilOf
  rw [hport]

/-- Of the table of ports, an ease up rests on the port's entry and the states of the others. -/
theorem EasesUp.of_port (h : d.EasesUp p) {t : Vector EthPort 3} (hport : t[p] = d.eth[p])
    (hstate : ∀ q : Fin 3, t[q].link.state = d.eth[q].link.state) : ({ d with eth := t } : Dev).EasesUp p where
  on := h.on
  up := (hstate p).trans h.up
  enabled := by rw [hport]; exact h.enabled
  speed := by rw [hport]; exact h.speed
  since := by rw [hport]; exact h.since
  high := by rw [utilOf_port hport]; exact h.high
  permitted := (easePermitted_states hstate p).trans h.permitted
  supply := h.supply
  alone q hq := by rw [hstate]; exact h.alone q hq

/-- At the end of a window of the three ports, the one port with EASE_EN at 1 starts its ease up. -/
theorem utilWindow_eased (h : d.EasesUp p) (hoff : ∀ q : Fin 3, q ≠ p → d.rbit (ethReg q Reg.ETH0_CTRL) 4 = false) :
    Eased p d d.utilWindow := by
  obtain ⟨l, r, heq, hl, hr⟩ := allFin_split p
  have hport := windowed_other hl d.eth
  have hfirst := utilPorts_off l fun q hq => hoff q fun hqp => hl (hqp ▸ hq)
  have hup := h.of_port hport (windowed_state l d.eth)
  rw [utilWindow, heq, List.foldl_append, List.foldl_cons, hfirst]
  generalize l.foldl (fun t q => upd t q EthPort.windowed) d.eth = t at hport hup ⊢
  have heased := hup.eased
  have hflags : SetsFlags d (({ d with eth := t } : Dev).utilPort p) :=
    (SetsFlags.of_regs (d := d) (e := { d with eth := t }) rfl).trans hup.setsFlags
  generalize ({ d with eth := t } : Dev).utilPort p = e at heased hflags ⊢
  have hlast := utilPorts_off r (d := e) fun q hq => (hflags.ctrl_bit q 4).trans (hoff q fun hqp => hr (hqp ▸ hq))
  have hkept := windowed_other hr e.eth
  obtain ⟨hstate, heaseUp, hutil, hscript, hflag, hplanned, hlosses⟩ := heased
  rw [hlast]
  constructor
  case flag => exact hflag
  all_goals rw [hkept]
  case state => exact hstate
  case easeUp => exact heaseUp
  case util => exact hutil.trans (by rw [utilOf_port hport])
  case script => exact hscript
  case planned => exact hplanned.trans (by rw [hport])
  case losses => exact hlosses.trans (by rw [hport])

end
end Dev

/-- Settles O41: a window ends on the ports in turn, and those with EASE_EN at 0 leave an ease of the one with it at 1 as
it is. -/
theorem portUpkeep : Obligations.PortUpkeep := by
  unfold Obligations.PortUpkeep
  refine ⟨fun a b c s hawake hpin hlow => ?poll, fun a b c s hawake hrest => ?rest, fun p k s hawake hdue => ?script,
    fun s hawake hoff => ?window, fun p s hawake hon hup hdis hspeed hsince hhigh hperm hsup hothers => ?ease,
    fun p s hawake hup hhold => ?hold⟩
  case poll =>
    exact (exec_phyInterrupt a b c s).trans (next_dev ((Dev.awake_act hawake _).trans (Dev.phyInterrupt_polls hpin hlow a b c)))
  case rest => exact rests_awake hawake (exec_phyInterrupt a b c s) (Dev.phyInterrupt_rests hrest _)
  case script =>
    refine does_awake hawake (exec_phyScriptRun p k s) ⟨?_, fun hown => Dev.phyScript_own hdue hown, ?_, fun hown hk => ?_⟩
    · rw [Dev.phyScript_eth hdue, upd_same]
    · rintro hown rfl
      exact Dev.phyScript_start hdue hown
    · obtain ⟨rest, heq⟩ := Dev.phyScript_ease hdue hown hk
      obtain ⟨hfull, hfast, hmiddle⟩ := Dev.boundWrite_easeBase hk (s.dev.eth[p].link.reg0.getLsbD 12) s.dev.eth[p].link.maxSpeed
      exact ⟨_, rest, heq, rfl, rfl, rfl, hfull, hfast, hmiddle⟩
  case window =>
    have hends := Dev.utilPorts_off (allFin 3) (d := s.dev) fun p _ => hoff p
    refine does_awake hawake (exec_utilWindowEnd s) ?_
    rw [Dev.utilWindow, hends]
    exact ⟨rfl, fun p => Dev.windowed_all s.dev.eth p⟩
  case ease =>
    have heased := Dev.utilWindow_eased (d := s.dev) (p := p)
      ⟨hon, hup, hdis, hspeed, hsince, hhigh, hperm, hsup, fun q hq => (hothers q hq).1⟩ fun q hq => (hothers q hq).2
    refine does_awake hawake (exec_utilWindowEnd s) ?_
    generalize s.dev.utilWindow = e at heased ⊢
    exact ⟨heased.state, heased.easeUp, heased.util, heased.script, heased.flag, heased.planned, heased.losses⟩
  case hold =>
    refine does_awake hawake (exec_linkHoldExpiry p s) ?_
    rw [Dev.linkHoldExpire_spec hup hhold]
    exact ⟨PortTraffic.heldFlushed_queue _, rfl, PortTraffic.heldFlushed_counter _, rfl⟩

end Sys2Proof.Machine
end

section
/-!
# Rings, queues, pause and addresses of the ports

What each transfer makes of the traffic of its port.
-/
namespace Sys2Proof.Machine

/-- The first index that satisfies a test, by what comes before it. -/
theorem findIdx?_first {n : Nat} {ok : Fin n → Bool} {q : Fin n} (hq : ok q = true) (h : ∀ k < q, ok k = false) :
    Dev.findIdx? ok = some q := by
  unfold Dev.findIdx?
  cases hfind : (allFin n).find? ok with
  | none => simpa [hq] using List.find?_eq_none.mp hfind q (List.mem_finRange q)
  | some c =>
    obtain ⟨hc, l, r, heq, hl⟩ := List.find?_eq_some_iff_append.mp hfind
    have hsorted : (l ++ c :: r).Pairwise (· < ·) := heq ▸ List.pairwise_lt_finRange n
    have hmem : q ∈ l ++ c :: r := heq ▸ List.mem_finRange q
    have hlate : ∀ x ∈ r, c < x := (List.pairwise_cons.mp (List.pairwise_append.mp hsorted).2.1).1
    rcases List.mem_append.mp hmem with hbefore | hafter
    · simpa [hq] using hl q hbefore
    · rcases List.mem_cons.mp hafter with rfl | hr
      · rfl
      · simp [h c (hlate q hr)] at hc

namespace PortTraffic

/-- A frame joins the end of its queue, held where the port is not UP (R191, R196). -/
def joined (t : PortTraffic) (f : TxFrame) (held : Bool) : PortTraffic := { t with
  queues := upd t.queues (Dev.queueNo f.queue) fun q => q ++ [f], holding := t.holding || held }

theorem joined_queue (t : PortTraffic) (f : TxFrame) (held : Bool) :
    (t.joined f held).queues[Dev.queueNo f.queue] = t.queues[Dev.queueNo f.queue] ++ [f] := upd_same ..

theorem joined_at (t : PortTraffic) {f : TxFrame} {k : Fin 4} (hf : Dev.queueNo f.queue = k) (held : Bool) :
    (t.joined f held).queues[k] = t.queues[k] ++ [f] := by
  subst hf
  exact t.joined_queue f held

theorem joined_holding (t : PortTraffic) (f : TxFrame) (held : Bool) : (t.joined f held).holding = (t.holding || held) := rfl

theorem joined_other (t : PortTraffic) {f : TxFrame} {k : Fin 4} (h : k ≠ Dev.queueNo f.queue) (held : Bool) :
    (t.joined f held).queues[k] = t.queues[k] := upd_other _ h.symm _

/-- The oldest frame of a queue is put on the wire (R186). -/
def launching (t : PortTraffic) (q : Fin 4) (mac : BitVec 48) (delay : Nat) : PortTraffic := { t with
  onWire := t.queues[q].head?, queues := upd t.queues q (·.drop 1), wireSource := mac, txDelay := delay }

section
variable (t : PortTraffic) {q : Fin 4} {f : TxFrame} {rest : List TxFrame} (hq : t.queues[q] = f :: rest)
  (mac : BitVec 48) (delay : Nat)
include hq

theorem launching_wire : (t.launching q mac delay).onWire = some f := by simp [launching, hq, -Fin.getElem_fin]

theorem launching_queue (k : Fin 4) : (t.launching q mac delay).queues[k] = if k = q then rest else t.queues[k] := by
  refine (upd_get ..).trans ?_
  rw [hq, List.drop_one, List.tail_cons]
  simp only [eq_comm]

/-- A frame that moves from its queue to the wire stays among the frames of the ring. -/
theorem launching_frames (hwire : t.onWire = none) :
    (Dev.PortTraffic.txFrames (t.launching q mac delay)).Perm (Dev.PortTraffic.txFrames t) := by
  refine List.perm_iff_count.mpr fun a => ?_
  simp only [Dev.PortTraffic.txFrames, launching_wire t hq, hwire, launching_queue t hq, List.count_append, Option.toList]
  have hcount : t.queues[q].count a = [f].count a + rest.count a := by rw [hq, ← List.count_append, List.singleton_append]
  fin_cases q <;>
    simp only [Fin.reduceEq, Fin.isValue, Fin.mk_one, Fin.zero_eta, Fin.reduceFinMk, reduceIte, List.count_nil] at hcount ⊢ <;>
    omega

end

/-- What a frame for the control queue leaves of the traffic. -/
structure ControlKept (t u : PortTraffic) : Prop where
  wire : u.onWire = t.onWire
  source : u.wireSource = t.wireSource
  queue : ∀ k : Fin 4, k ≠ 0 → u.queues[k] = t.queues[k]

theorem joined_keeps (t : PortTraffic) {f : TxFrame} (hf : f.queue = .control) (held : Bool) : ControlKept t (t.joined f held) where
  wire := rfl
  source := rfl
  queue _ hk := t.joined_other (hf ▸ hk) held

/-- A frame that joins its queue is counted where it waits for a pause (R205). -/
def waiting (t : PortTraffic) : PortTraffic := if t.pauseQuanta ≠ 0 then t.counted 30 1 else t

@[simp] theorem waiting_queues (t : PortTraffic) : t.waiting.queues = t.queues := by
  unfold waiting
  split <;> rfl

theorem waiting_keeps (t : PortTraffic) : ControlKept t t.waiting := by
  unfold waiting
  split <;> exact ⟨rfl, rfl, fun _ _ => rfl⟩

theorem ControlKept.trans {t u v : PortTraffic} (htu : ControlKept t u) (huv : ControlKept u v) : ControlKept t v where
  wire := huv.wire.trans htu.wire
  source := huv.source.trans htu.source
  queue k hk := (huv.queue k hk).trans (htu.queue k hk)

/-- The frame on the wire has left, counted in the counters of R205. -/
def sent (t : PortTraffic) (f : TxFrame) : PortTraffic :=
  { ((t.counted 20 f.length).counted 21 1).counted (Dev.txCounter f.queue) 1 with
    onWire := none, txBits := t.txBits + Dev.lineBits f.length }

theorem txCounter_ne (q : TxQueue) : Dev.txCounter q ≠ 20 ∧ Dev.txCounter q ≠ 21 := by
  cases q <;> decide

theorem sent_wire (t : PortTraffic) (f : TxFrame) : (t.sent f).onWire = none := rfl

theorem sent_queues (t : PortTraffic) (f : TxFrame) : (t.sent f).queues = t.queues := rfl

theorem sent_octets (t : PortTraffic) (f : TxFrame) :
    (t.sent f).counters[(20 : Fin 40)] = (t.counters[(20 : Fin 40)] + f.length) % 2 ^ 32 :=
  calc (t.sent f).counters[(20 : Fin 40)]
    _ = ((t.counted 20 f.length).counted 21 1).counters[(20 : Fin 40)] := counted_counter_other _ _ (txCounter_ne f.queue).1
    _ = (t.counted 20 f.length).counters[(20 : Fin 40)] := counted_counter_other _ _ (by decide)
    _ = _ := counted_counter_same ..

theorem sent_frames (t : PortTraffic) (f : TxFrame) :
    (t.sent f).counters[(21 : Fin 40)] = (t.counters[(21 : Fin 40)] + 1) % 2 ^ 32 :=
  calc (t.sent f).counters[(21 : Fin 40)]
    _ = ((t.counted 20 f.length).counted 21 1).counters[(21 : Fin 40)] := counted_counter_other _ _ (txCounter_ne f.queue).2
    _ = ((t.counted 20 f.length).counters[(21 : Fin 40)] + 1) % 2 ^ 32 := counted_counter_same ..
    _ = _ := by rw [counted_counter_other _ _ (by decide)]

/-- A stop of so many quanta (R197). -/
def stopped (t : PortTraffic) (n : Nat) : PortTraffic := { t with pauseQuanta := n }

theorem stopped_counter (t : PortTraffic) (n : Nat) (k : Fin 40) : (t.stopped n).counter k = t.counter k := rfl

end PortTraffic

namespace Dev

section
variable {d : Dev} {p : Fin 3} {f : TxFrame}

/-! ### Submissions (R191, R196) -/

/-- The traffic of a port that joins a frame: one that waits for a pause is counted. -/
theorem submit_joins (hlink : d.eth[p].link.state = .up ∨ f.queue = .bestEffort)
    (hring : (PortTraffic.txFrames d.eth[p].traffic).length < d.eth[p].traffic.txSize)
    (hcells : d.txCells + cellsOf f.length ≤ 320) :
    (d.submit p f).eth = upd d.eth p fun e => { e with
      traffic := e.traffic.waiting.joined f (e.link.state != .up) } := by
  have hlinked : ¬ (d.eth[p].link.state ≠ .up ∧ f.queue ≠ .bestEffort) := fun hn => hlink.elim hn.1 hn.2
  unfold submit
  dsimp only
  rw [if_neg hlinked, if_neg (by omega)]
  split
  case isTrue h =>
    rw [modTraffic_eth, count_eth, upd_upd]
    exact upd_congr (by dsimp only; rw [PortTraffic.waiting, if_pos h]; rfl)
  case isFalse h =>
    rw [modTraffic_eth]
    exact upd_congr (by rw [PortTraffic.waiting, if_neg h]; rfl)

/-- A full ring refuses a frame, which is counted and flagged. -/
theorem submit_full (hlink : d.eth[p].link.state = .up ∨ f.queue = .bestEffort)
    (hfull : d.eth[p].traffic.txSize ≤ (PortTraffic.txFrames d.eth[p].traffic).length ∨ 320 < d.txCells + cellsOf f.length) :
    d.submit p f = (d.count p 28).ethFlag p 5 := by
  have hlinked : ¬ (d.eth[p].link.state ≠ .up ∧ f.queue ≠ .bestEffort) := fun hn => hlink.elim hn.1 hn.2
  unfold submit
  dsimp only
  rw [if_neg hlinked]
  exact if_pos hfull

/-- The counter of a frame of a stream or of control that is discarded for want of a link. -/
theorem discardCounter_of_ne {q : TxQueue} (h : q ≠ .bestEffort) : discardCounter q = if q = .control then 31 else 26 := by
  cases q with
  | bestEffort => exact absurd rfl h
  | control => rfl
  | classA => rfl
  | classB => rfl

/-- A port that is not UP discards a frame of a stream or of control. -/
theorem submit_discards (hlink : d.eth[p].link.state ≠ .up) (hqueue : f.queue ≠ .bestEffort) : (d.submit p f).eth =
    upd d.eth p fun e => { e with traffic := e.traffic.counted (if f.queue = .control then 31 else 26) 1 } := by
  rw [submit, if_pos ⟨hlink, hqueue⟩, talkerDiscard_eth, count_eth, discardCounter_of_ne hqueue]

/-! ### The wire (R186, R209) -/

/-- The port puts the oldest frame of a queue on the wire. -/
def launched (d : Dev) (p : Fin 3) (q : Fin 4) : Dev :=
  d.modTraffic p fun t => t.launching q d.eth[p].mac (d.rfld (ethReg p Reg.ETH0_CTRL) 22 16)

/-- The test by which a queue may send. -/
def maySend (t : PortTraffic) (q : Fin 4) : Prop :=
  t.queues[q] ≠ [] ∧ (q = 1 → 0 ≤ t.credit[(0 : Fin 2)]) ∧ (q = 2 → 0 ≤ t.credit[(1 : Fin 2)])

theorem nextQueue_first {t : PortTraffic} {q : Fin 4} (hq : maySend t q) (hfirst : ∀ k < q, ¬ maySend t k) :
    nextQueue t = some q := by
  have htest (k : Fin 4) : ((!t.queues[k].isEmpty &&
      (if k = 1 then t.credit[(0 : Fin 2)] ≥ 0 else if k = 2 then t.credit[(1 : Fin 2)] ≥ 0 else true)) = true) ↔ maySend t k := by
    unfold maySend
    by_cases h1 : k = 1
    · simp [h1]
    · by_cases h2 : k = 2 <;> simp [h1, h2]
  exact findIdx?_first ((htest q).mpr hq) fun k hk => Bool.eq_false_iff.mpr (mt (htest k).mp (hfirst k hk))

theorem launched_eq (q : Fin 4) : (d.modTraffic p fun t => { t with
    onWire := d.eth[p].traffic.queues[q].head?, queues := upd t.queues q (·.drop 1), wireSource := d.eth[p].mac,
    txDelay := d.rfld (ethReg p Reg.ETH0_CTRL) 22 16 }) = d.launched p q :=
  congrArg (fun t => { d with eth := t }) (upd_congr rfl)

/-- A frame starts on the wire. -/
theorem txStart_eq (hup : d.eth[p].link.state = .up) (hdis : d.eth[p].link.disabling = false)
    (hwire : d.eth[p].traffic.onWire = none) (hpause : d.eth[p].traffic.pauseQuanta = 0) {q : Fin 4}
    (hnext : nextQueue d.eth[p].traffic = some q) {rest : List TxFrame} (hq : d.eth[p].traffic.queues[q] = f :: rest) :
    d.txStart p = match f.body with
      | .gptp m => (d.launched p q).gptpLaunched p m (d.launchStamp p)
      | _ => d.launched p q := by
  have hstarts : d.eth[p].link.state = .up ∧ ¬ d.eth[p].link.disabling ∧ d.eth[p].traffic.onWire.isNone ∧
      d.eth[p].traffic.pauseQuanta = 0 := ⟨hup, by rw [hdis]; decide, by rw [hwire]; rfl, hpause⟩
  unfold txStart
  dsimp only
  rw [if_pos hstarts, hnext]
  dsimp only
  rw [launched_eq, hq]
  generalize d.launched p q = e
  obtain ⟨_, _, _, _, _, body⟩ := f
  cases body <;> rfl

theorem launched_eth (q : Fin 4) : (d.launched p q).eth = upd d.eth p fun e => { e with
    traffic := e.traffic.launching q d.eth[p].mac (d.rfld (ethReg p Reg.ETH0_CTRL) 22 16) } := modTraffic_eth d p _

theorem launched_port (q : Fin 4) : (d.launched p q).eth[p] = { d.eth[p] with
    traffic := d.eth[p].traffic.launching q d.eth[p].mac (d.rfld (ethReg p Reg.ETH0_CTRL) 22 16) } := by
  rw [launched_eth, upd_same]

/-- A frame that starts on the wire keeps its cells. -/
theorem launched_txCells {q : Fin 4} {rest : List TxFrame} (hq : d.eth[p].traffic.queues[q] = f :: rest)
    (hwire : d.eth[p].traffic.onWire = none) : (d.launched p q).txCells = d.txCells := by
  unfold txCells
  refine congrArg List.sum (List.map_congr_left fun k _ => ?_)
  by_cases hk : p = k
  · subst hk
    rw [launched_port]
    exact ((PortTraffic.launching_frames _ hq _ _ hwire).map _).sum_eq
  · rw [launched_eth, upd_other _ hk]

/-- A frame for the control queue, taken or refused, leaves the wire and the other queues. -/
theorem submit_control (hup : d.eth[p].link.state = .up) (hf : f.queue = .control) :
    PortTraffic.ControlKept d.eth[p].traffic (d.submit p f).eth[p].traffic := by
  by_cases hroom : (PortTraffic.txFrames d.eth[p].traffic).length < d.eth[p].traffic.txSize ∧ d.txCells + cellsOf f.length ≤ 320
  · rw [submit_joins (.inl hup) hroom.1 hroom.2, upd_same]
    exact (PortTraffic.waiting_keeps _).trans (PortTraffic.joined_keeps _ hf _)
  · rw [submit_full (.inl hup) (by omega), ethFlag_eth, count_eth, upd_same]
    exact ⟨rfl, rfl, fun _ _ => rfl⟩

/-- What the launch of an event message leaves of the traffic (R209). -/
theorem gptpLaunched_keeps (hup : d.eth[p].link.state = .up) (m : GptpSent) (at' : Int) :
    PortTraffic.ControlKept d.eth[p].traffic (d.gptpLaunched p m at').eth[p].traffic := by
  cases m with
  | pdelayReq seq => exact ⟨rfl, rfl, fun _ _ => rfl⟩
  | pdelayResp seq origin => exact submit_control hup rfl
  | pdelayRespFollowUp seq origin => exact ⟨rfl, rfl, fun _ _ => rfl⟩

/-- A Pdelay_Resp alone sends a follow-up. -/
theorem gptpLaunched_eth {m : GptpSent} (h : ∀ n y, m ≠ .pdelayResp n y) (at' : Int) : (d.gptpLaunched p m at').eth = d.eth := by
  cases m with
  | pdelayReq seq => rfl
  | pdelayResp seq origin => exact absurd rfl (h seq origin)
  | pdelayRespFollowUp seq origin => rfl

/-- The follow-up of a Pdelay_Resp. -/
def followUp (n : U16) (at' : Int) : TxFrame := ⟨.control, 72, none, 0x0180C200000E, 0x88F7, .gptp (.pdelayRespFollowUp n at')⟩

/-- The follow-up of a Pdelay_Resp joins the control queue, with room for it. -/
theorem gptpLaunched_followUp (hup : d.eth[p].link.state = .up) (hcells : d.txCells + 1 ≤ 320)
    (hring : (PortTraffic.txFrames d.eth[p].traffic).length < d.eth[p].traffic.txSize) (n : U16) (y : Int) (at' : Int) :
    (d.gptpLaunched p (.pdelayResp n y) at').eth[p].traffic.queues[(0 : Fin 4)] = d.eth[p].traffic.queues[(0 : Fin 4)] ++
      [followUp n at'] := by
  have hone : cellsOf (followUp n at').length = 1 := show cellsOf 72 = 1 by decide
  have hlaunch : d.gptpLaunched p (.pdelayResp n y) at' = d.submit p (followUp n at') := rfl
  rw [hlaunch, submit_joins (f := followUp n at') (.inl hup) hring (hone ▸ hcells), upd_same,
    PortTraffic.joined_at (k := 0) _ rfl, PortTraffic.waiting_queues]

/-- A Pdelay_Req keeps the time of its launch. -/
theorem gptpLaunched_reqSent {n : U16} (hseq : d.gptp[p].pdelaySeq = n) (at' : Int) :
    (d.gptpLaunched p (.pdelayReq n) at').gptp[p].reqSent = some at' := by
  rw [gptpLaunched, modGptp_gptp, upd_same, if_pos hseq]

/-- What a frame that starts on the wire leaves behind, of the traffic from which it was launched. -/
theorem txStart_keeps (hup : d.eth[p].link.state = .up) (hdis : d.eth[p].link.disabling = false)
    (hwire : d.eth[p].traffic.onWire = none) (hpause : d.eth[p].traffic.pauseQuanta = 0) {q : Fin 4}
    (hnext : nextQueue d.eth[p].traffic = some q) {rest : List TxFrame} (hq : d.eth[p].traffic.queues[q] = f :: rest) :
    PortTraffic.ControlKept (d.launched p q).eth[p].traffic (d.txStart p).eth[p].traffic ∧
    ((∀ n y, f.body ≠ .gptp (.pdelayResp n y)) →
      (d.txStart p).eth[p].traffic.queues[(0 : Fin 4)] = (d.launched p q).eth[p].traffic.queues[(0 : Fin 4)]) ∧
    (∀ n y, f.body = .gptp (.pdelayResp n y) → d.txCells + 1 ≤ 320 →
      (PortTraffic.txFrames d.eth[p].traffic).length < d.eth[p].traffic.txSize →
      (d.txStart p).eth[p].traffic.queues[(0 : Fin 4)] =
        (d.launched p q).eth[p].traffic.queues[(0 : Fin 4)] ++ [followUp n (d.launchStamp p)]) ∧
    (∀ n, f.body = .gptp (.pdelayReq n) → d.gptp[p].pdelaySeq = n → (d.txStart p).gptp[p].reqSent = some (d.launchStamp p)) := by
  have hport := launched_port (d := d) (p := p) q
  have hcells := launched_txCells hq hwire
  have hframes : (PortTraffic.txFrames (d.launched p q).eth[p].traffic).length = (PortTraffic.txFrames d.eth[p].traffic).length := by
    rw [hport]
    exact (PortTraffic.launching_frames _ hq _ _ hwire).length_eq
  have hsize : (d.launched p q).eth[p].traffic.txSize = d.eth[p].traffic.txSize := by rw [hport]; rfl
  have hgptp : (d.launched p q).gptp = d.gptp := rfl
  have hstate : (d.launched p q).eth[p].link.state = .up := by rw [hport]; exact hup
  rw [txStart_eq hup hdis hwire hpause hnext hq]
  generalize d.launchStamp p = at'
  generalize d.launched p q = e at hcells hframes hsize hgptp hstate ⊢
  clear hport hq
  cases hbody : f.body with
  | gptp m =>
    refine ⟨gptpLaunched_keeps hstate m at', fun h => ?_, fun n y h hroom hring => ?_, fun n h hseq => ?_⟩
    · dsimp only
      rw [gptpLaunched_eth fun n y hm => h n y (hm ▸ rfl)]
    · cases h
      exact gptpLaunched_followUp hstate (hcells ▸ hroom) (by omega) n y at'
    · cases h
      exact gptpLaunched_reqSent (hgptp ▸ hseq) at'
  | other => exact ⟨⟨rfl, rfl, fun _ _ => rfl⟩, fun _ => rfl, nofun, nofun⟩
  | remote flags seq response => exact ⟨⟨rfl, rfl, fun _ _ => rfl⟩, fun _ => rfl, nofun, nofun⟩
  | beacon payload => exact ⟨⟨rfl, rfl, fun _ _ => rfl⟩, fun _ => rfl, nofun, nofun⟩
  | aaf frame => exact ⟨⟨rfl, rfl, fun _ _ => rfl⟩, fun _ => rfl, nofun, nofun⟩

/-! ### The end of a frame, pauses (R186, R197) -/

/-- The frame on the wire leaves. -/
theorem txDone_eth (hwire : d.eth[p].traffic.onWire = some f) (hdis : d.eth[p].link.disabling = false) :
    (d.txDone p).eth = upd d.eth p fun e => { e with traffic := e.traffic.sent f } := by
  have heth : (((d.countBy p 20 f.length).count p 21).count p (txCounter f.queue) |>.modTraffic p fun t =>
      { t with onWire := none, txBits := t.txBits + lineBits f.length }).eth =
        upd d.eth p fun e => { e with traffic := e.traffic.sent f } := by
    rw [modTraffic_eth, count_eth, count_eth, countBy_eth, upd_upd, upd_upd, upd_upd]
    rfl
  unfold txDone
  rw [hwire]
  dsimp only
  generalize (((d.countBy p 20 f.length).count p 21).count p (txCounter f.queue)).modTraffic p _ = e at heth ⊢
  rw [if_neg, heth]
  rw [heth, upd_same, hdis]
  decide

/-- A PAUSE that is not obeyed is counted. -/
theorem pauseFrame_ignored (hdown : d.eth[p].link.state ≠ .down) (hobeys : d.rbit (ethReg p Reg.ETH0_CTRL) 2 = false) (n : Nat) :
    d.pauseFrame p n = d.count p 9 := by
  have hctrl := (count_setsFlags d p 9).ctrl_bit p 2
  rw [pauseFrame, if_neg hdown]
  exact if_neg (by rw [hctrl, hobeys]; decide)

/-- The frames that wait at the start of a stop are counted. -/
def pauseWaits (d : Dev) (p : Fin 3) (n : Nat) : Dev :=
  if d.eth[p].traffic.pauseQuanta = 0 ∧ n ≠ 0 then
    d.countBy p 30 (d.eth[p].traffic.queues[(0 : Fin 4)] ++ d.eth[p].traffic.queues[(1 : Fin 4)] ++
      d.eth[p].traffic.queues[(2 : Fin 4)] ++ d.eth[p].traffic.queues[(3 : Fin 4)]).length
  else d

theorem pauseWaits_counter {k : Fin 40} (hk : 30 ≠ k) (n : Nat) :
    ((d.pauseWaits p n).trafficAt p).counter k = (d.trafficAt p).counter k := by
  unfold pauseWaits
  split
  · rw [countBy_trafficAt, PortTraffic.counter_counted_other _ _ hk]
  · rfl

/-- A PAUSE that is obeyed starts its stop. -/
theorem pauseFrame_obeyed (hdown : d.eth[p].link.state ≠ .down) (hobeys : d.rbit (ethReg p Reg.ETH0_CTRL) 2 = true) (n : Nat) :
    d.pauseFrame p n = ((((d.count p 9).pauseWaits p n).modTraffic p (·.stopped n)).ethFlag p 10).countBy p 29 n := by
  have hctrl := (count_setsFlags d p 9).ctrl_bit p 2
  rw [pauseFrame, if_neg hdown]
  exact if_pos (by rw [hctrl, hobeys])

theorem ethFlag_trafficAt (i : Nat) : (d.ethFlag p i).trafficAt p = d.trafficAt p := rfl

theorem pauseFrame_spec (hdown : d.eth[p].link.state ≠ .down) (hobeys : d.rbit (ethReg p Reg.ETH0_CTRL) 2 = true) (n : Nat) :
    ((d.pauseFrame p n).trafficAt p).counter 9 = ((d.trafficAt p).counter 9 + 1) % 2 ^ 32 ∧
    ((d.pauseFrame p n).trafficAt p).pauseQuanta = n ∧ (d.pauseFrame p n).rbit (ethReg p Reg.ETH0_IRQ_STATUS) 10 = true ∧
    ((d.pauseFrame p n).trafficAt p).counter 29 = ((d.trafficAt p).counter 29 + n) % 2 ^ 32 := by
  have hwaits {k : Fin 40} (hk : 30 ≠ k) := pauseWaits_counter (d := d.count p 9) (p := p) hk n
  have hflag := (countBy_setsFlags _ p 29 n).flag _ _
    (ethFlag_rbit (((d.count p 9).pauseWaits p n).modTraffic p (·.stopped n)) p (i := 10) (by decide))
  rw [pauseFrame_obeyed hdown hobeys, countBy_trafficAt, ethFlag_trafficAt, modTraffic_trafficAt]
  refine ⟨?_, rfl, hflag, ?_⟩
  · rw [PortTraffic.counter_counted_other _ _ (by decide), PortTraffic.stopped_counter, hwaits (by decide), count_trafficAt,
      PortTraffic.counter_counted_same]
  · rw [PortTraffic.counter_counted_same, PortTraffic.stopped_counter, hwaits (by decide), count_trafficAt,
      PortTraffic.counter_counted_other _ _ (by decide)]

end

/-! ### Addresses and filters (R189, R200) -/

section
variable {d : Dev} {p : Fin 3}

/-- A write of a register of a port's block by the host. -/
theorem hostWrite_ethStore (h : d.Writable) {a : Nat} (ha : 0x100 ≤ a ∧ a < 0x140) {r : RegInfo} (hr : regInfo (ethReg p a) = some r)
    (haddr : r.addr = ethReg p a) (w : Word) : d.hostWrite (ethReg p a) w = d.ethStore p (a - 0x100) r w := by
  have hp := p.isLt
  have hlt : ethReg p a < 0x1C0 ∧ 0x100 ≤ ethReg p a := by unfold ethReg; omega
  have hport (h) : (⟨(r.addr - 0x100) / 0x40, h⟩ : Fin 3) = p := Fin.ext (by simp only [haddr, ethReg]; omega)
  have hoff : r.addr % 0x40 = a - 0x100 := by rw [haddr, ethReg]; omega
  rw [hostWrite_reg h (by omega) hr, regStore, if_neg (by omega), dif_pos (by omega), hport, hoff]

/-- The words of the address and of the filters are laid out. -/
theorem regInfo_address (p : Fin 3) {a : Nat} (ha : a = Reg.ETH0_MAC_HI ∨ a = Reg.ETH0_FILT_LO ∨ a = Reg.ETH0_FILT_HI) :
    ∃ r, regInfo (ethReg p a) = some r ∧ r.addr = ethReg p a := by
  have hsome : (regInfo (ethReg p a)).isSome := by
    rcases ha with rfl | rfl | rfl <;> revert p <;> decide
  obtain ⟨r, hr⟩ := Option.isSome_iff_exists.mp hsome
  have haddr : r.addr = ethReg p a / 4 * 4 :=
    beq_iff_eq.mp (List.find?_some (p := fun r : RegInfo => r.addr == ethReg p a / 4 * 4) hr)
  refine ⟨r, hr, haddr.trans ?_⟩
  rcases ha with rfl | rfl | rfl <;> simp only [ethReg, Reg.ETH0_MAC_HI, Reg.ETH0_FILT_LO, Reg.ETH0_FILT_HI] <;> omega

/-- A write of ETHn_MAC_HI commits the address. -/
theorem macHiWrite_port (w : Word) : (d.macHiWrite p w).eth[p] = { d.eth[p] with
    mac := BitVec.ofNat 48 (fld w 15 0 * 2 ^ 32 + (d.reg (ethReg p Reg.ETH0_MAC_LO)).toNat) } := by
  have hlo : (d.setRfld (ethReg p Reg.ETH0_MAC_HI) 15 0 (fld w 15 0)).reg (ethReg p Reg.ETH0_MAC_LO) =
      d.reg (ethReg p Reg.ETH0_MAC_LO) := by
    refine reg_setRfld_other d ?_ ?_ _ _ _ <;> have hp := p.isLt <;> simp only [ethReg, Reg.ETH0_MAC_HI, Reg.ETH0_MAC_LO] <;> omega
  rw [macHiWrite, modPort_eth, upd_same, hlo]
  rfl

/-- The entry of a filter after the host's write of a half (R189, R200). -/
def filtWritten (f : Filter) (high : Bool) (w : Word) : Filter :=
  if high then { f with hi := w.setWidth 16, valid := w.getLsbD 16, loHalf := false, hiHalf := w.getLsbD 16 && !f.loHalf }
  else { f with lo := w, loHalf := !f.hiHalf, hiHalf := false }

/-- A store at an index within bounds is an update. -/
theorem setIfInBounds_upd {α : Type} {n : Nat} (v : Vector α n) (k : Fin n) {x : α} {g : α → α} (h : x = g v[k]) :
    v.setIfInBounds k.val x = upd v k g := by
  refine Vector.ext fun j hj => ?_
  rw [Vector.getElem_setIfInBounds, h]
  simp [upd, Vector.getElem_set]

/-- A write of a half of the selected filter entry. -/
theorem filtWrite_eq {k : Fin 8} (hsel : d.rfld (ethReg p Reg.ETH0_FILT_SEL) 2 0 = k.val) (high : Bool) (w : Word) :
    d.filtWrite p high w = if Filter.owned d.eth[p].filters[k] then d.ethFlag p 8
      else d.modPort p fun e => { e with filters := upd e.filters k (filtWritten · high w) } := by
  have hentry : d.eth[p].filters[k.val]? = some d.eth[p].filters[k] := Vector.getElem?_eq_getElem k.isLt
  unfold filtWrite
  rw [hsel, hentry]
  dsimp only
  refine if_congr Iff.rfl rfl (congrArg (fun t => { d with eth := t }) (upd_congr ?_))
  refine congrArg (fun fs => { d.eth[p] with filters := fs }) (setIfInBounds_upd _ k ?_)
  generalize d.eth[p].filters[k] = f
  obtain ⟨lo, hi, valid, users, loHalf, hiHalf⟩ := f
  unfold filtWritten
  cases high with
  | false => cases hiHalf <;> rfl
  | true => cases hvalid : w.getLsbD 16 <;> cases loHalf <;> simp

theorem owned_of_users {f : Filter} (h : f.users ≠ []) : Filter.owned f = true := by
  unfold Filter.owned
  rw [List.isEmpty_eq_false_iff.mpr h]
  rfl

theorem not_owned_of_free {f : Filter} (h : f.users = []) : ¬ Filter.owned f = true := by
  unfold Filter.owned
  rw [h]
  decide

/-! ### The remote channel (R198) -/

section
variable {f : RemoteFrame} (hon : d.rbit (ethReg p Reg.ETH0_CTRL) 5 = true)
include hon

/-- A request from a source that is not listed is counted. -/
theorem remoteRequest_unlisted (h : f.source ∉ d.remote.allow) : d.remoteRequest p f = d.count p 37 := by
  rw [remoteRequest, if_neg (not_not.mpr hon)]
  exact if_pos (.inr fun hmem => h (List.contains_iff_mem.mp hmem))

variable (hversion : f.version = 1) (hlisted : f.source ∈ d.remote.allow)
include hversion hlisted

/-- A request that was answered before gets its answer again. -/
theorem remoteRequest_cached {c : RemoteCache} (h : d.remoteCached f.source f.seq = some c) :
    d.remoteRequest p f = d.remoteSend p f.source f.seq c.response := by
  have htaken : ¬ (f.version ≠ 1 ∨ ¬ d.remote.allow.contains f.source) :=
    not_or.mpr ⟨not_not.mpr hversion, not_not.mpr (List.contains_iff_mem.mpr hlisted)⟩
  rw [remoteRequest, if_neg (not_not.mpr hon), if_neg htaken, h]

/-- A new request waits for a pass. -/
theorem remoteRequest_waits (h : d.remoteCached f.source f.seq = none) (hroom : d.remote.waiting.length < 4) :
    d.remoteRequest p f = { d with remote := { d.remote with
      waiting := d.remote.waiting ++ [⟨p, f.source, f.seq, ⟨f.opcode, f.request⟩⟩] } } := by
  have htaken : ¬ (f.version ≠ 1 ∨ ¬ d.remote.allow.contains f.source) :=
    not_or.mpr ⟨not_not.mpr hversion, not_not.mpr (List.contains_iff_mem.mpr hlisted)⟩
  rw [remoteRequest, if_neg (not_not.mpr hon), if_neg htaken, h]
  exact if_neg (by omega)

end

end
end Dev

/-- Settles O43: each row by what it makes of the traffic of its port. -/
theorem portTransfers : Obligations.PortTransfers := by
  unfold Obligations.PortTransfers
  refine ⟨fun p s hawake => ?release, fun p f s hawake hup => ?submit, fun p f s hawake hlink hqueue => ?discard,
    fun p f s hawake hlink hqueue hring hcells => ?hold,
    fun p q f rest s hawake hup hdis hwire hpause hq hsends hfirst => ?start,
    fun p f s hawake hwire hdis => ?done, fun p n s hdown => ?rest, fun p n s hawake hdown => ?pause,
    fun p s hawake => ?expiry, fun p w s hwritable => ?address, fun p k high w s hwritable hsel => ?filter,
    fun p f s hawake hon hversion => ?remote⟩
  case release =>
    refine does_awake hawake (exec_rxDescriptorRelease p s) ?_
    rw [Dev.rxRelease, Dev.modTraffic_eth, upd_same]
    exact ⟨rfl, rfl, rfl, fun q hq => upd_other _ hq.symm _⟩
  case submit =>
    refine does_awake hawake (exec_txSubmit p f s) ⟨fun hroom => ?_, fun hfull => ?_⟩
    · obtain ⟨hring, hcells⟩ := not_or.mp hroom
      rw [Dev.submit_joins (.inl hup) (Nat.lt_of_not_le hring) (Nat.le_of_not_lt hcells), upd_same,
        PortTraffic.joined_queue, PortTraffic.waiting_queues]
    · rw [Dev.submit_full (.inl hup) hfull, Dev.ethFlag_eth, Dev.count_eth, upd_same]
      exact ⟨rfl, Dev.ethFlag_rbit _ p (by decide), PortTraffic.counted_counter_same ..⟩
  case discard =>
    refine does_awake hawake (exec_txSubmit p f s) ?_
    rw [Dev.submit_discards hlink hqueue, upd_same]
    exact ⟨rfl, PortTraffic.counted_counter_same ..⟩
  case hold =>
    refine does_awake hawake (exec_txSubmit p f s) ?_
    rw [Dev.submit_joins (.inr hqueue) hring hcells, upd_same, PortTraffic.joined_holding, bne_iff_ne.mpr hlink, Bool.or_true,
      PortTraffic.joined_at _ (by rw [hqueue]; rfl), PortTraffic.waiting_queues]
    exact ⟨rfl, rfl⟩
  case start =>
    have hnext := Dev.nextQueue_first hsends hfirst
    obtain ⟨hkept, hplain, hresp, hreq⟩ := Dev.txStart_keeps hup hdis hwire hpause hnext hq
    have hport := Dev.launched_port (d := s.dev) (p := p) q
    have hqueue := PortTraffic.launching_queue _ hq s.dev.eth[p].mac (s.dev.rfld (Dev.ethReg p Reg.ETH0_CTRL) 22 16)
    have honwire := PortTraffic.launching_wire _ hq s.dev.eth[p].mac (s.dev.rfld (Dev.ethReg p Reg.ETH0_CTRL) 22 16)
    refine does_awake hawake (exec_txFrameStart p s) ?_
    generalize s.dev.txStart p = e at hkept hplain hresp hreq ⊢
    rw [hport] at hkept hplain hresp
    refine ⟨hkept.wire.trans honwire, hkept.source, fun k hk => (hkept.queue k hk).trans (hqueue k), fun h => ?_,
      fun n y h hc hr => ?_, hreq⟩
    · exact (hplain h).trans (hqueue 0)
    · exact (hresp n y h hc hr).trans (congrArg (· ++ _) (hqueue 0))
  case done =>
    refine does_awake hawake (exec_txFrameDone p s) ?_
    rw [Dev.txDone_eth hwire hdis, upd_same]
    exact ⟨PortTraffic.sent_wire _ f, PortTraffic.sent_queues _ f, PortTraffic.sent_octets _ f, PortTraffic.sent_frames _ f⟩
  case rest =>
    exact (exec_pauseFrame p n s).trans (next_rest (Dev.awake_of_rest (if_pos hdown)))
  case pause =>
    refine does_awake hawake (exec_pauseFrame p n s) ?_
    cases hobeys : s.dev.rbit (Dev.ethReg p Reg.ETH0_CTRL) 2 with
    | true =>
      obtain ⟨hframes, hstop, hflag, hquanta⟩ := Dev.pauseFrame_spec hdown hobeys n.toNat
      generalize s.dev.pauseFrame p n.toNat = e at hframes hstop hflag hquanta ⊢
      exact ⟨hframes, fun _ => ⟨hstop, hflag, hquanta⟩, nofun⟩
    | false =>
      rw [Dev.pauseFrame_ignored hdown hobeys, Dev.count_eth, upd_same]
      exact ⟨PortTraffic.counted_counter_same .., nofun, fun _ => rfl⟩
  case expiry =>
    refine does_awake hawake (exec_pauseExpiry p s) ?_
    rw [Dev.pauseExpire, Dev.modTraffic_eth, upd_same]
    exact ⟨rfl, rfl, rfl⟩
  case address =>
    obtain ⟨r, hr, haddr⟩ := Dev.regInfo_address p (.inl rfl)
    have hwrite := Dev.hostWrite_ethStore hwritable (by decide) hr haddr w
    have hstore : s.dev.ethStore p (Reg.ETH0_MAC_HI - 0x100) r w = s.dev.macHiWrite p w := rfl
    refine does_of_eq (exec_ethMacHiWrite p w s) (hwrite.trans hstore) ?_
    rw [Dev.macHiWrite_port]
    exact ⟨rfl, rfl, rfl⟩
  case filter =>
    obtain ⟨r, hr, haddr⟩ := Dev.regInfo_address p (a := if high then Reg.ETH0_FILT_HI else Reg.ETH0_FILT_LO) (by cases high <;> simp)
    have hwrite := Dev.hostWrite_ethStore hwritable (by cases high <;> decide) hr haddr w
    have hstore : s.dev.ethStore p ((if high then Reg.ETH0_FILT_HI else Reg.ETH0_FILT_LO) - 0x100) r w = s.dev.filtWrite p high w := by
      cases high <;> rfl
    refine does_of_eq (exec_ethFiltWrite p high w s) (hwrite.trans hstore) ?_
    rw [Dev.filtWrite_eq hsel]
    by_cases hfree : s.dev.eth[p].filters[k].users = []
    · rw [if_neg (Dev.not_owned_of_free hfree), Dev.modPort_eth, upd_same]
      refine ⟨fun _ hlow => ?_, fun _ hhigh => ?_, fun hn => absurd hfree hn, fun j hj => upd_other _ hj.symm _⟩
      · subst hlow
        exact upd_same ..
      · subst hhigh
        exact upd_same ..
    · rw [if_pos (Dev.owned_of_users hfree)]
      exact ⟨fun h => absurd h hfree, fun h => absurd h hfree, fun _ => ⟨rfl, Dev.ethFlag_rbit _ p (by decide)⟩, fun _ _ => rfl⟩
  case remote =>
    have hacts := (exec_remoteRequest p f s).trans (next_dev (Dev.awake_act hawake (·.remoteRequest p f)))
    exact ⟨fun hlisted hnew hroom => hacts.trans (next_dev (Dev.remoteRequest_waits hon hversion hlisted hnew hroom)),
      fun c hlisted hcached => hacts.trans (next_dev (Dev.remoteRequest_cached hon hversion hlisted hcached)),
      fun hunlisted => hacts.trans (next_dev (Dev.remoteRequest_unlisted hon hunlisted))⟩

end Sys2Proof.Machine
end

section
/-!
# The commands of the Ethernet ports (R206, Table 7.15)
-/
namespace Sys2Proof.Machine

/-! ### Fields moved from a request to a register -/

section
variable (w : Word)

theorem fld_lt (hi lo : Nat) : fld w hi lo < 2 ^ (hi + 1 - lo) := Nat.mod_lt _ (Nat.two_pow_pos _)

/-- A field moved to a field of its width. -/
theorem fld_moved {h l hi lo : Nat} (hhi : hi < 32) (hwidth : h + 1 - l = hi + 1 - lo) :
    fld (at' lo (fld w h l)) hi lo = fld w h l := by
  rw [fld_at _ _ hhi, ← hwidth, Nat.mod_eq_of_lt (fld_lt w h l)]

/-- A field moved to another place is not read. -/
theorem fld_moved_apart {h l k hi lo : Nat} (hapart : hi < k ∨ k + (h + 1 - l) ≤ lo) : fld (at' k (fld w h l)) hi lo = 0 := by
  rcases hapart with habove | hbelow
  · exact fld_at_above habove _ _
  · exact fld_at_below ((fld_lt w h l).trans_le (Nat.pow_le_pow_right (by decide) (by omega))) _

/-- A field moved to another place leaves a bit. -/
theorem bit_moved_apart {h l k i : Nat} (hapart : i < k ∨ k + (h + 1 - l) ≤ i) : (at' k (fld w h l)).getLsbD i = false := by
  rw [at_bit, fld_testBit]
  by_cases hi : k ≤ i
  · have hout : ¬ i - k < h + 1 - l := by omega
    simp [hout]
  · simp [hi]

/-- A bit moved to a bit. -/
theorem bit_moved {k i : Nat} (hi : i < 32) : (at' i (fld w k k)).getLsbD i = w.getLsbD k := by
  rw [at_bit, fld_testBit]
  simp [hi]

theorem bit_masked {i : Nat} (hi : i < 32) : (w &&& bitW i true).getLsbD i = w.getLsbD i := by
  rw [BitVec.getLsbD_and, bitW_bit _ _ _ hi]
  simp

theorem bit_masked_apart {i j : Nat} (hi : i < 32) (hne : i ≠ j) : (w &&& bitW i true).getLsbD j = false := by
  rw [BitVec.getLsbD_and, bitW_bit _ _ _ hi]
  simp [hne]

theorem fld_masked_apart {i hi lo : Nat} (hi32 : i < 32) (hout : hi < i ∨ i < lo) : fld (w &&& bitW i true) hi lo = 0 := by
  refine Nat.eq_of_testBit_eq fun j => ?_
  rw [fld_testBit, Nat.zero_testBit]
  by_cases hj : j < hi + 1 - lo
  · rw [bit_masked_apart w hi32 (by omega), Bool.and_false]
  · simp [hj]

theorem bit_zero (i : Nat) : (0 : Word).getLsbD i = false := BitVec.getLsbD_zero

theorem fld_zero (hi lo : Nat) : fld 0 hi lo = 0 := by
  simp [fld]

end

/-- A number below the bound is the index it names. -/
theorem withFin_of {n v : Nat} {i : Fin n} (h : v = i.val) (off : Nat) (k : Fin n → CmdResult) : withFin n v off k = k i := by
  subst h
  exact dif_pos i.isLt

/-- A number at the bound or above is refused. -/
theorem withFin_above {n v : Nat} (h : n ≤ v) (off : Nat) (k : Fin n → CmdResult) : withFin n v off k = badParam off :=
  dif_neg (Nat.not_lt.mpr h)

namespace Dev

/-! ### ETH_PORT_SETUP -/

/-- The control word that ETH_PORT_SETUP asks for. -/
def setupWord (ctrl : Word) (req : Request) : Word :=
  orW [at' 0 (req.fld 8 24 24), at' 1 (req.fld 8 16 16), at' 2 (req.fld 8 17 17), at' 3 (req.fld 8 18 18), ctrl &&& bitW 4 true,
    at' 5 (req.fld 8 19 19), at' 8 (req.fld 8 9 8), at' 10 (req.fld 0x0C 21 16), at' 16 (req.fld 0x0C 14 8), at' 24 (req.fld 0x0C 4 0)]

section
variable (ctrl : Word) (req : Request)

/-- The fields of the control word. -/
theorem setupWord_fields : fld (setupWord ctrl req) 9 8 = req.fld 8 9 8 ∧ fld (setupWord ctrl req) 15 10 = req.fld 0x0C 21 16 ∧
    fld (setupWord ctrl req) 22 16 = req.fld 0x0C 14 8 ∧ fld (setupWord ctrl req) 28 24 = req.fld 0x0C 4 0 := by
  unfold setupWord Request.fld
  simp (disch := omega) only [orW, List.foldl, fld_or, fld_moved, fld_moved_apart, fld_masked_apart, fld_zero, Nat.zero_or, Nat.or_zero,
    and_self]

/-- The bits of the control word. -/
theorem setupWord_bits : (setupWord ctrl req).getLsbD 0 = req.bit 8 24 ∧ (setupWord ctrl req).getLsbD 1 = req.bit 8 16 ∧
    (setupWord ctrl req).getLsbD 2 = req.bit 8 17 ∧ (setupWord ctrl req).getLsbD 3 = req.bit 8 18 ∧
    (setupWord ctrl req).getLsbD 4 = ctrl.getLsbD 4 ∧ (setupWord ctrl req).getLsbD 5 = req.bit 8 19 := by
  unfold setupWord Request.fld Request.bit
  simp (disch := omega) only [orW, List.foldl, BitVec.getLsbD_or, bit_moved, bit_moved_apart, bit_masked, bit_masked_apart,
    bit_zero, Bool.false_or, Bool.or_false, and_self]

/-- The control word within its ranges: the speed is at most 1 Gbit/s, and the delay at most 64. -/
theorem ethClamp_ctrl (p : Fin 3) (w : Word) :
    ethClamp p 0 w = setFld (setFld w 9 8 (min 2 (fld w 9 8))) 22 16 (min 64 (fld w 22 16)) := if_pos rfl

theorem ethClamp_ctrl_fields (p : Fin 3) (w : Word) : fld (ethClamp p 0 w) 9 8 = min 2 (fld w 9 8) ∧
    fld (ethClamp p 0 w) 15 10 = fld w 15 10 ∧ fld (ethClamp p 0 w) 22 16 = min 64 (fld w 22 16) ∧
    fld (ethClamp p 0 w) 28 24 = fld w 28 24 := by
  rw [ethClamp_ctrl]
  simp (disch := omega) only [fld_setFld, fld_setFld_other, true_and, and_true]
  omega

theorem ethClamp_ctrl_bit (p : Fin 3) (w : Word) {i : Nat} (hi : i < 8) : (ethClamp p 0 w).getLsbD i = w.getLsbD i := by
  rw [ethClamp_ctrl, setFld_bit _ _ _ _ _ (by decide), if_neg (by omega), setFld_bit _ _ _ _ _ (by decide), if_neg (by omega)]

end
/-- The ring sizes, the latencies and the new retraining bound of a set-up, before its control word. -/
def setupSized (d : Dev) (p : Fin 3) (req : Request) : Dev :=
  ((d.modTraffic p fun t => { t with rxSize := clampN 16 256 (req.fld 0x10 8 0), txSize := clampN 16 256 (req.fld 0x10 24 16) }).modLink p
    fun l => { l with rxLatency := req.fld 0x18 15 0, txLatency := req.fld 0x18 31 16 }).setRfld (ethReg p Reg.ETH0_EASE) 31 24
      (clampN 0 500 (req.fld 0x14 9 0) / 2)

section
variable {d : Dev} {p : Fin 3} {req : Request}

theorem sum_replaced (size : Fin 3 → Nat) (n : Nat) :
    ((allFin 3).map fun q => if q = p then 0 else size q).sum + n = ((allFin 3).map fun q => if q = p then n else size q).sum := by
  fin_cases p <;> simp [allFin, List.finRange] <;> omega

/-- A set-up of a port that is not enabled, within the ring budgets. -/
theorem cmdPortSetup_eq (src : Source) (hp : req.fld 8 1 0 = p.val) (hoff : d.ethEnabled p = false)
    (hspeed : req.fld 8 9 8 < 2 ∨ d.sup.ioeMode ≠ 3)
    (hrx : ((allFin 3).map fun q => if q = p then clampN 16 256 (req.fld 0x10 8 0) else d.eth[q].traffic.rxSize).sum ≤ 256)
    (htx : ((allFin 3).map fun q => if q = p then clampN 16 256 (req.fld 0x10 24 16) else d.eth[q].traffic.txSize).sum ≤ 256) :
    cmdPortSetup src req d = okayKey req (0x0410 + p.val)
      ((d.setupSized p req).ethCtrlStore p (ethClamp p 0 (setupWord (d.reg (ethReg p Reg.ETH0_CTRL)) req))) := by
  have hword := (ethClamp_ctrl_fields p (setupWord (d.reg (ethReg p Reg.ETH0_CTRL)) req)).1
  rw [(setupWord_fields _ req).1] at hword
  have hfast : ¬ (fld (ethClamp p 0 (setupWord (d.reg (ethReg p Reg.ETH0_CTRL)) req)) 9 8 = 2 ∧ d.sup.ioeMode = 3) := by
    rw [hword]
    omega
  rw [← sum_replaced] at hrx htx
  refine (withFin_of hp 8 _).trans ?_
  refine (if_neg hfast).trans ?_
  refine (if_neg fun h => by rw [hoff] at h; exact absurd h.1 (by decide)).trans ?_
  exact (if_neg (Nat.not_lt.mpr hrx)).trans (if_neg (Nat.not_lt.mpr htx))

/-- A control word stored to a port that is not enabled. -/
def controlStored (d : Dev) (p : Fin 3) (w : Word) : Dev :=
  (d.setReg (ethReg p Reg.ETH0_CTRL) w).modLink p fun l => { l with easeTold := false }

theorem ethCtrlStore_eq (hoff : d.ethEnabled p = false) (w : Word) : d.ethCtrlStore p w = (d.controlStored p w).leaveDown p :=
  if_neg fun h => by rw [hoff] at h; exact absurd h.1 (by decide)

theorem ethReg_ctrl_lt (p : Fin 3) : ethReg p Reg.ETH0_CTRL / 4 < 256 := by
  have hp := p.isLt
  simp only [ethReg, Reg.ETH0_CTRL]
  omega

theorem controlStored_reg (w : Word) : (d.controlStored p w).reg (ethReg p Reg.ETH0_CTRL) = w :=
  (reg_congr (modLink_regs _ p _) _).trans (reg_setReg_same d (ethReg_ctrl_lt p) w)

theorem leaveDown_regs : (d.leaveDown p).regs = d.regs := by
  unfold leaveDown
  split
  · exact enterTraining_regs d p
  · rfl

/-- A control word is kept as it was stored. -/
theorem ethCtrlStore_reg (hoff : d.ethEnabled p = false) (w : Word) :
    (d.ethCtrlStore p w).reg (ethReg p Reg.ETH0_CTRL) = w := by
  rw [ethCtrlStore_eq hoff, reg_congr leaveDown_regs, controlStored_reg]

/-- A port that a word enables leaves DOWN, with its latencies and its rings. -/
theorem ethCtrlStore_port (hoff : d.ethEnabled p = false) (hactive : d.power.state = .active) (w : Word) :
    (d.ethCtrlStore p w).eth[p].link.state =
      (if w.getLsbD 0 = true ∧ d.eth[p].link.state = .down ∧ d.sup.vddioFault = false then .training else d.eth[p].link.state) ∧
    (d.ethCtrlStore p w).eth[p].link.rxLatency = d.eth[p].link.rxLatency ∧
    (d.ethCtrlStore p w).eth[p].link.txLatency = d.eth[p].link.txLatency ∧
    (d.ethCtrlStore p w).eth[p].traffic = d.eth[p].traffic := by
  have henabled : (d.controlStored p w).ethEnabled p = w.getLsbD 0 := congrArg (·.getLsbD 0) (controlStored_reg w)
  have hport : (d.controlStored p w).eth[p] = { d.eth[p] with link := { d.eth[p].link with easeTold := false } } := by
    rw [controlStored, modLink_eth, upd_same]
    rfl
  have hsup : (d.controlStored p w).sup = d.sup := rfl
  have hpower : (d.controlStored p w).power = d.power := rfl
  rw [ethCtrlStore_eq hoff]
  generalize d.controlStored p w = e at henabled hport hsup hpower ⊢
  have hleaves : (e.eth[p].link.state = .down ∧ e.ethEnabled p = true ∧ ¬ e.sup.vddioFault = true ∧
      (e.power.state = .boot ∨ e.power.state = .active)) ↔
      (w.getLsbD 0 = true ∧ d.eth[p].link.state = .down ∧ d.sup.vddioFault = false) := by
    rw [henabled, hport, hsup, hpower, hactive]
    simp [and_left_comm]
  unfold leaveDown
  by_cases h : w.getLsbD 0 = true ∧ d.eth[p].link.state = .down ∧ d.sup.vddioFault = false
  · rw [if_pos h, if_pos (hleaves.mpr h), enterTraining_eth, upd_same, hport]
    simp
  · rw [if_neg h, if_neg (mt hleaves.mp h), hport]
    exact ⟨rfl, rfl, rfl, rfl⟩

theorem setupSized_port : (d.setupSized p req).eth[p] = { d.eth[p] with
    link := { d.eth[p].link with rxLatency := req.fld 0x18 15 0, txLatency := req.fld 0x18 31 16 }
    traffic := { d.eth[p].traffic with rxSize := clampN 16 256 (req.fld 0x10 8 0), txSize := clampN 16 256 (req.fld 0x10 24 16) } } := by
  have heth : (d.setupSized p req).eth = upd (upd d.eth p fun e => { e with traffic := { e.traffic with
      rxSize := clampN 16 256 (req.fld 0x10 8 0), txSize := clampN 16 256 (req.fld 0x10 24 16) } }) p fun e => { e with link :=
        { e.link with rxLatency := req.fld 0x18 15 0, txLatency := req.fld 0x18 31 16 } } := rfl
  rw [heth, upd_same, upd_same]

theorem setupSized_reg {a : Nat} (h : ethReg p Reg.ETH0_EASE / 4 ≠ a / 4) : (d.setupSized p req).reg a = d.reg a := by
  refine (reg_setRfld_other _ ?_ h _ _ _).trans (reg_congr rfl a)
  exact (ethReg_apart p (by decide)).1

/-! ### ETH_EASE_SET -/

/-- The thresholds of easing within their ranges (Table 7.5). -/
theorem ethClamp_ease_fields (p : Fin 3) (w : Word) : fld (ethClamp p 0x38 w) 7 0 = clampN 10 200 (fld w 7 0) ∧
    fld (ethClamp p 0x38 w) 15 8 = clampN 40 180 (fld w 15 8) ∧ fld (ethClamp p 0x38 w) 23 16 = clampN 1 255 (fld w 23 16) ∧
    fld (ethClamp p 0x38 w) 31 24 = clampN 0 250 (fld w 31 24) := by
  have hclamp : ethClamp p 0x38 w = setFld (setFld (setFld (setFld w 7 0 (clampN 10 200 (fld w 7 0))) 15 8
      (clampN 40 180 (fld w 15 8))) 23 16 (clampN 1 255 (fld w 23 16))) 31 24 (clampN 0 250 (fld w 31 24)) := rfl
  have hlow := clampN_le (show 10 ≤ 200 by decide) (fld w 7 0)
  have hhigh := clampN_le (show 40 ≤ 180 by decide) (fld w 15 8)
  have htime := clampN_le (show 1 ≤ 255 by decide) (fld w 23 16)
  have hquiet := clampN_le (show 0 ≤ 250 by decide) (fld w 31 24)
  rw [hclamp]
  simp (disch := omega) only [fld_setFld, fld_setFld_other]
  omega

/-- EASE_EN, the thresholds and the retraining bound of ETH_EASE_SET. -/
def easeStored (d : Dev) (p : Fin 3) (req : Request) : Dev :=
  (((d.setRbit (ethReg p Reg.ETH0_CTRL) 4 (req.bit 8 8)).modLink p fun l => { l with easeTold := false }).setReg
    (ethReg p Reg.ETH0_EASE) (ethClamp p 0x38 (req.word 0x0C))).setRfld (ethReg p Reg.ETH0_RETRAIN) 9 0 (clampN 10 1000 (req.fld 0x10 9 0))

theorem cmdEaseSet_eq (src : Source) (hp : req.fld 8 1 0 = p.val) :
    cmdEaseSet src req d = okayKey req (0x0420 + p.val) (d.easeStored p req) := withFin_of hp 8 _

theorem easeStored_ctrl : (d.easeStored p req).rbit (ethReg p Reg.ETH0_CTRL) 4 = req.bit 8 8 := by
  have hretrain := ethReg_apart p (a := Reg.ETH0_RETRAIN) (by decide)
  have hease := ethReg_apart p (a := Reg.ETH0_EASE) (by decide)
  rw [easeStored, rbit, reg_setRfld_other _ hretrain.1 (hretrain.2 p), reg_setReg_other _ hease.1 (hease.2 p),
    reg_congr (modLink_regs _ p _)]
  exact rbit_setRbit_same d (ethReg_ctrl_lt p) (by decide) _

theorem easeStored_ease : (d.easeStored p req).reg (ethReg p Reg.ETH0_EASE) = ethClamp p 0x38 (req.word 0x0C) := by
  have hne : ethReg p Reg.ETH0_RETRAIN / 4 ≠ ethReg p Reg.ETH0_EASE / 4 := by
    simp only [ethReg, Reg.ETH0_RETRAIN, Reg.ETH0_EASE]
    omega
  rw [easeStored, reg_setRfld_other _ (ethReg_apart p (by decide)).1 hne, reg_setReg_same _ (ethReg_apart p (by decide)).1]

theorem easeStored_retrain :
    (d.easeStored p req).rfld (ethReg p Reg.ETH0_RETRAIN) 9 0 = clampN 10 1000 (req.fld 0x10 9 0) := by
  have hbound := clampN_le (show 10 ≤ 1000 by decide) (req.fld 0x10 9 0)
  rw [easeStored, rfld_setRfld _ (ethReg_apart p (by decide)).1 _ _ _ (by decide)]
  omega

/-! ### ETH_PORT_DISABLE, ETH_PHY_SCRIPT and ETH_BAD_FRAMES -/

theorem journalAdd_eth (items : List JItem) : (d.journalAdd items).eth = d.eth := by
  unfold journalAdd journalWithhold
  dsimp only
  split <;> rfl

theorem journalAdd_ctrl (items : List JItem) :
    (d.journalAdd items).reg (ethReg p Reg.ETH0_CTRL) = d.reg (ethReg p Reg.ETH0_CTRL) := by
  have hne : Reg.PWR_IRQ_STATUS / 4 ≠ ethReg p Reg.ETH0_CTRL / 4 := by
    simp only [ethReg, Reg.PWR_IRQ_STATUS, Reg.ETH0_CTRL]
    omega
  unfold journalAdd journalWithhold
  dsimp only
  split
  · rfl
  · rw [reg_raiseBit_other _ (by decide) hne]
    rfl

/-- A disable of a port that is not DOWN is answered later. -/
def disabledLater (d : Dev) (p : Fin 3) (src : Source) (req : Request) : Dev :=
  (d.portDisable p).modLink p fun l => { l with disableReply := some (src, req.tag) }

theorem cmdPortDisable_down (src : Source) (hp : req.fld 8 1 0 = p.val) (hdown : d.eth[p].link.state = .down) :
    cmdPortDisable src req d = okay (d.portDisable p) := (withFin_of hp 8 _).trans (if_pos hdown)

theorem cmdPortDisable_later (src : Source) (hp : req.fld 8 1 0 = p.val) (hdown : d.eth[p].link.state ≠ .down) :
    cmdPortDisable src req d = .later [] (d.disabledLater p src req) := (withFin_of hp 8 _).trans (if_neg hdown)

theorem disabledLater_spec (src : Source) (hdown : d.eth[p].link.state ≠ .down) :
    (d.disabledLater p src req).eth[p].link.disabling = true ∧
    (d.disabledLater p src req).eth[p].link.disableReply = some (src, req.tag) ∧
    (d.disabledLater p src req).rbit (ethReg p Reg.ETH0_CTRL) 0 = false := by
  obtain ⟨hclear, hlink, -, -⟩ := portDisable_spec hdown
  have hreg := congrArg (·.getLsbD 0) (reg_congr (modLink_regs (d.portDisable p) p
    fun l => { l with disableReply := some (src, req.tag) }) (ethReg p Reg.ETH0_CTRL))
  rw [disabledLater, modLink_eth, upd_same]
  exact ⟨by rw [hlink], rfl, hreg.trans hclear⟩

theorem packWords_length (n : Nat) {l : List Byte} (h : l.length = 4 * n) : (packWords l).length = n := by
  induction n generalizing l with
  | zero => rw [List.length_eq_zero_iff.mp h]; rfl
  | succ n ih =>
    match l, h with
    | a :: b :: c :: e :: t, h =>
      rw [packWords, List.length_cons, ih]
      simp only [List.length_cons] at h
      omega

/-- The words of ETH_PORT_STATUS (Table 7.15). -/
def portWords (d : Dev) (p : Fin 3) : List Word :=
  [d.ethStatus p, d.eth[p].link.reg1.setWidth 32 ||| (d.eth[p].link.reg0.setWidth 32 <<< 16),
    w32 (min 0xFFFFFFFF ((d.cc - d.eth[p].link.since) / 500000)), w32 d.eth[p].traffic.counters[(32 : Fin 40)],
    w32 d.eth[p].traffic.counters[(33 : Fin 40)],
    at' 0 d.eth[p].traffic.rxRing.length ||| at' 16 (PortTraffic.txFrames d.eth[p].traffic).length]

theorem cmdPortStatus_eq (src : Source) (hp : req.fld 8 1 0 = p.val) :
    cmdPortStatus src req d = reply (d.portWords p) d := withFin_of hp 8 _

theorem cmdPhyScript_eq (src : Source) {k : Fin 3} (hp : req.fld 8 1 0 = p.val) (hk : req.fld 8 9 8 = k.val) :
    cmdPhyScript src req d = okayKey req (0x0430 + 4 * p.val + k.val) (d.modLink p fun l => { l with
      scripts := upd l.scripts k fun _ => (req.payload.drop 1).take ((req.length - 4) / 4) }) :=
  (withFin_of hp 8 _).trans (withFin_of hk 8 _)

/-- The words of ETH_BAD_FRAMES for a kept frame. -/
def badFrameWords (b : BadFrame) : List Word :=
  (at' 0 b.flags ||| at' 16 b.length) :: packWords (b.head ++ List.replicate (128 - b.head.length) 0)

theorem badFrameWords_length {b : BadFrame} (h : b.head.length ≤ 128) : (badFrameWords b).length = 33 := by
  rw [badFrameWords, List.length_cons, packWords_length 32]
  rw [List.length_append, List.length_replicate]
  omega

/-- ETH_BAD_FRAMES answers the kept frame of a number, and zeros for none. -/
theorem cmdBadFrames_eq (src : Source) (hp : req.fld 8 1 0 = p.val) : cmdBadFrames src req d =
    reply ((d.eth[p].traffic.badFrames[req.fld 8 9 8]?).elim (List.replicate 33 0) badFrameWords) d := by
  refine (withFin_of hp 8 _).trans ?_
  cases d.eth[p].traffic.badFrames[req.fld 8 9 8]? <;> rfl

/-- The commands that name a port refuse the number of none. -/
theorem portCmds_above (src : Source) (hp : 3 ≤ req.fld 8 1 0) :
    cmdPortStatus src req d = badParam 8 ∧ cmdPortSetup src req d = badParam 8 ∧ cmdPortDisable src req d = badParam 8 ∧
    cmdEaseSet src req d = badParam 8 ∧ cmdPhyScript src req d = badParam 8 ∧ cmdBadFrames src req d = badParam 8 :=
  ⟨withFin_above hp 8 _, withFin_above hp 8 _, withFin_above hp 8 _, withFin_above hp 8 _, withFin_above hp 8 _,
    withFin_above hp 8 _⟩

/-- ETH_MDIO drives one frame, and answers its data. -/
theorem cmdMdio_serve {src : Source} (h : d.TakesUp src 0x0405 req) (back : U16) :
    answer (d.serveWith src 0x0405 req fun _ => cmdMdio back) src =
      ({ d with remote := { d.remote with mdio := [⟨req.fld 8 4 0, req.fld 8 12 8, req.bit 8 16,
        if req.bit 8 16 then BitVec.ofNat 16 (req.fld 0x0C 15 0) else back⟩] } } : Dev).answered src 0x0405 req false 0
        [(if req.bit 8 16 then BitVec.ofNat 16 (req.fld 0x0C 15 0) else back).setWidth 32] [] := by
  obtain ⟨c, hc⟩ : ∃ c, cmdSpec 0x0405 = some c := ⟨_, rfl⟩
  have hserving : d.serving = true := by simp [serving, h.1]
  rw [serveWith, hserving, serveCheck_ok h hc]
  rfl

end
end Dev

/-- Settles O44: each command by its effect and its answer. -/
theorem portCommands : Obligations.PortCommands := by
  unfold Obligations.PortCommands
  refine ⟨fun src req p s h hp => ?status, fun src req s hp hpermit => ?refused,
    fun src req p s h hp hpermit hoff hspeed hrx htx => ?setup, fun src req p s h hp => ⟨fun hdown => ?down, fun hdown => ?later⟩,
    fun src req p s h hp hpermit => ?ease, fun src req back s h => ?mdio, fun src req p k s h hp hk hpermit => ?script,
    fun src req s h hlength hpermit => ?remote, fun src req p s h hp => ?bad⟩
  case status =>
    exact ⟨_, serve_okay (exec_ethPortStatus src req s) h rfl (Dev.cmdPortStatus_eq src hp) (by decide), rfl, rfl, rfl, rfl, rfl, rfl⟩
  case refused =>
    obtain ⟨hstatus, hsetup, hdisable, hease, hscript, hbad⟩ := Dev.portCmds_above (d := s.dev) src hp.ge
    exact ⟨fun h => (exec_ethPortStatus src req s).trans (next_dev (Dev.serve_refuse h rfl hstatus)),
      fun h => (exec_ethPortSetup src req s).trans (next_dev (Dev.serve_refuse h rfl hsetup)),
      fun h => (exec_ethPortDisable src req s).trans (next_dev (Dev.serve_refuse h rfl hdisable)),
      fun h => (exec_ethEaseSet src req s).trans (next_dev (Dev.serve_refuse h rfl hease)),
      fun h => (exec_ethPhyScript src req s).trans (next_dev (Dev.serve_refuse h rfl hscript)),
      fun h => (exec_ethBadFrames src req s).trans (next_dev (Dev.serve_refuse h rfl hbad))⟩
  case setup =>
    have hrun := Dev.cmdPortSetup_eq src hp hoff hspeed hrx htx
    refine ⟨_, serve_okayKey (exec_ethPortSetup src req s) h rfl hrun hpermit (by decide), ?_⟩
    have hsame := Dev.setupSized_reg (d := s.dev) (p := p) (req := req) ((Dev.ethReg_apart p (by decide)).2 p)
    have hstill : (s.dev.setupSized p req).ethEnabled p = false := by rwa [Dev.ethEnabled, Dev.rbit, hsame]
    have hstored := Dev.ethCtrlStore_reg hstill
      (Dev.ethClamp p 0 (Dev.setupWord (s.dev.reg (Dev.ethReg p Reg.ETH0_CTRL)) req))
    obtain ⟨hstate, hrxLatency, htxLatency, htraffic⟩ := Dev.ethCtrlStore_port hstill h.1
      (Dev.ethClamp p 0 (Dev.setupWord (s.dev.reg (Dev.ethReg p Reg.ETH0_CTRL)) req))
    have hbit {i : Nat} (hi : i < 8) := Dev.ethClamp_ctrl_bit p (Dev.setupWord (s.dev.reg (Dev.ethReg p Reg.ETH0_CTRL)) req) hi
    obtain ⟨cspeed, cphase, cdelay, cphy⟩ := Dev.ethClamp_ctrl_fields p (Dev.setupWord (s.dev.reg (Dev.ethReg p Reg.ETH0_CTRL)) req)
    obtain ⟨hfast, hphase, hdelay, hphy⟩ := Dev.setupWord_fields (s.dev.reg (Dev.ethReg p Reg.ETH0_CTRL)) req
    obtain ⟨h0, h1, h2, h3, h4, h5⟩ := Dev.setupWord_bits (s.dev.reg (Dev.ethReg p Reg.ETH0_CTRL)) req
    have hport := Dev.setupSized_port (d := s.dev) (p := p) (req := req)
    have hsup : (s.dev.setupSized p req).sup = s.dev.sup := rfl
    rw [hport, hbit (by decide), h0, hsup] at hstate
    rw [hport] at hrxLatency htxLatency htraffic
    refine ⟨by rw [htraffic], by rw [htraffic], hstate, hrxLatency, htxLatency, ?_⟩
    dsimp only
    unfold Dev.rbit Dev.rfld
    rw [hstored]
    exact ⟨(hbit (by decide)).trans h0, (hbit (by decide)).trans h1, (hbit (by decide)).trans h2, (hbit (by decide)).trans h3,
      (hbit (by decide)).trans h4, (hbit (by decide)).trans h5, cspeed.trans (by rw [hfast]), cphase.trans hphase,
      cdelay.trans (by rw [hdelay]), cphy.trans hphy⟩
  case down => exact serve_okay (exec_ethPortDisable src req s) h rfl (Dev.cmdPortDisable_down src hp hdown) (by decide)
  case later =>
    obtain ⟨hdisabling, hreply, hclear⟩ := Dev.disabledLater_spec (req := req) src hdown
    have hserve := Dev.serve_later h rfl (Dev.cmdPortDisable_later src hp hdown) (.inl rfl)
    refine does_of_eq (exec_ethPortDisable src req s) hserve ?_
    rw [Dev.journalAdd_eth, Dev.rbit, Dev.journalAdd_ctrl]
    exact ⟨hdisabling, hreply, hclear⟩
  case ease =>
    obtain ⟨hlow, hhigh, htime, hquiet⟩ := Dev.ethClamp_ease_fields p (req.word 0x0C)
    refine ⟨_, serve_okayKey (exec_ethEaseSet src req s) h rfl (Dev.cmdEaseSet_eq src hp) hpermit (by decide),
      Dev.easeStored_ctrl, ?_, ?_, ?_, ?_, Dev.easeStored_retrain⟩
    all_goals rw [Dev.rfld, Dev.easeStored_ease]
    exacts [hlow, hhigh, htime, hquiet]
  case mdio => exact (exec_ethMdio src req back s).trans (next_dev (Dev.cmdMdio_serve h back))
  case script =>
    refine ⟨_, serve_okayKey (exec_ethPhyScript src req s) h rfl (Dev.cmdPhyScript_eq src hp hk) hpermit (by decide), ?_⟩
    rw [Dev.modLink_eth, upd_same]
  case remote =>
    exact serve_okayKey (exec_ethRemoteSet src req s) h rfl (if_neg (Nat.not_lt.mpr hlength)) hpermit (by decide)
  case bad =>
    refine ⟨_, serve_okay (exec_ethBadFrames src req s) h rfl (Dev.cmdBadFrames_eq src hp) (by decide),
      fun b hb hhead => ?_, fun hb => ?_⟩
    · rw [hb]
      exact ⟨Dev.badFrameWords_length hhead, rfl⟩
    · rw [hb]
      rfl

end Sys2Proof.Machine
end
